-- ==== Sys2Proof/Word.lean ====
section
/-! DEFINITION. The word types of the GSL-9648 model and their plainest arithmetic (R9: little-endian; R10: the
units of powers, currents and energies). -/

namespace Sys2Proof

/-- One byte. -/
abbrev Byte := BitVec 8

/-- A 16-bit field. -/
abbrev Half := BitVec 16

/-- A 32-bit parameter word, register or binary32 pattern. -/
abbrev Word := BitVec 32

/-- The 16 RESULT bytes of a completion or event (R36), byte 0 in the lowest bits. -/
abbrev Res := BitVec 128

/-- A SHA3-256 digest, byte 0 in the lowest bits. -/
abbrev Digest := BitVec 256

/-- A sparse table from an index to a value; an index it does not list holds the reset value of its kind. -/
abbrev Tbl (α : Type) := List (Nat × α)

/-- Byte memory: strictly rising addresses, no entry equal to what an unlisted address reads as (0). -/
abbrev Mem := List (Nat × BitVec 8)

end Sys2Proof
end

