-- ==== Sys2Proof/Syntax.lean ====
section
/-! DEFINITION. The commands of the GSL-9648: one constructor of Instr per row of spec/opcode_table.json. A host
command carries the packet of R33 that its row dequeues; an event of the part's own engines, buses and pins carries
what that engine, bus or pin presents at that moment. -/

namespace Sys2Proof

/-- A Fijor command packet as it stands in its ring slot (R33, Table 2-1), without its OPCODE, which the constructor
of Instr fixes. PARAM always has its twelve words. -/
structure Packet where
  /-- FLAGS, Table 2-2: bit 0 CONT, bit 1 BUF, bit 2 FENCE. -/
  flags : Byte
  /-- PLEN, parameter length in words. -/
  plen : Byte
  /-- TAG. -/
  tag : Word
  /-- HANDLE: CLASS [31:24], rsvd [23:16], INDEX [15:0] (R35). -/
  handle : Word
  /-- PARAM, words 0 to 11. -/
  params : List Word
  /-- CHECK (R38). -/
  check : Word
deriving DecidableEq, Repr

/-- A host command: the packet at the front of command queue `queue` (0 to 3 within the seat) of seat `seat`, and what
the PCIe bus answers for the buffer it may describe (R42). -/
structure Cmd where
  seat : Nat
  queue : Nat
  pkt : Packet
  /-- Bytes the host buffer holds, as the bus reads them. -/
  buf : List Byte
  /-- True when the PCIe transfer of the buffer fails. -/
  busError : Bool
  /-- An ECC error that the SRAM shows in the command's state while its checks run (Table 2-6 SRAM_STATUS, Table 2-14):
  whether it is uncorrectable, and its address. -/
  sram : Option (Bool × Word) := none
  /-- EPOCH_STAGE: a local unit's shadow reports another digest than the intended one (R87). -/
  shadowFault : Bool := false
  /-- METER_RECORD_READ: the record's check is found wrong as the store is read (R453). -/
  mram : Bool := false
deriving DecidableEq, Repr

/-- An Ethernet frame for a seat on an SGMII port (R67): the 8-byte header and its words. -/
structure SeatFrame where
  port : Nat
  mac : BitVec 48
  version : Byte
  seat : Nat
  kind : Byte
  count : Nat
  first : Half
  queue : Nat
  words : List Word
deriving DecidableEq, Repr

/-- What a PTP message says (R81, R7). -/
inductive PtpBody where
  /-- Sync, one-step or with its Follow_Up: the offset measured, ns, and the TAI time that it gives, µs. -/
  | sync (offset : Int) (tai : Nat)
  /-- Announce: the grandmaster's dataset in the standard's order of comparison (priority 1, class, accuracy, variance,
  priority 2, identity), and the steps removed. -/
  | announce (dataset : List Nat) (steps : Nat)
  /-- A request for an option outside Table 0-5, with the standard's refusal code. -/
  | option (code : Half)
deriving DecidableEq, Repr

/-- A PTP message as the receiver stamps it (R81): on which port, of which domain, from which port identity. -/
structure PtpMsg where
  port : Nat
  domain : Nat
  sender : Nat
  body : PtpBody
deriving DecidableEq, Repr

/-- A POD_REPLY copy (Table 14-7) and the switch port it came by (false PORT_A, true PORT_B). -/
structure PodReply where
  pod : Nat
  portB : Bool
  seq : Half
  result : Nat
  closed : Half
  current : Int
  dv : Int
deriving DecidableEq, Repr

/-- A frame from the vehicle (R233, R237, R238, R242): its Ethertype, blanked and total samples of frame control and of
payload, bad physical blocks, physical blocks, running RMS, and whether it is intact. -/
structure VehFrame where
  ethertype : Half
  fcBlank : Nat
  fcTotal : Nat
  payBlank : Nat
  payTotal : Nat
  badBlocks : Nat
  blocks : Nat
  rms : Nat
deriving DecidableEq, Repr

/-- A SLAC message from the vehicle, heard on one connector (R239, R240). -/
inductive SlacMsg where
  /-- CM_SLAC_PARAM.REQ. -/
  | param (runId : BitVec 64)
  /-- The sounds of one RunID are complete; attenuation averaged over the 58 groups, in dB. -/
  | sounds (runId : BitVec 64) (atten : Nat)
  /-- CM_VALIDATE, with the pilot toggles counted on this connector. -/
  | validate (runId : BitVec 64) (toggles : Nat)
  /-- CM_SLAC_MATCH.REQ. -/
  | slacMatch (runId : BitVec 64)
  /-- Answer to the channel estimation request after matching: true when the station takes part (R236). -/
  | estimation (takesPart : Bool)
  /-- CM_AMP_MAP or another message that ISO 15118-3 does not require, with the code of its failure confirmation (R233). -/
  | other (code : Half)
deriving DecidableEq, Repr

/-- Limits of a vehicle (R257, R328); a term the vehicle has not supplied is none. Powers W, currents mA, voltages
0.1 V. -/
structure EvLimits where
  maxPower : Option Nat
  maxCurrent : Option Nat
  maxVoltage : Nat
  minVoltage : Nat
  maxDischargePower : Option Nat
  maxDischargeCurrent : Option Nat
  departure : Word
  energy : BitVec 64
deriving DecidableEq, Repr

/-- A decoded application message from the vehicle (R251 to R254, R256). -/
inductive V2gMsg where
  /-- Secure discovery; `tls` the vehicle's TLS offer: 0 none, 1 an earlier version, 2 TLS 1.3; `suites` and `groups` the cipher
  suites and groups it offers, as the bit masks of Table 16-9. -/
  | sdp (tls suites groups : Nat)
  /-- SupportedAppProtocolReq: the offered entries as (protocol 1 to 4 of Table 10-7, priority; 1 is highest). -/
  | supportedApp (offers : List (Nat × Nat))
  | sessionSetup (evccid : List Byte)
  /-- Authorization: Plug & Charge or EIM; the eMAID, whether the contract chain verifies against the anchors, and how
  many certificates need a status question. -/
  | authorization (pnc : Bool) (emaid : List Byte) (chainOk : Bool) (certs : List (List Byte))
  | serviceSelection (bpt dynamic : Bool)
  | parameters (limits : EvLimits)
  | scheduleSelected (index : Nat)
  | cableCheck
  | preCharge (voltage current : Nat)
  | powerDelivery (start : Bool)
  | chargeLoop (current : Int) (limits : EvLimits)
  | weldingDetection
  | sessionStop
  | meteringReceipt (signatureOk : Bool)
  /-- A message or option outside Table 10-2, with the protocol's response code. -/
  | refusedOption (code : Half)
  /-- A message out of the protocol's sequence. -/
  | outOfSequence (code : Half)
deriving DecidableEq, Repr

/-- Vehicle limits posted on Q43 (R328): maximum voltage and minimum voltage 0.1 V, currents mA. -/
structure VehLimits where
  vMax : Nat
  iMax : Nat
  vMin : Nat
  iDis : Nat
  bpt : Bool
deriving DecidableEq, Repr

/-- One copy of a safe message (R333, Table 13-10). -/
structure SafeMsg where
  conn : Nat
  portB : Bool
  seq : Half
  kind : Byte
  data : BitVec 64
  check : Word
deriving DecidableEq, Repr

/-- HB_NODE (Table 14-7) with the port it came by and its CHECK verdict. -/
structure NodeBeat where
  port : Nat
  seq : Half
  epoch : Half
  state : Nat
  flags : Byte
  digest : Digest
  checkOk : Bool
deriving DecidableEq, Repr

/-- REPORT (Table 14-7): W, W, W, 0.1 V, mA and eight channels, none for 0x8000. -/
structure NodeReport where
  port : Nat
  seq : Half
  demand : Nat
  offer : Nat
  firm : Nat
  voltage : Nat
  current : Int
  channels : List (Option Int)
  checkOk : Bool
deriving DecidableEq, Repr

/-- A CAN error on a port (R347, R354): the new error counters the standard gives after it, whether it is the port's
own transmission, whether it was detected after the arbitration field, and the identifier. -/
structure CanError where
  txErrors : Nat
  rxErrors : Nat
  own : Bool
  afterArbitration : Bool
  ident : Word
deriving DecidableEq, Repr

/-- A CAN frame received for hosts (R352, R368): identifier and flags as FRAME_SEND word 0, length and data. -/
structure CanFrame where
  ident : Word
  data : List Byte
  /-- A classical remote frame (R344). -/
  remote : Bool := false
deriving DecidableEq, Repr

/-- The header of a profile frame that a field node sent (Tables 14-5 and 14-7): its port, SEQ, CHECK verdict. -/
structure FieldHead where
  port : Nat
  seq : Half
  checkOk : Bool
deriving DecidableEq, Repr

/-- What the pins and dies present when PORST_N is released (R387, R396, R426, R313 and R246). -/
structure BootInputs where
  /-- BOOTSEL[1:0]. -/
  bootsel : BitVec 2
  /-- REFCLK edges in 10 µs of the RC oscillator. -/
  refclkEdges : Nat
  /-- The crystal passes the detector of Table 18-1. -/
  crystalOk : Bool
  /-- The PUF root is regenerated within three attempts. -/
  pufOk : Bool
  /-- PUF bits corrected, in 0.01 %. -/
  pufCorrected : Nat
  /-- PCIe link trained (R97). -/
  pcieLink : Bool
  /-- Connector front ends that pass their power-up self-test. -/
  frontEnds : BitVec 16
  /-- A supply fell below its reset threshold. -/
  brownout : Bool
  /-- What the check of the site image stored in MRAM finds: 0 nothing, 3 a wrong signature, 4 a wrong digest (R74, R97). -/
  siteImage : Nat := 0
  /-- Structures of Table 19-5 whose stored copy the boot finds with a wrong check, one bit per structure code: 5 the newest
  metrology save, 6 a copy of the root's helper data, 8 a copy of the retirement map (R453). -/
  mramBad : BitVec 12 := 0
deriving DecidableEq, Repr

/-- The commands of the block: rows 0 to 146 of the table are the opcodes that hosts post, the others the steps of the
part's own engines, buses and pins. Where a row's rule measures something (how long a level has held, a counter's position,
a frame's header), that is its last operand; the value it takes when it is left out has no meaning of its own. -/
inductive Instr where
  /-- NOP (R44): Command that echoes the first 16 parameter bytes. -/
  | nop (c : Cmd)
  /-- GET_INFO (R44): Command that returns identification, firmware version, epoch and seat states. -/
  | getInfo (c : Cmd)
  /-- GET_TIME (R44): Command that returns site time, its source and its lock state. -/
  | getTime (c : Cmd)
  /-- GET_HEALTH (R44): Command that returns domains on, die temperature, retirements, recovery contexts, supervisor mode and power state. -/
  | getHealth (c : Cmd)
  /-- RESET (R45): Command that starts a system, core, seat or port reset according to its scope word. -/
  | resetCmd (c : Cmd)
  /-- SEAT_OPEN (R61): Command that moves the issuing seat to OPEN and starts its heartbeat supervision. -/
  | seatOpen (c : Cmd)
  /-- SEAT_CLOSE (R61): Command that moves the issuing seat to CLOSED once its earlier commands have completed. -/
  | seatClose (c : Cmd)
  /-- SEAT_QUERY (R44): Command that returns a seat's role, state, commands in flight and absence count. -/
  | seatQuery (c : Cmd)
  /-- ABORT (R57): Command that aborts a live command by tag, or reports that it was too late or found no target. -/
  | abortCmd (c : Cmd)
  /-- EVENT_SUBSCRIBE (R37): Command that names the completion queue and opcode groups for the seat's events. -/
  | eventSubscribe (c : Cmd)
  /-- OBJECT_REASSIGN (R60): Command that moves ownership of an object to another seat or to no owner. -/
  | objectReassign (c : Cmd)
  /-- OBJECT_LIST (R44): Command that lists the handles a seat owns. -/
  | objectList (c : Cmd)
  /-- QUEUE_STATUS (R44): Command that returns the indices, credits, stall and discard counts of a queue. -/
  | queueStatus (c : Cmd)
  /-- COUNTER_READ (R44): Command that returns a diagnostic counter. -/
  | counterRead (c : Cmd)
  /-- COUNTER_CLEAR (R44): Command that clears a diagnostic counter and returns its value before clearing. -/
  | counterClear (c : Cmd)
  /-- SRAM_STATUS (R44): Command that returns the SRAM ECC error counts and the last uncorrectable address. -/
  | sramStatus (c : Cmd)
  /-- IMAGE_WRITE (R95): Command that writes image data into the MRAM staging slot. -/
  | imageWrite (c : Cmd)
  /-- EPOCH_STAGE (R87): Command that checks a staging image or the overlay and stages it in every unit. -/
  | epochStage (c : Cmd)
  /-- EPOCH_COMMIT (R90): Command that announces an epoch commit at a tick in site time. -/
  | epochCommit (c : Cmd)
  /-- EPOCH_DISCARD (R89): Command that drops the staged configuration. -/
  | epochDiscard (c : Cmd)
  /-- EPOCH_STATUS (R95): Command that returns the running epoch, stage state and announced tick. -/
  | epochStatus (c : Cmd)
  /-- DIGEST_READ (R95): Command that returns half of an actual or intended, group or own digest. -/
  | digestRead (c : Cmd)
  /-- CONFIG_EXPORT (R95): Command that writes the running configuration into a host buffer. -/
  | configExport (c : Cmd)
  /-- TIME_SET (R82): Command that sets the TAI seconds to take effect at the next PPS_IN edge. -/
  | timeSet (c : Cmd)
  /-- NODE_READ (R118): Command that returns bytes of a tree node record body. -/
  | nodeRead (c : Cmd)
  /-- NODE_STATE (R118): Command that returns a tree node's standing, demand, grant and estimate. -/
  | nodeState (c : Cmd)
  /-- NODE_ADD (R118): Command that writes a new tree node into the overlay. -/
  | nodeAdd (c : Cmd)
  /-- NODE_REMOVE (R119): Command that writes the removal of a tree node into the overlay. -/
  | nodeRemove (c : Cmd)
  /-- NODE_SET (R118): Command that writes fields of a tree node body into the overlay. -/
  | nodeSet (c : Cmd)
  /-- NODE_MOVE (R119): Command that writes a new parent of a tree node into the overlay. -/
  | nodeMove (c : Cmd)
  /-- TREE_CHECK (R118): Command that runs the whole-tree checks and reports the first fault. -/
  | treeCheck (c : Cmd)
  /-- TREE_LIST (R118): Command that lists the children of a tree node. -/
  | treeList (c : Cmd)
  /-- NODE_CURTAIL (R116): Command that sets, replaces or clears a curtailment on a node in one direction. -/
  | nodeCurtail (c : Cmd)
  /-- ALLOC_STATUS (R145): Command that returns period number, solve times, overruns, drains and solve flags. -/
  | allocStatus (c : Cmd)
  /-- SNAPSHOT_SAVE (R140): Command that writes a snapshot of thermal models and demand windows at the next period boundary. -/
  | snapshotSave (c : Cmd)
  /-- SNAPSHOT_RESTORE (R139): Command that checks a snapshot and applies it to the estimators at the next period boundary. -/
  | snapshotRestore (c : Cmd)
  /-- SENSOR_STATE (R145): Command that returns the standing and values of a node's sensor. -/
  | sensorState (c : Cmd)
  /-- WINDOW_READ (R145): Command that returns a node's window energy, window cap and contracted average. -/
  | windowRead (c : Cmd)
  /-- OUTPUT_STATUS (R196): Command that returns an output's state, pods, retries, measurements and grant. -/
  | outputStatus (c : Cmd)
  /-- OUTPUT_START (R183): Command that starts a host-controlled output with a target voltage and current limit. -/
  | outputStart (c : Cmd)
  /-- OUTPUT_SET (R185): Command that changes the setpoints of a host-controlled output in REGULATE. -/
  | outputSet (c : Cmd)
  /-- OUTPUT_STOP (R187): Command that starts the stop ramp of a host-controlled output. -/
  | outputStop (c : Cmd)
  /-- POD_ASSIGN (R188): Command that starts the reassignment of a pod to a target output or to none. -/
  | podAssign (c : Cmd)
  /-- MATRIX_STATUS (R196): Command that returns a pod's assignment, step, closed pole pairs, last voltage and current. -/
  | matrixStatus (c : Cmd)
  /-- OUTPUT_COUNTERS (R196): Command that returns an output's shorts, retries, contactor operations and pod arrivals. -/
  | outputCounters (c : Cmd)
  /-- POD_STATUS (R175): Command that returns a pod's state, phases, timing values, reference and flags. -/
  | podStatus (c : Cmd)
  /-- PHASE_STATUS (R175): Command that returns a phase's state, shed level, DAC code and turn-off counts. -/
  | phaseStatus (c : Cmd)
  /-- POD_ENABLE (R167): Command that moves a pod from OFF to RUN. -/
  | podEnable (c : Cmd)
  /-- POD_DISABLE (R167): Command that moves a pod to OFF at once or after a 32-period ramp. -/
  | podDisable (c : Cmd)
  /-- POD_SHADOW (R158): Command that writes PERIOD, MAXON or REF with a tag into a pod's shadow registers. -/
  | podShadow (c : Cmd)
  /-- TRIP_CLEAR (R164): Command that clears a pod's latched trip once every source has gone. -/
  | tripClear (c : Cmd)
  /-- PWM_HALT_ENABLE (R173): Command that enables or disables debug halt of a pod's PWM. -/
  | pwmHaltEnable (c : Cmd)
  /-- POD_COUNTERS (R175): Command that returns a pod's pair splits, trips, sync corrections and reference clamps. -/
  | podCounters (c : Cmd)
  /-- LOOP_STATUS (R223): Command that returns a loop slot's mode, flags, setpoint, measurement and output. -/
  | loopStatus (c : Cmd)
  /-- LOOP_MODE (R207): Command that sets a slot to OFF, MANUAL or AUTO at its next sample boundary. -/
  | loopMode (c : Cmd)
  /-- LOOP_SETPOINT (R223): Command that sets a slot's setpoint at its next sample boundary. -/
  | loopSetpoint (c : Cmd)
  /-- LOOP_COEF_WRITE (R210): Command that changes one field of a slot's working coefficient set at a sample boundary. -/
  | loopCoefWrite (c : Cmd)
  /-- LOOP_COEF_READ (R223): Command that returns bytes of a slot's working or configured entry. -/
  | loopCoefRead (c : Cmd)
  /-- LOOP_REVERT (R211): Command that replaces a slot's working set with its configured set at one boundary. -/
  | loopRevert (c : Cmd)
  /-- LOOP_CONFIG_SET (R211): Command that writes slot entry fields into the overlay. -/
  | loopConfigSet (c : Cmd)
  /-- LOOP_COUNTERS (R223): Command that returns a slot's sample, skip, saturation and following-error counts. -/
  | loopCounters (c : Cmd)
  /-- GEYSER_INJECT (R218): Command that starts an injection signal at a slot's setpoint or output. -/
  | geyserInject (c : Cmd)
  /-- GEYSER_ARM (R221): Command that arms the capture unit with signals, clock, trigger and pre-trigger. -/
  | geyserArm (c : Cmd)
  /-- GEYSER_STATUS (R223): Command that returns injection and capture state. -/
  | geyserStatus (c : Cmd)
  /-- GEYSER_READ (R223): Command that returns captured samples of one signal. -/
  | geyserRead (c : Cmd)
  /-- GEYSER_STOP (R220): Command that stops the injection, the capture or both. -/
  | geyserStop (c : Cmd)
  /-- CONN_STATUS (R249): Command that returns a connector's link state, pilot state, levels, proximity and modulation. -/
  | connStatus (c : Cmd)
  /-- CONN_PILOT (R249): Command that sets the pilot form or maintenance duty of a connector. -/
  | connPilot (c : Cmd)
  /-- LINK_COUNTERS (R249): Command that returns a connector link's frame and refresh counts. -/
  | linkCounters (c : Cmd)
  /-- TONEMAP_REFRESH (R249): Command that starts a tone-map channel estimation on a linked CCS connector. -/
  | tonemapRefresh (c : Cmd)
  /-- SLAC_READ (R249): Command that returns the outcome and data of the last SLAC match. -/
  | slacRead (c : Cmd)
  /-- NOISE_READ (R249): Command that returns a connector receiver's RMS, threshold and blanking figures. -/
  | noiseRead (c : Cmd)
  /-- SESSION_STATUS (R270): Command that returns a connector's session state, protocol, demand and flags. -/
  | sessionStatus (c : Cmd)
  /-- SESSION_ANSWER (R264): Command by which the authority seat answers an authorisation or certificate question. -/
  | sessionAnswer (c : Cmd)
  /-- SESSION_TARIFF (R262): Command by which the authority seat answers a tariff question with schedules. -/
  | sessionTariff (c : Cmd)
  /-- QUESTION_READ (R260): Command that returns bytes of a pending question body. -/
  | questionRead (c : Cmd)
  /-- SESSION_STOP (R266): Command that stops a running session from the host. -/
  | sessionStop (c : Cmd)
  /-- SESSION_LIMIT (R257): Command that sets or clears a host power cap on a session. -/
  | sessionLimit (c : Cmd)
  /-- SESSION_COUNTERS (R270): Command that returns a connector's session counts. -/
  | sessionCounters (c : Cmd)
  /-- METRO_STATUS (R298): Command that returns a metering point's state and latest measurements. -/
  | metroStatus (c : Cmd)
  /-- METRO_READ (R282): Command that reads a register of a point at the next sample boundary. -/
  | metroRead (c : Cmd)
  /-- METRO_READ_RESET (R282): Command that reads and resets the billing registers of a point at a sample boundary. -/
  | metroReadReset (c : Cmd)
  /-- METRO_CAPTURE_READ (R282): Command that returns the captured set of the last read-and-reset. -/
  | metroCaptureRead (c : Cmd)
  /-- METER_RECORD_LIST (R298): Command that returns the range and count of stored meter records. -/
  | meterRecordList (c : Cmd)
  /-- METER_RECORD_READ (R298): Command that returns the bytes of a stored meter record. -/
  | meterRecordRead (c : Cmd)
  /-- METER_RECORD_ACK (R284): Command that acknowledges a meter record and frees its slot. -/
  | meterRecordAck (c : Cmd)
  /-- METRO_CONFIG_SET (R298): Command that writes metrology block fields into the overlay. -/
  | metroConfigSet (c : Cmd)
  /-- METRO_SEAL (R293): Command that writes the legally relevant set and digest to OTP once. -/
  | metroSeal (c : Cmd)
  /-- METRO_SAVE_STATUS (R298): Command that returns the newest metrology save and skipped saves. -/
  | metroSaveStatus (c : Cmd)
  /-- METRO_GAP_READ (R298): Command that returns a recorded metering gap and its bound. -/
  | metroGapRead (c : Cmd)
  /-- METRO_STROBE_READ (R298): Command that returns the sample latched by the latest metering strobe. -/
  | metroStrobeRead (c : Cmd)
  /-- SAFETY_STATUS (R342): Command that returns the supervisor mode, spare, safe states and lost connections. -/
  | safetyStatus (c : Cmd)
  /-- FUNCTION_STATUS (R342): Command that returns a safety function's demand state and counts. -/
  | functionStatus (c : Cmd)
  /-- IO_STATUS (R342): Command that returns safety output or input states. -/
  | ioStatus (c : Cmd)
  /-- SAFE_ACK (R321): Command that releases the restart latch of a safety function or faulted output. -/
  | safeAck (c : Cmd)
  /-- SAFE_STATE_REQUEST (R339): Command that demands a normal or emergency safe state of outputs and axes. -/
  | safeStateRequest (c : Cmd)
  /-- SAFE_RELEASE (R339): Command that ends a host's safe-state demand. -/
  | safeRelease (c : Cmd)
  /-- MAINT_ENTER (R340): Command that puts the safety island in maintenance state. -/
  | maintEnter (c : Cmd)
  /-- MAINT_EXIT (R340): Command that ends maintenance state. -/
  | maintExit (c : Cmd)
  /-- PROOF_TEST (R314): Command that exchanges the spare for a named active channel through a full promotion. -/
  | proofTest (c : Cmd)
  /-- AXIS_STATUS (R342): Command that returns an axis's reference, torque-off state, position and speed. -/
  | axisStatus (c : Cmd)
  /-- SAFE_CONN_STATUS (R342): Command that returns a safe connection's state and counts. -/
  | safeConnStatus (c : Cmd)
  /-- LS_STATUS (R385): Command that returns a load switch channel's state, duty, current and supply. -/
  | lsStatus (c : Cmd)
  /-- LS_SET (R373): Command that sets a host-sourced load switch channel on, off or to a duty. -/
  | lsSet (c : Cmd)
  /-- LS_CLEAR (R380): Command that clears a latched load switch channel. -/
  | lsClear (c : Cmd)
  /-- LS_CURRENTS (R385): Command that returns the current reports of twelve channels. -/
  | lsCurrents (c : Cmd)
  /-- LS_COUNTERS (R385): Command that returns a channel's switch-on, latch, thermal, retry and droop counts. -/
  | lsCounters (c : Cmd)
  /-- LS_CONFIG_SET (R385): Command that writes load switch block fields into the overlay. -/
  | lsConfigSet (c : Cmd)
  /-- PORT_STATUS (R367): Command that returns a field-bus port's state, error counters and traffic. -/
  | portStatus (c : Cmd)
  /-- PORT_COUNTERS (R367): Command that returns a port's error, check, retransmission and shadow counts. -/
  | portCounters (c : Cmd)
  /-- NODE_STATUS (R367): Command that returns a field node's standing, ports heard, epoch and digest. -/
  | nodeStatus (c : Cmd)
  /-- FRAME_SEND (R367): Command that places a host CAN frame in a port's transmit buffer. -/
  | frameSend (c : Cmd)
  /-- RX_OBJECT_SET (R367): Command that configures a host receive object of a port. -/
  | rxObjectSet (c : Cmd)
  /-- RX_OBJECT_READ (R368): Command that reads a host receive object, holding its main buffer at offset 0. -/
  | rxObjectRead (c : Cmd)
  /-- DUPLICATE_READ (R367): Command that returns the last duplicate identifier detected on a port. -/
  | duplicateRead (c : Cmd)
  /-- KEY_STATUS (R407): Command that returns a key slot's state, type, policy and generations. -/
  | keyStatus (c : Cmd)
  /-- KEY_GENERATE (R407): Command that generates a key in an empty slot. -/
  | keyGenerate (c : Cmd)
  /-- KEY_IMPORT (R407): Command that imports an encrypted key value into an empty slot. -/
  | keyImport (c : Cmd)
  /-- KEY_UPDATE (R392): Command that draws a new value for a key and makes its descendants stale. -/
  | keyUpdate (c : Cmd)
  /-- KEY_INVALIDATE (R392): Command that raises a key's generation and makes its descendants stale. -/
  | keyInvalidate (c : Cmd)
  /-- KEY_DESTROY (R392): Command that marks a key for freeing and makes its descendants stale. -/
  | keyDestroy (c : Cmd)
  /-- KEY_PUBLIC_READ (R407): Command that returns the public key of a slot. -/
  | keyPublicRead (c : Cmd)
  /-- KEY_SIGN (R391): Command that signs a digest with a slot's key into a host buffer. -/
  | keySign (c : Cmd)
  /-- KEY_KMAC (R391): Command that computes KMAC256 over host data with a slot's secret. -/
  | keyKmac (c : Cmd)
  /-- ATTEST_CHALLENGE (R403): Command that answers a nonce with a KMAC over the device identity and state. -/
  | attestChallenge (c : Cmd)
  /-- ATTEST_REPORT (R404): Command that writes a signed attestation report. -/
  | attestReport (c : Cmd)
  /-- CERT_WRITE (R401): Command that writes or erases a certificate-store entry. -/
  | certWrite (c : Cmd)
  /-- CERT_READ (R407): Command that returns bytes of a certificate-store entry. -/
  | certRead (c : Cmd)
  /-- OWNER_KEY_SET (R400): Command that writes the site owner key hash. -/
  | ownerKeySet (c : Cmd)
  /-- FW_WRITE (R407): Command that writes firmware image data into a flash slot and verifies the last chunk. -/
  | fwWrite (c : Cmd)
  /-- FW_ACTIVATE (R399): Command that makes a valid image slot preferred and puts it on trial. -/
  | fwActivate (c : Cmd)
  /-- FW_CONFIRM (R399): Command that confirms the running trial image and blows rollback fuses. -/
  | fwConfirm (c : Cmd)
  /-- FW_STATUS (R407): Command that returns the firmware slots, versions and counter. -/
  | fwStatus (c : Cmd)
  /-- RANDOM (R405): Command that returns random bytes. -/
  | randomCmd (c : Cmd)
  /-- JOURNAL_STATUS (R460): Command that returns journal head, oldest, buffer, anchor and acknowledged mark. -/
  | journalStatus (c : Cmd)
  /-- JOURNAL_READ (R460): Command that returns journal entries or blocks. -/
  | journalRead (c : Cmd)
  /-- JOURNAL_ACK (R458): Command that sets the acknowledged journal sequence. -/
  | journalAck (c : Cmd)
  /-- RETIRE_LIST (R460): Command that lists retired units. -/
  | retireList (c : Cmd)
  /-- RETIRE_CLEAR (R448): Command that returns a retired unit to service. -/
  | retireClear (c : Cmd)
  /-- RECOVERY_STATUS (R460): Command that returns the state of a recovery context. -/
  | recoveryStatus (c : Cmd)
  /-- CHECK_COUNTERS (R460): Command that returns check-value mismatch counts of a structure code. -/
  | checkCounters (c : Cmd)
  /-- POWER_STATUS (R424): Command that returns the power state, last wake cause and domains on. -/
  | powerStatus (c : Cmd)
  /-- POWER_STATE_SET (R416): Command that checks entry conditions and enters STANDBY or DORMANT, or wakes from STANDBY. -/
  | powerStateSet (c : Cmd)
  /-- RULE_STATUS (R424): Command that returns a Fumarole rule's state and values. -/
  | ruleStatus (c : Cmd)
  /-- RULE_CONFIG_SET (R424): Command that writes Fumarole block fields into the overlay. -/
  | ruleConfigSet (c : Cmd)
  /-- HEATER_FORCE (R424): Command that forces the heater line on or off for a duration. -/
  | heaterForce (c : Cmd)
  /-- WAKE_LOG_READ (R424): Command that returns an entry of the wake log. -/
  | wakeLogRead (c : Cmd)
  /-- SEAT_RESET (R64): Write of SW_CTRL.SEAT_RESET that resets the seat's rings, sequences and subscriptions. -/
  | seatReset (seat : Nat)
  /-- HEARTBEAT_WRITE (R62): Write of a changed value to SW_HEARTBEAT that renews the seat's heartbeat. -/
  | heartbeatWrite (seat : Nat) (value : Word)
  /-- DOORBELL (R47): Write of SW_QDB that advances a queue's TAIL or HEAD, or is ignored as an overrun. -/
  | doorbell (seat queue : Nat) (index : Half)
  /-- INT_STATUS_CLEAR (R69): Write-one-to-clear of SW_INT_STATUS bits. -/
  | intStatusClear (seat : Nat) (value : Word)
  /-- RESET_CAUSE_READ (R70): Read of BT_RESET_CAUSE that returns and clears the cause bits. -/
  | resetCauseRead (seat : Nat)
  /-- REGISTER_WRITE (R69): Write to a register without behaviour of its own, such as SW_INT_MASK or a ring slot. -/
  | registerWrite (seat offset : Nat) (value : Word)
  /-- SGMII_SEAT_FRAME (R67): Ethernet frame for a seat, dropped and counted when its source MAC is unbound. -/
  | sgmiiSeatFrame (frame : SeatFrame)
  /-- COMPLETION_RESEND (R67): Every 1 ms the unread completions of an SGMII seat are resent from HEAD. -/
  | completionResend (seat : Nat)
  /-- CONT_TIMEOUT (R41): Continuation timeout expires and the partial command completes with CONT_TIMEOUT. -/
  | contTimeout (seat queue : Nat)
  /-- EXEC_TIMEOUT (R55): Execution timeout of a command expires before or after its commit point. -/
  | execTimeout (seat : Nat) (tag : Word)
  /-- SEAT_ABSENT (R63): Heartbeat timeout of an OPEN seat expires and the seat is declared absent. -/
  | seatAbsent (seat : Nat)
  /-- CQ_STALL (R49): The oldest completion stays unread for the completion-queue stall timeout. -/
  | cqStall (seat queue : Nat)
  /-- EVENTS_LOST (R48): An unreserved completion slot frees after dropped events and EVENTS_LOST is posted. -/
  | eventsLost (seat : Nat)
  /-- QUEUE_STALL (R24): An internal queue's oldest entry stays unconsumed for its stall timeout. -/
  | queueStall (q : Nat)
  /-- PTP_MESSAGE (R81): Received PTP message is time-stamped and disciplines site time toward lock. -/
  | ptpMessage (m : PtpMsg)
  /-- HOLDOVER_EXPIRE (R81): Holdover timeout expires after loss of the time source and site time becomes invalid. -/
  | holdoverExpire
  /-- PPS_IN_EDGE (R82): Rising PPS_IN edge validates or disciplines site time. -/
  | ppsInEdge
  /-- DIGEST_READBACK (R86): Every 100 ms each internal block recomputes its reported digest. -/
  | digestReadback
  /-- STAGE_TIMEOUT (R88): Stage timeout expires and silent field nodes are counted. -/
  | stageTimeout
  /-- EPOCH_TICK (R91): The announced tick arrives and every unit takes its staged configuration. -/
  | epochTick
  /-- EPOCH_MARK_WRITE (R92): Committed mark is written to MRAM once writes are permitted and EPOCH_COMMIT completes. -/
  | epochMarkWrite
  /-- PERIOD_BOUNDARY (R122): Caldera period boundary: held blocks take force, snapshot is taken and a solve starts. -/
  | periodBoundary
  /-- GRANT_BLOCK_PUBLISH (R16): Solve completes and its grant block is posted to Q33 and Q34 together once both have credit. -/
  | grantBlockPublish (solve : Nat)
  /-- ALLOC_OVERRUN (R136): A solve misses its boundary and an overrun block is posted. -/
  | allocOverrun
  /-- CURTAIL_EXPIRE (R116): A curtailment's duration expires. -/
  | curtailExpire (node dir : Nat)
  /-- SENSOR_RETIRED (R142): SENS_FAULT expires and the sensor is retired with the node capped. -/
  | sensorRetired (node sensor : Nat)
  /-- GRANT_EXCEEDED (R143): Output samples stay outside the grant allowance for GCHK_TIME. -/
  | grantExceeded (output : Nat)
  /-- RELOAD_POINT (R158): Pod reload point applies paired shadow PERIOD and MAXON and the pending REF. -/
  | reloadPoint (pod clocks counter : Nat)
  /-- Q39_REFERENCE_ENTRY (R157): A reference entry from Q39 is written to the pod's shadow. -/
  | q39ReferenceEntry
  /-- PHASE_TURN_ON (R151): At its turn-on position a phase turns the complementary switch off and the controlled switch on. -/
  | phaseTurnOn (phase : Nat) (position : Nat := 0)
  /-- COMPARATOR_TURN_OFF (R152): Comparator finds the current at the threshold and the controlled switch turns off. -/
  | comparatorTurnOff (phase : Nat) (sensed : Int := 0) (onTime : Nat := 0)
  /-- MAXON_END (R152): On-time reaches MAXON and the controlled switch turns off. -/
  | maxonEnd (phase : Nat)
  /-- BLANKING_END (R154): Blanking interval ends; a comparator already high ends the cycle as blanking-limited. -/
  | blankingEnd (phase : Nat) (sensed : Int)
  /-- POD_TRIP (R163): POD_TRIP_N or GTRIP_N low through its filter trips the pod. -/
  | podTrip (pod source index : Nat) (low : Bool) (clocks : Nat := 0)
  /-- SYNC_IN_EDGE (R160): Rising SYNC_IN edge corrects the pod counter phase. -/
  | syncInEdge (pod counter spacing : Nat)
  /-- SYNC_LOST (R160): SYNC_LOSS consecutive edges are missing and the pod free-runs. -/
  | syncLost (pod : Nat)
  /-- COMPARE_TRIGGER (R162): Pod counter passes a compare position and fires its target. -/
  | compareTrigger (pod entry code : Nat) (counter : Nat := 0)
  /-- PHASE_SHED (R170): REF stays below SHED_LO for SHED_DWELL periods and a phase is shed. -/
  | phaseShed (pod : Nat)
  /-- PHASE_RESTORE (R170): REF above SHED_HI for one period restores a shed phase. -/
  | phaseRestore (pod : Nat)
  /-- SIGN_HOLD_END (R169): Two-period gate hold after a reference sign change ends. -/
  | signHoldEnd (pod : Nat)
  /-- POD_DISABLE_RAMP_END (R167): The 32-period disable ramp ends and the pod enters OFF. -/
  | podDisableRampEnd (pod : Nat)
  /-- DEBUG_HALT (R172): Debug port halts or releases the counters of halt-enabled pods. -/
  | debugHalt (halt : Bool)
  /-- CONTACTOR_CLOSE_REQUEST (R326): Output sequencer requests a contactor close, admitted or refused by the interlocks. -/
  | contactorCloseRequest (output : Nat)
  /-- CONTACTOR_TIMEOUT (R183): CONT_T passes without both auxiliary contacts reaching the commanded state. -/
  | contactorTimeout (output : Nat)
  /-- SOFT_START_DONE (R183): Output voltage within 1 % of target for 1 ms moves the output to REGULATE. -/
  | softStartDone (output : Nat)
  /-- OUTPUT_SHORT (R186): Soft-start short is judged after SS_TIME plus FE_TIME. -/
  | outputShort (output : Nat)
  /-- STOP_RAMP_END (R187): Stop ramp of i_lim reaches 0 and the assigned pods are disabled. -/
  | stopRampEnd (output : Nat)
  /-- OUTPUT_RETRY (R193): Retry backoff of a faulted output expires and the output goes to CLOSING. -/
  | outputRetry (output : Nat)
  /-- POD_POLL (R179): Every 1 ms during reassignment a poll is sent to the pod switch node on both ports. -/
  | podPoll (pod : Nat)
  /-- POD_REPLY (R179): POD_REPLY copies are compared and may end a reassignment step. -/
  | podReply (r : PodReply)
  /-- REASSIGN_RAMP_OUT_DONE (R188): Leaving pod's share reaches 0 over RAMP_OUT and the pod is disabled. -/
  | reassignRampOutDone (pod : Nat)
  /-- SW_ANSWER_TIMEOUT (R188): Switch-node answer timeout expires during a reassignment step. -/
  | swAnswerTimeout (pod : Nat)
  /-- MATCH_TIMEOUT (R188): Match timeout expires and the pod is left unassigned. -/
  | matchTimeout (pod : Nat)
  /-- REASSIGN_RAMP_IN_DONE (R188): Arriving pod's share completes RAMP_IN and the reassignment completes. -/
  | reassignRampInDone (pod : Nat)
  /-- SLOT_SAMPLE (R203): A loop slot's trigger runs pending changes and one sample of its law. -/
  | slotSample (slot : Nat) (codes : List (Nat × Int)) (lost : Bool) (cycles : Nat)
  /-- LOOP_FOLLOWING (R213): Following error exceeds FE_LIM for FE_TIME. -/
  | loopFollowing (slot : Nat)
  /-- LOOP_MEAS_LOST (R214): A slot's measurement is lost and the slot enters FALLBACK. -/
  | loopMeasLost (slot : Nat)
  /-- GEYSER_DONE (R220): Injection duration elapses and Geyser reports the end. -/
  | geyserDone
  /-- PILOT_CHANGE (R229): One raw pilot state held for CP_FILT changes the filtered state. -/
  | pilotChange (conn : Nat) (high low : Int) (held : Nat := 0)
  /-- PROXIMITY_WITHOUT_PILOT (R232): Plugged or released proximity with pilot A held for 1 s raises PILOT_FAULT cause 3. -/
  | proximityWithoutPilot (conn ohm : Nat) (held : Nat := 0)
  /-- VEHICLE_FRAME (R238): Green PHY or 10BASE-T1S frame from the vehicle is decoded with blanking and posted. -/
  | vehicleFrame (conn : Nat) (f : VehFrame)
  /-- SLAC_MESSAGE (R239): SLAC matching message from the vehicle is handled by the baseband and link arbiter. -/
  | slacMessage (conn : Nat) (m : SlacMsg)
  /-- SLAC_FAILED (R241): Matching does not complete within the standard's timeouts. -/
  | slacFailed (conn : Nat)
  /-- RESTART_F_STEP_END (R243): The 4 s F step ends and the connector returns to MATCHING. -/
  | restartFStepEnd (conn : Nat)
  /-- TONE_MAP_REFRESH_DUE (R236): TM_REFRESH interval expires and a tone-map refresh starts. -/
  | toneMapRefreshDue (conn : Nat)
  /-- LINK_IDLE_TIMEOUT (R243): No frame from the peer for the link idle timeout; link to RECOVERING. -/
  | linkIdleTimeout (conn : Nat)
  /-- RELINK_TIMEOUT (R244): Relink timeout expires in RECOVERING; link to RESTARTING. -/
  | relinkTimeout (conn : Nat)
  /-- LINK_DRIVER_FAULT (R246): Line driver or PHY fault ends the link as a transient fault. -/
  | linkDriverFault (conn cause : Nat)
  /-- LINK_FAULT_BACKOFF_END (R246): Link fault backoff expires and the link leaves FAULT. -/
  | linkFaultBackoffEnd (conn : Nat)
  /-- V2G_MESSAGE (R256): Decoded application message from the vehicle is answered and drives the session state. -/
  | v2gMessage (conn : Nat) (m : V2gMsg)
  /-- REQ_PERIOD_EXPIRE (R257): REQ_PERIOD passes and the session service posts a power request. -/
  | reqPeriodExpire (conn : Nat)
  /-- QUESTION_TIMEOUT (R261): A pending question's timeout or ongoing limit expires and it ends as deny. -/
  | questionTimeout (conn : Nat)
  /-- VEHICLE_STOP_TIMEOUT (R266): No PowerDelivery stop within 5 s and the controller stops the output itself. -/
  | vehicleStopTimeout (conn : Nat)
  /-- SAMPLE_BOUNDARY (R282): Metrology sample boundary counts energy and serves pending reads, resets and record latches. -/
  | sampleBoundary (codes : List Int) (quiet : BitVec 48)
  /-- RECORD_SIGNED (R285): Signatures return on Q61 and the meter record is stored and closed. -/
  | recordSigned (recno : Nat)
  /-- PERIODIC_SAVE (R289): Every PSAVE a metrology snapshot is taken and saved. -/
  | periodicSave
  /-- TOTALISER_ANCHOR_WRITE (R288): Hourly write of every totaliser to the anchor record. -/
  | totaliserAnchorWrite
  /-- POWER_FAIL_WARNING (R290): PFW_N or the comparator warns and a power-fail save is written. -/
  | powerFailWarning (external : Bool) (held : Nat := 0)
  /-- POWER_FAIL_REPEAT_SAVE (R290): While the warning persists, the power-fail save repeats every 2 ms. -/
  | powerFailRepeatSave
  /-- POWER_FAIL_WITHDRAWN (R290): Warning clear for 10 ms; withdrawal journalled and periodic saves resume. -/
  | powerFailWithdrawn (clear : Nat := 0)
  /-- SAFETY_FRAME_BOUNDARY (R301): Safety frame boundary: channel signatures are compared and every tenth a checkpoint streams. -/
  | safetyFrameBoundary (signatures : List Word)
  /-- CHECKPOINT_VALID (R307): Last word of a checkpoint is written and it becomes valid. -/
  | checkpointValid
  /-- VOTE_MISMATCH (R304): A channel's vector or signature differs from the majority and it is voted out. -/
  | voteMismatch (channels : BitVec 4) (kind bit cycle : Nat) (halvesDiffer : Bool)
  /-- VOTER_SAFE_SOUT_DROP (R306): Twenty milliseconds after VOTER_SAFE the sequencer de-energises every SOUT. -/
  | voterSafeSoutDrop
  /-- SPARE_POWERED (R309): Spare channel power-up completes and its self-test starts. -/
  | sparePowered
  /-- SPARE_SELF_TEST_DONE (R309): Spare self-test completes; pass loads the checkpoint, failure ends the promotion. -/
  | spareSelfTestDone (pass : Bool)
  /-- SPARE_CHECKPOINT_LOADED (R309): Checkpoint load into the spare completes and replay starts. -/
  | spareCheckpointLoaded (eccOk : Bool)
  /-- SPARE_CAUGHT_UP (R309): Spare has replayed the log to the present and runs live to the next boundary. -/
  | spareCaughtUp
  /-- SPARE_PROMOTED (R311): At the join boundary the spare's signature matches and it takes the voted-out slot. -/
  | sparePromoted (signatureOk : Bool)
  /-- SPARE_FAILED (R310): Promotion fails by stage or by the 11.9 ms limit and the island continues in DUAL. -/
  | spareFailed
  /-- PARKED_SELF_TEST_DONE (R312): Parked channel's self-test completes and it becomes spare or is retired. -/
  | parkedSelfTestDone (channel : Nat) (pass : Bool)
  /-- SAFETY_STARTUP_TEST_DONE (R313): Start-up self-tests of the channels complete and the island starts in TMR, DUAL or VOTER_SAFE. -/
  | safetyStartupTestDone (pass : BitVec 4)
  /-- SAFETY_INPUT_CHANGE (R324): A debounced two-channel input changes and functions go into or out of demand. -/
  | safetyInputChange (input : Nat) (a b : Bool) (held : Nat := 0)
  /-- INPUT_DISCREPANCY (R324): Channels differ longer than DISC and the input is latched in demand. -/
  | inputDiscrepancy (input : Nat)
  /-- TEST_PULSE (R323): An energised test-pulsed output takes its off-pulse and its readback is checked. -/
  | testPulse (sout : Nat) (stillHigh : Bool) (fell : Word)
  /-- VEHICLE_LIMIT_REGISTER (R328): Vehicle limits from Q43 are registered with the safety island. -/
  | vehicleLimitRegister (output : Nat) (limits : VehLimits)
  /-- VEHICLE_LIMIT (R328): A vehicle limit condition holds for VL_TIME and the output goes to emergency safe state. -/
  | vehicleLimit (output : Nat)
  /-- INSULATION_PASSED (R329): Insulation-good conditions hold for IMD_TIME and pass is reported. -/
  | insulationPassed (output : Nat)
  /-- ENCODER_EDGE (R332): Encoder transition updates axis position and speed. -/
  | encoderEdge (axis : Nat) (delta : Int) (frequency : Nat) (double : Bool)
  /-- SAFE_MESSAGE_TRANSMIT (R334): Every PERIOD or on a change of DATA both copies of a safe message are sent. -/
  | safeMessageTransmit (conn : Nat)
  /-- SAFE_MESSAGE_RECEIVE (R335): A safe message copy arrives and the pair is accepted or rejected. -/
  | safeMessageReceive (m : SafeMsg)
  /-- SAFE_MSG_SKEW_EXPIRE (R335): SKEW passes without the partner copy and the message is rejected. -/
  | safeMsgSkewExpire (conn : Nat)
  /-- SAFE_MSG_LOST (R336): WDT passes without an accepted message and the connection is lost. -/
  | safeMsgLost (conn : Nat)
  /-- NORMAL_SAFE_STATE_ESCALATE (R337): Current not below 2 A 60 ms after entry escalates to the emergency safe state. -/
  | normalSafeStateEscalate (output : Nat)
  /-- EMERGENCY_CONTACTOR_OPEN (R338): Twenty milliseconds after an emergency demand the contactors are de-energised. -/
  | emergencyContactorOpen (output : Nat)
  /-- T_HOLD_EXPIRE (R440): t_hold after a core reset expires and the output takes the normal safe state. -/
  | tHoldExpire (output : Nat)
  /-- HB_CTRL_SEND (R360): Every 100 ms the profile engine sends HB_CTRL on every profile port. -/
  | hbCtrlSend
  /-- HB_NODE (R361): Accepted node heartbeat sets presence, quarantine or rejoin handling. -/
  | hbNode (node : Nat) (hb : NodeBeat)
  /-- NODE_ABSENT (R361): HB_TIMEOUT passes without a heartbeat and the field node becomes absent. -/
  | nodeAbsent (node : Nat)
  /-- REPORT (R362): Node measurement report is passed to firmware and posted as the bound node's request. -/
  | nodeReport (node : Nat) (r : NodeReport)
  /-- STAGE_RESULT (R364): Field node answers a stage transfer and is counted confirmed or disagreeing. -/
  | stageResult (node result : Nat) (digest : Digest) (h : FieldHead := ⟨0, 0, true⟩)
  /-- COMMIT_ACK (R364): Field node acknowledges an announced commit. -/
  | commitAck (node op : Nat) (newEpoch : Word) (h : FieldHead := ⟨0, 0, true⟩)
  /-- COMMIT_ANNOUNCE_RESEND (R364): Every 10 ms COMMIT is resent to confirmed nodes that have not acknowledged. -/
  | commitAnnounceResend
  /-- CAN_BUS_ERROR (R347): A CAN error updates the error counters and per-identifier error counts. -/
  | canBusError (port : Nat) (e : CanError)
  /-- BUS_OFF_RECOVERED (R347): Recessive sequence completes and the port rejoins the bus. -/
  | busOffRecovered (port : Nat)
  /-- PORT_REJOIN (R349): A reset port completes initialisation and rejoins the bus. -/
  | portRejoin (port : Nat)
  /-- DUPLICATE_QUIET_END (R354): Ten seconds of duplicate quiet time end for an identifier. -/
  | duplicateQuietEnd (port : Nat) (ident : Word)
  /-- HOST_FRAME_RECEIVE (R352): A frame matching a host receive object enters its main or shadow buffer. -/
  | hostFrameReceive (port : Nat) (f : CanFrame)
  /-- RX_HOLD_EXPIRE (R368): Ten milliseconds after a hold the receive object's main buffer is released. -/
  | rxHoldExpire (port object : Nat)
  /-- CAN_TRANSMIT_DONE (R350): A transmit request is sent or uses its retry limit and its command completes. -/
  | canTransmitDone (port buffer : Nat) (sent : Bool) (retransmissions : Nat) (age : Nat := 0)
  /-- LS_SHORT (R376): Limitation with low output voltage for 20 µs latches the channel off. -/
  | lsShort (channel : Nat) (vout held : Nat := 0)
  /-- LS_OVERLOAD (R376): Limitation beyond the profile allowance switches the channel off or starts a burst. -/
  | lsOverload (channel : Nat) (held : Nat := 0)
  /-- LS_THERMAL (R376): Channel-to-case temperature exceeds DT_LIMIT and the channel switches off. -/
  | lsThermal (channel temp : Nat)
  /-- LS_THERMAL_RESTART (R376): Channel cools to DT_LIMIT − 10 K and switches on again if commanded. -/
  | lsThermalRestart (channel temp : Nat)
  /-- LS_DIE_OVERTEMP (R376): Load switch case sensor crosses 150 °C or 140 °C and all channels go off or return. -/
  | lsDieOvertemp (temp : Int)
  /-- LS_OPEN_LOAD (R376): Zero current at full duty for 100 ms reports an open load. -/
  | lsOpenLoad (channel : Nat) (held : Nat := 0)
  /-- LS_SUPPLY (R371): VLS leaves or returns to its range and channels switch off or are restored. -/
  | lsSupply (vls : Nat)
  /-- INRUSH_WINDOW_END (R377): A channel's inrush window ends and the after-window allowance applies. -/
  | inrushWindowEnd (channel vout : Nat)
  /-- VLS_DROOP (R379): VLS crosses DROOP_TH and inrush window timers pause or resume. -/
  | vlsDroop (vls : Nat)
  /-- LS_BURST_RETRY (R378): One millisecond after an overload switch-off a heavy channel retries. -/
  | lsBurstRetry (channel : Nat)
  /-- LS_BACKOFF_EXPIRE (R380): AUTO_RETRY backoff expires and a latched channel is switched on again. -/
  | lsBackoffExpire (channel : Nat)
  /-- LS_LINK_LOST (R382): No valid link frame for 1 ms and the die declares the link lost. -/
  | lsLinkLost
  /-- LS_LINK_RESTORED (R382): The load-switch link returns and the loss is reported. -/
  | lsLinkRestored
  /-- LS_LIMP (R383): LIMP_N edge hands the heavy channels to LHIN or back to the link. -/
  | lsLimp (low : Bool)
  /-- LHIN_CHANGE (R383): LHIN edge switches its heavy channel or clears its latch while LIMP_N is low. -/
  | lhinChange (k : Nat) (high : Bool)
  /-- KEY_MASK_REFRESH (R389): Every 1 ms each key cell is remasked and its tag checked. -/
  | keyMaskRefresh (slot : Nat) (tagOk : Bool)
  /-- KEY_RELOAD (R389): At PD11 power-up every persistent slot is reloaded from MRAM. -/
  | keyReload
  /-- KEY_OPERATION_DONE (R391): A key operation completes and drops its reference. -/
  | keyOperationDone (slot : Nat)
  /-- STALE_KEY_FREE (R392): Five seconds after a key became stale it is freed. -/
  | staleKeyFree (slot : Nat)
  /-- DRBG_RESEED (R405): Every 1 s the noise source reseeds the DRBG under health tests. -/
  | drbgReseed (health : Nat)
  /-- RANDOM_RESUME (R405): After 1,024 passing samples random output resumes. -/
  | randomResume
  /-- CRYPTO_RESULT_DISCARD (R19): A crypto result held 1 s on Q61 is discarded. -/
  | cryptoResultDiscard
  /-- RULE_SAMPLE (R413): A Fumarole rule samples its source and acts on edges of its compare result. -/
  | ruleSample (rule conn : Nat) (raw : Int)
  /-- WAKE_N (R420): WAKE_N held low for 100 µs starts a wake. -/
  | wakeN (held : Nat := 0)
  /-- WAKE_TIME (R420): The configured wake time is reached and a wake starts. -/
  | wakeTime
  /-- DOMAIN_RELEASED (R420): A power domain leaves reset and the next dependency level is switched on. -/
  | domainReleased (domain : Nat)
  /-- IDLE_ENTRY (R411): All outputs idle for IDLE_DELAY and the controller enters IDLE. -/
  | idleEntry
  /-- HEATER_FORCE_END (R414): HEATER_FORCE duration ends and the rules drive the heater line again. -/
  | heaterForceEnd
  /-- FUMAROLE_BUFFER_DRAIN (R415): Fumarole's buffer entries drain into the journal while PD4 is on. -/
  | fumaroleBufferDrain
  /-- MULTIPLIER_LOCK (R427): Clock multiplier is declared locked and derived clocks leave their gates. -/
  | multiplierLock (error cycles : Nat := 0)
  /-- CLOCK_MONITOR_FAULT (R429): A clock monitor detects a fault and takes its first reaction. `a` and `b` are what its
  detector of Table 18-1 measured: of the reference, its edges in 10 µs (`b` unused); of the multiplier, the phase error in ps
  and the consecutive cycles it has stood; of every other clock, the time without an edge in ns and the frequency's deviation
  over 10 µs in 0.01 %. -/
  | clockMonitorFault (clock : Nat) (a b : Nat := 0)
  /-- CLOCK_FAULT_RESET (R430): Twenty milliseconds after a clock fault a system reset is performed. -/
  | clockFaultReset
  /-- AIN_CONVERSION (R432): A general-purpose ADC conversion completes and updates the channel value. -/
  | ainConversion (channel code : Nat)
  /-- DIE_TEMP_SAMPLE (R433): A die diode conversion is judged against the temperature thresholds. -/
  | dieTempSample (temp : Option Int)
  /-- CORE_WATCHDOG (R439): Core watchdog expires and PD3 is reset. -/
  | coreWatchdog
  /-- FIRMWARE_START (R440): Firmware starts after a core reset, re-owns or stops outputs and restarts links. -/
  | firmwareStart
  /-- POWER_ON_RESET (R437): PORST_N release regenerates the root, selects the reference and boots the device. -/
  | powerOnReset (b : BootInputs)
  /-- SUPPLY_BROWNOUT (R465): A rail falls below its reset threshold and starts a power-on reset. -/
  | supplyBrownout (rail millivolts : Nat)
  /-- JOURNAL_ENTRY_WRITE (R457): A buffered journal entry is written through Q62 once writes are permitted. -/
  | journalEntryWrite (verified : Bool)
  /-- RETIRE_MAP_WRITE (R447): A retirement is written to the retirement map once writes are permitted. -/
  | retireMapWrite
  /-- RECOVERY_CONTEXT_TAKEN (R450): A freed recovery context is taken by the oldest waiting fault, starting its backoff. -/
  | recoveryContextTaken
  /-- BAD_OPCODE (R43): A dequeued packet whose group or opcode is unused completes with BAD_OPCODE. -/
  | badOpcode (opcode : Half) (c : Cmd)
  /-- SPI_BAD_OPCODE (R68): An SPI transaction whose byte 0 selects no operation is counted in diagnostic counter 25. -/
  | spiBadOpcode (port : Nat) (byte0 : Byte)
  /-- SWITCH_TIMEOUT (R188): CONT_T passes in reassignment step 3 or 5 without the pole pair confirming, and the pod rejoins its output or is left unassigned. -/
  | switchTimeout (pod : Nat)
  /-- PILOT_READBACK_FAULT (R231): In form F a high plateau above -LOW_MIN held for 100 ms is a readback fault. -/
  | pilotReadbackFault (conn : Nat) (high : Int)
  /-- SOUT_STUCK (R323): A safety output readback stays high for 1 ms while off, or low for 1 ms while energised, and the output is faulted. -/
  | soutStuck (sout : Nat) (high : Bool) (held : Nat := 0)
  /-- TEST_PULSE_MISSED (R325): A channel fed from a test-pulsed output does not show an off-pulse within 100 µs, and the input latches in demand. -/
  | testPulseMissed (input : Nat)
  /-- VEHICLE_LIMIT_LOWERED (R328): A lowered vehicle limit takes effect 100 ms after its dequeue. -/
  | vehicleLimitLowered (output : Nat)
  /-- LS_BURST_END (R378): A heavy channel stays out of limitation for 10 ms and its retry burst ends. -/
  | lsBurstEnd (channel : Nat) (clear : Nat := 0)
  /-- DROOP_PAUSE_END (R379): A window's droop pause reaches its 2 ms total and the inrush timer runs again while VLS is still low. -/
  | droopPauseEnd (channel : Nat)
  /-- REFERENCE_RETURN (R429): The reference clock returns and the AON clock leaves the RC oscillator. -/
  | referenceReturn
  /-- PORST_N_ASSERTED (R437): PORST_N falls, driving gates and SOUT low at once and starting a power-on reset without a save. -/
  | porstNAsserted
deriving DecidableEq, Repr

end Sys2Proof
end

