-- ==== Sys2Proof/Machine/State.lean ====
section
/-! DEFINITION. Every piece of state that the spec gives the GSL-9648, as plain data. Each field's docstring reads:
meaning; width; the chapter file and rule that name it; its value at reset. Tables are sparse: an index that a table
does not list holds the reset value of its kind. Times are µs of the uptime count (R480) unless site time is named. -/

namespace Sys2Proof.Machine

/-- Faults. Nothing the spec lists stops the part for good in a state outside it, so the only fault is a packet whose
parameter list is not the 48 PARAM bytes of R33. -/
inductive Fault where
  /-- Raised by no meaning: every stop the spec describes (shutdown, boot failure) is a state of the part (R436, R387).
  Safe: never raised. -/
  | none
deriving DecidableEq, Repr

/-- Refusals. -/
inductive Refusal where
  /-- Raised by Dispatch for a command that has no meaning yet. Safe: the run stops. -/
  | notModelled (mnemonic : String)
deriving DecidableEq, Repr

/-! ## Configuration (chapter 03) -/

/-- One queue of a seat, from the host seats and queues block (R18, R69). -/
structure QueueDef where
  qnum : Nat
  /-- 0 unassigned, 1 command, 2 completion. -/
  kind : Nat
  depthLog2 : Nat
  /-- Command queue: index within the seat of its completion queue. -/
  pair : Nat
deriving DecidableEq, Repr

/-- One seat of the host seats and queues block (R59, R60, R62, R65). -/
structure SeatCfg where
  /-- 0 ADMIN, 1 OPERATOR, 2 SAFETY, 3 OBSERVER. -/
  role : Nat
  /-- 0 PCIe physical function, 1 SGMII, 2 SPI. -/
  transport : Nat
  /-- Physical function or port. -/
  port : Nat
  mac : BitVec 48
  queues : List QueueDef
  /-- One bit per opcode, 64 bits per group. -/
  mask : List (Nat × BitVec 64)
  /-- Handles the image gives the seat. -/
  owns : List Word
  /-- Heartbeat timeout, ms. -/
  hbTimeout : Nat
deriving DecidableEq, Repr

/-- The content of block 1 (R18): its seats and the depths of the internal queues. -/
structure SeatsBlock where
  seats : List (Nat × SeatCfg)
  /-- Depth, as log2, of Q32 to Q63. -/
  depths : List (Nat × Nat)
deriving DecidableEq, Repr, Inhabited

/-- A site configuration: the records of an Unmar image by kind and index (R76), and what block 1 says. A body byte
that its Mem does not list is 0. -/
structure SiteCfg where
  blocks : Tbl Mem := []
  nodes : List (Nat × Mem) := []
  /-- Field-node bodies. -/
  fields : List (Nat × Mem) := []
  seats : SeatsBlock := ⟨[], []⟩
  /-- BODYLEN of block 1, whose layout the spec does not give. -/
  seatsLen : Nat := 0
  serial : Word := 0
  uid : BitVec 64 := 0
  minFw : Word := 0
deriving DecidableEq, Repr

/-- A pending change of the overlay (R73). -/
inductive Edit where
  /-- Bytes of a record body: kind 1 block, 2 tree node; index; offset; data. -/
  | bytes (kind index offset : Nat) (data : List Byte)
  | addNode (index : Nat) (body : Mem)
  | removeNode (index : Nat)
  | moveNode (index parent : Nat)
deriving DecidableEq, Repr

/-! ## Host interface (chapter 02) -/

/-- A completion or event in a completion queue (R36). -/
structure Completion where
  tag : Word
  status : Half
  opecho : Half
  result : Res
  time : Word
  check : Word
deriving DecidableEq, Repr

/-- A command whose last packet has not come (R41). -/
structure ContCmd where
  opcode : Half
  tag : Word
  handle : Word
  flags : Byte
  params : List Word
  packets : Nat
  /-- A rsvd field of one of its packets was nonzero (R13), or a PLEN above 12 (R34). -/
  rsvd : Bool
  badLength : Bool
  /-- When its newest packet was dequeued, µs. -/
  since : Nat
  /-- Order of dequeue of its first packet, device-wide, and of the doorbell that posted it (R52, R54). -/
  order : Nat
  bell : Nat
deriving DecidableEq, Repr

/-- One queue of a seat (R39, R46, R48). -/
structure Ring where
  /-- HEAD; 16; 02 R46; 0. -/
  head : Half := 0
  /-- TAIL; 16; 02 R46; 0. -/
  tail : Half := 0
  /-- Sequence, SW_QSEQ; 32; 02 R39; 0. -/
  seq : Word := 0
  /-- Words of its ring slots, command queue at slot × 16 + word, completion queue at slot × 8 + word; 32 each; 02 R33 R36
  R46; DESIGN CHOICE 0. -/
  slots : List (Nat × Word) := []
  /-- Command queue: doorbells whose packets have not all been dequeued, oldest first: the TAIL that each set and its
  device-wide order; 02 R52; none. -/
  bells : List (Half × Nat) := []
  /-- Completion queue: completions not yet read, oldest first; 32 bytes each; 02 R36; none. -/
  posted : List Completion := []
  /-- Completion slots reserved for dequeued commands; count; 02 R48; 0. -/
  reserved : Nat := 0
  /-- When the oldest unread completion became the oldest; µs; 02 R49; 0. -/
  since : Nat := 0
  /-- Stall of the completion queue already reported; 1; stalls, count; 02 R49 R44; 0. -/
  stalled : Bool := false
  stalls : Nat := 0
  /-- Command whose continuation packets are awaited; 02 R41; none. -/
  cont : Option ContCmd := none
  /-- TAIL when the seat was declared absent, until HEAD reaches it: the packets before it complete with SEAT_ABSENT;
  16; 02 R63; none. -/
  absentTo : Option Half := none
deriving DecidableEq, Repr

/-- A seat (R61, Table 2-12). -/
structure Seat where
  /-- SW_STATE.STATE: 0 CLOSED, 1 OPEN, 2 ABSENT; 2; 02 R61; 0. -/
  state : Nat := 0
  /-- SW_STATE.ABSENCES; 16, saturating; 02 Table 2-12; 0. -/
  absences : Nat := 0
  /-- SW_HEARTBEAT; 32; 02 R62; 0. -/
  heartbeat : Word := 0
  /-- When heartbeat supervision last started or was renewed; µs; 02 R62; 0. -/
  hbTime : Nat := 0
  /-- SW_INT_STATUS; 9; 02 Table 2-12; 0. -/
  intStatus : BitVec 9 := 0
  /-- SW_INT_MASK; 9; 02 Table 2-12; 0. -/
  intMask : BitVec 9 := 0
  /-- Event group mask; 64; 02 R37; 0. -/
  groups : BitVec 64 := 0
  /-- Completion queue of the events; 02 R37; none. -/
  eventQueue : Option Nat := none
  /-- Events dropped since the previous EVENTS_LOST; count; 02 R48; 0. -/
  dropped : Nat := 0
  /-- The seat's queues 0 to 3; 02 R46; all empty. -/
  rings : Tbl Ring := []
deriving DecidableEq, Repr

/-- A live command: dequeued, not completed (R51, R54). -/
structure Live where
  seat : Nat
  queue : Nat
  tag : Word
  opcode : Half
  handle : Word
  params : List Word
  /-- Commit point reached. -/
  committed : Bool
  /-- A class A command of a seat whose role needs ownership: checked again at its commit point (R56, R60). -/
  needsOwner : Bool
  /-- Completion is discarded (R58, R64). -/
  discard : Bool
  /-- When the execution timeout expires; none while none runs. -/
  deadline : Option Nat
  /-- Order of dequeue, device-wide. -/
  order : Nat
  /-- Values a command keeps until it completes (its meaning says which). -/
  keep : List Int
  /-- Site time of the commit point, once reached, or of the rejection of a command that ended unposted (R36). -/
  commitTime : Option Nat
  /-- Status and RESULT of a command that ended while the cores were in reset, posted once firmware runs (R439). -/
  ended : Option (Nat × Res)
deriving DecidableEq, Repr

/-- An entry of an internal queue (R22). -/
structure QEntry where
  epoch : Word
  seq : Half
  body : List Int
deriving DecidableEq, Repr

/-- An internal queue Q32 to Q63 (R19 to R25). -/
structure IQueue where
  /-- Entries, oldest first; 01 R19; none. -/
  entries : List QEntry := []
  /-- HEAD and TAIL; 16 each; 02 R46; 0. -/
  head : Half := 0
  tail : Half := 0
  /-- Sequence of the next post; 16; 01 R22; DESIGN CHOICE 0. -/
  nextSeq : Half := 0
  /-- Sequence the consumer expects; 16; 01 R22; DESIGN CHOICE 0. -/
  expectSeq : Half := 0
  /-- Posts refused for want of a credit; 01 R20; 0. -/
  refused : Nat := 0
  /-- Entries discarded for their epoch; 01 R22; 0. -/
  discards : Nat := 0
  /-- Stalls; 01 R24; 0. -/
  stalls : Nat := 0
  /-- Stalled now; 1; 01 R24; 0. -/
  stalled : Bool := false
  /-- When the oldest entry became the oldest; µs; 01 R24; 0. -/
  since : Nat := 0
deriving DecidableEq, Repr

/-- A frame of kind 0x03 of an SGMII seat (R67): its queue k, first index and completions. -/
structure CqFrame where
  queue : Nat
  first : Half
  completions : List Completion
deriving DecidableEq, Repr

/-- The command interface of the whole device. -/
structure HostIf where
  /-- Seats 0 to 7; 02 R61; CLOSED. -/
  seats : Tbl Seat := []
  /-- Owner of each owned object, by handle; 02 R60; from the image, none. -/
  owners : List (Word × Nat) := []
  /-- Live commands in order of dequeue; 02 R51; none. -/
  live : List Live := []
  /-- Next dequeue order number (model's own; DESIGN CHOICE 0). -/
  order : Nat := 0
  /-- Internal queues Q32 to Q63; 01 R19; empty. -/
  internal : Tbl IQueue := []
  /-- Diagnostic counters 0 to 25; 64 each; 02 Table 2-7; 0. -/
  counters : Tbl Nat := []
  /-- SRAM ECC corrected, uncorrectable, last address; 32 each; 02 R44 SRAM_STATUS; DESIGN CHOICE 0. -/
  sramCorrected : Nat := 0
  sramUncorrectable : Nat := 0
  sramAddress : Word := 0
  /-- Host memory as the controller last wrote it by DMA: address, bytes (R42; model's view of the host side). -/
  dma : List (Nat × List Byte) := []
  /-- Frames of kind 0x03 that the newest posting or resend put on Ethernet for a seat, oldest first (R67; model's view of
  the wire). -/
  frames : List (Nat × List CqFrame) := []
  /-- Completions of a seat that stood unread when the queue memory last lost power (model's view of what had been posted). -/
  unread : List (Nat × List Completion) := []
  /-- Words that the last register read returned to its host, those of a frame of kind 0x06 among them (R66 to R68; model's
  view of the bus; none). -/
  lastReads : List Word := []
  /-- Next doorbell order number (model's own; DESIGN CHOICE 0). -/
  bell : Nat := 0
deriving DecidableEq, Repr

/-! ## Boot registers, clocks, die temperature, power (chapters 02, 17, 18) -/

/-- Boot and identification registers (Table 2-13) and reset. -/
structure Boot where
  /-- BT_ID.DIE_REV; 8; 02 R70; DESIGN CHOICE 0. -/
  dieRev : Byte := 0
  /-- BT_ID.GRADE: 1 GSL-9648-M, 2 GSL-9648-S; 4; 00 R3, 02 R70; DESIGN CHOICE 1. -/
  grade : Nat := 1
  /-- BT_BOOT_STATUS.FAIL_CODE; 8; 02 R70; 0. -/
  failCode : Nat := 0
  /-- BT_BOOT_STATUS.STAGE; 4; 02 R70; 0. -/
  stage : Nat := 0
  /-- BT_BOOT_STATUS.BOOTSEL, sampled at reset; 2; 02 R70, 16 Table 16-8; DESIGN CHOICE 0. -/
  bootsel : BitVec 2 := 0
  /-- BT_BOOT_STATUS.IMAGE: 0 A, 1 B; 1; 02 R70; 0. -/
  image : Nat := 0
  /-- BT_FW_VERSION; 32; 02 R70; 0. -/
  fwVersion : Word := 0
  /-- BT_ROLLBACK: OTP fuses blown; 8; 02 R70, 16 R396; DESIGN CHOICE 0. -/
  rollback : Nat := 0
  /-- BT_RESET_CAUSE: bit 0 PORST, 1 SYSTEM, 2 CORE, 3 CORE_WDT, 4 CLOCK_LOSS, 5 BROWNOUT; 6; 02 R70, 18 R437;
  PORST 1, the others DESIGN CHOICE 0. -/
  resetCause : BitVec 6 := 1
  /-- BT_UID; 64; 02 R70 R479; DESIGN CHOICE 0. -/
  uid : BitVec 64 := 0
  /-- BT_DIGEST_0 to 7; 256; 02 R70, 03 R86; 0. -/
  digest : Digest := 0
  /-- BT_EPOCH; 32; 02 R70; 0. -/
  epoch : Word := 0
  /-- PORST_N held low; 1; 18 R437; 0. -/
  porst : Bool := false
  /-- PCIe link trained at boot; 1; 03 R97; 0. -/
  pcieLink : Bool := false
  /-- Provisioning seat of R97 in force; 1; 03 R97; 0. -/
  provisioning : Bool := false
  /-- Recovery seat of R398 in force; 1; 16 R398; 0. -/
  recovery : Bool := false
  /-- Latched shutdown of R436; 1; 18 R436; 0. -/
  shutdown : Bool := false
  /-- Core reset in force (PD3 in reset); 1; 18 R439; 1. -/
  coreReset : Bool := true
  /-- System reset in force or its start; 1; 18 R437; 0. -/
  systemReset : Bool := false
  /-- Cores halted by the debug port, which pauses the core watchdog; 1; 06 R172, 18 R439; DESIGN CHOICE 0. -/
  halted : Bool := false
deriving DecidableEq, Repr

/-- Site time, clocks and die temperature (R12, R480, R81, R426 to R436). -/
structure Clock where
  /-- Uptime count; 64, µs; 00 R480; 0. -/
  uptime : Nat := 0
  /-- Site time, µs TAI; 64; 00 R12; DESIGN CHOICE 0, not valid. -/
  tai : Nat := 0
  /-- Site time valid; 1; 01 Table 1-8, 03 R81; 0. -/
  timeValid : Bool := false
  /-- Consecutive Sync messages within LOCK_NS; 03 R81; 0. -/
  syncs : Nat := 0
  /-- When the time source was last heard (Sync or edge taken); µs; 03 R81 R82; 0. -/
  sourceHeard : Nat := 0
  /-- PTP port in use: none before one is selected; 03 R81; none. -/
  ptpPort : Option Nat := none
  /-- Time transmitters heard by Announce: (port, sender identity), dataset, steps removed, when last heard, µs; 03 R81;
  none. -/
  masters : List ((Nat × Nat) × List Nat × Nat × Nat) := []
  /-- TAI seconds of TIME_SET for the next PPS_IN edge; 64; 03 R82; none. -/
  ppsSeconds : Option Nat := none
  /-- PPS_IN edges ignored, being more than 1 ms from a whole second; count; 03 R82; 0. -/
  ppsIgnored : Nat := 0
  /-- Uptime at which site time first became valid since power-up; 05 R139; none. -/
  firstValid : Option Nat := none
  /-- Reference taken: false crystal, true REFCLK; 18 R426; false before it is selected, DESIGN CHOICE. -/
  refclk : Bool := false
  /-- A reference is present and selected; 1; 18 R426; 0. -/
  refPresent : Bool := false
  /-- AON clock on the 1 MHz RC oscillator; 1; 18 R426 R429; 1. -/
  aonRc : Bool := true
  /-- Multiplier enabled, locked; 1 each; 18 R427; 0. -/
  multOn : Bool := false
  locked : Bool := false
  /-- LOCK_WIN, ps, and LOCK_N, reference cycles, since the last power-up or system reset; 18 R427 R431; the defaults 16
  and 512. -/
  lockWin : Nat := 16
  lockN : Nat := 512
  /-- Clock whose fault awaits its reset: number as CLOCK_FAULT [0], and when VOTER_SAFE was entered; 18 R430; none. -/
  faultClock : Option Nat := none
  faultSince : Nat := 0
  /-- Site time of a clock fault; 64; 18 R442; none. -/
  faultTime : Option Nat := none
  /-- Die temperature, 0.1 °C, signed; 16; 18 R433; DESIGN CHOICE 250. -/
  dieTemp : Int := 250
  /-- Consecutive samples beyond, and back past, each threshold of Table 18-4, in its order: 0 cold gate, 1 warning,
  2 hot gate, 3 refusal, 4 throttle, 5 shutdown, 6 gate-entry save cold, 7 gate-entry save hot; 18 R433; 0. -/
  beyond : Tbl Nat := []
  /-- Thresholds in force, by the same numbers; 18 R433; none. -/
  inForce : List Nat := []
  /-- A diode conversion has been taken; diode fault in force; 1 each; 18 R433 R435; 0. -/
  sampled : Bool := false
  diodeFault : Bool := false
  /-- Missing conversions in a row, and valid samples in a row during a fault; 18 R435; 0. -/
  missing : Nat := 0
  validRun : Nat := 0
deriving DecidableEq, Repr

/-- A general-purpose ADC channel (R432). -/
structure Ain where
  /-- Latest conversion, 0 to 65,535 over 0 to 1.8 V; 16; 18 R432; DESIGN CHOICE 0. -/
  code : Nat := 0
  /-- 0 never converted, 1 valid, 2 short, 3 open, 4 temperature out of range; 18 R432; 0. -/
  standing : Nat := 0
  /-- Latest temperature, 0.1 °C; 18 R432; DESIGN CHOICE 0. -/
  temp : Int := 0
  /-- When it was converted; µs; 0. -/
  time : Nat := 0
  /-- Pod period number the conversion carries, by a compare trigger; 06 Table 6-6; none. -/
  podPeriod : Option Nat := none
deriving DecidableEq, Repr

/-! ## Epochs and image (chapter 03) -/

/-- Epochs, stages, overlay and the image stores. -/
structure Epoch where
  /-- Running epoch number; 32; 03 R91, 02 BT_EPOCH; 0. -/
  number : Word := 0
  /-- Configuration in force; 03 R74; none loaded. -/
  cfg : SiteCfg := {}
  /-- A configuration is in force; 1; 03 R97; 0. -/
  loaded : Bool := false
  /-- Overlay, oldest change first, each with whether the present stage took it; 64 KiB; 03 R73 R74; DESIGN CHOICE empty
  (MRAM). -/
  overlay : List (Edit × Bool) := []
  /-- Stage: 0 none, 1 staging, 2 staged, 3 announced; 03 R95; 0. -/
  phase : Nat := 0
  /-- Staged configuration and the overlay changes that the stage took; 03 R74; none. -/
  staged : SiteCfg := {}
  stagedEdits : List Edit := []
  /-- The stage came from the staging slot (a new image); 1; 03 R74; 0. -/
  stagedImage : Bool := false
  /-- Intended root digest of the stage; 256; 03 R87; 0. -/
  stagedRoot : Digest := 0
  /-- Field nodes by their answer to the stage: 0 silent, 1 confirmed, 2 disagreeing; 03 R88; none. -/
  answers : List (Nat × Nat) := []
  /-- When the stage timeout started; µs; 03 R88; 0. -/
  stageSince : Nat := 0
  /-- Announced tick, site time; 64; 03 R90; none. -/
  tick : Option Nat := none
  /-- Field nodes that acknowledged the announcement; 03 R364; none. -/
  acked : List Nat := []
  /-- When the announcement was last sent; µs; 03 R364; 0. -/
  announceAt : Nat := 0
  /-- Timeout block that was in force before each change of it, with when that ended, µs, oldest first: a timer that runs
  keeps the length of its start; 19 R459; none. -/
  timers : List (Nat × Mem) := []
  /-- Committed mark not yet written; 1; 03 R92; 0. -/
  markDue : Bool := false
  /-- Site time of the last tick; 03 Table 3-4; none. -/
  lastTick : Option Nat := none
  /-- MRAM staging slot; 1,048,576 bytes; 03 R95; DESIGN CHOICE 0 bytes. -/
  slot : Mem := []
  /-- Running image in MRAM, the changes that ticks took from the overlay since its committed mark, and the epoch number of
  that mark; 03 R74 R92; DESIGN CHOICE empty slot. -/
  mram : Option (SiteCfg × List Edit × Word) := none
  /-- What the check of that image found at power-up: 0 nothing, 3 its signature wrong, 4 its digest; 03 R74 R97; 0. -/
  mramFault : Nat := 0
  /-- Intended own digests by unit (kind, index); 03 R86; none. -/
  intended : List ((Nat × Nat) × Digest) := []
  /-- Reported own digests by unit (kind, index); 03 R86; none reported, 32 zero bytes. -/
  reported : List ((Nat × Nat) × Digest) := []
  /-- Intended root digest; 256; 03 R85; 0. -/
  root : Digest := 0
  /-- Units whose digests differ, with the uptime at which that began and whether it has been journalled; 03 R86; none. -/
  differ : List ((Nat × Nat) × Nat × Bool) := []
  /-- Digests that the field nodes which acknowledged the last announcement had under the epoch before its tick;
  03 Table 3-4; none. -/
  before : List (Nat × Digest) := []
deriving DecidableEq, Repr

/-! ## Tree and allocation (chapters 04, 05) -/

/-- A sensor of a tree node (R109, R141, R142). -/
structure Sensor where
  /-- 0 none, 1 not yet valid, 2 valid, 3 substituted, 4 retired; 05 SENSOR_STATE; 1 where a code names one. -/
  state : Nat := 1
  /-- Last valid reading and value in use, 0.1 °C exact; 05 R141; DESIGN CHOICE 0. -/
  lastValid : Rat := 0
  value : Rat := 0
  /-- When it last read validly, and since when SENS_FAULT runs; µs; 05 R141; 0. -/
  lastTime : Nat := 0
  faultSince : Option Nat := none
  /-- Missing readings in a row; 05 R141; 0. -/
  missing : Nat := 0
deriving DecidableEq, Repr

/-- Operating state of a tree node (R118 NODE_STATE). -/
structure Node where
  /-- Retired in its own right; 1; 01 R27; 0. -/
  retired : Bool := false
  /-- Newest request: demand, offer, firm discharge; 32 each, W; 05 R122; 0. -/
  demand : Nat := 0
  offer : Nat := 0
  firm : Nat := 0
  /-- Demand presented at the last solve, W; 04 NODE_STATE; 0. -/
  presented : Int := 0
  /-- Class presented at the last solve; 04 NODE_STATE; 0. -/
  cls : Nat := 0
  /-- t_est, °C; 04 R107; T_LIMIT at power-up (none until the node is loaded). -/
  tEst : Option Rat := none
  /-- Window slices, oldest first, in quanta, and time in the current slice, ms; 04 R106; full. -/
  slices : List Rat := []
  sliceMs : Rat := 0
  /-- Sensors 0 to 3 and ambient 4; 04 R109; not yet valid. -/
  sensors : Tbl Sensor := []
  /-- Latest valid measured voltage, V; 04 R104; none. -/
  volts : Option Rat := none
  /-- Cap held after a sensor's retirement, W; 05 R142; none. -/
  capHeld : Option Nat := none
  /-- Thermal state presented at the last solve: the highest normalised temperature of the node and its members; 01 R26,
  04 R108; none. -/
  therm : Option Rat := none
  /-- Power cap presented at the last solve, W; 05 R142; 0. -/
  capShown : Nat := 0
  /-- win_cap at the last solve, W; 05 WINDOW_READ; DESIGN CHOICE 0. -/
  winCap : Int := 0
  /-- Measured energy of the current period where the node is metered, quanta; 05 R130; 0. -/
  metered : Rat := 0
deriving DecidableEq, Repr

/-- A grant block: its period number and the grant of every node, W (R125, R133). -/
structure Block where
  period : Nat
  grants : List (Nat × Int)
deriving DecidableEq, Repr

/-- Caldera (chapters 04, 05). -/
structure Caldera where
  /-- Nodes; 04 R118; as Node. -/
  nodes : Tbl Node := []
  /-- Curtailments: node, direction, limit W, expiry µs; at most 64; 04 R116; none. -/
  curtails : List (Nat × Nat × Nat × Option Nat) := []
  /-- Period number; 64; 05 R121; 0. -/
  period : Nat := 0
  /-- Number of the period that the next boundary starts, and that boundary; µs of the count in use; 05 R121; 0. -/
  nextPeriod : Nat := 0
  periodEnd : Nat := 0
  /-- Block in force; 05 R122; all grants 0. -/
  inForce : Block := ⟨0, []⟩
  /-- Blocks held for later periods, nearest first; 05 R133; none. -/
  held : List Block := []
  /-- Block solved and not yet published; 05 R16; none. -/
  solved : Option Block := none
  /-- Blocks are applied on arrival until the pipeline is refilled (R135); 1; 0. -/
  drained : Bool := false
  /-- Last and longest solve, 0.1 µs; 05 R145; 0. -/
  lastSolve : Nat := 0
  maxSolve : Nat := 0
  /-- Overruns and drains; 05 R145; 0. -/
  overruns : Nat := 0
  drains : Nat := 0
  /-- Aligned to site time, snapshot restored, ramp overridden in the last solve; 1 each; 05 R145; 0. -/
  aligned : Bool := false
  restored : Bool := false
  rampOver : Bool := false
  /-- Nodes withdrawn by an announced epoch (R115); none. -/
  withdrawn : List Nat := []
deriving DecidableEq, Repr

/-! ## Phase array (chapter 06) -/

/-- A phase. -/
structure Phase where
  /-- Gate levels PH_H and PH_L at the balls; 1 each; 06 R166; low. -/
  gateH : Bool := false
  gateL : Bool := false
  /-- Controlled switch on; blanking in progress; 1 each; 06 R151; 0. -/
  on : Bool := false
  blanking : Bool := false
  /-- 0 active, 1 shedding, 2 shed, 3 restoring, 4 fault, 5 retired; 06 R175; 0. -/
  state : Nat := 0
  /-- Shed level, 32 for full; 0 to 32; 06 R170; 32. -/
  level : Nat := 32
  /-- DAC code in use; 12; 06 R153; 0. -/
  code : Nat := 0
  /-- Comparator ends, MAXON ends, blanking-limited cycles; 32 each, saturating; 06 R175; 0. -/
  compEnds : Nat := 0
  maxonEnds : Nat := 0
  blankEnds : Nat := 0
  /-- Consecutive blanking-limited cycles; 06 R154; 0. -/
  blankRun : Nat := 0
  /-- Turn-ons skipped; 06 R159; 0. -/
  skips : Nat := 0
  /-- Position at which the controlled switch turned on and the compensation ramp started, sixteenths after the zero of the
  present period (negative: in an earlier one); 06 R151; DESIGN CHOICE -1. -/
  onAt : Int := -1
deriving DecidableEq, Repr

/-- A pod: modulation and protection. -/
structure Pod where
  /-- 0 OFF, 1 RUN, 2 TRIPPED, 3 HALTED, 4 RETIRED; 06 R167; 0. -/
  state : Nat := 0
  /-- When it retired, µs: the snapshot of that very instant still counts it; 04 R117; none. -/
  retiredAt : Option Nat := none
  /-- Running set: PERIOD 16, MAXON 32 (sixteenths), REF mA signed; 06 R158; DESIGN CHOICE 0 before the first enable. -/
  period : Nat := 0
  maxon : Nat := 0
  ref : Int := 0
  /-- Shadow set; 06 R158; DESIGN CHOICE 0. -/
  shPeriod : Nat := 0
  shMaxon : Nat := 0
  shRef : Int := 0
  /-- Pending bits of the shadow set; 1 each; 06 R158; 0. -/
  pendP : Bool := false
  pendM : Bool := false
  pendR : Bool := false
  /-- Tags of the shadow writes and of the last load; 8 each; 06 R158; DESIGN CHOICE 0. -/
  tagP : Nat := 0
  tagM : Nat := 0
  tagR : Nat := 0
  lastTag : Nat := 0
  /-- Pod period count; 32; 06 R163; 0. -/
  periods : Nat := 0
  /-- Sources of the latched trip; 06 R164; none. -/
  sources : List Nat := []
  /-- First source of the latched trip and its GTRIP_N index or phase; 06 R165; 0 none. -/
  tripSource : Nat := 0
  tripIndex : Nat := 0
  /-- Last trip source; 06 POD_STATUS; 0. -/
  lastSource : Nat := 0
  /-- Levels of the filtered trip inputs: POD_TRIP_N low, and GTRIP_N inputs low; 06 R163; high. -/
  podTripLow : Bool := false
  gtripLow : List Nat := []
  /-- Period counter: its latest known position, counts; the count at which the present period ends; the PERIOD that the
  present period's positions follow; 16 each; 06 R147 R148 R159; DESIGN CHOICE 0. -/
  counter : Nat := 0
  stop : Nat := 0
  posPeriod : Nat := 0
  /-- Sign hold in force, and the counter zeros to come until two full periods of it have passed; 06 R169; 0. -/
  signHold : Bool := false
  holdLeft : Nat := 0
  /-- Reverse operation; 1; 06 R168; 0. -/
  reverse : Bool := false
  /-- Disable ramp: REF it started from, and periods done; 06 R167; none. -/
  ramp : Option (Int × Nat) := none
  /-- Consecutive periods with REF below SHED_LO; 06 R170; 0. -/
  below : Nat := 0
  /-- Consecutive periods with REF above SHED_HI; a restore is due in the next period; 06 R170 R174; 0. -/
  above : Nat := 0
  restoreDue : Bool := false
  /-- Debug halt enabled for the pod, counter frozen; 1 each; 06 R172 R173; 0. -/
  haltEnable : Bool := false
  frozen : Bool := false
  /-- Synchronisation: good edges in a row, missing in a row, correction still to apply; 06 R160; 0. -/
  goodEdges : Nat := 0
  missing : Nat := 0
  correction : Int := 0
  /-- SYNC_LOST raised and not resumed; 1; 06 R160; 0. -/
  syncLost : Bool := false
  /-- Counter zeros since the period that held the last SYNC_IN edge, or should have; an edge has come; 06 R160; 0. -/
  sinceEdge : Nat := 0
  edgeSeen : Bool := false
  /-- Counters: PAIR_SPLIT, trips, sync corrections, reference clamps; 32 each; 06 R175; 0. -/
  splits : Nat := 0
  trips : Nat := 0
  syncs : Nat := 0
  clamps : Nat := 0
  /-- When REF_CLAMPED was last raised; µs; 06 R153; none. -/
  clampTime : Option Nat := none
  /-- Pending Q39 entry of the pod for want of a credit: reference mA; replacements; 08 R217; none, 0. -/
  refDue : Option Int := none
  replaced : Nat := 0
  /-- Period count at which each compare entry last fired; 32; 06 R162; none. -/
  cmpCount : Tbl Nat := []
deriving DecidableEq, Repr

/-! ## Outputs and matrix (chapter 07) -/

/-- A command or poll sent to a pod switch node, with the replies that came on PORT_A and PORT_B (R179). -/
structure SwPoll where
  seq : Half
  sent : Nat
  a : Option PodReply
  b : Option PodReply
  /-- Its state has been accepted; the other port may still answer. -/
  taken : Bool
deriving DecidableEq, Repr

/-- A pod's place in the matrix and its reassignment sequencer. -/
structure Matrix where
  /-- Assigned output, and the output last fed; 07 R181, 06 R173; none. -/
  assigned : Option Nat := none
  fed : Option Nat := none
  /-- Matrix state unknown; 1; 07 R191; 0. -/
  unknown : Bool := false
  /-- The open of every pole pair has been commanded, and verified, since power-up or since the state was unknown; 07 R181
  R191; 0. -/
  openSent : Bool := false
  verified : Bool := false
  /-- The sequence toward HOME after power-up has started, or is not due; 1; 07 R181; 0. -/
  homed : Bool := false
  /-- A poll stayed without the answer of PORT_A, of PORT_B, for the answer timeout, and the port has not answered since;
  1 each; 07 R179; 0. -/
  silentA : Bool := false
  silentB : Bool := false
  /-- Reassignment step, 0 none, 1 to 6 as Table 7-5; 07 R188; 0. -/
  step : Nat := 0
  /-- Old and target output of the sequence; 07 R188; none. -/
  old : Option Nat := none
  target : Option Nat := none
  /-- Rejoining the old output (R190); 1; 0. -/
  rejoin : Bool := false
  /-- Status the sequence will complete with; 07 R188; 0 SUCCESS. -/
  status : Nat := 0
  /-- Start of the sequence and of the present step; µs; 07 R188; 0. -/
  started : Nat := 0
  stepTime : Nat := 0
  /-- Ramp-out has started (a block without the pod has taken force); 1; 07 R188; 0. -/
  ramping : Bool := false
  /-- Blocks that must still take force before the ramp-out starts (R188); 0. -/
  awaitBlock : Bool := false
  /-- SEQ of the last POD_CMD; 16; 07 R179; 0. -/
  seq : Half := 0
  /-- OP, pair of the last POD_CMD; 14 Table 14-7; 0. -/
  op : Nat := 0
  pair : Nat := 0
  /-- Commands and polls whose answers are awaited, oldest first; 07 R179; none. -/
  polls : List SwPoll := []
  /-- Newest reply on PORT_A and PORT_B with its time; 07 R179 R189; none. -/
  replyA : Option (PodReply × Nat) := none
  replyB : Option (PodReply × Nat) := none
  /-- Consecutive polls that meet the present step's condition; 07 R188; 0. -/
  good : Nat := 0
  /-- Close command of step 5 sent; 1; 07 R189; 0. -/
  closeSent : Bool := false
  /-- ΔV beyond the limit since the close command has been journalled; 07 R189; 0. -/
  dvNoted : Bool := false
  /-- Closed pole pairs accepted, and as each port reported them; 16 each; 07 R196; 0. -/
  closed : Half := 0
  closedA : Half := 0
  closedB : Half := 0
  /-- Last pod current mA and ΔV 0.1 V; 07 R196; DESIGN CHOICE 0. -/
  current : Int := 0
  dv : Int := 0
  /-- ΔV at the close; 07 R196; 0. -/
  dvClose : Int := 0
  /-- Replies disagree; 1; 07 R196; 0. -/
  disagree : Bool := false
  /-- Failures of a pole pair to open, in succession, by output; 07 R190; 0. -/
  openFails : Tbl Nat := []
deriving DecidableEq, Repr

/-- An output: its sequencer, the island's supervision of it, and its safe states (chapters 05, 07, 12, 13). -/
structure Output where
  /-- 0 IDLE, 1 CLOSING, 2 SOFT_START, 3 REGULATE, 4 STOPPING, 5 FAULT, 6 RETIRED; 07 R183; 0. -/
  state : Nat := 0
  /-- Retry count; 07 R193; 0. -/
  retries : Nat := 0
  /-- v_req 0.1 V, i_req mA, lowest voltage 0.1 V; 07 R185 R195; DESIGN CHOICE 0. -/
  vReq : Nat := 0
  iReq : Int := 0
  vMin : Nat := 0
  /-- i_lim, mA; 07 R185; 0. -/
  iLim : Int := 0
  /-- 0 none, 1 constant voltage, 2 constant current; 07 R185; 0. -/
  control : Nat := 0
  /-- Contactors commanded closed; 1; 07 R184; 0. -/
  commanded : Bool := false
  /-- When the present wait of CONT_T began, and whether it waits for closed; 07 R183; none. -/
  contactWait : Option (Nat × Bool) := none
  /-- Start of the voltage ramp, µs, and the measured voltage it rises from, 0.1 V; 07 R185 R186; 0. -/
  rampStart : Nat := 0
  rampFrom : Int := 0
  /-- Since when the voltage is within 1 % of target, below 10 % of target with the loop at I_SS; 07 R183 R186; none. -/
  inBand : Option Nat := none
  shortSince : Option Nat := none
  /-- Start of the stop ramp and i_lim then; 07 R187; none. -/
  stopRamp : Option (Nat × Int) := none
  /-- Runs in reverse; the ramp of the current to 0 before a change of direction: its start and i_lim then; 07 R195; 0,
  none. -/
  rev : Bool := false
  signRamp : Option (Nat × Int) := none
  /-- The stop came from REGULATE (R193); 1; 0. -/
  fromRegulate : Bool := false
  /-- Status of the last fault; 16; 07 R193; 0. -/
  faultStatus : Nat := 0
  /-- When both contactors were verified open after a fault; 07 R193; none. -/
  openedAt : Option Nat := none
  /-- Welded contactor: 0 DC+, 1 DC−; 07 R194; none. -/
  welded : Option Nat := none
  /-- Bus voltage 0.1 V, metered voltage 0.1 V, current mA, power W, sample valid; 07 R196; DESIGN CHOICE 0. -/
  busV : Nat := 0
  volts : Int := 0
  amps : Int := 0
  sampleOk : Bool := true
  /-- Grant in force at the island, and the older, larger grants that still count with when each ceases to; 01 R17, 05 R143;
  0, none. -/
  grant : Int := 0
  older : List (Int × Nat) := []
  /-- Since when samples are outside the allowance, since when invalid; 05 R143, 13 R330; none. -/
  outside : Option Nat := none
  invalidSince : Option Nat := none
  /-- Registered vehicle limits, and lowered limits with when they take effect; 13 R328; none. -/
  limits : Option VehLimits := none
  lowered : Option (VehLimits × Nat) := none
  /-- Condition of R328 that holds and since when; 13 R328; none. -/
  limitSince : Option (Nat × Nat) := none
  /-- Safe state: 0 none, 1 normal, 2 emergency; since when; current at entry; cause; 13 R337 R338; 0. -/
  safe : Nat := 0
  safeSince : Nat := 0
  safeAmps : Int := 0
  safeCause : Nat := 0
  /-- Contactors opened in the present safe state; 1; 13 R338; 0. -/
  safeOpened : Bool := false
  /-- Fixed reactions in force on the output (rows of Table 13-9); 13 R322; none. -/
  fixed : List Nat := []
  /-- t_hold started; µs; 18 R440; none. -/
  hold : Option Nat := none
  /-- Since when the insulation-good conditions hold; passed; 13 R329; none. -/
  imdSince : Option Nat := none
  imdPassed : Bool := false
  /-- Counters: soft-start shorts, retries, contactor operations, pods assigned in; 32 each; 07 R196; 0. -/
  shorts : Nat := 0
  retryCount : Nat := 0
  operations : Nat := 0
  podsIn : Nat := 0
deriving DecidableEq, Repr

/-! ## Loop engine (chapter 08) -/

/-- A loop slot. binary32 values are bit patterns. -/
structure Slot where
  /-- 0 OFF, 1 MANUAL, 2 AUTO, 3 FALLBACK; 08 R207; 0. -/
  mode : Nat := 0
  /-- Mode left for FALLBACK; 08 R214; 0. -/
  back : Nat := 0
  /-- Working set: the slot's entry; 256 bytes; 08 R210; the configured set (none loaded). -/
  working : Mem := []
  /-- Configured set while an epoch's entry waits for the slot's boundary: the one before its tick; 256 bytes; 08 R212;
  none. -/
  conf : Option Mem := none
  /-- Counter zeros of the trigger's pod since the last trigger; 08 R199; 0. -/
  zeros : Nat := 0
  /-- Stamp of the measurement that the last sample used (its time or count); 08 R214; DESIGN CHOICE 0. -/
  stamp : Nat := 0
  /-- Setpoint, measurement, error, output, manual value; binary32; 08 R203 R207; 0. -/
  sp : Word := 0
  meas : Word := 0
  err : Word := 0
  out : Word := 0
  manual : Word := 0
  /-- Proportional term, integrator, derivative term, filtered measurement, its previous value; binary32; 08 R203; 0. -/
  p : Word := 0
  i : Word := 0
  d : Word := 0
  mf : Word := 0
  mfPrev : Word := 0
  /-- Biquad section states s1, s2 of sections 1 to 4; binary32; 08 R205; 0. -/
  s1 : List Word := [0, 0, 0, 0]
  s2 : List Word := [0, 0, 0, 0]
  /-- The next AUTO sample presets (R208); the first AUTO sample uses the nominal interval (R199); 1 each; 0. -/
  preset : Bool := false
  first : Bool := true
  /-- Held, saturated high, low, integration stopped; 1 each; 08 R204; 0. -/
  held : Bool := false
  satHi : Bool := false
  satLo : Bool := false
  stopped : Bool := false
  /-- An epoch's entry to take at the next boundary; 1; 08 R209 R212; 0. (Pending writes, reverts, modes and setpoints are
  live commands, R54.) -/
  entryDue : Bool := false
  /-- Following-error timer running since; 08 R213; none. -/
  following : Option Nat := none
  /-- Consecutive samples without a renewed value, and valid samples in FALLBACK; 08 R214; 0. -/
  lostRun : Nat := 0
  validRun : Nat := 0
  /-- Following error was raised and the slot stays saturated high (R259); 1; 0. -/
  derating : Bool := false
  /-- Clamps set by the sequencer on a MATCH_SLOT, A: low, high; 08 R215; none. -/
  clamps : Option (Word × Word) := none
  /-- Counters: samples, skipped triggers, saturated samples, LOOP_FOLLOWING events; 32 each; 08 R223; 0. -/
  samples : Nat := 0
  skips : Nat := 0
  satCount : Nat := 0
  followCount : Nat := 0
  /-- The following-error timer has run out and has not restarted; 08 R213; 0. -/
  followed : Bool := false
deriving DecidableEq, Repr

/-- Geyser (R218 to R221). -/
structure Geyser where
  /-- Injection running: slot, point (0 setpoint, 1 output), signal, amplitude, words 3 and 4, duration ms, start µs,
  samples injected, shift register; 08 R218; idle. -/
  running : Bool := false
  slot : Nat := 0
  point : Nat := 0
  signal : Nat := 0
  amplitude : Word := 0
  word3 : Word := 0
  word4 : Word := 0
  duration : Nat := 0
  start : Nat := 0
  injected : Nat := 0
  shift : Nat := 0
  /-- Present injection value; binary32; 08 R218; 0. -/
  value : Word := 0
  /-- Capture: 0 idle, 1 armed, 2 triggered, 3 complete; 08 R223; 0. -/
  capture : Nat := 0
  signals : List Half := []
  clockSlot : Nat := 0
  every : Nat := 1
  trigger : Nat := 0
  trigArg : Nat := 0
  trigStatus : Nat := 0
  threshold : Word := 0
  preTrig : Nat := 0
  /-- Samples stored, oldest first, one list per stored instant; 65,536 in all; 08 R221; none. -/
  record : List (List Word) := []
  /-- Latest control filter value of each MDAT channel; 16, signed; 08 R202; DESIGN CHOICE 0. -/
  mdat : Tbl Int := []
  /-- Slot samples since the last stored one; trigger index; samples stored after the trigger; 08 R221; 0. -/
  since : Nat := 0
  trigIndex : Nat := 0
  after : Nat := 0
deriving DecidableEq, Repr

/-! ## Connector links and sessions (chapters 09, 10) -/

/-- A connector: pilot, proximity and link. -/
structure Conn where
  /-- Link state, Table 9-6; 09 R243; 0 DISABLED. -/
  link : Nat := 0
  /-- When the link state was entered; µs; 09 CONN_STATUS; 0. -/
  linkTime : Nat := 0
  /-- Filtered pilot state, Table 9-4; 09 R229; DESIGN CHOICE 0 (A). -/
  pilot : Nat := 0
  /-- Pilot form: 0 X1, 1 X2, 2 F, 3 maintenance; 09 R228; 0. -/
  form : Nat := 0
  /-- Form in maintenance command: 0 automatic, else the form commanded; duty 0.1 %; 09 R249; 0. -/
  maint : Nat := 0
  duty : Nat := 0
  /-- High and low plateau, 0.01 V, signed; 16 each; 09 R229; DESIGN CHOICE 0. -/
  high : Int := 0
  low : Int := 0
  /-- Proximity, Ω, 0xFFFF open; 16; 09 R232; DESIGN CHOICE 0xFFFF. -/
  prox : Nat := 0xFFFF
  /-- Modulation: 0 none, 1 Mini-ROBO, 2 STD-ROBO, 3 HS-ROBO, 4 tone map; 09 R236; 0. -/
  modulation : Nat := 0
  /-- Station refused estimation for the life of the link (R236); tone maps valid; refresh in progress; 1 each; 0. -/
  roboOnly : Bool := false
  mapsValid : Bool := false
  refreshing : Bool := false
  /-- Last tone-map refresh, last frame from the peer; µs; 09 R236 R243; 0. -/
  mapTime : Nat := 0
  heard : Nat := 0
  /-- Frames retried in a row; block errors of the last 64 blocks as (bad, all); 09 R236; 0. -/
  retried : Nat := 0
  blocks : List (Nat × Nat) := []
  /-- Network membership key held; 09 R239; 0. -/
  nmk : Bool := false
  /-- SLAC: RunID heard, average attenuation dB, answered, validation toggles, outcome (SLAC_READ [0]), failures in
  succession, last message; 09 R239 to R241; 0. -/
  runId : BitVec 64 := 0
  atten : Nat := 0
  answered : Bool := false
  answeredMask : Half := 0
  toggles : Nat := 0
  outcome : Nat := 0
  failures : Nat := 0
  lastSlac : Nat := 0
  slacSince : Nat := 0
  /-- Counters: frames received, retransmitted for blanking, dropped, refreshes; 32 each; 09 R249; 0. -/
  received : Nat := 0
  blanked : Nat := 0
  dropped : Nat := 0
  refreshes : Nat := 0
  /-- Noise: RMS, blanked fraction of the last frame and highest since clear 0.01 %, frames with blanked samples,
  blanked samples; 09 R249; 0. -/
  rms : Nat := 0
  lastBlank : Nat := 0
  maxBlank : Nat := 0
  blankFrames : Nat := 0
  blankSamples : Nat := 0
  /-- Source address of the newest frame that the connector's station sent; 48; 09 R234; none. -/
  sentFrom : Option (BitVec 48) := none
  /-- Baseband and PHY in a port reset (R246); 1; 0. -/
  inReset : Bool := false
  /-- Since when the high plateau has stood above -LOW_MIN in form F; 09 R231; none. -/
  highSince : Option Nat := none
  /-- Since when proximity has stood at plugged or released while the pilot shows A; raised; 09 R232; none. -/
  proxSince : Option Nat := none
  proxRaised : Bool := false
deriving DecidableEq, Repr

/-- A schedule entry: START s, P_MAX W, P_FIRM W (R262). -/
structure SchedEntry where
  start : Nat
  pMax : Nat
  pFirm : Nat
deriving DecidableEq, Repr

/-- A charging session of a connector. -/
structure Session where
  /-- Table 10-5; 10 R256; 0 IDLE. -/
  state : Nat := 0
  /-- PROTO as Table 10-7; 0 none. -/
  proto : Nat := 0
  /-- 0 none, 1 EIM, 2 PnC. -/
  ident : Nat := 0
  /-- TLS, dynamic control, authorised; 1 each; 10 R270; 0. -/
  tls : Bool := false
  dynamic : Bool := false
  authorised : Bool := false
  /-- TLS_REQ 0: "no TLS" answer due on the next discovery (R253); 1; 0. -/
  plain : Bool := false
  /-- SessionID; 64; 10 R256; 0. -/
  id : BitVec 64 := 0
  evccid : List Byte := []
  emaid : List Byte := []
  /-- Vehicle's limits and latest requests; 10 R257; none. -/
  ev : EvLimits := ⟨none, none, 0, 0, none, none, 0, 0⟩
  vTarget : Nat := 0
  iTarget : Nat := 0
  /-- Pending question: kind, certificates still to ask, when asked, body; 10 R260; none. -/
  question : Option (Nat × List (List Byte) × Nat × List Byte) := none
  /-- QID of the last question; 16, wrapping; 10 R260; 0. -/
  qid : Half := 0
  /-- QIDs of questions that ended by R261; 10 R264; none. -/
  expired : List Half := []
  /-- Schedules offered, chosen one, when the tariff was answered; 10 R262; none. -/
  schedules : List (List SchedEntry) := []
  chosen : Nat := 0
  tariffTime : Nat := 0
  /-- Cap of the authorisation answer and SESSION_LIMIT, W; 10 R257; none. -/
  authCap : Option Nat := none
  hostCap : Option Nat := none
  /-- i_cool, mA; 10 R259; I_MAX at the start of each session, 0. -/
  iCool : Int := 0
  coolTime : Nat := 0
  derate : Bool := false
  /-- Last posted demand W and when; 10 R257; 0. -/
  posted : Nat := 0
  postTime : Nat := 0
  /-- Stop signalled: reason and since when; 10 R266; none. -/
  stopping : Option (Nat × Nat) := none
  /-- The controller stops the output itself (R266); 1; 0. -/
  ownStop : Bool := false
  /-- Start of the session; µs; 10 R271; 0. -/
  started : Nat := 0
  /-- Message in answer to the vehicle: response code last sent (0 OK, 1 ongoing, others the protocol's); 0. -/
  response : Nat := 0
  /-- Status field of the last response: 0 none, 1 stop signalled, 2 emergency shutdown; 10 R266 Table 10-9; 0. -/
  status : Nat := 0
  /-- Limits last stated to the vehicle: charge current mA, charge power W, discharge current mA; MeterInfo, quanta;
  10 R258, 11 R285; 0. -/
  statedI : Int := 0
  statedP : Int := 0
  statedD : Int := 0
  meterInfo : Nat := 0
  /-- Counters: started, authorised, denied, questions ended by timeout; 32 each; 10 R270; 0. -/
  nStarted : Nat := 0
  nAuth : Nat := 0
  nDenied : Nat := 0
  nTimeout : Nat := 0
deriving DecidableEq, Repr

/-! ## Metrology (chapter 11) -/

/-- A register of a point (R280). -/
structure Reg where
  /-- Residue in 2⁻²⁴ quanta; 24; 11 R280; 0. -/
  residue : Nat := 0
  /-- Totaliser; 64; 11 R280; DESIGN CHOICE 0 (kept in MRAM). -/
  total : Nat := 0
  /-- Billing value; 48; 11 R280; DESIGN CHOICE 0 (kept in MRAM). -/
  billing : Nat := 0
  /-- Wrap count; 4; 11 R281; 0. -/
  wraps : Nat := 0
  /-- LOST; 1; 11 R281; 0. -/
  lost : Bool := false
deriving DecidableEq, Repr

/-- A captured set (R282). -/
structure Capture where
  regs : List Reg
  reversals : Nat
  time : Nat
  number : Nat
deriving DecidableEq, Repr

/-- A metering point. -/
structure Point where
  /-- Registers 0 to 5; 11 Table 11-4; 0. -/
  regs : Tbl Reg := []
  /-- Last direction: false import, true export; one counted sample seen; 11 R278; 0. -/
  exporting : Bool := false
  counted : Bool := false
  /-- Reversals in the interval and in the session; 11 R278; 0. -/
  revInt : Nat := 0
  revSession : Nat := 0
  /-- Latest sample: voltage V, current A, power W, exact; 11 R276; 0. -/
  volts : Rat := 0
  amps : Rat := 0
  power : Rat := 0
  valid : Bool := true
  /-- Channel fault in force; consecutive valid samples since; 11 R279; 0. -/
  faulted : Bool := false
  validRun : Nat := 0
  /-- Latest shunt temperature used, °C; its reading has failed; 11 R279; DESIGN CHOICE 25, 0. -/
  shuntTemp : Rat := 25
  tempFault : Bool := false
  /-- AC, newest first: active and reactive products, and [v1, v2, v3, i1, i2, i3] of each sample; frequency 0.01 Hz;
  11 R277; none. -/
  acP : List Rat := []
  acQ : List Rat := []
  acV : List (List Rat) := []
  freq : Nat := 0
  /-- Captured set; 11 R282; none. -/
  capture : Option Capture := none
  capNo : Nat := 0
  /-- The session's record is to open, to close, at the next boundary; 11 R285; 0. -/
  openDue : Bool := false
  closeDue : Bool := false
  /-- RECNO of the open record; 11 R285; none. -/
  record : Option Nat := none
  /-- Metering strobe: site time, voltage, current; 11 R298; none. -/
  strobe : Option (Nat × Rat × Rat) := none
  /-- Gaps, newest first: snapshot time and bound in quanta, none for pending or unbounded; 11 R292; none. -/
  gaps : List (Nat × Option Nat) := []
deriving DecidableEq, Repr

/-- A meter record (Table 11-5) in its slot of the store. -/
structure MRecord where
  recno : Nat
  point : Nat
  conn : Nat
  proto : Nat
  ident : Nat
  sessionId : BitVec 64
  evccid : List Byte
  emaid : List Byte
  startTime : Nat
  stopTime : Nat
  startImp : Nat
  stopImp : Nat
  startExp : Nat
  stopExp : Nat
  reversals : Nat
  rCable : Nat
  gap : Nat
  epoch : Word
  flags : Half
  /-- LEGAL_DIGEST and FW_VERSION at the close. -/
  legal : Digest
  fw : Word
  /-- 0 reserved, 1 open, 2 closed and waiting for its signature, 3 stored. -/
  stage : Nat
  /-- Signatures, as appended to the body. -/
  signature : List Byte
  /-- Its check was found wrong; 19 R453. -/
  damaged : Bool := false
deriving DecidableEq, Repr

/-- A metrology save (R288). -/
structure Save where
  generation : Nat
  time : Nat
  /-- 0 periodic, 1 power-fail, 2 orderly, 3 gate entry. -/
  reason : Nat
  points : Tbl Point
  records : List MRecord
  nextRec : Nat
  complete : Bool
deriving DecidableEq, Repr

/-- Metrology. -/
structure Metro where
  /-- Points 0 to 17; 11 R272; as Point. -/
  points : Tbl Point := []
  /-- Consecutive full-scale samples and fault kind (0 none, 1 no transitions, 2 full scale) of each MDAT channel;
  11 R279; 0. -/
  fullScale : Tbl Nat := []
  chanFault : Tbl Nat := []
  /-- Records reserved, open, waiting and stored; 448 slots; 11 R284; none. -/
  records : List MRecord := []
  /-- Next RECNO; 32; 11 R287; 1. -/
  nextRec : Nat := 1
  /-- RECORD_STORE_FULL raised and not since freed, RECORD_STORE_LOW raised; 1 each; 11 R284; 0. -/
  fullRaised : Bool := false
  lowRaised : Bool := false
  /-- Save slots A and B (MRAM); 11 R288; DESIGN CHOICE none valid. -/
  saveA : Option Save := none
  saveB : Option Save := none
  /-- Totaliser anchor (MRAM): totals by point and register; 11 R288; DESIGN CHOICE none. -/
  anchor : List ((Nat × Nat) × Nat) := []
  anchorTime : Nat := 0
  /-- Last periodic save; µs; saves skipped by the write gate, and skipped since last journalled; 11 R289 R291; 0. -/
  saveTime : Nat := 0
  /-- The next sample boundary, in 1/6 µs; 11 R274; 0. -/
  sampleAt : Nat := 0
  skipped : Nat := 0
  skippedNew : Nat := 0
  /-- Power-fail warning: since when, and when the last power-fail save started; 11 R290; none. -/
  warning : Option Nat := none
  lastFail : Nat := 0
  /-- PFW_N and comparator levels: warning inputs asserted; 11 R290; 0. -/
  warnInput : Bool := false
  clearSince : Option Nat := none
  /-- Snapshot time of a gap whose bound waits for site time (Table 11-8); 64; 11 R292; none. -/
  gapPending : Option Nat := none
  /-- Save whose reads wait for the next sample boundary: its reason, 0 periodic, 1 power-fail; 11 R288 R290; none. -/
  saveDue : Option Nat := none
  /-- Sealed legally relevant set and digest (OTP): bytes of the L fields and LEGAL_DIGEST; 11 R293; DESIGN CHOICE not
  sealed. -/
  sealed : Option (List Byte × Digest) := none
  /-- Running firmware's legal module differs from the seal; 1; 11 R295; 0. -/
  mismatch : Bool := false
deriving DecidableEq, Repr

/-! ## Safety island (chapters 12, 13) -/

/-- An input log entry (R308). -/
structure LogEntry where
  frame : Nat
  /-- SAFE cycle within the frame, of 30,000. -/
  cycle : Nat
  source : Nat
  payload : List Int
deriving DecidableEq, Repr

/-- The supervisor. Channels are 0 A to 3 D. -/
structure Supervisor where
  /-- 0 TMR, 1 PROMOTING, 2 DUAL, 3 VOTER_SAFE; 12 R305; 3, every output at its safe value until the self-test ends
  (R313), DESIGN CHOICE. -/
  mode : Nat := 3
  /-- Channels in the vote; 12 R300; none before the self-test. -/
  active : List Nat := []
  /-- Spare; 12 R309; none. -/
  spare : Option Nat := none
  /-- Parked channels; 12 R312; none. -/
  parked : List Nat := []
  /-- Vote-outs of each channel since its retirement was last cleared; 12 R312; 0. -/
  voteOuts : Tbl Nat := []
  /-- Frame number; 32; 12 R301; 0. -/
  frame : Nat := 0
  /-- When the present frame began; µs; 12 R301 R308; 0. -/
  frameAt : Nat := 0
  /-- Valid checkpoint's frame, the older one's, and the one streaming; 12 R307; checkpoint 0. -/
  checkpoint : Nat := 0
  older : Nat := 0
  streaming : Option Nat := none
  /-- Input log, oldest first; 65,536 entries; 12 R308; empty. -/
  log : List LogEntry := []
  /-- Promotion: spare, replaced channel, kind (1 vote-out, 2 proof test), start µs, stage done (0 start, 1 powered,
  2 tested, 3 loaded, 4 caught up), failed stage; 12 R309; none. -/
  promotion : Option (Nat × Nat × Nat × Nat × Nat) := none
  failStage : Nat := 0
  /-- Proof test in progress, and its result (stage, time); 12 R314; none. -/
  proof : Bool := false
  proofTime : Nat := 0
  proofStage : Nat := 0
  /-- VOTER_SAFE entered at; cause 1 to 6; SOUT dropped; 12 R306; none. -/
  safeSince : Nat := 0
  safeCause : Nat := 0
  dropped : Bool := true
  /-- Start-up self-test done; 1; 12 R313; 0. -/
  started : Bool := false
  /-- Maintenance exit waits for a proof test (Table 12-6); 1; 0. -/
  exitDue : Bool := false
deriving DecidableEq, Repr

/-- A two-channel safety input. -/
structure SafeIn where
  /-- Debounced levels of channels A and B; 1 each; 13 R324; DESIGN CHOICE 0 (pulled low, R471). -/
  a : Bool := false
  b : Bool := false
  /-- In demand, latched, cause of the latch; 13 R324; 0. -/
  demand : Bool := false
  latched : Bool := false
  /-- Both channels have shown the safe level together since the latch; 13 R324; 0. -/
  cleared : Bool := false
  /-- Since when the channels differ; 13 R324; none. -/
  differs : Option Nat := none
deriving DecidableEq, Repr

/-- A safety output. -/
structure SafeOut where
  /-- Energised, readback, faulted, in an off-pulse; 1 each; 13 R323; 0. -/
  energised : Bool := false
  readback : Bool := false
  faulted : Bool := false
  /-- Start of the last off-pulse; µs; 13 R323; 0. -/
  pulseTime : Nat := 0
deriving DecidableEq, Repr

/-- A safety function. -/
structure SafeFn where
  /-- Trigger holds, in demand, awaiting SAFE_ACK; 13 R320 R321; 0. -/
  trigger : Bool := false
  demand : Bool := false
  /-- Demands, saturating; site time of the last; 13 R342; 0. -/
  count : Nat := 0
  time : Nat := 0
deriving DecidableEq, Repr

/-- An axis of the automated connection device. -/
structure Axis where
  /-- Referenced; 1; 13 R331; 0. -/
  referenced : Bool := false
  /-- Position, counts; 64; 13 R331; DESIGN CHOICE 0. -/
  pos : Int := 0
  /-- Count change over the last 10 ms, per ms; 13 R331; 0. -/
  speed : Int := 0
  /-- Edges of the last 10 ms: when, µs, and counts, oldest first; 13 R331; none. -/
  recent : List (Nat × Int) := []
  /-- Travel against the permitted direction; 13 R332; 0. -/
  against : Int := 0
  /-- Violation in force: 0 none, 1 to 5; 13 R332; 0. -/
  violation : Nat := 0
  /-- Safe torque-off demanded by functions or a host; 1; 13 R320; 0. -/
  sto : Bool := false
  /-- Difference of the drive's own position; 13 R342; 0. -/
  plausible : Int := 0
deriving DecidableEq, Repr

/-- A safe connection. -/
structure SafeConn where
  /-- 0 unused or none accepted, 1 up, 2 lost; 13 R335 R336; 0. -/
  state : Nat := 0
  /-- Last accepted SEQ and DATA, when; 13 R335; none. -/
  lastSeq : Option Half := none
  data : BitVec 64 := 0
  lastTime : Nat := 0
  /-- Accepted since a loss (R336); 0. -/
  confirm : Nat := 0
  /-- Copies waiting for their partners, oldest first, each with when it came, µs; 13 R335; none. -/
  waiting : List (SafeMsg × Nat) := []
  /-- Newest accepted drive position (KIND 2), counts; 64; 13 R332 R333; none. -/
  position : Option Int := none
  /-- Counters; 13 R342; 0. -/
  accepted : Nat := 0
  rejected : Nat := 0
  /-- Transmit: SEQ, DATA, last sent, last message; 13 R334; 0. -/
  txSeq : Half := 0
  txData : BitVec 64 := 0
  txTime : Nat := 0
  /-- Holding register of the MSG word that the transmitter has not yet taken, and words replaced in it; 01 Table 1-9;
  none, 0. -/
  msg : Option (Half × BitVec 64) := none
  msgReplaced : Nat := 0
deriving DecidableEq, Repr

/-- The safety island's functions. -/
structure Island where
  /-- Inputs 0 to 23, outputs 0 to 31, functions 0 to 127, axes 0 to 3, connections 0 to 63; 13 R319; as each kind. -/
  inputs : Tbl SafeIn := []
  souts : Tbl SafeOut := []
  fns : Tbl SafeFn := []
  axes : Tbl Axis := []
  conns : Tbl SafeConn := []
  /-- Host safe-state demands: outputs in normal, in emergency, axes; 16, 16, 4; 13 R339; 0. -/
  reqNormal : Half := 0
  reqEmergency : Half := 0
  reqAxes : BitVec 4 := 0
  /-- Maintenance state; 1; 13 R340; 0. -/
  maintenance : Bool := false
  /-- Voted OUT_RAMP, POD_STOP, STO; 16, 8, 4; 12 Table 12-1; DESIGN CHOICE safe values from reset. -/
  outRamp : Half := 0xFFFF
  podStop : BitVec 8 := 0xFF
  sto : BitVec 4 := 0xF
  /-- Safe messages sent (connection, SEQ, DATA), newest first; 13 R334; none. -/
  sent : List (Nat × Half × BitVec 64) := []
  /-- The island's own log: events (status, RESULT) that firmware could not take; at most 256; 01 Table 1-2; none. -/
  kept : List (Nat × Res) := []
deriving DecidableEq, Repr

/-! ## Field bus (chapter 14) -/

/-- A frame that a port offers to the bus: identifier with flags as FRAME_SEND word 0, payload, retry limit. -/
structure TxFrame where
  ident : Word
  payload : List Byte
  retry : Nat
  /-- When it was offered, µs. -/
  since : Nat := 0
deriving DecidableEq, Repr

/-- A host transmit buffer: the frame and the command it completes. -/
structure TxBuf where
  frame : TxFrame
  seat : Nat
  tag : Word
  retries : Nat
deriving DecidableEq, Repr

/-- A host receive object (R352). -/
structure RxObj where
  /-- Identifier, mask, enable, FRAME_RECEIVED; 14 R367; DESIGN CHOICE 0, disabled. -/
  ident : Word := 0
  mask : Word := 0
  enable : Bool := false
  event : Bool := false
  /-- Main and shadow buffers; 14 R352; empty. -/
  main : Option CanFrame := none
  shadow : Option CanFrame := none
  /-- Main buffer held since; frames replaced since the last read; 14 R368; none, 0. -/
  heldSince : Option Nat := none
  replaced : Nat := 0
deriving DecidableEq, Repr

/-- A field-bus port. -/
structure Port where
  /-- 0 unused, 1 error-active, 2 error-passive, 3 bus-off, 4 restricted, 5 retired; 14 R367; 0. -/
  state : Nat := 0
  /-- Transmit and receive error counters; 14 R347; 0. -/
  txErrors : Nat := 0
  rxErrors : Nat := 0
  /-- Times of the bus-offs within 60 s; 14 R347; none. -/
  busOffs : List Nat := []
  /-- When the port last went bus-off; µs; 14 R347; 0. -/
  offAt : Nat := 0
  /-- Port in a reset of scope 4, not rejoined; 14 R349; 0. -/
  resetting : Bool := false
  /-- Counters: frames sent, received, error frames, check mismatches, retransmissions, shadow replacements; 32 each;
  14 R367; 0. -/
  sent : Nat := 0
  received : Nat := 0
  errors : Nat := 0
  mismatches : Nat := 0
  /-- Remote frames ignored, and malformed profile frames discarded; 14 R344 R355; 0. -/
  ignored : Nat := 0
  discarded : Nat := 0
  /-- Frames of the last second: when, µs, and duration, ns, newest first; 14 R365 R367; none. -/
  load : List (Nat × Nat) := []
  retrans : Nat := 0
  shadows : Nat := 0
  /-- Consecutive errors per identifier, and good frames passed since it was marked; 14 R354; 0. -/
  errRun : List (Word × Nat) := []
  /-- Identifiers under quiet time with its start and the error-free frames passed; 14 R354; none. -/
  quiet : List (Word × Nat × Nat) := []
  /-- Last duplicate identifier, its site time, detections; 14 R367; 0. -/
  dupIdent : Word := 0
  dupTime : Nat := 0
  dupCount : Nat := 0
  /-- Host transmit buffers 0 to 3; 14 R367; free. -/
  tx : Tbl (Option TxBuf) := []
  /-- Profile frames offered, in order of posting; 14 R353; none. -/
  profile : List TxFrame := []
  /-- Host receive objects 0 to 15; 14 R352; disabled. -/
  rx : Tbl RxObj := []
deriving DecidableEq, Repr

/-- A field node. -/
structure FNode where
  /-- 0 absent, 1 present, 2 quarantined, 3 retired; 14 R361; 0. -/
  state : Nat := 0
  /-- Has been present before; heard on home port, on PORT_B; duplicate suspected; 1 each; 14 R367; 0. -/
  seen : Bool := false
  heardA : Bool := false
  heardB : Bool := false
  duplicate : Bool := false
  /-- Epoch and digest last reported; 14 R367; none. -/
  epoch : Half := 0
  digest : Option Digest := none
  /-- Last accepted heartbeat; absences, and their times within 10 min; 14 R361; 0. -/
  lastBeat : Nat := 0
  absences : Nat := 0
  absTimes : List Nat := []
  /-- Last accepted SEQ of HB_NODE and REPORT; 14 R357; none. -/
  beatSeq : Option Half := none
  reportSeq : Option Half := none
  /-- Last accepted SEQ of STAGE_RESULT and of COMMIT_ACK; 14 R357; none. -/
  resultSeq : Option Half := none
  ackSeq : Option Half := none
  /-- Newest report and when it came, µs; 14 R362; none. -/
  report : Option NodeReport := none
  reportTime : Nat := 0
  /-- Left in its old configuration by a tick while absent: quarantined until its next heartbeat; 03 R91; 0. -/
  behind : Bool := false
  /-- Configuration transfer of R94: in progress since; retries; 03 R94; none, 0. -/
  transfer : Option Nat := none
  retries : Nat := 0
  /-- Single commit announced for; site time; 14 R364; none. -/
  single : Option Nat := none
deriving DecidableEq, Repr

/-- The field bus. -/
structure Field where
  /-- Ports 0 to 15, field nodes 0 to 511; 14 R344; as each kind. -/
  ports : Tbl Port := []
  nodes : Tbl FNode := []
  /-- SEQ of the next frame, by identifier; 16; 14 R357; DESIGN CHOICE 0. -/
  seqs : List (Word × Half) := []
  /-- Last HB_CTRL since the release of PD9; µs; 14 R360; none. -/
  beat : Option Nat := none
  /-- GRANT frames dropped; 14 R362; 0. -/
  grantsDropped : Nat := 0
deriving DecidableEq, Repr

/-! ## Load switches (chapter 15) -/

/-- A load switch channel. -/
structure LsChan where
  /-- 0 off, 1 on, 2 in inrush window, 3 thermal off, 4 latched, 5 retired, 6 retry burst; 15 R385; 0. -/
  state : Nat := 0
  /-- Command: MODE 1 0 or 1; PWM duty 0.1 %; 15 R373; 0. -/
  command : Nat := 0
  /-- Command that waits for the link; 15 R373 R382; none. -/
  waiting : Option Nat := none
  /-- Latch cause: 0 none, 1 short, 2 overload, 3 thermal; 15 R385; 0. -/
  cause : Nat := 0
  /-- Limitation, lamp clamped, open load reported; 1 each; 15 R385; 0. -/
  limiting : Bool := false
  clamped : Bool := false
  openLoad : Bool := false
  /-- Applied duty 0.1 %, current report, channel-to-case K, VOUT 0.1 V; 15 R385; 0. -/
  duty : Nat := 0
  current : Nat := 0
  temp : Nat := 0
  vout : Nat := 0
  /-- Inrush window: time left ms, exact start µs, pause total µs and pause start; 15 R377 R379; none. -/
  window : Option Nat := none
  pauseTotal : Nat := 0
  pausedAt : Option Nat := none
  /-- Last switch-on, retries of the burst, when the last retry was switched off; 15 R378; 0. -/
  onTime : Nat := 0
  burst : Nat := 0
  burstOff : Option Nat := none
  burstEnded : Bool := false
  /-- Times of latches within 10 min; backoff running since and length; 15 R380; none. -/
  latches : List Nat := []
  backoff : Option (Nat × Nat) := none
  /-- Times of thermal switch-offs within 10 s; 15 R376; none. -/
  thermals : List Nat := []
  /-- LHIN low since (R383); none. -/
  lhinLow : Option Nat := none
  /-- Latches cleared by LHIN while the link was lost, not yet counted (R383); 0. -/
  uncounted : Nat := 0
  /-- Counters: switch-ons, latches, thermal switch-offs, retries, droop pauses; 15 R385; 0. -/
  switchOns : Nat := 0
  latchCount : Nat := 0
  thermalCount : Nat := 0
  retryCount : Nat := 0
  pauses : Nat := 0
deriving DecidableEq, Repr

/-- The load switch die. -/
structure LoadSw where
  /-- Channels 0 to 23; 15 R369; off. -/
  chans : Tbl LsChan := []
  /-- VLS 0.1 V; supply in range; die overtemperature; below DROOP_TH; 15 R371 R376 R379; DESIGN CHOICE 240, in range. -/
  vls : Nat := 240
  supplyOk : Bool := true
  okSince : Option Nat := none
  overtemp : Bool := false
  droop : Bool := false
  /-- Case temperature, 0.1 °C; 15 R376; DESIGN CHOICE 250. -/
  caseTemp : Int := 250
  /-- Link lost since; 15 R382; none. -/
  linkLost : Option Nat := none
  /-- LIMP_N low; LHIN levels; events of LIMP_N that wait for the link (low, site time); 15 R383; high, DESIGN CHOICE 0. -/
  limp : Bool := false
  lhin : BitVec 8 := 0
  limpEvents : List (Bool × Nat) := []
deriving DecidableEq, Repr

/-! ## Keys and trust (chapter 16) -/

/-- A persistent key's record copy in MRAM (Table 16-5). -/
structure KeyCopy where
  type : Nat
  level : Nat
  parent : Nat
  use : Byte
  seats : Byte
  gen : Nat
  pgen : Nat
  wgen : Nat
  /-- The wrapped value as bytes. -/
  wrapped : List Byte
  /-- The copy is whole (its CHECK is correct and WRAPPED unwraps). -/
  whole : Bool
deriving DecidableEq, Repr

/-- A key slot. -/
structure KeySlot where
  /-- 0 empty, 1 in use, 2 stale, 3 loading; 16 R407; 0. -/
  state : Nat := 0
  type : Nat := 0
  level : Nat := 0
  parent : Nat := 0
  use : Byte := 0
  seats : Byte := 0
  gen : Nat := 0
  pgen : Nat := 0
  /-- The key's value in its cell, and the mask it is stored under; 16 R389; none, 0. -/
  value : List Byte := []
  mask : Nat := 0
  /-- When the mask was last replaced; µs; 16 R389; 0. -/
  maskAt : Nat := 0
  /-- References held; 16 R391; 0. -/
  refs : Nat := 0
  /-- Marked for freeing (KEY_DESTROY); stale since; MRAM copies still to clear; 16 R392 R395; none. -/
  freeing : Bool := false
  staleSince : Option Nat := none
  clearDue : Bool := false
  /-- MRAM copies A and B; 16 R394; DESIGN CHOICE none. -/
  copyA : Option KeyCopy := none
  copyB : Option KeyCopy := none
deriving DecidableEq, Repr

/-- A firmware slot in flash (R396). -/
structure FwSlot where
  /-- Flash bytes; 8 MiB; 16 R396; DESIGN CHOICE 0 bytes. -/
  flash : Mem := []
  /-- Image verified valid; 1; 16 R396; DESIGN CHOICE 0. -/
  valid : Bool := false
  svn : Nat := 0
  version : Word := 0
  legal : Digest := 0
  digest : Digest := 0
  /-- Boot state in MRAM: attempts, failed mark; 16 R397; DESIGN CHOICE 0. -/
  attempts : Nat := 0
  failed : Bool := false
deriving DecidableEq, Repr

/-- Sinter, the crypto engine and firmware trust. -/
structure Trust where
  /-- The root is regenerated; 1; 16 R387; 0. -/
  root : Bool := false
  /-- Key slots 2 to 255, and 1 the identity key; 16 R390; empty. -/
  keys : Tbl KeySlot := []
  /-- Mask generation (model's count of remaskings); 16 R389; 0. -/
  masks : Nat := 0
  /-- Address permutation of the key cells and the key of their tags, drawn when PD11 powers up; 16 R389; DESIGN CHOICE 0. -/
  scramble : Nat := 0
  tagKey : Nat := 0
  /-- Certificate store: entry to its DER bytes; 32 entries; 16 R401; DESIGN CHOICE empty. -/
  certs : List (Nat × List Byte) := []
  /-- Factory certificate (entry 0xFF); 16 R401; DESIGN CHOICE empty. -/
  factory : List Byte := []
  /-- Site owner key hash; 256; 16 R400; none set. -/
  owner : Option Digest := none
  /-- Firmware slots A (0) and B (1); 16 R396; DESIGN CHOICE a valid factory image in slot A. -/
  fw : Tbl FwSlot := [(0, { valid := true })]
  /-- Preferred slot; that slot on trial since FW_ACTIVATE; 16 R397 R399; DESIGN CHOICE A, 0. -/
  preferred : Nat := 0
  trial : Bool := false
  /-- Random output stopped by a health test (its number); draws made; 16 R405; 0. -/
  rngFault : Nat := 0
  draws : Nat := 0
  /-- Crypto results held in the engine while Q61 is stalled, with their time; 01 Table 1-2; none. -/
  results : List (Nat × Nat) := []
  /-- Key whose record signing waits was raised (R392); 1; 0. -/
  staleRaised : Bool := false
deriving DecidableEq, Repr

/-! ## Fumarole and power states (chapter 17) -/

/-- A Fumarole rule slot, per connector for IDX 0xFF. -/
structure Rule where
  /-- Result of the compare per connector (or 0); 17 R413; 0. -/
  result : Tbl Bool := []
  /-- Evaluated since it became armed, per connector; 17 R413; 0. -/
  evaluated : Tbl Bool := []
  /-- Filter history per connector, newest first, and IIR value; 17 Table 17-3; none. -/
  history : Tbl (List Int) := []
  iir : Tbl Int := []
  stable : Tbl Int := []
  /-- When it was last evaluated on each connector; µs; 17 R413; 0. -/
  sampled : Tbl Nat := []
  /-- Raw and filtered value of the last sample; 17 R424; 0. -/
  raw : Int := 0
  filtered : Int := 0
  /-- Connector of the last firing, firings, time of the last; 17 R424; 0. -/
  conn : Nat := 0
  firings : Nat := 0
  lastFire : Nat := 0
deriving DecidableEq, Repr

/-- A wake log entry: cause, rule, value, site time, seconds asleep (R424). -/
structure WakeEntry where
  cause : Nat
  rule : Nat
  value : Int
  time : Nat
  asleep : Nat
deriving DecidableEq, Repr

/-- An entry of Fumarole's buffer (R415): rule, edge, connector, filtered value, AON time. -/
structure FumEntry where
  rule : Nat
  rising : Bool
  conn : Nat
  value : Int
  time : Nat
deriving DecidableEq, Repr

/-- Fumarole and the power states. -/
structure Power where
  /-- 0 RUN, 1 IDLE, 2 STANDBY, 3 DORMANT, 4 waking, 5 entering; 17 R424; 4, waking until RUN, DESIGN CHOICE. -/
  state : Nat := 4
  /-- When the state was entered; µs; 0. -/
  since : Nat := 0
  /-- Domains released from reset, bit n = PDn; 13; 17 R409; PD0 only. -/
  domains : BitVec 12 := 1
  /-- Last wake cause, wakes since power-on; 17 R424; 0. -/
  cause : Nat := 0
  wakes : Nat := 0
  /-- Rule of the wake, its value, wake mask still to bring up first; state left; 17 R420; 0. -/
  wakeRule : Nat := 0
  wakeValue : Int := 0
  wakeMask : BitVec 12 := 0
  leftState : Nat := 0
  /-- Wake time: in site time, and in AON time while site time is invalid; 17 R416 R420; none. -/
  wakeAt : Option (Nat × Nat) := none
  /-- Keep mask of load switch channels; 24; 17 R417; 0. -/
  keep : BitVec 24 := 0
  /-- Rules 0 to 31; 17 R412; as Rule. -/
  rules : Tbl Rule := []
  /-- Buffer, oldest first; 64 entries; entries lost, and lost since a drain; 17 R415; none. -/
  buffer : List FumEntry := []
  bufLost : Nat := 0
  bufLostNew : Nat := 0
  /-- Heater line; forced setting (0 rules, 1 on, 2 off) and until when; 17 R414; off. -/
  heater : Bool := false
  force : Nat := 0
  forceEnd : Nat := 0
  /-- Wake log, newest first; 16 entries; 17 R424; none. -/
  log : List WakeEntry := []
  /-- When an output last became IDLE or RETIRED; µs; 17 R411; 0. -/
  idleSince : Nat := 0
  /-- Site time DORMANT was entered (unmetered interval, R419); none. -/
  dormantAt : Option Nat := none
deriving DecidableEq, Repr

/-! ## Faults and journal (chapter 19) -/

/-- A journal entry (Table 19-6), less SEQ and CHECK. -/
structure JEntry where
  code : Half
  time : Nat
  obj : Word
  /-- Bit 0 TIME_INVALID, 1 DEFERRED, 2 CONT, 3 FUMAROLE. -/
  flags : Half
  /-- DATA, six bytes. -/
  data : List Byte
deriving DecidableEq, Repr

/-- A recovery context (R449). -/
structure Recovery where
  unit : Word
  status : Nat
  /-- 1 backoff, 2 attempt. -/
  phase : Nat
  attempt : Nat
  /-- When the next attempt is due; none until the backoff runs. -/
  due : Option Nat
deriving DecidableEq, Repr

/-- Faults, retirement and the Tephra journal. -/
structure Journal where
  /-- Buffer, oldest first; 256 entries; 19 R457; empty. -/
  buffer : List JEntry := []
  /-- Entries lost, and lost since last journalled; 19 R457; 0. -/
  lost : Nat := 0
  lostNew : Nat := 0
  /-- Ring in MRAM: entries with their SEQ, newest first; 8,064; 19 R454; DESIGN CHOICE empty. -/
  ring : List (Nat × JEntry) := []
  /-- Next SEQ; 48; 19 R454; 0. -/
  nextSeq : Nat := 0
  /-- Chain hashes of the blocks in the ring, by block number (SEQ / 63); 19 R456; none. -/
  hashes : List (Nat × Digest) := []
  /-- ANCHOR: hash and SEQ; 19 R456; DESIGN CHOICE 0. -/
  anchorHash : Digest := 0
  anchorSeq : Nat := 0
  /-- Acknowledged SEQ; 48; 19 R458; DESIGN CHOICE none. -/
  ack : Option Nat := none
  /-- Units retired, by handle with subject, in order; retirement map of R447 in MRAM; 19 R447; DESIGN CHOICE none. -/
  retired : List Word := []
  mapSaved : List Word := []
  /-- Status of the fault that retired a unit; 19 Table 19-11; none. -/
  causes : List (Word × Nat) := []
  /-- Times of the transient faults of each unit; 19 R446 R447; none. -/
  counts : List (Word × List Nat) := []
  /-- Recovery contexts, at most eight; waiting faults in order of detection; 19 R449 R450; none. -/
  contexts : List Recovery := []
  waiting : List (Word × Nat) := []
  /-- Check mismatches per structure code: count, site time of the last, when last raised; 19 R453; 0. -/
  checks : Tbl (Nat × Nat × Option Nat) := []
deriving DecidableEq, Repr

/-! ## The whole machine -/

/-- The state of the GSL-9648. -/
structure State where
  /-- Commands that wait, first in, first out; the block's queue of commands; empty. -/
  pending : List Instr := []
  boot : Boot := {}
  clk : Clock := {}
  hostIf : HostIf := {}
  ep : Epoch := {}
  cal : Caldera := {}
  /-- Phases 0 to 47; 06. -/
  phases : Tbl Phase := []
  /-- Pods 0 to 7; 06. -/
  pods : Tbl Pod := []
  /-- Pod matrix, by pod; 07. -/
  matrix : Tbl Matrix := []
  /-- Outputs 0 to 15; 07. -/
  outputs : Tbl Output := []
  /-- Loop slots 0 to 63; 08. -/
  slots : Tbl Slot := []
  geyser : Geyser := {}
  /-- Connectors 0 to 15; 09. -/
  conns : Tbl Conn := []
  /-- Sessions by connector; 10. -/
  sessions : Tbl Session := []
  metro : Metro := {}
  sup : Supervisor := {}
  isl : Island := {}
  field : Field := {}
  ls : LoadSw := {}
  trust : Trust := {}
  power : Power := {}
  jnl : Journal := {}
  /-- AIN channels 0 to 31; 18 R432. -/
  ain : Tbl Ain := []
  /-- Level of the SYNC_OUT ball; 1; 06 R161; low. -/
  syncOut : Bool := false
  /-- Free values drawn so far (model's own; DESIGN CHOICE 0). -/
  free : Nat := 0
deriving DecidableEq, Repr

/-- The machine right after reset: every field at the value the spec states for reset, or that a log entry names. -/
def State.reset : State := {}

end Sys2Proof.Machine
end

