-- ==== Sys2Proof/Config.lean ====
section
/-! DEFINITION. What an implementation fixes and the spec does not, and the free values: constants without a body. The
cryptographic functions that the spec takes from other standards stand here too, as functions whose values no proof
sees. -/

namespace Sys2Proof

/-- A free value: a number that nothing constrains, fresh for each count. -/
opaque Config.freeNat : Nat → Nat

/-- A question ends 2 s before the protocol (Table 10-7) stops letting the charger answer "ongoing" (R261): the time from
the question to that end, µs, is this plus 1. The standards fix the limit, the spec does not give it; the model takes it to
be longer than 2 s (log 42). -/
opaque Config.ongoingEnd : Nat → Nat

/-- Bus voltage of an output, 0.1 V, from the conversion code of its BUS_AIN channel: the board's divider, whose ratio the
spec does not give (R184). -/
opaque Config.busVolts : Nat → Nat → Nat

/-- Feedback taps of Geyser's n-bit PRBS register (Table 8-6): the spec names no polynomial. -/
opaque Config.prbsTaps : Nat → Nat

/-- SHA3-256 (FIPS 202): a function whose values no proof sees. -/
opaque Config.sha3 : List Byte → Digest

/-- Type-examination reference of the part (Table 11-5 TYPE_EXAM), as a number of 24 bytes. -/
opaque Config.typeExam : Nat

/-- What the body of the host seats and queues block says: the spec gives its content (R18, R65), not its layout. -/
opaque Config.seatsOf : List Byte → Machine.SeatsBlock

/-- ML-DSA-44 verification (FIPS 204): public key, message digest, signature. -/
opaque Config.mldsaVerify : List Byte → Digest → List Byte → Bool

/-- Public key of a stored value of a TYPE of Table 16-1. -/
opaque Config.publicKey : Nat → List Byte → List Byte

/-- The site owner's public key, by its hash (R400). -/
opaque Config.ownerKey : Digest → List Byte

/-- KMAC256 (SP 800-185): key, data, customisation string, output bytes, as a number read little-endian. -/
opaque Config.kmac : List Byte → List Byte → String → Nat → Nat

/-- AES-256-GCM opening: key, nonce, additional data, ciphertext with tag; none where the tag is wrong. -/
opaque Config.gcmOpen : List Byte → List Byte → List Byte → List Byte → Option (List Byte)

/-- RFC 5649 wrapping and unwrapping under a key. -/
opaque Config.wrap : Nat → List Byte → List Byte
opaque Config.unwrap : Nat → List Byte → Option (List Byte)

/-- The bytes of a journal slot that was never written, or that failed its read-back, by its sequence. -/
opaque Config.tornSlot : Nat → Nat

/-- MRAM address of the journal ring. -/
opaque Config.journalBase : Nat

/-- The root secret (R387). -/
opaque Config.root : List Byte

/-- The seed of the device identity key that the root derives (R389). -/
opaque Config.identitySeed : List Byte

/-- The firmware key hash fused at the factory (R396). -/
opaque Config.firmwareKeyHash : Digest

/-- A DER entry parses as an X.509 certificate (R407). -/
opaque Config.certParses : List Byte → Bool

end Sys2Proof
end

