-- ==== Sys2Proof/Machine/Ops.lean ====
section
/-! DEFINITION. The named operations over the state: tables, byte memory, results, CRC-32C (R38), configuration
fields, time (R12, R480), completions and events (R36, R37, R48), the journal (R454 to R457), retirement and recovery
contexts (R446 to R451), ownership (R60). -/

namespace Sys2Proof.Machine

/-- What a command answers. -/
abbrev Out := Host.Outcome State Fault Refusal

/-! ## Tables -/

/-- Entry `k` of a sparse table; `d` where it lists none. -/
def tget {α : Type} (t : Tbl α) (k : Nat) (d : α) : α :=
  match t with
  | [] => d
  | (j, v) :: r => if j = k then v else tget r k d

/-- The table with entry `k` set, in rising order of its keys. -/
def tset {α : Type} (t : Tbl α) (k : Nat) (v : α) : Tbl α :=
  match t with
  | [] => [(k, v)]
  | (j, w) :: r => if j = k then (k, v) :: r else if k < j then (k, v) :: (j, w) :: r else (j, w) :: tset r k v

/-- The table with every listed entry mapped. -/
def tmap {α : Type} (f : Nat → α → α) (t : Tbl α) : Tbl α := t.map fun e => (e.1, f e.1 e.2)

/-- Association list with key `k` bound to `v` (its first binding replaced, or a new one at the end). -/
def aset {α β : Type} [DecidableEq α] (l : List (α × β)) (k : α) (v : β) : List (α × β) :=
  match l with
  | [] => [(k, v)]
  | (j, w) :: r => if j = k then (k, v) :: r else (j, w) :: aset r k v

/-- Association list without key `k`. -/
def adel {α β : Type} [DecidableEq α] (l : List (α × β)) (k : α) : List (α × β) := l.filter fun e => decide (e.1 ≠ k)

/-- Value of key `k`. -/
def aget {α β : Type} [DecidableEq α] (l : List (α × β)) (k : α) : Option β :=
  match l with
  | [] => none
  | (j, v) :: r => if j = k then some v else aget r k

/-- Numbers below `n` in rising order. -/
def upTo (n : Nat) : List Nat := List.range n

/-! ## Byte memory -/

/-- The canonical form of a byte memory: strictly rising addresses, no entry equal to 0, what an unlisted one reads. -/
def Memory.wf (m : Mem) : Bool :=
  match m with
  | [] => true
  | [(_, b)] => b != 0
  | (a, b) :: (c, d) :: r => b != 0 && decide (a < c) && Memory.wf ((c, d) :: r)

/-- Byte at an address. -/
def mget (m : Mem) (a : Nat) : Byte :=
  match m with
  | [] => 0
  | (k, b) :: r => if k = a then b else mget r a

/-- Writes one byte and keeps the canonical form. -/
def mput (m : Mem) (a : Nat) (b : Byte) : Mem :=
  match m with
  | [] => if b = 0 then [] else [(a, b)]
  | (k, c) :: r =>
    if a < k then (if b = 0 then (k, c) :: r else (a, b) :: (k, c) :: r)
    else if k = a then (if b = 0 then r else (a, b) :: r)
    else (k, c) :: mput r a b

/-- Writes consecutive bytes. -/
def mputs (m : Mem) (a : Nat) (bs : List Byte) : Mem :=
  match bs with
  | [] => m
  | b :: r => mputs (mput m a b) (a + 1) r

/-- `n` bytes from an address. -/
def mbytes (m : Mem) (a n : Nat) : List Byte := (List.range n).map fun i => mget m (a + i)

/-- Little-endian value of a byte list (R9). -/
def leNat (bs : List Byte) : Nat :=
  match bs with
  | [] => 0
  | b :: r => b.toNat + 256 * leNat r

/-- `n` little-endian bytes of a value (R9). -/
def leBytes (v n : Nat) : List Byte :=
  match n with
  | 0 => []
  | k + 1 => BitVec.ofNat 8 v :: leBytes (v / 256) k

/-- `n` little-endian bytes of a signed value in two's complement. -/
def leInt (v : Int) (n : Nat) : List Byte := leBytes (v % (256 ^ n : Int)).toNat n

/-- Two's complement reading of an unsigned value of `n` bytes. -/
def signed (n v : Nat) : Int := if 2 * v < 256 ^ n then (v : Int) else (v : Int) - (256 ^ n : Int)

/-- Unsigned little-endian field. -/
def fld (m : Mem) (off n : Nat) : Nat := leNat (mbytes m off n)

/-- Signed little-endian field. -/
def sfld (m : Mem) (off n : Nat) : Int := signed n (fld m off n)

/-- binary32 field. -/
def ffld (m : Mem) (off : Nat) : Word := BitVec.ofNat 32 (fld m off 4)

/-! ## Words, handles, results -/

/-- The four bytes of a word, little-endian. -/
def wordBytes (w : Word) : List Byte := leBytes w.toNat 4

/-- Words of a byte list, four bytes each; a last short word is filled with zeros. -/
def bytesWords (bs : List Byte) : List Word :=
  (List.range ((bs.length + 3) / 4)).map fun i => BitVec.ofNat 32 (leNat ((bs.drop (4 * i)).take 4))

/-- Signed reading of a word. -/
def wInt (w : Word) : Int := w.toInt

/-- A handle of Table 2-3. -/
def handle (cls idx : Nat) : Word := BitVec.ofNat 32 (cls * 16777216 + idx)

/-- A handle with the subject of Table 19-8 in bits [23:16]. -/
def handleSub (cls idx sub : Nat) : Word := BitVec.ofNat 32 (cls * 16777216 + sub * 65536 + idx)

/-- CLASS of a handle. -/
def hClass (h : Word) : Nat := h.toNat / 16777216

/-- INDEX of a handle. -/
def hIndex (h : Word) : Nat := h.toNat % 65536

/-- Bits [23:16] of a handle. -/
def hSub (h : Word) : Nat := h.toNat / 65536 % 256

/-- A RESULT (R36) from fields (offset, bytes, value), little-endian; zero elsewhere. -/
def res (l : List (Nat × Nat × Int)) : Res :=
  BitVec.ofNat 128 (l.foldl (fun a f => a + (f.2.2 % (256 ^ f.2.1 : Int)).toNat * 256 ^ f.1) 0)

/-- A RESULT from its bytes. -/
def resBytes (bs : List Byte) : Res := BitVec.ofNat 128 (leNat (bs.take 16))

/-- The 16 bytes of a RESULT. -/
def Res.bytes (r : Res) : List Byte := leBytes r.toNat 16

/-- 1 for true. -/
def bit (b : Bool) : Nat := if b then 1 else 0

/-- Bit `k` of a number. -/
def tst (v k : Nat) : Bool := v.testBit k

/-- The smaller of a value and a field's largest. -/
def sat (n v : Nat) : Nat := min v (2 ^ n - 1)

/-- A 32-bit counter that holds at its end. -/
def bump32 (v : Nat) : Nat := min (v + 1) 4294967295

/-! ## CRC-32C (R38) -/

/-- One bit of the reflected polynomial 0x82F6_3B78. -/
def crcBit (c : Nat) : Nat := if c % 2 = 1 then Nat.xor (c / 2) 0x82F63B78 else c / 2

/-- One byte. -/
def crcByte (c : Nat) (b : Byte) : Nat :=
  crcBit (crcBit (crcBit (crcBit (crcBit (crcBit (crcBit (crcBit (Nat.xor c b.toNat))))))))

/-- CRC-32C with a fold-in word. -/
def crc (fold : Nat) (bs : List Byte) : Nat :=
  Nat.xor (bs.foldl crcByte (Nat.xor 0xFFFFFFFF (fold % 4294967296))) 0xFFFFFFFF

/-- The fold-in word of a queue and its sequence. -/
def foldIn (q : Nat) (seq : Word) : Nat := Nat.xor (q % 64 * 67108864) seq.toNat

/-! ## State access -/

def State.seat (s : State) (n : Nat) : Seat := tget s.hostIf.seats n {}
def State.setSeat (s : State) (n : Nat) (v : Seat) : State :=
  { s with hostIf := { s.hostIf with seats := tset s.hostIf.seats n v } }
def State.ring (s : State) (n k : Nat) : Ring := tget (s.seat n).rings k {}
def State.setRing (s : State) (n k : Nat) (r : Ring) : State :=
  s.setSeat n { s.seat n with rings := tset (s.seat n).rings k r }
def State.iq (s : State) (q : Nat) : IQueue := tget s.hostIf.internal q {}
def State.setIq (s : State) (q : Nat) (v : IQueue) : State :=
  { s with hostIf := { s.hostIf with internal := tset s.hostIf.internal q v } }
def State.counter (s : State) (n : Nat) : Nat := tget s.hostIf.counters n 0
def State.setCounter (s : State) (n v : Nat) : State :=
  { s with hostIf := { s.hostIf with counters := tset s.hostIf.counters n v } }
def State.node (s : State) (n : Nat) : Node := tget s.cal.nodes n {}
def State.setNode (s : State) (n : Nat) (v : Node) : State :=
  { s with cal := { s.cal with nodes := tset s.cal.nodes n v } }
def State.phase (s : State) (n : Nat) : Phase := tget s.phases n {}
def State.setPhase (s : State) (n : Nat) (v : Phase) : State := { s with phases := tset s.phases n v }
def State.pod (s : State) (n : Nat) : Pod := tget s.pods n {}
def State.setPod (s : State) (n : Nat) (v : Pod) : State := { s with pods := tset s.pods n v }
def State.mtx (s : State) (n : Nat) : Matrix := tget s.matrix n {}
def State.setMtx (s : State) (n : Nat) (v : Matrix) : State := { s with matrix := tset s.matrix n v }
def State.output (s : State) (n : Nat) : Output := tget s.outputs n {}
def State.setOutput (s : State) (n : Nat) (v : Output) : State := { s with outputs := tset s.outputs n v }
def State.slot (s : State) (n : Nat) : Slot := tget s.slots n {}
def State.setSlot (s : State) (n : Nat) (v : Slot) : State := { s with slots := tset s.slots n v }
def State.conn (s : State) (n : Nat) : Conn := tget s.conns n {}
def State.setConn (s : State) (n : Nat) (v : Conn) : State := { s with conns := tset s.conns n v }
def State.session (s : State) (n : Nat) : Session := tget s.sessions n {}
def State.setSession (s : State) (n : Nat) (v : Session) : State := { s with sessions := tset s.sessions n v }
def State.point (s : State) (n : Nat) : Point := tget s.metro.points n {}
def State.setPoint (s : State) (n : Nat) (v : Point) : State :=
  { s with metro := { s.metro with points := tset s.metro.points n v } }
def State.port (s : State) (n : Nat) : Port := tget s.field.ports n {}
def State.setPort (s : State) (n : Nat) (v : Port) : State :=
  { s with field := { s.field with ports := tset s.field.ports n v } }
def State.fnode (s : State) (n : Nat) : FNode := tget s.field.nodes n {}
def State.setFnode (s : State) (n : Nat) (v : FNode) : State :=
  { s with field := { s.field with nodes := tset s.field.nodes n v } }
def State.chan (s : State) (n : Nat) : LsChan := tget s.ls.chans n {}
def State.setChan (s : State) (n : Nat) (v : LsChan) : State :=
  { s with ls := { s.ls with chans := tset s.ls.chans n v } }
def State.key (s : State) (n : Nat) : KeySlot := tget s.trust.keys n {}
def State.setKey (s : State) (n : Nat) (v : KeySlot) : State :=
  { s with trust := { s.trust with keys := tset s.trust.keys n v } }
def State.fw (s : State) (n : Nat) : FwSlot := tget s.trust.fw n {}
def State.setFw (s : State) (n : Nat) (v : FwSlot) : State :=
  { s with trust := { s.trust with fw := tset s.trust.fw n v } }
def State.rule (s : State) (n : Nat) : Rule := tget s.power.rules n {}
def State.setRule (s : State) (n : Nat) (v : Rule) : State :=
  { s with power := { s.power with rules := tset s.power.rules n v } }
def State.sin (s : State) (n : Nat) : SafeIn := tget s.isl.inputs n {}
def State.setSin (s : State) (n : Nat) (v : SafeIn) : State :=
  { s with isl := { s.isl with inputs := tset s.isl.inputs n v } }
def State.sout (s : State) (n : Nat) : SafeOut := tget s.isl.souts n {}
def State.setSout (s : State) (n : Nat) (v : SafeOut) : State :=
  { s with isl := { s.isl with souts := tset s.isl.souts n v } }
def State.sfn (s : State) (n : Nat) : SafeFn := tget s.isl.fns n {}
def State.setSfn (s : State) (n : Nat) (v : SafeFn) : State :=
  { s with isl := { s.isl with fns := tset s.isl.fns n v } }
def State.axis (s : State) (n : Nat) : Axis := tget s.isl.axes n {}
def State.setAxis (s : State) (n : Nat) (v : Axis) : State :=
  { s with isl := { s.isl with axes := tset s.isl.axes n v } }
def State.sconn (s : State) (n : Nat) : SafeConn := tget s.isl.conns n {}
def State.setSconn (s : State) (n : Nat) (v : SafeConn) : State :=
  { s with isl := { s.isl with conns := tset s.isl.conns n v } }
def State.ainCh (s : State) (n : Nat) : Ain := tget s.ain n {}
def State.setAin (s : State) (n : Nat) (v : Ain) : State := { s with ain := tset s.ain n v }

/-- Draws one free value: a number that nothing constrains. -/
def State.fresh (s : State) : Nat × State := (Config.freeNat s.free, { s with free := s.free + 1 })

/-- Folds a state change over a list. -/
def overL {α : Type} (l : List α) (f : α → State → State) (s : State) : State := l.foldl (fun t a => f a t) s

/-! ## Time -/

/-- µs of the uptime count (R480). -/
def State.now (s : State) : Nat := s.clk.uptime

/-- What a field of site time carries (R12, R480). -/
def State.time (s : State) : Nat := if s.clk.timeValid then s.clk.tai else s.clk.uptime

/-- A 64-bit count of µs (R12). -/
def wrap64 (t : Nat) : Nat := t % 18446744073709551616

/-- One microsecond of the 1 MHz AON clock passes: the uptime count, and site time while it is valid (R12, R480;
log entry 3). A pulse of SYNC_OUT, 16 counts of 600 MHz, is over (R161). -/
def State.idle (s : State) : State :=
  { s with
    syncOut := false
    clk := { s.clk with
      uptime := s.clk.uptime + 1, tai := if s.clk.timeValid then wrap64 (s.clk.tai + 1) else s.clk.tai } }

/-- At least `d` µs have passed since `t`. -/
def State.after (s : State) (t d : Nat) : Bool := decide (t + d ≤ s.clk.uptime)

/-- A timer that started, if it did, at least `d` µs ago. -/
def State.past (s : State) (o : Option Nat) (d : Nat) : Bool := match o with
  | none => false
  | some t => s.after t d

/-! ## Configuration fields -/

/-- Body of block `k` in force (R76). -/
def State.blk (s : State) (k : Nat) : Mem := tget s.ep.cfg.blocks k []

/-- Field of block `k`; where no configuration is in force, the compiler's default (R445; log entry 12). -/
def State.cfgD (s : State) (k off n dflt : Nat) : Nat := if s.ep.loaded then fld (s.blk k) off n else dflt

/-- Execution timeout of an opcode group, µs (R443, R445). -/
def State.execT (s : State) (g : Nat) : Nat :=
  1000 * s.cfgD 14 (4 * (g - 1)) 4 (if g = 3 ∨ g = 13 then 30000 else 1000)

/-- A timeout of block 14, µs, for a timer that started at `t`: a timer that runs at a tick keeps its length (R459). -/
def State.timeoutAt (s : State) (t off dflt : Nat) : Nat :=
  1000 * match s.ep.timers.find? fun e => decide (t < e.1) with
    | some e => fld e.2 off 2
    | none => s.cfgD 14 off 2 dflt

/-- Continuation timeout of a timer started at `t`, µs. -/
def State.contWait (s : State) (t : Nat) : Nat := s.timeoutAt t 64 100
/-- Completion-queue stall timeout, µs. -/
def State.cqStall (s : State) (t : Nat) : Nat := s.timeoutAt t 66 1000
/-- Stall timeout of Q41 to Q63, µs. -/
def State.fwStall (s : State) (t : Nat) : Nat := s.timeoutAt t 68 500
/-- Switch-node answer timeout, µs. -/
def State.swAnswer (s : State) (t : Nat) : Nat := s.timeoutAt t 70 10
/-- Match timeout, µs. -/
def State.matchTmo (s : State) (t : Nat) : Nat := s.timeoutAt t 72 100
/-- Stage timeout, µs. -/
def State.stageTmo (s : State) (t : Nat) : Nat := s.timeoutAt t 74 5000
/-- Link idle timeout, µs. -/
def State.linkIdle (s : State) (t : Nat) : Nat := s.timeoutAt t 76 2000
/-- Relink timeout, µs. -/
def State.relinkT (s : State) (t : Nat) : Nat := s.timeoutAt t 78 1000
/-- Question timeout of a kind 1 to 3, µs. -/
def State.questionT (s : State) (kind t : Nat) : Nat :=
  if kind = 1 then s.timeoutAt t 80 20000 else if kind = 2 then s.timeoutAt t 82 10000 else s.timeoutAt t 84 5000

/-- The changes of an overlay edit on a configuration (R73). -/
def Edit.apply (c : SiteCfg) : Edit → SiteCfg
  | .bytes kind idx off data =>
    if kind = 1 then { c with blocks := tset c.blocks idx (mputs (tget c.blocks idx []) off data) }
    else match aget c.nodes idx with
      | none => c
      | some m => { c with nodes := aset c.nodes idx (mputs m off data) }
  | .addNode idx body => { c with nodes := tset c.nodes idx body }
  | .removeNode idx => { c with nodes := adel c.nodes idx }
  | .moveNode idx parent =>
    match aget c.nodes idx with
    | none => c
    | some m => { c with nodes := aset c.nodes idx (mputs m 2 (leBytes parent 2)) }

/-- Bytes an edit takes of the overlay's 64 KiB (log entry 14). -/
def Edit.size : Edit → Nat
  | .bytes _ _ _ d => 8 + d.length
  | .addNode _ _ => 96
  | .removeNode _ => 8
  | .moveNode _ _ => 12

/-- Bytes of the overlay in use. -/
def overlaySize (l : List (Edit × Bool)) : Nat := l.foldl (fun a e => a + e.1.size) 0

/-- The running configuration plus the overlay. -/
def State.overlaid (s : State) : SiteCfg := (s.ep.overlay.map (·.1)).foldl Edit.apply s.ep.cfg

/-- What is left of an edit once `n` bytes of a record from an offset have been written anew (R74). -/
def Edit.without (kind idx off n : Nat) : Edit → List Edit
  | .bytes k i o d =>
    if k = kind ∧ i = idx then
      (if d.take (off - o) = [] then [] else [.bytes k i o (d.take (off - o))]) ++
      (if d.drop (off + n - o) = [] then [] else [.bytes k i (max o (off + n)) (d.drop (off + n - o))])
    else [.bytes k i o d]
  | e => [e]

/-- The overlay with one more edit: a write to a field replaces what the overlay held of it, the stage's part among it (R73,
R74). -/
def State.overlayWith (s : State) (e : Edit) : List (Edit × Bool) :=
  (match e with
  | .bytes k i o d => s.ep.overlay.flatMap fun x => (x.1.without k i o d.length).map fun y => (y, x.2)
  | _ => s.ep.overlay) ++ [(e, false)]

/-- Writes an edit into the overlay; none where it would pass 64 KiB (R73). -/
def State.pushEdit (s : State) (e : Edit) : Option State :=
  if overlaySize (s.overlayWith e) ≤ 65536 then some { s with ep := { s.ep with overlay := s.overlayWith e } } else none

/-! ## Tree nodes (R102) -/

/-- Body of a tree node of a configuration. -/
def SiteCfg.node (c : SiteCfg) (n : Nat) : Mem := (aget c.nodes n).getD []
def nKind (m : Mem) : Nat := fld m 0 2
def nParent (m : Mem) : Nat := fld m 2 2
def nClass (m : Mem) : Nat := fld m 4 1
def nBidir (m : Mem) : Bool := tst (fld m 5 1) 0
def nWindow (m : Mem) : Bool := tst (fld m 5 1) 1
def nTherm (m : Mem) : Bool := tst (fld m 5 1) 2
def nWeight (m : Mem) : Nat := fld m 6 2
def nBind (m : Mem) : Nat := fld m 8 2

/-- Children of a node, in rising index (R85, R101). -/
def SiteCfg.children (c : SiteCfg) (n : Nat) : List Nat :=
  (c.nodes.filter fun e => decide (nParent e.2 = n ∧ e.1 ≠ 0)).map (·.1)

/-- A node and its ancestors, at most 17 of them (R101). -/
def SiteCfg.path (c : SiteCfg) (fuel n : Nat) : List Nat :=
  match fuel with
  | 0 => [n]
  | k + 1 => n :: (match aget c.nodes n with
    | none => []
    | some m => if nParent m = 0xFFFF then [] else c.path k (nParent m))

/-- The node of a kind with a binding. -/
def SiteCfg.bound (c : SiteCfg) (kind b : Nat) : Option Nat :=
  (c.nodes.find? fun e => decide (nKind e.2 = kind ∧ nBind e.2 = b)).map (·.1)

/-- Entry of output `o` in the outputs and pod matrix block (Table 7-2). -/
def State.outFld (s : State) (o off n : Nat) : Nat := fld (s.blk 5) (16 + 32 * o + off) n
/-- Entry of pod `p` in the outputs and pod matrix block (Table 7-3). -/
def State.podFld (s : State) (p off n : Nat) : Nat := fld (s.blk 5) (528 + 16 * p + off) n

/-- Output is fitted (Table 7-2 FLAGS). -/
def State.outFitted (s : State) (o : Nat) : Bool := tst (s.outFld o 0 1) 0
/-- CTRL of an output: 0 none, 1 session service, 2 host. -/
def State.outCtrl (s : State) (o : Nat) : Nat := s.outFld o 0 1 / 2 % 4
/-- The fitted output that serves a connector (R226). -/
def State.outOfConn (s : State) (c : Nat) : Option Nat :=
  (upTo 16).find? fun o => s.outFitted o && decide (s.outFld o 1 1 = c)
/-- The connector that an output serves. -/
def State.connOfOut (s : State) (o : Nat) : Option Nat :=
  if s.outFitted o ∧ s.outFld o 1 1 < 16 then some (s.outFld o 1 1) else none

/-- The tree node of an output (Table 4-1). -/
def State.outNode (s : State) (o : Nat) : Option Nat := s.ep.cfg.bound 6 o

/-- The POD_GROUP node whose mask holds a pod. -/
def State.podGroup (s : State) (p : Nat) : Option Nat :=
  (s.ep.cfg.nodes.find? fun e => decide (nKind e.2 = 5) && tst (nBind e.2) p).map (·.1)

/-- Body of a field node. -/
def State.fbody (s : State) (n : Nat) : Mem := (aget s.ep.cfg.fields n).getD []

/-- The tree node nearest above an object, for ownership (R60; log entry 20). -/
def State.nodeOf (s : State) (h : Word) : Option Nat :=
  let i := hIndex h
  if hClass h = 3 then some i
  else if hClass h = 4 then s.outNode i
  else if hClass h = 5 then s.podGroup i
  else if hClass h = 6 then s.podGroup (i / 6)
  else if hClass h = 8 then (if i < 16 then s.outNode i else
    (s.ep.cfg.nodes.find? fun e => decide ((nKind e.2 = 1 ∨ nKind e.2 = 2) ∧ nBind e.2 = i)).map (·.1))
  else if hClass h = 9 then (s.outOfConn i).bind s.outNode
  else if hClass h = 11 then some (fld (s.fbody i) 2 2)
  else none

/-- The seat that owns an object. -/
def State.owner (s : State) (h : Word) : Option Nat := aget s.hostIf.owners h

/-- The seat owns the object or a tree node above it (R60). -/
def State.owns (s : State) (seat : Nat) (h : Word) : Bool :=
  decide (s.owner h = some seat) ||
  match s.nodeOf h with
  | none => false
  | some n => (s.ep.cfg.path 16 n).any fun a => decide (s.owner (handle 3 a) = some seat)

/-! ## Seats -/

/-- A permission mask that admits every opcode of some groups. -/
def groupMask (gs : List Nat) : List (Nat × BitVec 64) := gs.map fun g => (g, BitVec.allOnes 64)

/-- Seat 0 of a device without a running image (R97). -/
def provisioningSeat (link : Bool) : SeatCfg :=
  { role := 0, transport := if link then 0 else 2, port := 0, mac := 0,
    queues := [⟨0, 1, 4, 1⟩, ⟨1, 2, 4, 0⟩], mask := groupMask [1, 2, 3, 13, 14], owns := [], hbTimeout := 1000 }

/-- Seat 0 of a device in recovery (R398). -/
def recoverySeat : SeatCfg :=
  { role := 0, transport := 2, port := 0, mac := 0,
    queues := [⟨0, 1, 4, 1⟩, ⟨1, 2, 4, 0⟩], mask := groupMask [1, 2, 13], owns := [], hbTimeout := 1000 }

/-- The seat's definition in force. -/
def State.seatDef (s : State) (n : Nat) : Option SeatCfg :=
  if s.boot.recovery then (if n = 0 then some recoverySeat else none)
  else if s.boot.provisioning then (if n = 0 then some (provisioningSeat s.boot.pcieLink) else none)
  else aget s.ep.cfg.seats.seats n

/-- Queue `k` of a seat. -/
def State.queueDef (s : State) (n k : Nat) : Option QueueDef := (s.seatDef n).bind fun d => d.queues[k]?

/-- Seats that are defined. -/
def State.seatList (s : State) : List Nat := (upTo 8).filter fun n => (s.seatDef n).isSome

/-- Role of a seat; OBSERVER where it is not defined. -/
def State.role (s : State) (n : Nat) : Nat := match s.seatDef n with
  | none => 3
  | some d => d.role

/-- Partial continued commands of a seat: dequeued and not completed (R41). -/
def State.partials (s : State) (n : Nat) : Nat := ((upTo 4).filter fun k => (s.ring n k).cont.isSome).length

/-- Commands of a seat in flight, from dequeue to completion (R51). -/
def State.inFlight (s : State) (n : Nat) : Nat :=
  (s.hostIf.live.filter fun l => decide (l.seat = n)).length + s.partials n

/-- Commands of the whole device in flight (R51). -/
def State.inFlightAll (s : State) : Nat := s.hostIf.live.length + ((upTo 8).map s.partials).sum

/-- Sets bits of SW_INT_STATUS. -/
def State.setInt (s : State) (n : Nat) (m : BitVec 9) : State :=
  s.setSeat n { s.seat n with intStatus := (s.seat n).intStatus ||| m }

/-! ## Journal (R455, R457, R481) -/

/-- MRAM writes are forbidden by die temperature (R291, R395; Table 18-4). -/
def State.gated (s : State) : Bool := s.clk.inForce.contains 0 || s.clk.inForce.contains 2 || s.clk.diodeFault

/-- Puts an entry into the buffer, marked DEFERRED while writes are forbidden; an entry that finds it full is counted as
lost. -/
def State.jot (s : State) (code : Nat) (obj : Word) (data : List Byte) : State :=
  if s.jnl.buffer.length < 256 then
    let e : JEntry :=
      { code := BitVec.ofNat 16 code, time := s.time, obj := obj, flags := BitVec.ofNat 16 (bit (!s.clk.timeValid) + 2 * bit s.gated),
        data := (data ++ [0, 0, 0, 0, 0, 0]).take 6 }
    { s with jnl := { s.jnl with buffer := s.jnl.buffer ++ [e] } }
  else { s with jnl := { s.jnl with lost := s.jnl.lost + 1, lostNew := s.jnl.lostNew + 1 } }

/-- Journals a condition with its RESULT bytes 0 to 5 (R481). -/
def State.jotRes (s : State) (code : Nat) (obj : Word) (r : Res) : State := s.jot code obj ((Res.bytes r).take 6)

/-- Journals a command: its completion status and its opcode (R481). -/
def State.jotCmd (s : State) (status opcode : Nat) (obj : Word) : State := s.jot status obj (leBytes opcode 2)

/-- Journals a command that the seal of metrology refuses with METRO_SEALED (R5). -/
def State.jotSealed (s : State) (status opcode : Nat) (obj : Word) : State :=
  if status = 0x0901 then s.jotCmd status opcode obj else s

/-- A note of Table 19-11. -/
def State.note (s : State) (kind : Nat) (obj : Word) (data : List Byte) : State :=
  s.jot 0x00C1 obj (BitVec.ofNat 8 kind :: data)

/-! ## Completions and events (R36, R37, R48) -/

/-- The completion with its check (R36, R38). -/
def mkCompletion (q : Nat) (seq tag : Word) (status opecho : Nat) (r : Res) (time : Nat) : Completion :=
  let body := leBytes tag.toNat 4 ++ leBytes status 2 ++ leBytes opecho 2 ++ Res.bytes r ++ leBytes time 4
  { tag := tag, status := BitVec.ofNat 16 status, opecho := BitVec.ofNat 16 opecho, result := r,
    time := BitVec.ofNat 32 time, check := BitVec.ofNat 32 (crc (foldIn q seq) body) }

/-- The eight words of a completion (Table 2-4). -/
def Completion.words (c : Completion) : List Word :=
  [c.tag, BitVec.ofNat 32 (c.status.toNat + 65536 * c.opecho.toNat)] ++ bytesWords (Res.bytes c.result) ++ [c.time, c.check]

/-- Frames of kind 0x03 for the completions of a queue from an index on, at most 32 each (R67). -/
def cqFrames (k : Nat) (first : Half) (l : List Completion) : List CqFrame :=
  (upTo ((l.length + 31) / 32)).map fun i => ⟨k, first + BitVec.ofNat 16 (32 * i), (l.drop (32 * i)).take 32⟩

/-- Frames put on an SGMII seat's Ethernet port (R67). -/
def State.transmit (s : State) (n : Nat) (f : List CqFrame) : State :=
  if (s.seatDef n).map (·.transport) = some 1 then
    { s with hostIf := { s.hostIf with frames := aset s.hostIf.frames n f } }
  else s

/-- Posts a completion or event to completion queue `k` of a seat, with the site time of its TIME field: slot, TAIL,
sequence, CQNE, and on SGMII its frame (R36, R39, R46, R67). -/
def State.putCqAt (s : State) (n k : Nat) (tag : Word) (status opecho : Nat) (r : Res) (time : Nat) : State :=
  match s.queueDef n k with
  | none => s
  | some d =>
    let ring := s.ring n k
    let c := mkCompletion d.qnum ring.seq tag status opecho r time
    let slot := 8 * (ring.tail.toNat % 2 ^ d.depthLog2)
    ((s.setRing n k { ring with
      posted := ring.posted ++ [c], tail := ring.tail + 1, seq := ring.seq + 1,
      slots := (c.words.zipIdx).foldl (fun t w => aset t (slot + w.2) w.1) ring.slots,
      since := if ring.posted = [] then s.now else ring.since }).setInt n (BitVec.ofNat 9 (2 ^ k))).transmit n
      (cqFrames k ring.tail [c])

/-- Posts a completion or event that commits, is rejected or arises now. -/
def State.putCq (s : State) (n k : Nat) (tag : Word) (status opecho : Nat) (r : Res) : State :=
  s.putCqAt n k tag status opecho r s.time

/-- Unreserved slots of completion queue `k` of a seat (R48). -/
def State.freeCq (s : State) (n k : Nat) : Nat :=
  match s.queueDef n k with
  | none => 0
  | some d => 2 ^ d.depthLog2 - ((s.ring n k).posted.length + (s.ring n k).reserved)

/-- Posts EVENTS_LOST to a seat whose events were dropped, once a slot is free (R48). -/
def State.flushLost (s : State) (n : Nat) : State :=
  match (s.seat n).eventQueue with
  | none => s
  | some k =>
    if (s.seat n).dropped = 0 ∨ s.freeCq n k = 0 then s
    else
      let d := (s.seat n).dropped
      (s.setSeat n { s.seat n with dropped := 0 }).putCq n k 0xFFFFFFFF 0x0002 0xF002 (res [(0, 4, d)])

/-- Posts an event to one seat if it subscribed to the group (R37, R48). -/
def State.event1 (s : State) (n group status : Nat) (r : Res) : State :=
  if (s.seat n).groups.getLsbD group = false then s
  else match (s.seat n).eventQueue with
    | none => s
    | some k =>
      let s := s.flushLost n
      if (s.seat n).dropped ≠ 0 ∨ s.freeCq n k = 0 then
        ((s.setSeat n { s.seat n with dropped := (s.seat n).dropped + 1 }).setInt n 0x20).setCounter (16 + n)
          (s.counter (16 + n) + 1)
      else s.putCq n k 0xFFFFFFFF status (0xF000 + group) r

/-- A capture armed on a named event status triggers (R221). -/
def State.captureOn (s : State) (trigger arg : Nat) : State :=
  let g := s.geyser
  if g.capture = 1 ∧ g.trigger = trigger ∧ (if trigger = 5 then g.trigStatus = arg else if trigger = 4 then g.trigArg = arg else True) then
    { s with geyser := { g with capture := 2, trigIndex := g.record.length } }
  else s

/-- Raises an event to every subscribed seat. -/
def State.event (s : State) (group status : Nat) (r : Res) : State :=
  (overL s.seatList (fun n t => t.event1 n group status r) s).captureOn 5 status

/-- Raises an event to the subscribed seats of a role test. -/
def State.eventTo (s : State) (p : Nat → Bool) (group status : Nat) (r : Res) : State :=
  (overL (s.seatList.filter p) (fun n t => t.event1 n group status r) s).captureOn 5 status

/-- Raises an event and journals it. -/
def State.report (s : State) (group status : Nat) (obj : Word) (r : Res) : State :=
  (s.event group status r).jotRes status obj r

/-! ## Live commands (R51, R54 to R57) -/

/-- Index of the completion queue paired with a command queue. -/
def State.pairOf (s : State) (n k : Nat) : Nat := match s.queueDef n k with
  | none => 0
  | some d => d.pair

/-- Gives back one reserved completion slot of a command queue's pair. -/
def State.unreserve (s : State) (n k : Nat) : State :=
  let p := s.pairOf n k
  s.setRing n p { s.ring n p with reserved := (s.ring n p).reserved - 1 }

/-- Posts the completion that a dequeued command holds a slot for; it committed, or was rejected, at a site time. -/
def State.answerAt (s : State) (n k : Nat) (tag : Word) (opcode status : Nat) (r : Res) (time : Nat) : State :=
  (s.unreserve n k).putCqAt n (s.pairOf n k) tag status opcode r time

/-- Posts the completion of a dequeued command that commits or is rejected now. -/
def State.answer (s : State) (n k : Nat) (tag : Word) (opcode status : Nat) (r : Res) : State :=
  s.answerAt n k tag opcode status r s.time

/-- Site time at a live command's commit point; now, where it commits or is rejected now (R36). -/
def State.commitTimeOf (s : State) (order : Nat) : Nat :=
  ((s.hostIf.live.find? fun m => decide (m.order = order)).bind (·.commitTime)).getD s.time

/-- The command is live and has not ended. -/
def State.isLive (s : State) (order : Nat) : Bool :=
  s.hostIf.live.any fun m => decide (m.order = order ∧ m.ended = none)

/-- Ends one live command: its completion is posted, kept while the cores are in reset (R439), or discarded (R64). -/
def State.endLive (s : State) (l : Live) (status : Nat) (r : Res) : State :=
  let t := s.commitTimeOf l.order
  if s.isLive l.order = false then s
  else if s.boot.coreReset then
    { s with hostIf := { s.hostIf with live := s.hostIf.live.map fun m =>
        if m.order = l.order then
          { m with ended := some (status, r), committed := true, deadline := none, commitTime := some t }
        else m } }
  else
    let s := { s with hostIf := { s.hostIf with live := s.hostIf.live.filter fun m => decide (m.order ≠ l.order) } }
    if l.discard then s else s.answerAt l.seat l.queue l.tag l.opcode.toNat status r t

/-- Answers the ABORTs that wait for a target which ended (R57): too late. -/
def State.endAborts (s : State) (l : Live) (status : Nat) : State :=
  overL (s.hostIf.live.filter fun a => decide (a.opcode = 0x0203 ∧ a.keep = [(l.order : Int)]))
    (fun a t => t.endLive a 0x0602 (res [(0, 2, status), (2, 2, l.opcode.toNat)])) s

/-- SEAT_CLOSE `l` may commit: the completion of every earlier command of its seat has been posted (R54, Table 2-6), of
continued ones too. -/
def State.closeReady (s : State) (l : Live) : Bool :=
  (s.hostIf.live.all fun m => decide (m.seat ≠ l.seat ∨ l.order ≤ m.order)) &&
  (upTo 4).all fun k => match (s.ring l.seat k).cont with
    | none => true
    | some w => decide (l.order ≤ w.order)

/-- OBJECT_REASSIGN `l` may commit: the owner's committed commands on the object have completed (Table 2-6). -/
def State.reassignReady (s : State) (l : Live) : Bool :=
  s.hostIf.live.all fun m =>
    decide (¬ (m.committed ∧ m.ended.isNone ∧ m.handle = l.handle ∧ some m.seat = s.owner l.handle ∧ m.order ≠ l.order))

/-- Commits the commands whose commit point waits for others to complete (R54), at most `fuel` of them. -/
def State.settle (s : State) (fuel : Nat) : State :=
  match fuel with
  | 0 => s
  | k + 1 =>
    if s.boot.coreReset then s else
    match s.hostIf.live.find? fun l => decide (l.opcode = 0x0201 ∧ l.ended.isNone) && s.closeReady l with
    | some l =>
      ((s.setSeat l.seat { s.seat l.seat with state := 0 }).endLive l 0 0).settle k
    | none =>
      match s.hostIf.live.find? fun l => decide (l.opcode = 0x0205 ∧ l.ended.isNone) && s.reassignReady l with
      | some l =>
        let old := s.owner l.handle
        let new := (l.params.headD 0).toNat
        let owners := if new = 0xFF then adel s.hostIf.owners l.handle else aset s.hostIf.owners l.handle new
        (({ s with hostIf := { s.hostIf with owners := owners } } : State).endLive l 0
          (res [(0, 1, (old.getD 0xFF : Nat))])).settle k
      | none => s

/-- Commits every command whose commit point waited for completions that have now been posted. -/
def State.settleAll (s : State) : State := s.settle (s.hostIf.live.length + 1)

/-- Completes a live command and the ABORTs that waited for it; those commands that wait for its completion commit
later (R54). -/
def State.endOne (s : State) (l : Live) (status : Nat) (r : Res) : State := (s.endLive l status r).endAborts l status

/-- Completes a live command, then what waited for it. -/
def State.finish (s : State) (l : Live) (status : Nat) (r : Res) : State := (s.endOne l status r).settleAll

/-- Marks a live command committed (R54), at the present site time (R36). -/
def State.commit (s : State) (order : Nat) : State :=
  { s with hostIf := { s.hostIf with live := s.hostIf.live.map fun m =>
      if m.order = order then { m with committed := true, commitTime := some (m.commitTime.getD s.time) } else m } }

/-- Changes what a live command keeps. -/
def State.setKeep (s : State) (order : Nat) (k : List Int) : State :=
  { s with hostIf := { s.hostIf with live := s.hostIf.live.map fun m => if m.order = order then { m with keep := k } else m } }

/-- Live commands of an opcode, oldest first, that have not ended. -/
def State.liveOf (s : State) (opcode : Nat) : List Live :=
  s.hostIf.live.filter fun l => decide (l.opcode.toNat = opcode ∧ l.ended = none)

/-- Live commands of an opcode on an object. -/
def State.liveOn (s : State) (opcode : Nat) (h : Word) : List Live :=
  (s.liveOf opcode).filter fun l => decide (l.handle = h)

/-- Completes every live command of an opcode on an object. -/
def State.finishAll (s : State) (opcode : Nat) (h : Word) (status : Nat) (r : Res) : State :=
  overL (s.liveOn opcode h) (fun l t => t.finish l status r) s

/-! ## Retirement and recovery (R446 to R451) -/

/-- The unit is retired in its own right. -/
def State.isRetired (s : State) (h : Word) : Bool := s.jnl.retired.contains h

/-- Some group above the node is retired (R27). -/
def State.nodeWithdrawn (s : State) (n : Nat) : Bool :=
  (s.ep.cfg.path 16 n).tail.any fun a => (s.node a).retired

/-- Retires a unit: in force at once; the map is written later (R447). -/
def State.retire (s : State) (h : Word) (status : Nat) : State :=
  if s.isRetired h then s
  else { s with jnl := { s.jnl with
    retired := s.jnl.retired ++ [h], causes := aset s.jnl.causes h status,
    contexts := s.jnl.contexts.filter fun c => decide (c.unit ≠ h),
    waiting := s.jnl.waiting.filter fun w => decide (w.1 ≠ h) } }

/-- The time base of fault windows: site time, or uptime while it is not valid (R446). -/
def State.windowTime (s : State) : Nat := s.time

/-- Counts a transient fault of a unit within a window of `w` µs (0: no window); answers the count. -/
def State.countFault (s : State) (h : Word) (w : Nat) : Nat × State :=
  let t := s.windowTime
  let old := ((aget s.jnl.counts h).getD []).filter fun x => decide (w = 0 ∨ t < x + w)
  let new := old ++ [t]
  (new.length, { s with jnl := { s.jnl with counts := aset s.jnl.counts h new } })

/-- Fault count of a unit. -/
def State.faultCount (s : State) (h : Word) : Nat := ((aget s.jnl.counts h).getD []).length

/-- Sets a unit's fault count to 0. -/
def State.clearFaults (s : State) (h : Word) : State :=
  { s with jnl := { s.jnl with counts := adel s.jnl.counts h } }

/-- The recovery context a unit holds. -/
def State.contextOf (s : State) (h : Word) : Option Recovery := s.jnl.contexts.find? fun c => decide (c.unit = h)

/-- The unit holds a context or waits for one: its recovery window (R449). -/
def State.inRecovery (s : State) (h : Word) : Bool :=
  (s.contextOf h).isSome || s.jnl.waiting.any fun w => decide (w.1 = h)

/-- Takes a recovery context for a transient fault, or queues the unit (R449, R450). -/
def State.takeContext (s : State) (h : Word) (status attempt : Nat) (due : Option Nat) : State :=
  match s.contextOf h with
  | some _ => { s with jnl := { s.jnl with contexts := s.jnl.contexts.map fun c =>
      if c.unit = h then { c with status := status, phase := 1, attempt := attempt, due := due } else c } }
  | none =>
    if s.jnl.contexts.length < 8 then
      { s with jnl := { s.jnl with contexts := s.jnl.contexts ++ [⟨h, status, 1, attempt, due⟩] } }
    else if s.jnl.waiting.any (fun w => decide (w.1 = h)) then s
    else
      let s := { s with jnl := { s.jnl with waiting := s.jnl.waiting ++ [(h, status)] } }
      s.report 14 0x05C0 h (res [(0, 4, h.toNat), (4, 2, status), (6, 1, s.jnl.waiting.length)])

/-- Frees a unit's recovery context (R449). -/
def State.freeContext (s : State) (h : Word) : State :=
  { s with jnl := { s.jnl with
    contexts := s.jnl.contexts.filter (fun c => decide (c.unit ≠ h)),
    waiting := s.jnl.waiting.filter (fun w => decide (w.1 ≠ h)) } }

/-- A context's attempt is under way. -/
def State.attemptContext (s : State) (h : Word) : State :=
  { s with jnl := { s.jnl with contexts := s.jnl.contexts.map fun c =>
      if c.unit = h then { c with phase := 2, due := none } else c } }

/-- Raises SECOND_FAULT and retires the unit (R451); the caller takes the safe state of Table 19-4. -/
def State.secondFault (s : State) (h : Word) (first second : Nat) : State :=
  (s.retire h second).report 14 0x0AC0 h (res [(0, 4, h.toNat), (4, 2, first), (6, 2, second)])

/-- Counts a check mismatch of a structure code and raises it at most once per second (R453). -/
def State.checkFault (s : State) (code : Nat) (ident : Nat) : State :=
  let old := tget s.jnl.checks code (0, 0, none)
  let due := match old.2.2 with
    | none => true
    | some t => s.after t 1000000
  let last := if due then some s.now else old.2.2
  let s := { s with jnl := { s.jnl with checks := tset s.jnl.checks code (old.1 + 1, s.time, last) } }
  let r := res [(0, 1, code), (4, 4, ident), (8, 4, old.1 + 1)]
  if code < 5 then s
  else (if due then s.event 14 0x0101 r else s).jotRes 0x0101 0 r

/-! ## Internal queues (R20 to R25) -/

/-- Minimum depth of an internal queue (Table 1-2). -/
def iqMin (q : Nat) : Nat :=
  if q = 33 ∨ q = 34 then 16
  else if q = 40 ∨ q = 41 ∨ (44 ≤ q ∧ q ≤ 51) then 256
  else if (52 ≤ q ∧ q ≤ 59) ∨ q = 62 then 128
  else 64

/-- Depth of an internal queue: the image's, and never less than the minimum (Table 1-2). -/
def State.iqDepth (s : State) (q : Nat) : Nat :=
  match aget s.ep.cfg.seats.depths q with
  | some d => max (2 ^ d) (iqMin q)
  | none => iqMin q

/-- The consumer of an internal queue, and the queue manager in PD4, are out of reset (Tables 1-2, 1-5 and 1-7): the safety
island in PD1, Caldera, the loop engine and the MRAM writer in PD4, the field-bus ports in PD9, the phase array in PD5
and PD6, the vehicle links in PD8, the crypto engine in PD11, firmware in PD3. -/
def State.serves (s : State) (q : Nat) : Bool :=
  let on := fun (d : Nat) => s.power.domains.getLsbD d
  on 4 &&
  (if q = 34 ∨ q = 40 ∨ q = 43 then on 1
   else if q ≤ 33 ∨ q = 62 then true
   else if q ≤ 38 ∨ (48 ≤ q ∧ q ≤ 51) then on 9
   else if q = 39 then on 5 || on 6
   else if 56 ≤ q ∧ q ≤ 59 then on 8
   else if q = 60 then on 11
   else on 3 && !s.boot.coreReset)

/-- Credits of an internal queue (R20): one for each free entry while its consumer is out of reset (R23); Q33 never has more
than three open (R21). -/
def State.credits (s : State) (q : Nat) : Nat :=
  if s.serves q then (if q = 33 then min 3 (s.iqDepth q) else s.iqDepth q) - (s.iq q).entries.length else 0

/-- Posts an entry against a credit; without one it is refused and counted (R20, R22). -/
def State.post (s : State) (q : Nat) (body : List Int) : State :=
  let v := s.iq q
  if s.credits q = 0 then s.setIq q { v with refused := v.refused + 1 }
  else s.setIq q { v with
    entries := v.entries ++ [⟨s.boot.epoch, v.nextSeq, body⟩], tail := v.tail + 1, nextSeq := v.nextSeq + 1,
    since := if v.entries = [] then s.now else v.since }

/-- Takes the oldest entry: an entry of another epoch is discarded and counted, a sequence gap is journalled (R22). -/
def State.take (s : State) (q : Nat) : Option (List Int) × State :=
  match (s.iq q).entries with
  | [] => (none, s)
  | e :: r =>
    let v := s.iq q
    let s' := s.setIq q { v with entries := r, head := v.head + 1, expectSeq := e.seq + 1, since := s.now, stalled := false }
    let s' := if e.seq = v.expectSeq then s'
      else s'.note 2 (handle 2 q) (0 :: leBytes v.expectSeq.toNat 2 ++ leBytes e.seq.toNat 2)
    if e.epoch ≠ s.boot.epoch then
      (none, s'.setIq q { s'.iq q with discards := (s'.iq q).discards + 1 })
    else (some e.body, s')

/-- Posts an entry that its consumer takes at once where it can: the oldest entry taken, if any (R20, R22, R23). -/
def State.hand (s : State) (q : Nat) (body : List Int) : Option (List Int) × State :=
  if s.credits q = 0 then (none, s.post q body) else (s.post q body).take q

/-- A transfer by way of an internal queue (R15): `f` is the consumer's part, once it has taken the entry; `g` the
producer's, whose entry was refused or discarded. -/
def State.viaOr (s : State) (q : Nat) (body : List Int) (f g : State → State) : State :=
  match s.hand q body with
  | (some _, t) => f t
  | (none, t) => g t

/-- A transfer by way of an internal queue whose loss has no further effect. -/
def State.via (s : State) (q : Nat) (body : List Int) (f : State → State) : State := s.viaOr q body f id

/-- Flushes a consumer's inbound queue at its reset and journals how many entries went (R25). -/
def State.flushQ (s : State) (q : Nat) : State :=
  let v := s.iq q
  if v.entries = [] then s
  else (s.setIq q { v with entries := [], head := v.tail, expectSeq := v.nextSeq, stalled := false }).note 3 (handle 2 q)
    (0 :: leBytes v.entries.length 2)

/-- Flushes the inbound queues of a consumer (R25). -/
def State.flushAll (s : State) (qs : List Nat) : State := overL qs (fun q t => t.flushQ q) s

end Sys2Proof.Machine
end

