-- ==== Sys2Proof/Machine/Float.lean ====
section
/-! DEFINITION. IEEE 754 binary32 as the loop engine computes it (R198, R206): each operation is exact, then rounded to
nearest, ties to even, and a subnormal result is flushed to 0. -/

namespace Sys2Proof.Machine

/-- The quiet NaN an invalid operation gives (log entry 21). -/
def fNaN : Word := 0x7FC00000
/-- Sign bit. -/
def fNeg (a : Word) : Bool := a.getLsbD 31
/-- Exponent field. -/
def fExp (a : Word) : Nat := a.toNat / 8388608 % 256
/-- Fraction field. -/
def fFrac (a : Word) : Nat := a.toNat % 8388608
/-- Finite: neither an infinity nor a NaN. -/
def fFinite (a : Word) : Bool := decide (fExp a ≠ 255)
def fIsNaN (a : Word) : Bool := decide (fExp a = 255 ∧ fFrac a ≠ 0)
def fIsInf (a : Word) : Bool := decide (fExp a = 255 ∧ fFrac a = 0)

/-- 2 to an integer power. -/
def pow2 (e : Int) : Rat := if 0 ≤ e then ((2 ^ e.toNat : Nat) : Rat) else 1 / ((2 ^ (-e).toNat : Nat) : Rat)

/-- Value of a finite pattern. -/
def fVal (a : Word) : Rat :=
  let m : Rat := if fExp a = 0 then (fFrac a : Rat) * pow2 (-149)
    else ((fFrac a + 8388608 : Nat) : Rat) * pow2 ((fExp a : Int) - 150)
  if fNeg a then -m else m

/-- Nearest whole number of a value that is not negative, ties to even. -/
def rne (q : Rat) : Nat :=
  let n := q.floor.toNat
  let r := q - (n : Rat)
  if 1 / 2 < r then n + 1 else if r = 1 / 2 then (if n % 2 = 1 then n + 1 else n) else n

/-- Exponent of a positive value: the e with 2^e ≤ q < 2^(e+1). -/
def ratExp (q : Rat) : Int :=
  let e : Int := (q.num.natAbs.log2 : Int) - (q.den.log2 : Int)
  if q < pow2 e then e - 1 else e

/-- Pattern with a sign. -/
def fSigned (neg : Bool) (m : Nat) : Word := BitVec.ofNat 32 (m + if neg then 2147483648 else 0)

/-- The binary32 nearest to a value, its zero with the sign given. -/
def fRound (neg : Bool) (q : Rat) : Word :=
  if q = 0 then fSigned neg 0
  else
    let neg := decide (q < 0)
    let a := if neg then -q else q
    let e := ratExp a
    let m := rne (a * pow2 (23 - e))
    let e := if m = 16777216 then e + 1 else e
    let m := if m = 16777216 then 8388608 else m
    if e < -126 then fSigned neg 0
    else if 127 < e then fSigned neg 0x7F800000
    else fSigned neg ((e + 127).toNat * 8388608 + (m - 8388608))

/-- binary32 nearest to a value. -/
def fOf (q : Rat) : Word := fRound false q

/-- Changes the sign. -/
def fMinus (a : Word) : Word := a ^^^ 0x80000000

/-- Magnitude. -/
def fAbs (a : Word) : Word := a &&& 0x7FFFFFFF

/-- Sum. -/
def fAdd (a b : Word) : Word :=
  if fIsNaN a ∨ fIsNaN b then fNaN
  else if fIsInf a then (if fIsInf b ∧ fNeg a ≠ fNeg b then fNaN else a)
  else if fIsInf b then b
  else fRound (fNeg a && fNeg b) (fVal a + fVal b)

/-- Difference. -/
def fSub (a b : Word) : Word := fAdd a (fMinus b)

/-- Product. -/
def fMul (a b : Word) : Word :=
  let neg := fNeg a != fNeg b
  if fIsNaN a ∨ fIsNaN b then fNaN
  else if fIsInf a ∨ fIsInf b then
    (if (fFinite a ∧ fVal a = 0) ∨ (fFinite b ∧ fVal b = 0) then fNaN else fSigned neg 0x7F800000)
  else fRound neg (fVal a * fVal b)

/-- Quotient. -/
def fDiv (a b : Word) : Word :=
  let neg := fNeg a != fNeg b
  if fIsNaN a ∨ fIsNaN b then fNaN
  else if fIsInf a then (if fIsInf b then fNaN else fSigned neg 0x7F800000)
  else if fIsInf b then fSigned neg 0
  else if fVal b = 0 then (if fVal a = 0 then fNaN else fSigned neg 0x7F800000)
  else fRound neg (fVal a / fVal b)

/-- Ordering value: infinities beyond every finite value. -/
def fKey (a : Word) : Rat :=
  if fIsInf a then (if fNeg a then -pow2 200 else pow2 200) else fVal a

/-- `a < b`; false with a NaN. -/
def fLt (a b : Word) : Bool := !fIsNaN a && !fIsNaN b && decide (fKey a < fKey b)

/-- The smaller of two. -/
def fMin (a b : Word) : Word := if fLt b a then b else a
/-- The larger of two. -/
def fMax (a b : Word) : Word := if fLt a b then b else a
/-- A value kept between two clamps. -/
def fClamp (lo hi a : Word) : Word := fMin hi (fMax lo a)
/-- 1.0. -/
def fOne : Word := 0x3F800000

/-! ## Functions that are not rational (R432, Table 8-6): by series, to about 2⁻⁶⁰ (log entry 27) -/

/-- A value cut to 64 binary places. -/
def cut (q : Rat) : Rat := ((q * 18446744073709551616).floor : Rat) / 18446744073709551616

/-- Sum of `n` terms of a series, each term the previous one times `f k`. -/
def series (f : Nat → Rat) (term : Rat) (k n : Nat) : Rat :=
  match n with
  | 0 => 0
  | m + 1 => term + series f (cut (term * f k)) (k + 1) m

/-- Sum of z^(2k+1) / (2k+1), `n` terms. -/
def atanhSum (z2 zp : Rat) (k n : Nat) : Rat :=
  match n with
  | 0 => 0
  | m + 1 => zp / ((2 * k + 1 : Nat) : Rat) + atanhSum z2 (cut (zp * z2)) (k + 1) m

/-- Natural logarithm of a value from 1 to 2, cut. -/
def lnOne (q : Rat) : Rat := let z := cut ((q - 1) / (q + 1)); cut (2 * atanhSum (cut (z * z)) z 0 20)

/-- Natural logarithm of a positive value. -/
def ratLn (q : Rat) : Rat := let e := ratExp q; cut ((e : Rat) * lnOne 2 + lnOne (cut (q / pow2 e)))

/-- e to a power. -/
def ratPow (q : Rat) : Rat :=
  let l := lnOne 2
  let n := (q / l).floor
  let r := cut (q - (n : Rat) * l)
  cut (series (fun k => r / ((k + 1 : Nat) : Rat)) 1 0 24) * pow2 n

/-- π. -/
def ratPi : Rat := 3141592653589793238462643 / 1000000000000000000000000

/-- Sine of a number of turns. -/
def sinTurns (t : Rat) : Rat :=
  let f := t - (t.floor : Rat)
  let x := cut (2 * ratPi * (if 1 / 2 < f then f - 1 else f))
  let x2 := cut (x * x)
  cut (series (fun k => -x2 / (((2 * k + 2) * (2 * k + 3) : Nat) : Rat)) x 0 16)

end Sys2Proof.Machine
end

