-- ==== Sys2Proof/Machine/Flags.lean ====
section
/-! DEFINITION. The flags of SW_INT_STATUS (Table 2-12) and the interrupt lines they drive (R66, R68), and the
seat-window register values that a read returns (R69, R70). -/

namespace Sys2Proof.Machine

/-- DB_OVERRUN, bit 4. -/
def flagOverrun : BitVec 9 := 0x10
/-- EVENT_LOST, bit 5. -/
def flagLost : BitVec 9 := 0x20
/-- CQ_STALL, bit 6. -/
def flagStall : BitVec 9 := 0x40
/-- CHKERR, bit 7. -/
def flagCheck : BitVec 9 := 0x80
/-- ABSENT, bit 8. -/
def flagAbsent : BitVec 9 := 0x100

/-- MSI-X vectors a PCIe seat's unmasked bits signal: k for CQNE[k], 4 for the others (R66). -/
def State.vectors (s : State) (n : Nat) : List Nat :=
  let m := (s.seat n).intStatus &&& (s.seat n).intMask
  (upTo 4).filter (fun k => m.getLsbD k) ++ (if m.toNat / 16 ≠ 0 then [4] else [])

/-- SPI_IRQ_N of an SPI seat's port is low (R68). -/
def State.spiIrqLow (s : State) (n : Nat) : Bool := (s.seat n).intStatus &&& (s.seat n).intMask != 0

/-- Free slots of a command queue, or completions that wait in a completion queue (SW_QCRED). -/
def State.qcred (s : State) (n k : Nat) : Nat :=
  match s.queueDef n k with
  | none => 0
  | some d =>
    let r := s.ring n k
    let used := (r.tail - r.head).toNat
    if d.kind = 1 then 2 ^ d.depthLog2 - used else used

/-- BT_ID (Table 2-13). -/
def State.btId (s : State) : Word :=
  BitVec.ofNat 32 (0x9648 * 65536 + s.boot.dieRev.toNat * 256 + s.boot.grade)

/-- BT_BOOT_STATUS (Table 2-13). -/
def State.btStatus (s : State) : Word :=
  BitVec.ofNat 32 (s.boot.failCode * 65536 + s.boot.stage * 256 + s.boot.bootsel.toNat * 16 + s.boot.image * 2
    + bit (s.boot.stage = 4))

/-- Word `w` of the ring slots of a seat's queue `k` (R46, R66, R68 operation 0x04): a packet's sixteen words, or a
completion's eight, per slot. -/
def State.readSlot (s : State) (n k w : Nat) : Word :=
  match s.queueDef n k with
  | none => 0
  | some d =>
    if w < (if d.kind = 1 then 16 else 8) * 2 ^ d.depthLog2 then (aget (s.ring n k).slots w).getD 0 else 0

/-- A register of a seat's window, of the boot block from offset 0x1000, or a word of a ring slot from 0x10_0000 (R66,
R68, R69, R70). Reads change nothing but BT_RESET_CAUSE, which RESET_CAUSE_READ reads. -/
def State.readReg (s : State) (n off : Nat) : Word :=
  let seat := s.seat n
  if off = 0 then
    match s.seatDef n with
    | none => 0
    | some d => BitVec.ofNat 32 (d.queues.length * 256 + d.role * 16 + n)
  else if off = 4 then BitVec.ofNat 32 (seat.absences * 65536 + s.inFlight n * 16 + seat.state)
  else if off = 0x0C then seat.heartbeat
  else if off = 0x10 then seat.intStatus.setWidth 32
  else if off = 0x14 then seat.intMask.setWidth 32
  else if 0x40 ≤ off ∧ off < 0xC0 then
    let k := (off - 0x40) / 0x20
    let r := s.ring n k
    match s.queueDef n k with
    | none => 0
    | some d =>
      match (off - 0x40) % 0x20 with
      | 0 => BitVec.ofNat 32 (d.depthLog2 * 4096 + d.kind * 256 + d.pair * 64 + d.qnum)
      | 8 => BitVec.ofNat 32 (r.head.toNat * 65536 + r.tail.toNat)
      | 12 => BitVec.ofNat 32 (s.qcred n k)
      | 16 => r.seq
      | _ => 0
  else if off = 0x1000 then s.btId
  else if off = 0x1004 then s.btStatus
  else if off = 0x1008 then s.boot.fwVersion
  else if off = 0x100C then BitVec.ofNat 32 s.boot.rollback
  else if off = 0x1010 then s.boot.resetCause.setWidth 32
  else if off = 0x1014 then s.boot.uid.setWidth 32
  else if off = 0x1018 then (s.boot.uid >>> 32).setWidth 32
  else if 0x1020 ≤ off ∧ off < 0x1040 then (s.boot.digest >>> (8 * (off - 0x1020))).setWidth 32
  else if off = 0x1040 then s.boot.epoch
  else if 0x100000 ≤ off ∧ off < 0x200000 ∧ off % 4 = 0 then
    s.readSlot n ((off - 0x100000) / 0x40000) (off % 0x40000 / 4)
  else 0

end Sys2Proof.Machine
end

