-- ==== Sys2Proof/Machine/Operands.lean ====
section
/-! DEFINITION. The operands of a host command: its packet in the ring, its checks in the order of R53, its parameter
words, its continuation packets (R41), its buffer (R42), and the shared course of a command from dequeue to its
completion (R46 to R60). -/

namespace Sys2Proof.Machine

/-- Opcode classes (R43). -/
inductive OpClass where
  /-- Read. -/
  | R
  /-- Act on an object. -/
  | A
  /-- Configure. -/
  | C
  /-- Safety. -/
  | S
  /-- Key and trust. -/
  | K
deriving DecidableEq, Repr

/-- Classes a role admits (Table 2-10). -/
def roleAdmits (role : Nat) (c : OpClass) : Bool :=
  match role, c with
  | 0, _ => true
  | _, .R => true
  | 1, .A => true
  | 2, .S => true
  | _, _ => false

/-- Largest INDEX of a class (Table 2-3); none outside the table. -/
def classMax (c : Nat) : Option Nat :=
  [0, 7, 63, 1023, 15, 7, 47, 63, 17, 15, 15, 511, 23, 255, 127, 31, 7, 1][c]?

/-- The buffer a descriptor names (R42). -/
structure Buf where
  addr : Nat
  len : Nat
  /-- What it holds, where the controller reads it. -/
  data : List Byte
  /-- The bus transfer fails. -/
  fails : Bool
deriving DecidableEq, Repr

/-- A command that passed steps 1 to 9 of R53. -/
structure Req where
  seat : Nat
  queue : Nat
  tag : Word
  opcode : Nat
  hnd : Word
  flags : Byte
  params : List Word
  order : Nat
  buf : Option Buf
  /-- A local unit's shadow will report another digest than the intended one (R87). -/
  shadowFault : Bool := false
  /-- The stored record that the command reads fails its check (R453). -/
  mram : Bool := false
deriving DecidableEq, Repr

/-- INDEX of the handle. -/
def Req.idx (q : Req) : Nat := hIndex q.hnd
/-- Parameter word `i`; 0 where PLEN leaves it out (R34). -/
def Req.word (q : Req) (i : Nat) : Word := q.params.getD i 0
/-- Parameter word `i` as a number. -/
def Req.w (q : Req) (i : Nat) : Nat := (q.word i).toNat
/-- Parameter word `i`, signed. -/
def Req.i (q : Req) (i : Nat) : Int := (q.word i).toInt
/-- Two parameter words as 64 bits. -/
def Req.w2 (q : Req) (i : Nat) : Nat := q.w i + q.w (i + 1) * 4294967296

/-- What a table of opcodes says of one (its class, the handles it takes, its span of parameter words, R34). -/
structure CmdInfo where
  opcode : Nat
  cls : OpClass
  /-- Handle classes taken. -/
  handles : List Nat
  lo : Nat
  hi : Nat
  /-- Span with BUF = 1. -/
  loB : Nat := lo
  hiB : Nat := hi
  /-- The controller reads the buffer. -/
  bufIn : Bool := false
  /-- A class A opcode needs ownership (R60); R264 exempts the authority seat's answers. -/
  owned : Bool := true
  /-- The opcode exists. -/
  known : Bool := true
  /-- The handle must name the issuing seat (R482). -/
  ownSeat : Bool := false
  /-- Further conditions of step 7, 8 and 9. -/
  handleOk : Req → State → Bool := fun _ _ => true
  permOk : Req → State → Bool := fun _ _ => true
  ownOk : Req → State → Bool := fun _ _ => true
  /-- A tree-node handle is looked up in the running tree plus the overlay; `2`: its existence is not asked. -/
  view : Req → Nat := fun _ => 0

/-- What a meaning answers to a command that passed its checks. -/
inductive Reply where
  /-- Committed and completed with this status and RESULT. -/
  | done (status : Nat) (r : Res) (s : State)
  /-- Live: completes later. -/
  | live (committed : Bool) (keep : List Int) (s : State)

/-- A completion with a status alone and no effect. -/
def rej (status : Nat) (s : State) : Reply := .done status 0 s

/-- Success with a RESULT and no effect: a read. -/
def reads (s : State) (l : List (Nat × Nat × Int)) : Reply := .done 0 (res l) s

/-- A command whose work another block does by way of an internal queue (R15): without a credit, or with its entry discarded,
it stays live until its execution timeout (Table 1-2). -/
def viaReply (q : Nat) (body : List Int) (f : State → Reply) (s : State) : Reply :=
  match s.hand q body with
  | (some _, t) => f t
  | (none, t) => .live false [] t

/-! ## The ring (R33, R46) -/

/-- The twelve parameter words of a packet. -/
def pktWords (p : Packet) : List Word := (p.params ++ List.replicate 12 0).take 12

/-- The sixteen words of a packet as they stand in its slot (Table 2-1). -/
def pktRaw (opcode : Nat) (p : Packet) : List Word :=
  [BitVec.ofNat 32 (opcode + p.flags.toNat * 65536 + p.plen.toNat * 16777216), p.tag, p.handle] ++ pktWords p ++ [p.check]

/-- CHECK of a packet: CRC-32C over bytes 0 to 59 (R33, R38). -/
def packetCheck (q : Nat) (seq : Word) (opcode : Nat) (p : Packet) : Nat :=
  crc (foldIn q seq) (((pktRaw opcode p).take 15).flatMap wordBytes)

/-- Word `k` of ring slot `i`. -/
def Ring.slotWord (r : Ring) (i k : Nat) : Word := (aget r.slots (i * 16 + k)).getD 0

/-- The sixteen words of the slot at HEAD. -/
def Ring.front (r : Ring) (depth : Nat) : List Word := (upTo 16).map fun k => r.slotWord (r.head.toNat % depth) k

/-- Packets of the queue that wait before its new TAIL at a declaration of absence (R63). -/
def Ring.draining (r : Ring) : Bool := match r.absentTo with
  | none => false
  | some t => decide (r.head ≠ t)

/-- The packet continues the queue's partial command (R41). -/
def Ring.continues (r : Ring) (opcode : Nat) (tag hnd : Word) : Bool := match r.cont with
  | none => false
  | some w => decide (w.tag = tag ∧ w.opcode.toNat = opcode ∧ w.handle = hnd)

/-- Order of the doorbell that posted the packet `i` places behind HEAD (R52). -/
def Ring.bellOf (r : Ring) (i : Nat) : Nat :=
  ((r.bells.find? fun b => decide (i < (b.1 - r.head).toNat)).map (·.2)).getD 0

/-- Tags of the packets that wait in a command queue of a depth, with the order of their doorbells (R52). -/
def Ring.tags (r : Ring) (depth : Nat) : List (Word × Nat) :=
  (upTo (r.tail - r.head).toNat).map fun i => (r.slotWord ((r.head.toNat + i) % depth) 1, r.bellOf i)

/-- A packet with FENCE may leave its queue: every earlier command of the queue has completed, a partial one that the packet
does not continue among them (R50; log entry 89). -/
def fenceOpen (opcode : Nat) (c : Cmd) (s : State) : Bool :=
  let r := s.ring c.seat c.queue
  (r.cont.isNone || r.continues opcode c.pkt.tag c.pkt.handle) &&
  s.hostIf.live.all fun l => decide (l.seat ≠ c.seat ∨ l.queue ≠ c.queue)

/-- The controller dequeues this packet now: it stands at HEAD of a command queue of the seat (R46), firmware runs
(R51), and FENCE, the in-flight limits and a completion slot admit it; a continuation packet takes neither a place nor a
slot (R48, R50, R51). -/
def ready (opcode : Nat) (c : Cmd) (s : State) : Bool :=
  match s.queueDef c.seat c.queue with
  | none => false
  | some d =>
    let r := s.ring c.seat c.queue
    decide (d.kind = 1) && !s.boot.coreReset &&
    (decide (s.boot.stage = 4) || s.boot.provisioning || s.boot.recovery) &&
    decide (r.head ≠ r.tail) && decide (r.front (2 ^ d.depthLog2) = pktRaw opcode c.pkt) &&
    (r.continues opcode c.pkt.tag c.pkt.handle ||
      (decide (s.inFlight c.seat < 256) && decide (s.inFlightAll < 1024) && decide (0 < s.freeCq c.seat d.pair))) &&
    (!c.pkt.flags.getLsbD 2 || fenceOpen opcode c s)

/-- Takes the packet off its ring: HEAD, sequence, the slot of its completion, the order of dequeue (R39, R48). -/
def dequeue (c : Cmd) (s : State) : State :=
  let r := s.ring c.seat c.queue
  let r := { r with
    head := r.head + 1, seq := r.seq + 1, absentTo := if r.absentTo = some (r.head + 1) then none else r.absentTo,
    bells := r.bells.filter fun b => decide (b.1 ≠ r.head + 1) }
  let s := s.setRing c.seat c.queue r
  let p := s.pairOf c.seat c.queue
  let s := s.setRing c.seat p { s.ring c.seat p with reserved := (s.ring c.seat p).reserved + 1 }
  { s with hostIf := { s.hostIf with order := s.hostIf.order + 1 } }

/-! ## The checks (R53) -/

/-- Opcodes that a seat that is not OPEN may use (R61). -/
def openOps : List Nat := [0x0200, 0x0100, 0x0101]

/-- Opcodes that the recovery seat serves, RESET with scope 1 among them (R398). -/
def recoveryOps : List Nat := [0x0200, 0x0100, 0x0101, 0x0D0E, 0x0D11, 0x0104]

/-- The tag is reserved, or live on the seat: of a command dequeued, of an unread completion, or of a command of another
queue that an earlier doorbell than `bell` posted (R52). -/
def tagLive (s : State) (n : Nat) (tag : Word) (bell : Nat) : Bool :=
  decide (tag = 0xFFFFFFFF) || s.hostIf.live.any (fun l => decide (l.seat = n ∧ l.tag = tag)) ||
  (upTo 4).any fun k =>
    (s.ring n k).posted.any (fun c => decide (c.tag = tag)) ||
    (match (s.ring n k).cont with
    | none => false
    | some w => decide (w.tag = tag ∧ w.bell ≤ bell)) ||
    match s.queueDef n k with
    | none => false
    | some d => decide (d.kind = 1) &&
      ((s.ring n k).tags (2 ^ d.depthLog2)).any fun e => decide (e.1 = tag ∧ e.2 < bell)

/-- A handle passes step 7 (R35, R482). -/
def handleOk (i : CmdInfo) (q : Req) (s : State) : Bool :=
  (match classMax (hClass q.hnd) with
    | none => false
    | some m => decide (q.idx ≤ m)) &&
  i.handles.contains (hClass q.hnd) &&
  (!i.ownSeat || decide (q.idx = q.seat)) &&
  (if hClass q.hnd = 1 then (s.seatDef q.idx).isSome
   else if hClass q.hnd = 3 then
    (if i.view q = 0 then (aget s.ep.cfg.nodes q.idx).isSome
     else if i.view q = 1 then (aget s.overlaid.nodes q.idx).isSome else true)
   else if hClass q.hnd = 11 then (aget s.ep.cfg.fields q.idx).isSome
   else true) &&
  i.handleOk q s

/-- The seat's mask and role admit the opcode (R59). -/
def permitted (i : CmdInfo) (q : Req) (s : State) : Bool :=
  match s.seatDef q.seat with
  | none => false
  | some d => ((aget d.mask (i.opcode / 256)).getD 0).getLsbD (i.opcode % 256) && roleAdmits d.role i.cls && i.permOk q s

/-- The command needs ownership of its object (R60). -/
def needsOwner (i : CmdInfo) (q : Req) (s : State) : Bool := i.owned && decide (i.cls = .A ∧ s.role q.seat ≠ 0)

/-- How a packet left its ring. -/
structure Taken where
  /-- It waited there when its seat was declared absent (R63). -/
  drained : Bool
  /-- Order of the doorbell that posted it (R52). -/
  bell : Nat
deriving DecidableEq, Repr

/-- A command as its packets give it. -/
structure Given where
  tag : Word
  handle : Word
  flags : Byte
  params : List Word
  rsvd : Bool
  badLength : Bool
  taken : Taken
deriving DecidableEq, Repr

/-- What one packet gives. -/
def pktGiven (p : Packet) (k : Taken) : Given :=
  { tag := p.tag, handle := p.handle, flags := p.flags, params := (pktWords p).take p.plen.toNat,
    rsvd := decide (p.flags.toNat / 8 ≠ 0 ∨ hSub p.handle ≠ 0) || ((pktWords p).drop p.plen.toNat).any (· ≠ 0),
    badLength := decide (12 < p.plen.toNat), taken := k }

/-- The command of a request. -/
def Given.req (g : Given) (i : CmdInfo) (c : Cmd) (order : Nat) : Req :=
  { seat := c.seat, queue := c.queue, tag := g.tag, opcode := i.opcode, hnd := g.handle, flags := g.flags,
    params := g.params, order := order, buf := none, shadowFault := c.shadowFault, mram := c.mram }

/-- Steps 2 to 9 of R53: the status of the first that fails. A packet that waited in its ring when its seat was declared
absent fails at step 2 (R63). -/
def checks (i : CmdInfo) (g : Given) (q : Req) (s : State) : Option Nat :=
  let span := if g.flags.getLsbD 1 then decide (i.loB ≤ g.params.length ∧ g.params.length ≤ i.hiB)
    else decide (i.lo ≤ g.params.length ∧ g.params.length ≤ i.hi)
  if g.taken.drained then some 0x0305
  else if (s.seat q.seat).state ≠ 1 ∧ ¬ openOps.contains i.opcode then some 0x0302
  else if ¬ i.known ∨ (s.boot.recovery ∧ ¬ (recoveryOps.contains i.opcode ∧ (i.opcode = 0x0104 → q.w 0 = 1))) then
    some 0x0102
  else if tagLive s q.seat q.tag g.taken.bell then some 0x0103
  else if g.badLength ∨ span = false then some 0x0105
  else if g.rsvd then some 0x0104
  else if handleOk i q s = false then some 0x0107
  else if permitted i q s = false then some 0x0201
  else if (needsOwner i q s ∧ s.owns q.seat q.hnd = false) ∨ i.ownOk q s = false then some 0x0202
  else none

/-- The buffer descriptor of a command with BUF = 1 (R42): a status, or the buffer. -/
def bufferOf (i : CmdInfo) (c : Cmd) (q : Req) (s : State) : Except Nat (Option Buf) :=
  if q.flags.getLsbD 1 = false then .ok none
  else if (match s.seatDef q.seat with
    | none => true
    | some d => decide (d.transport ≠ 0)) then .error 0x0109
  else if 1048576 < q.w 2 then .error 0x0502
  else if q.w 2 = 0 ∨ q.w 2 % 4 ≠ 0 then .error 0x0108
  else if i.bufIn then
    let data := (c.buf ++ List.replicate (q.w 2) 0).take (q.w 2)
    if c.busError then .error 0x0801
    else if crc q.tag.toNat data ≠ q.w 3 then .error 0x0101
    else .ok (some ⟨q.w2 0, q.w 2, data, false⟩)
  else .ok (some ⟨q.w2 0, q.w 2, [], c.busError⟩)

/-- Writes data into a command's host buffer before its commit point (R42). -/
def writeBuf (q : Req) (data : List Byte) (s : State) : Except Nat State :=
  match q.buf with
  | none => .error 0x0108
  | some b =>
    if b.len < data.length then .error 0x0530
    else if b.fails then .error 0x0801
    else .ok { s with hostIf := { s.hostIf with dma := aset s.hostIf.dma b.addr data } }

/-! ## The course of a command -/

/-- Counts a CHECK_MISMATCH completion of a seat (Table 2-7) and of the structure (R453). -/
def countMismatch (n structCode : Nat) (s : State) : State :=
  (s.setCounter n (s.counter n + 1)).checkFault structCode 0

/-- When the execution timeout of a command expires: of its group from its dequeue, for EPOCH_COMMIT with the interval to
the tick it announces; none for an ABORT that waits for its target (R55, R57, R444). -/
def deadlineOf (opcode : Nat) (s0 s : State) : Option Nat :=
  if opcode = 0x0203 then none
  else some (s0.now + s0.execT (opcode / 256) + (if opcode = 0x0302 then s.ep.tick.getD 0 - s0.clk.tai else 0))

/-- Carries out what a meaning answered. -/
def conclude (i : CmdInfo) (q : Req) (s0 : State) : Reply → State
  | .done status r s => (s.answer q.seat q.queue q.tag i.opcode status r).settleAll
  | .live committed keep s =>
    let l : Live :=
      { seat := q.seat, queue := q.queue, tag := q.tag, opcode := BitVec.ofNat 16 i.opcode, handle := q.hnd,
        params := q.params, committed := committed, needsOwner := needsOwner i q s0, discard := false,
        deadline := deadlineOf i.opcode s0 s, order := q.order, keep := keep, ended := none,
        commitTime := if committed then some s.time else none }
    ({ s with hostIf := { s.hostIf with live := s.hostIf.live ++ [l] } } : State).settleAll

/-- Counts the ECC errors that the SRAM shows in a command's state (Table 2-6 SRAM_STATUS). -/
def countEcc (c : Cmd) (s : State) : State :=
  match c.sram with
  | none => s
  | some (false, _) => { s with hostIf := { s.hostIf with sramCorrected := bump32 s.hostIf.sramCorrected } }
  | some (true, a) => { s with hostIf := { s.hostIf with
      sramUncorrectable := bump32 s.hostIf.sramUncorrectable, sramAddress := a } }

/-- An uncorrectable ECC error stands in the command's state: it completes with SRAM_UNCORRECTABLE before its commit point
(Table 2-14; log entry 90). -/
def eccLost (c : Cmd) : Bool := match c.sram with
  | some (true, _) => true
  | _ => false

/-- Runs a command whose packets are complete: steps 2 to 10 of R53. -/
def runCmd (i : CmdInfo) (c : Cmd) (g : Given) (f : Req → State → Reply) (s : State) : State :=
  let q := g.req i c (s.hostIf.order - 1)
  match checks i g q s with
  | some st => s.answer c.seat c.queue g.tag i.opcode st 0
  | none =>
    let s := countEcc c s
    if eccLost c then s.answer c.seat c.queue g.tag i.opcode 0x0802 0
    else match bufferOf i c q s with
    | .error st =>
      let s := if st = 0x0101 then countMismatch c.seat 3 s else s
      s.answer c.seat c.queue g.tag i.opcode st 0
    | .ok b =>
      let q := { q with buf := b }
      conclude i q s (f q s)

/-- A packet that starts a command: alone, or as the first of several (R41). -/
def startCmd (i : CmdInfo) (c : Cmd) (k : Taken) (f : Req → State → Reply) (s : State) : State :=
  let g := pktGiven c.pkt k
  if c.pkt.flags.getLsbD 0 then
    s.setRing c.seat c.queue { s.ring c.seat c.queue with
      cont := some ⟨BitVec.ofNat 16 i.opcode, g.tag, g.handle, g.flags, g.params, 1, g.rsvd, g.badLength, s.now,
        s.hostIf.order - 1, k.bell⟩ }
  else runCmd i c g f s

/-- The partial command of a queue is dropped and completes with a status (R41). -/
def endCont (n k : Nat) (status : Nat) (s : State) : State :=
  match (s.ring n k).cont with
  | none => s
  | some w => (s.setRing n k { s.ring n k with cont := none }).answer n k w.tag w.opcode.toNat status 0

/-- A packet whose check is right, with the continuation that its queue may hold (R41). -/
def assemble (i : CmdInfo) (c : Cmd) (k : Taken) (f : Req → State → Reply) (s : State) : State :=
  match (s.ring c.seat c.queue).cont with
  | none => startCmd i c k f s
  | some w =>
    if (s.ring c.seat c.queue).continues i.opcode c.pkt.tag c.pkt.handle then
      let p := pktGiven c.pkt k
      let s := s.unreserve c.seat c.queue
      let w := { w with
        flags := w.flags ||| c.pkt.flags, params := w.params ++ p.params, packets := w.packets + 1,
        rsvd := w.rsvd || p.rsvd, badLength := w.badLength || p.badLength, since := s.now }
      if c.pkt.flags.getLsbD 0 then
        let s := s.setRing c.seat c.queue { s.ring c.seat c.queue with cont := some w }
        if w.packets = 16 then endCont c.seat c.queue (if k.drained then 0x0305 else 0x0105) s else s
      else
        let s := s.setRing c.seat c.queue { s.ring c.seat c.queue with cont := none }
        runCmd i c ⟨w.tag, w.handle, w.flags, w.params, w.rsvd, w.badLength, { k with bell := w.bell }⟩ f s
    else startCmd i c k f (endCont c.seat c.queue (if k.drained then 0x0305 else 0x0106) s)

/-- A continued command whose last packets were not in the ring when its seat was declared absent completes once the ring
has drained (R63). -/
def drainEnd (c : Cmd) (k : Taken) (s : State) : State :=
  if k.drained ∧ (s.ring c.seat c.queue).absentTo = none then endCont c.seat c.queue 0x0305 s else s

/-- The packet's check is right (R38, R40). -/
def checkRight (opcode : Nat) (c : Cmd) (s : State) : Bool :=
  match s.queueDef c.seat c.queue with
  | none => false
  | some d => decide (packetCheck d.qnum (s.ring c.seat c.queue).seq opcode c.pkt = c.pkt.check.toNat)

/-- A packet whose check fails (R40): TAG and OPECHO as received, CHKERR, the journal, and no effect. -/
def badCheck (opcode : Nat) (c : Cmd) (s : State) : State :=
  let q := match s.queueDef c.seat c.queue with
    | none => 0
    | some d => d.qnum
  let s := (countMismatch c.seat 1 (s.setInt c.seat flagCheck)).jot 0x0101 (handle 1 c.seat)
    (leBytes opcode 2 ++ [BitVec.ofNat 8 q])
  s.answer c.seat c.queue c.pkt.tag opcode 0x0101 0

/-- The state after one host command's packet has come to the front (R46 to R60). -/
def hostStep (i : CmdInfo) (c : Cmd) (f : Req → State → Reply) (s : State) : State :=
  if ready i.opcode c s then
    let k : Taken := ⟨(s.ring c.seat c.queue).draining, (s.ring c.seat c.queue).bellOf 0⟩
    let t := dequeue c s
    drainEnd c k (if checkRight i.opcode c s then assemble i c k f t else badCheck i.opcode c t)
  else s

/-- The meaning of a host command over its group's own part. -/
def host (i : CmdInfo) (c : Cmd) (f : Req → State → Reply) (s : State) : Out := .next (hostStep i c f s)

/-- Ownership still holds at a deferred commit point (R56). -/
def ownedAtCommit (l : Live) (s : State) : Bool := !l.needsOwner || s.owns l.seat l.handle

/-- A live command reaches its commit point: NOT_OWNER (R56), or its effect and completion by `f`. -/
def commitLive (l : Live) (f : State → State) (s : State) : State :=
  if ownedAtCommit l s then f s else s.finish l 0x0202 0

end Sys2Proof.Machine
end

