-- ==== Sys2Proof/Machine/Loads.lean ====
section
/-! DEFINITION. The load switches (chapter 15): channels, inrush windows, retry bursts, latches, the link, limp-home, and
the load-switch commands; and the overlay write that every CONFIG_SET command shares (R73). -/

namespace Sys2Proof.Machine

/-- An opcode's line of its table, with BUF = 0 and BUF = 1 spans alike. -/
def line (opcode : Nat) (cls : OpClass) (handles : List Nat) (lo hi : Nat) : CmdInfo :=
  { opcode := opcode, cls := cls, handles := handles, lo := lo, hi := hi }

/-- Writes `count` parameter words into the overlay of a block at `base` plus the offset of word 0 (R73): the common
form of LS_CONFIG_SET, RULE_CONFIG_SET, METRO_CONFIG_SET and LOOP_CONFIG_SET. `last` is the highest offset. -/
def configSet (block base last : Nat) (q : Req) (s : State) : Reply :=
  let off := q.w 0
  let n := q.w 1
  if off % 4 ≠ 0 ∨ last < off ∨ n = 0 ∨ 10 < n ∨ last + 4 < off + 4 * n ∨ q.params.length < 2 + n then rej 0x0108 s
  else
    let data := ((q.params.drop 2).take n).flatMap wordBytes
    match s.pushEdit (.bytes 1 block (base + off) data) with
    | none => rej 0x0511 s
    | some t => .done 0 0 t

/-! ## Geyser's injection (R220) -/

/-- Ends a running injection with a cause of Table 8-7. -/
def endInjection (cause : Nat) (s : State) : State :=
  let g := s.geyser
  if g.running then
    ({ s with geyser := { g with running := false, value := 0 } } : State).event 16 0x0060
      (res [(0, 1, g.slot), (1, 1, cause), (4, 4, g.injected)])
  else s

/-- Field of a slot's working set. -/
def State.slFld (s : State) (k off n : Nat) : Nat := fld (s.slot k).working off n
/-- Ends the injection where its slot has a destination of these (Tables 8-4 and 8-7). -/
def endInjectionTo (dest : Nat → Bool) (cause : Nat) (s : State) : State :=
  if s.geyser.running && dest (s.slFld s.geyser.slot 16 2) then endInjection cause s else s

/-! ## Channels -/

/-- Entry of a load switch channel (Table 15-3). -/
def State.lsFld (s : State) (c off n : Nat) : Nat := fld (s.blk 11) (16 + 16 * c + off) n
def lsHeavy (c : Nat) : Bool := decide (16 ≤ c)
def State.lsMode (s : State) (c : Nat) : Nat := s.lsFld c 0 1
def State.lsLoad (s : State) (c : Nat) : Nat := s.lsFld c 1 1
def State.lsSrc (s : State) (c : Nat) : Nat := s.lsFld c 2 1
def State.lsAuto (s : State) (c : Nat) : Bool := tst (s.lsFld c 3 1) 1

/-- LIMP_N hands the channel to its LHIN pin (R383). -/
def State.lsOverride (s : State) (c : Nat) : Bool := lsHeavy c && s.ls.limp

/-- The channel is commanded on, by its source or by LHIN (R373, R383); a channel with MODE 0 stays off. -/
def State.lsWants (s : State) (c : Nat) : Bool :=
  decide (s.lsMode c ≠ 0) &&
  (if s.lsOverride c then s.ls.lhin.getLsbD (c - 16) else decide ((s.chan c).command ≠ 0))

/-- The channel is on. -/
def lsOn (ch : LsChan) : Bool := decide (ch.state = 1 ∨ ch.state = 2 ∨ (ch.state = 6 ∧ ch.burstOff = none))

/-- The channel is off under protection: latched, off thermally, retired, between retries, or off with its die, which is too hot
or whose supply is out of range (R371, R376, R381). -/
def State.lsHeld (s : State) (c : Nat) : Bool :=
  let ch := s.chan c
  decide (ch.state = 3 ∨ ch.state = 4 ∨ ch.state = 5 ∨ (ch.state = 6 ∧ ch.burstOff ≠ none)) || s.ls.overtemp || !s.ls.supplyOk

/-- Duty commanded, 0.1 %. -/
def State.lsDutyCmd (s : State) (c : Nat) : Nat :=
  if s.lsOverride c ∨ s.lsMode c = 1 then 1000 else (s.chan c).command

/-- The duty the die applies and whether lamp mode clamps it (R375, R377). -/
def State.lsDuty (s : State) (c : Nat) : Nat × Bool :=
  let ch := s.chan c
  if lsOn ch = false then (0, false)
  else
    let d := s.lsDutyCmd c
    if s.lsLoad c = 4 ∧ lsHeavy c = false then
      (if ch.state = 2 then (1000, false) else (s.lsFld c 9 1 * d / 100, false))
    else if s.lsMode c = 3 ∧ s.lsOverride c = false then
      let nom := fld (s.blk 11) 0 2
      let q := d * nom * nom / (s.ls.vls * s.ls.vls)
      (min 1000 q, decide (1000 * (s.ls.vls * s.ls.vls) < d * nom * nom))
    else (d, false)

/-- Refreshes the duty that the channel applies. -/
def lsRefresh (c : Nat) (s : State) : State :=
  let d := s.lsDuty c
  s.setChan c { s.chan c with duty := d.1, clamped := d.2 }

/-- Switches a channel off, into a state; its window and burst end. -/
def lsOff (c st : Nat) (s : State) : State :=
  lsRefresh c (s.setChan c { s.chan c with
    state := st, window := none, pausedAt := none, burst := 0, burstOff := none, openLoad := false, limiting := false })

/-- Switches a channel on, with a new inrush window on a standard channel (R377, R379). -/
def lsSwitchOn (c : Nat) (s : State) : State :=
  let ch := s.chan c
  let ch := { ch with
    onTime := s.now, switchOns := bump32 ch.switchOns, burst := 0, burstOff := none, burstEnded := false }
  if lsHeavy c then lsRefresh c (s.setChan c { ch with state := 1 })
  else lsRefresh c (s.setChan c { ch with
    state := 2, window := some s.now, pauseTotal := 0, pausedAt := if s.ls.droop then some s.now else none,
    pauses := if s.ls.droop then ch.pauses + 1 else ch.pauses })

/-- Brings a channel to its command: on from off, off from any state that the command may leave. -/
def lsApply (c : Nat) (s : State) : State :=
  let ch := s.chan c
  if s.lsWants c then
    if ch.state = 0 ∧ s.ls.supplyOk ∧ s.ls.overtemp = false then lsSwitchOn c s else lsRefresh c s
  else if ch.state = 4 ∨ ch.state = 5 then lsRefresh c s
  else lsOff c 0 s

/-- A channel takes a command. -/
def lsDrive (c v : Nat) (s : State) : State := lsApply c (s.setChan c { s.chan c with command := v, waiting := none })

/-- A command for the die: taken at once while the link runs, else when it returns (R373, R382). -/
def lsCommand (c v : Nat) (s : State) : State :=
  if s.ls.linkLost = none then lsDrive c v s else s.setChan c { s.chan c with waiting := some v }

/-- Latches of a channel within 10 min (R380). -/
def State.lsRecent (s : State) (c : Nat) : Nat :=
  ((s.chan c).latches.filter fun t => decide (s.windowTime < t + 600000000)).length

/-- Backoff after the n-th latch, µs: 1 s, 4 s, 16 s (R380). -/
def backoffTime (n : Nat) : Nat := 1000000 * 4 ^ (n - 1)

/-- Starts the AUTO_RETRY backoff of a latched channel that holds a recovery context (R380, R450). -/
def lsStartBackoff (c : Nat) (s : State) : State :=
  let n := s.lsRecent c
  let h := handle 12 c
  match s.contextOf h with
  | none => s
  | some x =>
    (s.takeContext h x.status n (if s.ls.linkLost = none then some (s.now + backoffTime n) else none)).setChan c
      { s.chan c with backoff := some (s.now, backoffTime n) }

/-- Retires a channel that has latched for the fourth time within 10 min (R380). -/
def lsRetire (c status : Nat) (s : State) : State :=
  let h := handle 12 c
  (lsOff c 5 ((s.retire h status).setChan c { s.chan c with backoff := none })).report 10 0x08A3 h
    (res [(0, 1, c), (1, 1, (s.chan c).cause)])

/-- Latches a channel off: count, event, retirement, second fault (R376, R380, R451); an injection on its slot ends
(Table 8-7). -/
def lsLatch (c cause status : Nat) (r : Res) (s : State) : State :=
  let h := handle 12 c
  let ch := s.chan c
  let later := decide (s.ls.linkLost ≠ none) && s.lsOverride c
  let ch := { ch with
    cause := cause, latchCount := bump32 ch.latchCount, backoff := none,
    latches := if later then ch.latches else
      (ch.latches.filter fun t => decide (s.windowTime < t + 600000000)) ++ [s.windowTime],
    uncounted := if later then ch.uncounted + 1 else ch.uncounted }
  let old := s.contextOf h
  let s := endInjectionTo (fun d => decide (d = 0x3000 + c)) 3 ((lsOff c 4 (s.setChan c ch)).event 10 status r)
  match old with
  | some x =>
    if x.phase = 1 ∨ x.status ≠ status then lsOff c 5 (s.secondFault h x.status status)
    else if 4 ≤ s.lsRecent c then lsRetire c status s
    else if s.lsAuto c then lsStartBackoff c s else s.freeContext h
  | none =>
    if 4 ≤ s.lsRecent c then lsRetire c status s
    else if s.lsAuto c then lsStartBackoff c (s.takeContext h status (s.lsRecent c) none) else s

/-- The channel is back in service: its recovery window ends (R449). -/
def lsServed (c : Nat) (s : State) : State := s.freeContext (handle 12 c)

/-- Clears a latch (LS_CLEAR, LHIN). -/
def lsClearLatch (c : Nat) (s : State) : State :=
  lsApply c (lsServed c (s.setChan c { s.chan c with state := 0, cause := 0, backoff := none }))

/-- All channels, in order. -/
def lsAll (f : Nat → State → State) (s : State) : State := overL (upTo 24) f s

/-! ## Events of the die -/

/-- LS_SHORT (R376): limitation with VOUT below VLS / 5 for 20 µs; the short test applies in every state except the window
of the capacitive profile. -/
def execLsShort (c : Nat) (s : State) (vout held : Nat := 0) : Out :=
  let ch := s.chan c
  if lsOn ch = false ∨ (ch.state = 2 ∧ s.lsLoad c = 5) ∨ s.ls.vls ≤ 5 * vout ∨ held < 20 then .next s
  else .next (lsLatch c 1 0x08A0 (res [(0, 1, c), (1, 1, 1), (4, 2, s.ls.vls)]) (s.setChan c { ch with vout := vout }))

/-- Limitation that a channel is allowed, µs; none throughout (Tables 15-4 and 15-5). -/
def State.lsAllowed (s : State) (c : Nat) : Option Nat :=
  if lsHeavy c then some 1000
  else if (s.chan c).state = 2 then (if s.lsLoad c = 0 then some 100 else none)
  else some (if s.lsLoad c = 2 then 1000 else 100)

/-- Limitation for `held` µs is beyond what the channel is allowed. -/
def State.lsBeyond (s : State) (c held : Nat) : Bool := match s.lsAllowed c with
  | none => false
  | some t => decide (t ≤ held)

/-- LS_OVERLOAD (R376 to R378): limitation beyond the channel's allowance. -/
def execLsOverload (c : Nat) (s : State) (held : Nat := 0) : Out :=
  let ch := s.chan c
  let bursts := decide (lsHeavy c ∧ ch.burstEnded = false ∧ (ch.state = 6 ∨ s.now ≤ ch.onTime + 2000000))
  if lsOn ch = false ∨ s.lsBeyond c held = false then .next s
  else if bursts ∧ ch.burst < s.lsFld c 10 1 then
    let s := s.setChan c { ch with state := 6, burstOff := some s.now }
    .next ((lsRefresh c s).event 10 0x08A1 (res [(0, 1, c), (1, 1, ch.burst)]))
  else .next (lsLatch c 2 0x08A1 (res [(0, 1, c), (1, 1, ch.burst), (2, 1, 1)]) s)

/-- LS_THERMAL (R376): the 16th switch-off within 10 s latches. -/
def execLsThermal (c temp : Nat) (s : State) : Out :=
  let ch := s.chan c
  if lsOn ch = false ∨ temp ≤ s.lsFld c 8 1 then .next s
  else
    let times := (ch.thermals.filter fun t => decide (s.now < t + 10000000)) ++ [s.now]
    let s := s.setChan c { ch with temp := temp, thermals := times, thermalCount := bump32 ch.thermalCount }
    if 16 ≤ times.length then .next (lsLatch c 3 0x08A2 (res [(0, 1, c), (1, 1, temp)]) s)
    else .next (lsOff c 3 s)

/-- LS_THERMAL_RESTART (R376). -/
def execLsThermalRestart (c temp : Nat) (s : State) : Out :=
  let ch := s.chan c
  if ch.state ≠ 3 ∨ s.lsFld c 8 1 < temp + 10 then .next s
  else .next (lsApply c (s.setChan c { ch with temp := temp, state := 0 }))

/-- Switches every channel off that is not latched or retired. -/
def lsAllOff (s : State) : State :=
  lsAll (fun c t => if (t.chan c).state = 4 ∨ (t.chan c).state = 5 then t else lsOff c 0 t) s

/-- PORST_N and a system reset switch every channel off (R374); a latch and a retirement stay. -/
def lsReset (s : State) : State :=
  lsAll (fun c t => t.setChan c { t.chan c with command := 0, waiting := none }) (lsAllOff s)

/-- LS_DIE_OVERTEMP (R376): off above 150 °C, restored at 140 °C. -/
def execLsDieOvertemp (temp : Int) (s : State) : Out :=
  let s : State := { s with ls := { s.ls with caseTemp := temp } }
  if s.ls.overtemp = false ∧ 1500 < temp then
    .next ((lsAllOff { s with ls := { s.ls with overtemp := true } }).event 10 0x08A4 (res [(0, 1, 3), (2, 2, s.ls.vls)]))
  else if s.ls.overtemp ∧ temp ≤ 1400 then
    .next ((lsAll lsApply { s with ls := { s.ls with overtemp := false } }).event 10 0x08A4
      (res [(0, 1, 0), (2, 2, s.ls.vls)]))
  else .next s

/-- LS_OPEN_LOAD (R376): a current report of 0 for 100 ms at 100 % duty; reported only. -/
def execLsOpenLoad (c : Nat) (s : State) (held : Nat := 0) : Out :=
  let ch := s.chan c
  if tst (s.lsFld c 3 1) 0 = false ∨ lsOn ch = false ∨ ch.duty ≠ 1000 ∨ ch.openLoad ∨ held < 100000 then .next s
  else .next ((s.setChan c { ch with openLoad := true, current := 0 }).event 10 0x08A6 (res [(0, 1, c)]))

/-- LS_SUPPLY (R371): every channel off below 6.5 V or above 36 V; restored after 1 ms within 7.0 to 35 V. -/
def execLsSupply (vls : Nat) (s : State) : Out :=
  let s : State := { s with ls := { s.ls with vls := vls } }
  let cause := if vls < 65 then 1 else if 360 < vls then 2 else 0
  if s.ls.supplyOk then
    if cause = 0 then .next (lsAll lsRefresh s)
    else .next ((lsAllOff { s with ls := { s.ls with supplyOk := false, okSince := none } }).event 10 0x08A4
      (res [(0, 1, cause), (2, 2, vls)]))
  else if 70 ≤ vls ∧ vls ≤ 350 then
    match s.ls.okSince with
    | none => .next { s with ls := { s.ls with okSince := some s.now } }
    | some t =>
      if s.after t 1000 then
        .next ((lsAll lsApply { s with ls := { s.ls with supplyOk := true, okSince := none } }).event 10 0x08A4
          (res [(0, 1, 0), (2, 2, vls)]))
      else .next s
  else .next { s with ls := { s.ls with okSince := none } }

/-- Time left of a channel's inrush window, µs (R377, R379). -/
def State.lsLeft (s : State) (c : Nat) : Nat :=
  let ch := s.chan c
  match ch.window with
  | none => 0
  | some t =>
    let stop := (match ch.pausedAt with
      | none => s.now
      | some p => p)
    (t + 1000 * s.lsFld c 6 2 + ch.pauseTotal) - stop

/-- INRUSH_WINDOW_END (R377): the capacitive profile must have charged its load by then. -/
def execInrushWindowEnd (c vout : Nat) (s : State) : Out :=
  let ch := s.chan c
  if ch.state ≠ 2 ∨ s.lsLeft c ≠ 0 then .next s
  else
    let s := s.setChan c { ch with vout := vout }
    if s.lsLoad c = 5 ∧ 2 * vout ≤ s.ls.vls then
      .next (lsLatch c 1 0x08A0 (res [(0, 1, c), (1, 1, 2), (4, 2, s.ls.vls)]) s)
    else .next (lsServed c (lsRefresh c (s.setChan c { s.chan c with state := 1, window := none, pausedAt := none })))

/-- The window timer of a standard channel pauses below DROOP_TH, at most 2 ms in all, and resumes at it (R379). -/
def lsDroop (low : Bool) (c : Nat) (s : State) : State :=
  let ch := s.chan c
  if ch.state ≠ 2 then lsRefresh c s
  else match ch.pausedAt with
    | none =>
      if low ∧ ch.pauseTotal < 2000 then
        lsRefresh c (s.setChan c { ch with pausedAt := some s.now, pauses := ch.pauses + 1 })
      else lsRefresh c s
    | some p =>
      if low then lsRefresh c s
      else lsRefresh c (s.setChan c { ch with pausedAt := none, pauseTotal := min 2000 (ch.pauseTotal + (s.now - p)) })

/-- VLS_DROOP (R379). -/
def execVlsDroop (vls : Nat) (s : State) : Out :=
  let low := decide (vls < fld (s.blk 11) 2 2)
  .next (lsAll (lsDroop low) { s with ls := { s.ls with vls := vls, droop := low } })

/-- DROOP_PAUSE_END (R379): the pause of a window totals at most 2 ms. -/
def execDroopPauseEnd (c : Nat) (s : State) : Out :=
  let ch := s.chan c
  match ch.pausedAt with
  | none => .next s
  | some p =>
    if 2000 ≤ ch.pauseTotal + (s.now - p) then .next (s.setChan c { ch with
      pausedAt := none, pauseTotal := 2000 })
    else .next s

/-- LS_BURST_RETRY (R378): 1 ms after an overload switch-off the heavy channel is switched on again. -/
def execLsBurstRetry (c : Nat) (s : State) : Out :=
  let ch := s.chan c
  match ch.burstOff with
  | none => .next s
  | some t =>
    if ch.state = 6 ∧ s.after t 1000 then
      .next (lsRefresh c (s.setChan c { ch with
        burst := ch.burst + 1, burstOff := none, retryCount := ch.retryCount + 1, onTime := s.now }))
    else .next s

/-- LS_BURST_END (R378): the channel, switched on, has stayed out of limitation for 10 ms. -/
def execLsBurstEnd (c : Nat) (s : State) (clear : Nat := 0) : Out :=
  let ch := s.chan c
  if ch.state = 6 ∧ ch.burstOff = none ∧ s.after ch.onTime 10000 ∧ 10000 ≤ clear then
    .next (lsServed c (lsRefresh c (s.setChan c { ch with state := 1, burst := 0, burstEnded := true })))
  else .next s

/-- LS_BACKOFF_EXPIRE (R380, R382): a latched channel with AUTO_RETRY is switched on again while the link's master in PD4 runs;
a heavy channel, which opens no window, is back in service then (log entry 22). -/
def execLsBackoffExpire (c : Nat) (s : State) : Out :=
  let ch := s.chan c
  match ch.backoff with
  | none => .next s
  | some (t, len) =>
    if s.power.domains.getLsbD 4 ∧ s.ls.linkLost = none ∧ ch.state = 4 ∧ s.after t len then
      let s := lsApply c ((s.attemptContext (handle 12 c)).setChan c { ch with state := 0, cause := 0, backoff := none })
      .next (if (s.chan c).state = 2 then s else lsServed c s)
    else .next s

/-- Every backoff that runs keeps the time it has left (R382). -/
def lsSuspend (s : State) : State :=
  lsAll (fun c t => match (t.chan c).backoff with
    | none => t
    | some (b, len) => t.setChan c { t.chan c with backoff := some (t.now, len - (t.now - b)) }) s

/-- LS_LINK_LOST (R382): backoffs are suspended. -/
def execLsLinkLost (s : State) : Out :=
  if s.ls.linkLost ≠ none then .next s
  else
    let s := lsSuspend s
    .next { s with ls := { s.ls with linkLost := some s.now } }

/-- LS_SET reaches its commit point, the link: on a channel that has latched or retired meanwhile it does not (R385). -/
def lsSetCommit (l : Live) (s : State) : State :=
  let c := hIndex l.handle
  let ch := s.chan c
  if ch.state = 5 then s.finish l 0x0303 0
  else if ch.state = 4 then s.finish l 0x03A0 0
  else (lsCommand c (l.keep.headD 0).toNat s).finish l 0 (res [(0, 2, ch.command)])

/-- LS_CLEAR reaches the die; a channel whose latch has gone meanwhile does not change (R380). -/
def lsClearCommit (l : Live) (s : State) : State :=
  let c := hIndex l.handle
  let ch := s.chan c
  if ch.state = 5 then s.finish l 0x0303 0
  else if ch.state = 4 then (lsClearLatch c s).finish l 0 (res [(0, 1, ch.cause)])
  else s.finish l 0x0001 0

/-- What waited for the link takes effect: the commands of slots and heater line, then those of hosts in order, each if its
seat still owns the channel (R56). -/
def lsDeliver (s : State) : State :=
  let s := lsAll (fun c t => match (t.chan c).waiting with
    | none => t
    | some v => lsCommand c v t) s
  let s := overL (s.liveOf 0x0A01) (fun l t => commitLive l (lsSetCommit l) t) s
  overL (s.liveOf 0x0A02) (fun l t => commitLive l (lsClearCommit l) t) s

/-- The link's return is reported with the length of its loss, then the LIMP_N edges of that time (R382, R383). -/
def lsLinkUp (lost : Nat) (s : State) : State :=
  let s := ({ s with ls := { s.ls with linkLost := none } } : State).event 10 0x08A5
    (res [(4, 4, ((s.now - lost) / 1000 : Nat))])
  let s := overL s.ls.limpEvents (fun e t => t.event 10 0x00A0 (res [(0, 1, bit e.1), (4, 8, e.2)])) s
  { s with ls := { s.ls with limpEvents := [] } }

/-- Latches that LHIN cleared count, and backoffs run on, on the link's return (R382, R383). -/
def lsResume (s : State) : State :=
  lsAll (fun c t =>
    let ch := t.chan c
    let t := t.setChan c { ch with
      latches := ch.latches ++ List.replicate ch.uncounted t.windowTime, uncounted := 0,
      backoff := ch.backoff.map fun b => (t.now, b.2) }
    if 0 < ch.uncounted ∧ 4 ≤ t.lsRecent c ∧ ch.state ≠ 5 then lsRetire c 0x08A0 t
    else if ch.state = 4 ∧ ch.backoff ≠ none then lsStartBackoff c t else t) s

/-- LS_LINK_RESTORED (R374, R382, R383): with PD4 on, the loss is reported, LIMP_N edges are delivered, latches that LHIN cleared
count. -/
def execLsLinkRestored (s : State) : Out :=
  match s.ls.linkLost with
  | none => .next s
  | some t0 => .next (if s.power.domains.getLsbD 4 then lsDeliver (lsResume (lsLinkUp t0 s)) else s)

/-- LS_LIMP (R383): LIMP_N low hands the heavy channels to LHIN; high returns each to its link command. -/
def execLsLimp (low : Bool) (s : State) : Out :=
  if s.ls.limp = low then .next s
  else
    let s : State := { s with ls := { s.ls with limp := low } }
    let s := if s.ls.linkLost = none then s.event 10 0x00A0 (res [(0, 1, bit low), (4, 8, s.time)])
      else { s with ls := { s.ls with limpEvents := s.ls.limpEvents ++ [(low, s.time)] } }
    .next (overL ((upTo 24).filter lsHeavy) lsApply s)

/-- LHIN_CHANGE (R383): a heavy channel follows its pin while LIMP_N is low; low for 10 ms and a rise clear a latch. -/
def execLhinChange (k : Nat) (high : Bool) (s : State) : Out :=
  if 8 ≤ k ∨ s.ls.lhin.getLsbD k = high then .next s
  else
    let c := 16 + k
    let m : BitVec 8 := BitVec.ofNat 8 (2 ^ k)
    let s : State := { s with ls := { s.ls with lhin := if high then s.ls.lhin ||| m else s.ls.lhin &&& ~~~m } }
    let ch := s.chan c
    let since := ch.lhinLow
    let s := s.setChan c { ch with lhinLow := if high then none else some s.now }
    if s.ls.limp = false then .next s
    else if high ∧ ch.state = 4 ∧ s.past since 10000 then .next (lsClearLatch c s)
    else .next (lsApply c s)

/-! ## Commands (Table 15-8) -/

/-- The current report of a channel from what the die measures, a free value (log entry 103): 10 bits; 0 while it is off, and
where an open load has been found. -/
def lsReport (ch : LsChan) (f : Nat) : Nat := if lsOn ch ∧ ch.openLoad = false then f % 1024 else 0

/-- LS_STATUS: limitation, current, temperature and VOUT are what the die measures, free values (log entry 103). -/
def lsStatusOf (q : Req) (s : State) : Reply :=
  let c := q.idx
  let ch := s.chan c
  let d := s.lsDuty c
  let (f, s) := s.fresh
  reads s [(0, 1, ch.state),
    (1, 1, (if lsOn ch then f % 2 else 0) + 2 * bit d.2 + 4 * bit (s.lsOverride c) + 8 * bit (s.ls.linkLost ≠ none) + 16 * bit ch.openLoad),
    (2, 2, d.1), (4, 2, lsReport ch (f / 2)), (6, 1, (f / 2048 % 256 : Nat)), (7, 1, ch.cause), (8, 2, s.ls.vls),
    (10, 2, (f / 524288 % 65536 : Nat)),
    (12, 2, (s.lsLeft c / 1000 : Nat)), (14, 1, sat 8 (s.lsRecent c))]

/-- LS_STATUS (R385). -/
def execLsStatus (c : Cmd) (s : State) : Out := host (line 0x0A00 .R [12] 0 0) c lsStatusOf s

/-- LS_SET (R373, R385). -/
def lsSetTo (q : Req) (s : State) : Reply :=
  let c := q.idx
  let ch := s.chan c
  let v := q.w 0
  if (s.lsMode c = 1 ∧ 1 < v) ∨ (s.lsMode c ≠ 1 ∧ 1000 < v) then rej 0x0108 s
  else if ch.state = 5 then rej 0x0303 s
  else if s.lsMode c = 0 ∨ s.lsSrc c ≠ 0 then rej 0x0301 s
  else if ch.state = 4 then rej 0x03A0 s
  else if s.ls.linkLost = none then .done 0 (res [(0, 2, ch.command)]) (lsCommand c v s)
  else .live false [(v : Int)] s
def execLsSet (c : Cmd) (s : State) : Out := host (line 0x0A01 .A [12] 1 1) c lsSetTo s

/-- LS_CLEAR (R380). -/
def lsClearOf (q : Req) (s : State) : Reply :=
  let ch := s.chan q.idx
  if ch.state = 5 then rej 0x0303 s
  else if ch.state ≠ 4 then rej 0x0001 s
  else if s.ls.linkLost = none then .done 0 (res [(0, 1, ch.cause)]) (lsClearLatch q.idx s)
  else .live false [] s
def execLsClear (c : Cmd) (s : State) : Out := host (line 0x0A02 .A [12] 0 0) c lsClearOf s

/-- LS_CURRENTS: twelve 10-bit reports packed from bit 0. -/
def lsCurrentsOf (q : Req) (s : State) : Reply :=
  if 1 < q.w 0 then rej 0x0108 s
  else
    let (f, s) := s.fresh
    let v := (upTo 12).foldl (fun a i => a + lsReport (s.chan (12 * q.w 0 + i)) (f / 1024 ^ i) * 2 ^ (10 * i)) 0
    .done 0 (res [(0, 15, v)]) s
def execLsCurrents (c : Cmd) (s : State) : Out := host (line 0x0A03 .R [0] 1 1) c lsCurrentsOf s

/-- LS_COUNTERS. -/
def lsCountersOf (q : Req) (s : State) : Reply :=
  let ch := s.chan q.idx
  let r := res [(0, 4, ch.switchOns), (4, 4, ch.latchCount), (8, 4, ch.thermalCount), (12, 2, sat 16 ch.retryCount),
    (14, 2, sat 16 ch.pauses)]
  .done 0 r (if (q.word 0).getLsbD 0 then
    s.setChan q.idx { ch with switchOns := 0, latchCount := 0, thermalCount := 0, retryCount := 0, pauses := 0 } else s)
def execLsCounters (c : Cmd) (s : State) : Out := host (line 0x0A04 .R [12] 0 1) c lsCountersOf s

/-- LS_CONFIG_SET (R73, R385). -/
def execLsConfigSet (c : Cmd) (s : State) : Out :=
  host (line 0x0A05 .C [0] 3 12) c (configSet 11 0 396) s

end Sys2Proof.Machine
end

