-- ==== Sys2Proof/Machine/Units.lean ====
section
/-! DEFINITION. The operations that several families of commands share over the power path: field-profile frames (R355
to R357), pods and phases (R163 to R169), loop slots under the output sequencer (R215), outputs and their faults (R183 to
R194), pod reassignment (R188 to R192), and the safety island's judgement of demands (R320 to R322, R337, R338). -/

namespace Sys2Proof.Machine

/-! ## Field-profile frames -/

/-- MODE of a field-bus port (Table 14-3). -/
def State.portMode (s : State) (p : Nat) : Nat := fld (s.blk 10) (16 + 16 * p) 1

/-- The port sends and accepts frames (R347 to R349, R351). -/
def State.portUp (s : State) (p : Nat) : Bool :=
  decide ((s.port p).state = 1 ∨ (s.port p).state = 2) && !(s.port p).resetting

/-- Ports on which the profile runs. -/
def State.profilePorts (s : State) : List Nat := (upTo 16).filter fun p => decide (s.portMode p = 1)

/-- Ports of a field node: its home port, and PORT_B where its record names one (R356). A node that only the staged
configuration holds is reached by its staged record (R88). -/
def State.nodePorts (s : State) (n : Nat) : List Nat :=
  match (match aget s.ep.cfg.fields n with
    | some m => some m
    | none => aget s.ep.staged.fields n) with
  | none => [n / 32]
  | some m => if fld m 4 1 < 16 then [n / 32, fld m 4 1] else [n / 32]

/-- A profile identifier from the controller, with the extended flag of FRAME_SEND word 0 (Table 14-4). -/
def profIdent (prio kind dst : Nat) : Word :=
  BitVec.ofNat 32 (536870912 + prio * 67108864 + kind * 1048576 + dst * 16384 + 0x3E * 256)

/-- Payload: header, body, CHECK (R357). -/
def profPayload (ident : Word) (seq : Half) (epoch : Word) (period : Nat) (body : List Byte) : List Byte :=
  let head := leBytes seq.toNat 2 ++ leBytes epoch.toNat 2 ++ leBytes period 4 ++ body
  head ++ leBytes (crc (Nat.xor (ident.toNat % 536870912 * 8) seq.toNat) head) 4

/-- Identifier and extended flag of FRAME_SEND word 0. -/
def bareIdent (w : Word) : Word := w &&& 0x3FFFFFFF

/-- A profile identifier from a field-node address to the controller (Table 14-4). -/
def nodeIdent (prio kind src : Nat) : Word :=
  BitVec.ofNat 32 (536870912 + prio * 67108864 + kind * 1048576 + 0x3E * 16384 + src * 256)

/-- A profile identifier (R355): extended, PRIO at least 1, no rsvd bit. -/
def isProfile (w : Word) : Bool :=
  let v := w.toNat % 1073741824
  decide (536870912 + 67108864 ≤ v) && decide (v % 256 = 0)

/-- SRC of a profile identifier. -/
def identSrc (w : Word) : Nat := w.toNat / 256 % 64

/-- KIND of a profile identifier. -/
def identKind (w : Word) : Nat := w.toNat / 1048576 % 64

/-- The field node at an address of a port (R356). -/
def State.nodeAt (s : State) (p a : Nat) : Option Nat :=
  if (aget s.ep.cfg.fields (32 * p + a)).isSome then some (32 * p + a)
  else (s.ep.cfg.fields.find? fun e => decide (e.1 % 32 = a ∧ fld e.2 4 1 = p)).map (·.1)

/-- The port still counts and judges frames on its bus. -/
def State.portHears (s : State) (p : Nat) : Bool :=
  decide (p < 16) && decide ((s.port p).state = 1 ∨ (s.port p).state = 2 ∨ (s.port p).state = 4) && !(s.port p).resetting

/-- An error-free frame of an identifier: its error count restarts, and its quiet time ends at the tenth (R354). -/
def goodFrame (p : Nat) (ident : Word) (s : State) : State :=
  let i := bareIdent ident
  let v := s.port p
  match aget v.quiet i with
  | none => s.setPort p { v with errRun := adel v.errRun i }
  | some (t, k) =>
    if 10 ≤ k + 1 then
      let s := s.setPort p { v with errRun := adel v.errRun i, quiet := adel v.quiet i }
      match if isProfile i then s.nodeAt p (identSrc i) else none with
      | none => s
      | some n => s.setFnode n { s.fnode n with duplicate := false }
    else s.setPort p { v with errRun := adel v.errRun i, quiet := aset v.quiet i (t, k + 1) }

/-- Duration of a frame of `n` payload bytes on a port, ns (R365, Table 14-1); bits 30 and 31 as in FRAME_SEND word 0. -/
def State.frameNs (s : State) (p : Nat) (ident : Word) (n : Nat) : Nat :=
  let nom := 8000 / 2 ^ fld (s.blk 10) (16 + 16 * p + 1) 1
  let fast := match fld (s.blk 10) (16 + 16 * p + 2) 1 with
    | 1 => 1000
    | 2 => 500
    | 3 => 250
    | 4 => 200
    | _ => nom
  let data := if ident.getLsbD 30 || ident.getLsbD 31 then nom else fast
  11 * (48 * nom + (8 * n + 36) * data) / 10

/-- A frame of `n` payload bytes passes on a port: it loads the bus for the second to come (R365, R367; log entry 34). -/
def loadBus (p : Nat) (ident : Word) (n : Nat) (s : State) : State :=
  let v := s.port p
  s.setPort p { v with
    load := (s.now, s.frameNs p ident n) :: v.load.filter fun e => decide (s.now < e.1 + 1000000) }

/-- A frame of `n` payload bytes is heard on a port, and counted (R352, R354). -/
def countHeard (p : Nat) (ident : Word) (n : Nat) (s : State) : State :=
  goodFrame p ident (loadBus p ident n (s.setPort p { s.port p with received := bump32 (s.port p).received }))

/-- A profile frame from a node is accepted on a port that runs the profile and carries the node (R345, R347, R356). -/
def State.carries (s : State) (p n : Nat) : Bool :=
  (aget s.ep.cfg.fields n).isSome && (s.nodePorts n).contains p && s.portUp p && decide (s.portMode p = 1)

/-- A frame is offered on a port: not while its identifier is quiet (R354); `only` drops an older pending frame of the
identifier, whose limit is the next one (Table 14-6). -/
def offerFrame (f : TxFrame) (only : Bool) (p : Nat) (s : State) : State :=
  let v := s.port p
  if (aget v.quiet (f.ident &&& 0x3FFFFFFF)).isSome then s
  else s.setPort p { v with
    profile := (if only then v.profile.filter fun x => decide (x.ident ≠ f.ident) else v.profile) ++ [{ f with since := s.now }] }

/-- Sends one profile frame, with one SEQ, on each of the ports that is up: the profile engine's own, HB_CTRL and GRANT, at
once; every other by way of Q48 to Q51 (R15; log entry 94). -/
def State.sendFrame (s : State) (ports : List Nat) (prio kind dst period : Nat) (body : List Byte) (limit : Nat)
    (only : Bool) : State :=
  let ident := profIdent prio kind dst
  let seq := (aget s.field.seqs ident).getD 0
  let f : TxFrame := { ident := ident, payload := profPayload ident seq s.boot.epoch period body, retry := limit }
  let s : State := { s with field := { s.field with seqs := aset s.field.seqs ident (seq + 1) } }
  overL (ports.filter fun p => s.portUp p && decide (s.portMode p = 1)) (fun p t =>
    if kind = 0x10 ∨ kind = 8 then offerFrame f only p t
    else t.via (48 + p / 4) [(p : Int), (ident.toNat : Int)] (offerFrame f only p)) s

/-- POD_CMD to a pod's switch node on PORT_A and PORT_B with one SEQ (R179, R363). -/
def State.podCmd (s : State) (p op pair : Nat) : State :=
  let n := s.podFld p 6 2
  let ident := profIdent 1 1 (n % 32)
  let seq := (aget s.field.seqs ident).getD 0
  let limit := fld (s.blk 5) 2 2
  let s := s.sendFrame (s.nodePorts n) 1 1 (n % 32) 0
    ([BitVec.ofNat 8 op, BitVec.ofNat 8 pair] ++ leBytes limit 2 ++ [BitVec.ofNat 8 p, 0, 0, 0]) 255 true
  s.setMtx p { s.mtx p with seq := seq, op := op, pair := pair, polls := (s.mtx p).polls ++ [⟨seq, s.now, none, none, false⟩] }

/-! ## Caldera's held blocks (R135) -/

/-- Discards the blocks held ahead and returns their credits; counted as a drain where blocks are computed ahead
(log entry 85). A consumer whose queue has stalled discards nothing. -/
def State.drain (s : State) : State :=
  let clear := fun (v : IQueue) => if v.stalled then v else { v with entries := [], head := v.tail, expectSeq := v.nextSeq }
  let s := (s.setIq 33 (clear (s.iq 33))).setIq 34 (clear (s.iq 34))
  { s with cal := { s.cal with
    held := [], drained := true, drains := if fld (s.blk 2) 4 1 = 0 then s.cal.drains else s.cal.drains + 1 } }

/-! ## Phases and pods (chapter 06) -/

/-- Field of a pod entry (Table 6-2). -/
def State.paFld (s : State) (p off n : Nat) : Nat := fld (s.blk 4) (16 + 64 * p + off) n
/-- Field of a phase entry (Table 6-3). -/
def State.phFld (s : State) (k off n : Nat) : Nat := fld (s.blk 4) (528 + 16 * k + off) n
/-- Phases of a pod. -/
def podPhases (p : Nat) : List Nat := (upTo 6).map fun k => 6 * p + k
def State.phFitted (s : State) (k : Nat) : Bool := tst (s.phFld k 2 1) 0
/-- Pod is fitted: it has a fitted phase (R150). -/
def State.podFitted (s : State) (p : Nat) : Bool := (podPhases p).any s.phFitted
/-- Phase is in service. -/
def State.phServes (s : State) (k : Nat) : Bool := s.phFitted k && decide ((s.phase k).state ≠ 5)
/-- Phases of a pod in service. -/
def State.podPhCount (s : State) (p : Nat) : Nat := ((podPhases p).filter s.phServes).length
/-- RATING of a pod scaled by its phases in service over six (R165). -/
def State.podRating (s : State) (p : Nat) : Nat := s.podFld p 0 4 * s.podPhCount p / 6
/-- The domain of the pod's phases is on: PD5 for pods 0 to 3, PD6 for pods 4 to 7 (R166). -/
def State.podPower (s : State) (p : Nat) : Bool := s.power.domains.getLsbD (5 + p / 4)
/-- The pod is in service: fitted and not retired. -/
def State.podServes (s : State) (p : Nat) : Bool := s.podFitted p && decide ((s.pod p).state ≠ 4)

/-- Turns off PH_H and PH_L of every phase of a pod. -/
def gatesLow (p : Nat) (s : State) : State :=
  overL (podPhases p) (fun k t =>
    t.setPhase k { t.phase k with gateH := false, gateL := false, on := false, blanking := false }) s

/-- Moves a pod that runs or is halted to OFF at once; pending shadow writes go without PAIR_SPLIT (Table 6-9). -/
def podOff (p : Nat) (s : State) : State :=
  let d := s.pod p
  if d.state = 1 ∨ d.state = 3 then
    gatesLow p (s.setPod p { d with
      state := 0, pendP := false, pendM := false, pendR := false, refDue := none, ramp := none, signHold := false,
      below := 0, above := 0, restoreDue := false, frozen := false })
  else s

/-- Moves an OFF pod to RUN: PERIOD and MAXON of its entry, reference 0, the counter from its POD_OFS position (R149,
R167). -/
def podRun (p : Nat) (s : State) : State :=
  let d := s.pod p
  let period := s.paFld p 0 2
  if d.state = 0 ∧ s.podFitted p ∧ s.podPower p then
    s.setPod p { d with
      state := 1, period := period, maxon := s.paFld p 4 4, ref := 0, pendP := false, pendM := false,
      pendR := false, ramp := none, signHold := false, reverse := false, below := 0, above := 0, restoreDue := false,
      goodEdges := 0, missing := 0, correction := 0, sinceEdge := 0, edgeSeen := false, syncLost := false, frozen := false,
      counter := s.paFld p 8 2 * period / 65536, stop := period, posPeriod := period }
  else s

/-- A trip source is still present (Table 6-7). -/
def State.sourceOn (s : State) (p src : Nat) : Bool :=
  if src = 1 then (s.pod p).podTripLow
  else if src = 2 then decide ((s.pod p).gtripLow ≠ [])
  else if src = 3 then s.isl.podStop.getLsbD p
  else if src = 5 then s.clk.faultClock.isSome
  else if src = 6 then s.boot.shutdown
  else false

/-- Every source of the latched trip has gone (R164). -/
def State.tripGone (s : State) (p : Nat) : Bool := (s.pod p).sources.all fun x => !s.sourceOn p x

/-- Clears a latched trip: the pod enters OFF, and a phase that its fault put off may switch again (R164). -/
def tripClearOf (p : Nat) (s : State) : State :=
  if (s.pod p).state = 2 then
    overL (podPhases p) (fun k t =>
      if (t.phase k).state = 4 then t.setPhase k { t.phase k with state := 0, level := 32 } else t)
      (s.setPod p { s.pod p with state := 0, sources := [], tripSource := 0, tripIndex := 0 })
  else s

/-- Retires a pod: gates low, note 8, a drain (R165, Table 5-3). -/
def retirePod (p : Nat) (s : State) : State :=
  let h := handle 5 p
  let s := gatesLow p ((s.retire h 0x0840).setPod p { s.pod p with
    state := 4, retiredAt := some s.now, pendP := false, pendM := false, pendR := false, ramp := none, signHold := false })
  (s.note 8 h (leBytes 0x0840 2)).drain

/-- Active phases of a pod (R170). -/
def State.activePhases (s : State) (p : Nat) : List Nat :=
  (podPhases p).filter fun k => s.phFitted k && decide ((s.phase k).state = 0)

/-- A shed in progress is aborted: the phase rises back from its level, from the next period on (R171). -/
def abortShed (p : Nat) (s : State) : State :=
  overL (podPhases p) (fun k t =>
    let f := t.phase k
    if f.state = 1 then t.setPhase k { f with state := 3 } else t) s

/-- Retires a phase: gates low, note 8; the fall in rating counts as a pod retirement (R165). A count of active phases below
MIN_PH aborts a shed (R171); the restore of the next shed phase follows that of a phase retired during its own
(Table 6-9). -/
def retirePhase (k status : Nat) (s : State) : State :=
  let h := handle 6 k
  let p := k / 6
  let restoring := decide ((s.phase k).state = 3)
  let s := (s.retire h status).setPhase k { s.phase k with
    state := 5, gateH := false, gateL := false, on := false, blanking := false }
  let s := if restoring then s.setPod p { s.pod p with restoreDue := true } else s
  let s := if (s.activePhases p).length < s.paFld p 3 1 then abortShed p s else s
  (s.note 8 h (leBytes status 2)).drain

/-- A trip of a pod, without what follows for outputs and reassignments (R163, R165, R446). -/
def tripCore (p src index : Nat) (s : State) : State :=
  let d := s.pod p
  let h := handle 5 p
  if d.state = 4 ∨ s.podFitted p = false then s
  else if d.state = 2 then s.setPod p { d with
    sources := if d.sources.contains src then d.sources else d.sources ++ [src], lastSource := src }
  else
    let s := gatesLow p (s.setPod p { d with
      state := 2, sources := [src], tripSource := src, tripIndex := index, lastSource := src, trips := bump32 d.trips,
      ramp := none, signHold := false, below := 0, above := 0, restoreDue := false })
    let s := s.report 6 0x0840 h (res [(0, 1, p), (1, 1, src), (2, 1, index), (4, 4, d.periods)])
    if src = 1 then
      let c := s.countFault h 600000000
      if 4 ≤ c.1 then retirePod p c.2 else c.2
    else if src = 4 then
      let c := s.countFault (handle 6 index) 600000000
      if 3 ≤ c.1 then retirePhase index 0x0841 c.2 else c.2
    else s

/-! ## The island's input log (R308) -/

/-- The payload last logged of a source. -/
def State.lastLog (s : State) (source : Nat) : Option (List Int) :=
  (s.sup.log.reverse.find? fun e => decide (e.source = source)).map fun e => e.payload

/-- Records what the input stage hands to the channels: at most 65,536 entries. The source is the model's number: 0 safety
inputs, 1 readbacks and PFW_N, 2 pilot states, 3 proximity, 4 and 5 encoders, 6 metrology, 7 grants, 8 safe messages,
9 requests from Q43, 10 epoch ticks, maintenance and proof-test marks. A value equal to the previous one of its source is
not recorded. The cycle is that of 300 MHz within the frame. -/
def logIn (source : Nat) (payload : List Int) (s : State) : State :=
  if s.lastLog source = some payload ∨ 65536 ≤ s.sup.log.length then s
  else { s with sup := { s.sup with log :=
    s.sup.log ++ [⟨s.sup.frame, 300 * (s.now - s.sup.frameAt) % 300000, source, payload⟩] } }

/-! ## Power states -/

/-- Field of a rule entry (Table 17-3). -/
def State.ruFld (s : State) (r off n : Nat) : Nat := fld (s.blk 13) (16 + 16 * r + off) n

/-- The power state that STATES is judged against: during a wake or an entry, the state left. -/
def State.ruleState (s : State) : Nat := if s.power.state = 4 ∨ s.power.state = 5 then s.power.leftState else s.power.state

/-- The rule is armed. -/
def State.armed (s : State) (r : Nat) : Bool := decide (s.ruFld r 0 1 ≠ 0) && tst (s.ruFld r 14 1) s.ruleState

/-- The rule carries an action (Table 17-3): 0 WAKE, 1 HEATER, 2 JOURNAL, 3 EVENT. -/
def State.action (s : State) (r b : Nat) : Bool := tst (s.ruFld r 5 1) b

/-- The rule's compare result, of any of its connectors. -/
def State.ruleTrue (s : State) (r : Nat) : Bool := (s.rule r).result.any (·.2)

/-- The heater line: HEATER_FORCE, else the OR of every armed HEATER rule (R414). -/
def State.heaterLine (s : State) : Bool :=
  if s.power.force = 1 then true
  else if s.power.force = 2 then false
  else (upTo 32).any fun r => s.armed r && s.action r 1 && s.ruleTrue r

/-- The heater line drives a channel with SRC 2, from PD0 to the die itself (R373). -/
def heaterTo (on : Bool) (c : Nat) (s : State) : State :=
  lsDrive c (if on = false then 0 else if s.lsMode c = 1 then 1 else 1000) s

/-- The load switch channels with SRC 2 take the heater line. -/
def driveHeater (s : State) : State :=
  let on := s.heaterLine
  overL ((upTo 24).filter fun c => decide (s.lsSrc c = 2)) (heaterTo on) { s with power := { s.power with heater := on } }

/-- The channels with SRC 2 follow a change of the heater line (R373, R414). -/
def updateHeater (s : State) : State := if s.heaterLine = s.power.heater then s else driveHeater s

/-- A rule forgets its result and its filter. -/
def forgetRule (r : Nat) (s : State) : State :=
  s.setRule r { s.rule r with result := [], evaluated := [], history := [], iir := [], stable := [], sampled := [] }

/-- A rule that the power state disarms forgets its result: its first value once armed again counts as an edge (R413). -/
def forgetRules (s : State) : State := overL ((upTo 32).filter fun r => !s.armed r) forgetRule s

/-- Enters a power state and raises POWER_CHANGE with a cause (R424). -/
def powerTo (st cause rule : Nat) (s : State) : State :=
  let old := s.power.state
  let s : State := { s with power := { s.power with state := st, since := s.now } }
  (forgetRules s).event 15 0x00F0 (res [(0, 1, old), (1, 1, st), (2, 1, cause), (3, 1, rule), (4, 2, s.power.domains.toNat)])

/-- Leaves IDLE before an event that needs the PWM clock commits (R411). -/
def leaveIdle (s : State) : State := if s.power.state = 1 then updateHeater (powerTo 0 4 0 s) else s

/-! ## Geyser's injection on a slot (R220) -/

/-- Ends the injection where it runs on this slot. -/
def endInjectionOn (k cause : Nat) (s : State) : State :=
  if s.geyser.running ∧ s.geyser.slot = k then endInjection cause s else s

/-- The mode of a slot no longer admits the injection (R218). -/
def checkInjection (k : Nat) (s : State) : State :=
  let m := (s.slot k).mode
  if s.geyser.running ∧ s.geyser.slot = k ∧ m ≠ 2 ∧ ¬ (s.geyser.point = 1 ∧ m = 1) then
    endInjection (if m = 3 then 3 else 2) s
  else s

/-! ## Loop slots -/

/-- A slot's entry in the block in force (Table 8-3). -/
def SiteCfg.slotEntry (c : SiteCfg) (k : Nat) : Mem := (tget c.blocks 3 []).filterMap fun e =>
  if 16 + 256 * k ≤ e.1 ∧ e.1 < 272 + 256 * k then some (e.1 - (16 + 256 * k), e.2) else none
def State.slotEntry (s : State) (k : Nat) : Mem := s.ep.cfg.slotEntry k

/-- Configured set of a slot: its entry, or the one before the tick while the new entry waits for its boundary (R210,
R212). -/
def State.slotConf (s : State) (k : Nat) : Mem := ((s.slot k).conf).getD (s.slotEntry k)

/-- binary32 field of a slot's working set. -/
def State.slF (s : State) (k off : Nat) : Word := ffld (s.slot k).working off

/-- V_SLOT, I_SLOT of an output and MATCH_SLOT of a pod. -/
def State.vSlot (s : State) (o : Nat) : Nat := s.outFld o 8 1
def State.iSlot (s : State) (o : Nat) : Nat := s.outFld o 9 1
def State.matchSlot (s : State) (p : Nat) : Nat := s.podFld p 5 1

/-- Pods assigned to an output. -/
def State.podsOf (s : State) (o : Nat) : List Nat := (upTo 8).filter fun p => decide ((s.mtx p).assigned = some o)

/-- The pod whose running counter triggers a slot's samples; none where TRIG_PER does (R199). -/
def State.trigPod (s : State) (k : Nat) : Option Nat :=
  (match s.slFld k 3 1 with
    | 1 => some (s.slFld k 4 1)
    | 2 => (s.podsOf (s.slFld k 16 2 % 16)).find? fun p => decide ((s.pod p).state = 1)
    | _ => none).filter fun p => decide ((s.pod p).state = 1)

/-- A pod's weight in the division of an output's reference: 1 settled, the present fraction of its ramp while it moves
(R188, R215). -/
def State.podWeight (s : State) (p : Nat) : Rat :=
  let m := s.mtx p
  if m.step = 6 then min 1 (((s.now - m.stepTime : Nat) : Rat) / (1000 * (fld (s.blk 5) 6 2 : Rat)))
  else if m.step = 1 ∧ m.ramping then
    max 0 (1 - ((s.now - m.stepTime : Nat) : Rat) / (1000 * (fld (s.blk 5) 4 2 : Rat)))
  else 1

/-- Nearest whole number, ties to even (log entry 23). -/
def rneInt (q : Rat) : Int := if q < 0 then -(rne (-q) : Int) else (rne q : Int)

/-- Posts a REF entry for a pod to Q39, or keeps it pending for want of a credit (R217). Body: kind 0 REF, pod, tag,
value, second value, period number. The tag of an entry of the engine's own is a free value (log entry 24). -/
def postRef (p : Nat) (ma : Int) (s : State) : State :=
  if s.credits 39 = 0 then
    let d := s.pod p
    s.setPod p { d with refDue := some ma, replaced := if d.refDue = none then d.replaced else d.replaced + 1 }
  else
    let f := s.fresh
    (f.2.setPod p { f.2.pod p with refDue := none }).post 39
      [0, (p : Int), ((f.1 % 256 : Nat) : Int), ma, 0, (s.cal.period : Int)]

/-- Posts an output's reference in amperes, divided over its running pods by weight and phases in service (R215). -/
def postOutputRef (o : Nat) (amps : Word) (s : State) : State :=
  let pods := (s.podsOf o).filter fun p => decide ((s.pod p).state = 1)
  let total := pods.foldl (fun a p => a + s.podWeight p) (0 : Rat)
  if total = 0 ∨ fFinite amps = false then s
  else overL pods (fun p t =>
    if t.podPhCount p = 0 then t
    else postRef p (rneInt (fVal amps * s.podWeight p / total / (t.podPhCount p : Rat) * 1000)) t) s

/-- The grant in force of an output at the loop engine, W. -/
def State.outGrant (s : State) (o : Nat) : Int := match s.outNode o with
  | none => 0
  | some n => (aget s.cal.inForce.grants n).getD 0

/-- The output's tree node is bidirectional. -/
def State.outBidir (s : State) (o : Nat) : Bool := match s.outNode o with
  | none => false
  | some n => nBidir (s.ep.cfg.node n)

/-- The output runs in reverse: a bidirectional node with a negative grant (R195). -/
def State.outReverse (s : State) (o : Nat) : Bool := s.outBidir o && decide (s.outGrant o < 0)

/-- Selects the smaller slot output (the larger while the output runs in reverse), holds the other slot, and posts the
references (R185, R195, R204). -/
def selectOutput (o : Nat) (s : State) : State :=
  let v := s.slot (s.vSlot o)
  let i := s.slot (s.iSlot o)
  let x := s.output o
  if x.state ≠ 2 ∧ x.state ≠ 3 ∧ x.state ≠ 4 then s
  else
    let cc := if x.rev then fLt v.out i.out else fLt i.out v.out
    let s := s.setSlot (s.vSlot o) { v with held := cc }
    let s := s.setSlot (s.iSlot o) { s.slot (s.iSlot o) with held := !cc }
    postOutputRef o (if cc then i.out else v.out) (s.setOutput o { x with control := if cc then 2 else 1 })

/-- Posts a slot's output to its destination (Table 8-4, R215, R373). -/
def postSlot (k : Nat) (s : State) : State :=
  let d := s.slFld k 16 2
  let u := (s.slot k).out
  let kind := d / 4096
  if kind = 1 then selectOutput (d % 16) s
  else if kind = 2 then
    let p := d % 8
    if (s.pod p).state = 1 ∧ s.podPhCount p ≠ 0 ∧ fFinite u then
      postRef p (rneInt (fVal u * 1000 / (s.podPhCount p : Rat))) s
    else s
  else if kind = 3 then
    let c := d % 32
    if s.lsSrc c = 1 ∧ fFinite u then
      let pct := max 0 (min 100 (fVal u))
      lsCommand c (if s.lsMode c = 1 then bit (decide ((50 : Rat) ≤ fVal u)) else rne (pct * 10)) s
    else s
  else if kind = 4 then
    let n := d % 512
    s.sendFrame (s.nodePorts n) 4 0x18 (n % 32) 0
      ([BitVec.ofNat 8 (d / 512 % 8), 0, 0, 0] ++ wordBytes u) 3 false
  else s

/-- Puts a slot OFF: 0 posted once, states cleared (R207). -/
def slotOff (k : Nat) (s : State) : State :=
  let v := s.slot k
  if v.mode = 0 then s
  else
    let s := s.setSlot k { v with
      mode := 0, back := 0, out := 0, p := 0, i := 0, d := 0, mf := 0, mfPrev := 0, s1 := [0, 0, 0, 0],
      s2 := [0, 0, 0, 0], preset := false, first := true, held := false, satHi := false, satLo := false,
      stopped := false, following := none, followed := false, lostRun := 0, validRun := 0, derating := false, clamps := none }
    checkInjection k (postSlot k s)

/-- Gives a slot a setpoint, in whatever mode it stands. -/
def slotSet (k : Nat) (sp : Word) (s : State) : State := s.setSlot k { s.slot k with sp := sp }

/-- Puts a slot in AUTO with a setpoint: from OFF with integrator 0, from MANUAL or FALLBACK through R208; a slot whose
measurement is lost returns to AUTO when it is valid again. -/
def slotAuto (k : Nat) (sp : Word) (s : State) : State :=
  let v := s.slot k
  if v.mode = 3 then s.setSlot k { v with sp := sp, back := 2 }
  else if v.mode = 2 then s.setSlot k { v with sp := sp }
  else s.setSlot k { v with
    mode := 2, sp := sp, preset := decide (v.mode = 1), first := true, following := none, followed := false }

/-! ## Outputs: setpoints (R185, R195) -/

/-- A current in mA as a setpoint in A. -/
def ampsF (ma : Int) : Word := fOf ((ma : Rat) / 1000)
/-- A voltage in 0.1 V as a setpoint in V. -/
def voltsF (dv : Int) : Word := fOf ((dv : Rat) / 10)

/-- Reason of a stop that has been signalled to the session of an output with CTRL 1 (R266). -/
def State.stopReason (s : State) (o : Nat) : Option Nat :=
  if s.outCtrl o = 1 then (s.connOfOut o).bind fun c => (s.session c).stopping.map (·.1) else none

/-- i_lim of an output from its grant and requests, mA (R185, R195): 0 under OUT_RAMP, and once the stop of its session has
been signalled (R266). -/
def State.limitOf (s : State) (o : Nat) : Int :=
  let x := s.output o
  let g := s.outGrant o
  let v : Nat := max x.volts.toNat 1500
  let iMax : Int := (s.outFld o 12 4 : Nat)
  let cap : Int := ((g.natAbs * 10000 / v : Nat) : Int)
  if s.isl.outRamp.getLsbD o ∨ (s.stopReason o).isSome then 0
  else if s.outReverse o then min 0 (max (max x.iReq (-iMax)) (-cap))
  else if g < 0 then 0
  else max 0 (min (min x.iReq iMax) cap)

/-- i_lim of an output that regulates, with its direction: on a change of direction the current first ramps to 0 at the
node's RAMP_DOWN (R105, R195; log entry 38). -/
def State.ramped (s : State) (o : Nat) : Output :=
  let x := s.output o
  if x.rev = s.outReverse o then { x with iLim := s.limitOf o, signRamp := none }
  else
    let r := x.signRamp.getD (s.now, x.iLim)
    let down := match s.outNode o with
      | none => 0
      | some n => fld (s.ep.cfg.node n) 36 4
    let fall := down * 10000 / max x.volts.toNat 1500 * (s.now - r.1) / 1000
    if r.2.natAbs ≤ fall then { x with iLim := 0, signRamp := none, rev := s.outReverse o }
    else { x with
      iLim := if r.2 < 0 then -((r.2.natAbs - fall : Nat) : Int) else ((r.2.natAbs - fall : Nat) : Int), signRamp := some r }

/-- Recomputes the setpoints of an output's slots for its state (R185 to R187, Table 8-5); the modes of the slots stay, a
host's MANUAL among them (R215). -/
def regulate (o : Nat) (s : State) : State :=
  let x := s.output o
  if x.state = 3 then
    let y := s.ramped o
    let v : Int := if y.rev then (x.vMin : Int) else (min x.vReq (10 * s.outFld o 10 2) : Nat)
    slotSet (s.iSlot o) (ampsF y.iLim) (slotSet (s.vSlot o) (voltsF v) (s.setOutput o y))
  else if x.state = 4 then
    match x.stopRamp with
    | none => s
    | some (t, i0) =>
      let left : Int := ((50000 - (s.now - t) : Nat) : Int)
      let lim := i0 * left / 50000
      slotSet (s.iSlot o) (ampsF lim) (s.setOutput o { x with iLim := lim })
  else if x.state = 2 then
    let rise := (s.now - x.rampStart) * s.outFld o 16 2 / 100
    let target := min x.vReq (10 * s.outFld o 10 2)
    let v : Int := min (x.rampFrom + (rise : Int)) (target : Int)
    let i : Int := match s.stopReason o with
      | none => (s.outFld o 20 4 : Nat)
      | some r => if r = 6 then (s.outFld o 20 4 : Nat) else 0
    slotSet (s.iSlot o) (ampsF i) (slotSet (s.vSlot o) (voltsF v) (s.setOutput o { x with iLim := i }))
  else s

/-- MATCH_SLOT of a pod that matches follows the bus voltage of its target output (Table 8-5). -/
def trackMatch (o : Nat) (s : State) : State :=
  overL ((upTo 8).filter fun p => decide (((s.mtx p).step = 4 ∨ (s.mtx p).step = 5) ∧ (s.mtx p).target = some o))
    (fun p t => slotSet (t.matchSlot p) (voltsF ((t.output o).busV : Nat)) t) s

/-- Turns both slots of an output OFF. -/
def outSlotsOff (o : Nat) (s : State) : State := slotOff (s.iSlot o) (slotOff (s.vSlot o) s)

/-- Disables every assigned pod immediately. -/
def outPodsOff (o : Nat) (s : State) : State := overL (s.podsOf o) podOff s

/-! ## Contactors -/

/-- Safety outputs and auxiliary-contact inputs of an output's contactors (Table 7-2). -/
def State.soutPos (s : State) (o : Nat) : Nat := s.outFld o 2 1
def State.soutNeg (s : State) (o : Nat) : Nat := s.outFld o 3 1
def State.auxPos (s : State) (o : Nat) : Bool := (s.sin (s.outFld o 4 1)).demand
def State.auxNeg (s : State) (o : Nat) : Bool := (s.sin (s.outFld o 5 1)).demand

/-- Drives a safety output; a faulted one stays off (R323). -/
def soutSet (k : Nat) (on : Bool) (s : State) : State :=
  let v := s.sout k
  s.setSout k { v with energised := on && !v.faulted }

/-- De-energises both contactors; the wait of CONT_T for open starts (R183, R327). -/
def commandOpen (o : Nat) (s : State) : State :=
  let x := s.output o
  let s := soutSet (s.soutNeg o) false (soutSet (s.soutPos o) false s)
  s.setOutput o { s.output o with
    commanded := false, contactWait := some (s.now, false), operations := if x.commanded then bump32 x.operations else x.operations }

/-- Current below 2 A at the metering point (R184). -/
def State.below2A (s : State) (o : Nat) : Bool := decide ((s.output o).amps.natAbs < 2000)

/-- Requests the contactors open once the pods are off and the current is below 2 A (R187, R193). -/
def tryOpen (o : Nat) (s : State) : State :=
  let x := s.output o
  if x.commanded ∧ (x.state = 4 ∨ x.state = 5 ∨ x.state = 6) ∧ x.stopRamp = none ∧ s.below2A o then commandOpen o s else s

/-! ## Meter records (R284, R285) -/

/-- Free slots of the record store. -/
def State.recFree (s : State) : Nat := 448 - s.metro.records.length

/-- The reserved or open record of a point. -/
def State.pointRec (s : State) (p : Nat) : Option MRecord :=
  s.metro.records.find? fun r => decide (r.point = p ∧ r.stage ≤ 1)

/-- Changes the reserved or open record of a point. -/
def State.editRec (s : State) (p : Nat) (f : MRecord → MRecord) : State :=
  { s with metro := { s.metro with records := s.metro.records.map fun r => if r.point = p ∧ r.stage ≤ 1 then f r else r } }

/-- RECORD_STORE_FULL, raised once while no slot is free (R284). -/
def recFull (s : State) : State :=
  if s.metro.fullRaised then s
  else ({ s with metro := { s.metro with fullRaised := true } } : State).event 8 0x0590 0

/-- What a slot that became free clears. -/
def recFreed (s : State) : State :=
  { s with metro := { s.metro with
    fullRaised := s.metro.fullRaised && decide (s.recFree = 0), lowRaised := s.metro.lowRaised && decide (s.recFree ≤ 32) } }

/-- Reserves a slot for a session on a point (R284); the caller has seen that one is free. -/
def reserveRec (p conn proto : Nat) (sid : BitVec 64) (evccid : List Byte) (s : State) : State :=
  let r : MRecord :=
    { recno := 0, point := p, conn := conn, proto := proto, ident := 0, sessionId := sid, evccid := evccid, emaid := [],
      startTime := 0, stopTime := 0, startImp := 0, stopImp := 0, startExp := 0, stopExp := 0, reversals := 0, rCable := 0,
      gap := 0, epoch := 0, flags := 0, legal := 0, fw := 0, stage := 0, signature := [] }
  let s : State := { s with metro := { s.metro with records := s.metro.records ++ [r] } }
  if s.recFree ≤ 32 ∧ s.metro.lowRaised = false then
    ({ s with metro := { s.metro with lowRaised := true } } : State).event 8 0x0091 (res [(0, 2, s.recFree)])
  else s

/-- The record opens at the next sample boundary (R285). -/
def openRec (p proto ident : Nat) (emaid : List Byte) (s : State) : State :=
  let s := s.editRec p fun r => { r with proto := proto, ident := ident, emaid := emaid }
  if (s.pointRec p).isSome then s.setPoint p { s.point p with openDue := true } else s

/-- The record closes at the next sample boundary (R285). -/
def closeRec (p : Nat) (s : State) : State :=
  if (s.pointRec p).isSome ∧ ((s.point p).record.isSome ∨ (s.point p).openDue) then
    s.setPoint p { s.point p with closeDue := true }
  else s

/-- Frees the slot of a session that ends before its record opens (R284). -/
def dropRec (p : Nat) (s : State) : State :=
  if (s.point p).openDue ∨ (s.point p).record.isSome then s
  else recFreed { s with metro := { s.metro with
    records := s.metro.records.filter fun r => decide (¬ (r.point = p ∧ r.stage = 0)) } }

/-! ## Session states (R256, R266) -/

/-- The connector's link is LINKED. -/
def State.linked (s : State) (c : Nat) : Bool := decide ((s.conn c).link = 3)

/-- A session state, with SESSION_CHANGE (R256). -/
def sessionTo (c st : Nat) (s : State) : State :=
  let v := s.session c
  if v.state = st then s
  else (s.setSession c { v with state := st }).event 12 0x0081
    (res [(0, 1, c), (1, 1, v.state), (2, 1, st), (3, 1, v.proto), (8, 8, v.id.toNat)])

/-- Ends a session with a reason (R266): SESSION_END, and IDLE where the link is not LINKED. -/
def sessionEnd (c reason : Nat) (s : State) : State :=
  let v := s.session c
  if v.state = 0 ∨ v.state = 9 then s
  else
    let s := sessionTo c 9 (s.setSession c { v with question := none, stopping := none, ownStop := false, response := reason })
    let s := s.event 12 0x0082
      (res [(0, 1, c), (1, 1, reason), (4, 4, ((s.now - v.started) / 1000000 : Nat)), (8, 8, v.id.toNat)])
    let s := match s.outOfConn c with
      | none => s
      | some o => dropRec o (if (s.output o).state = 0 then closeRec o s else s)
    if s.linked c then s else sessionTo c 0 s

/-- The connector's output is IDLE, or retired with its contactors open. -/
def State.connOutIdle (s : State) (c : Nat) : Bool := match s.outOfConn c with
  | none => true
  | some o => decide ((s.output o).state = 0 ∨ ((s.output o).state = 6 ∧ (s.output o).commanded = false))

/-- A session that stops without its vehicle ends once its output is IDLE (R266). -/
def sessionIdle (c : Nat) (s : State) : State :=
  let v := s.session c
  match v.stopping with
  | none => s
  | some (r, _) => if s.connOutIdle c ∧ (v.ownStop ∨ s.linked c = false) then sessionEnd c r s else s

/-- What an output's return to IDLE means for its session. -/
def outIdleSession (o : Nat) (s : State) : State := match s.connOfOut o with
  | none => s
  | some c => if s.outCtrl o = 1 then sessionIdle c s else s

/-- An output became IDLE or RETIRED now (R411). -/
def markIdle (s : State) : State := { s with power := { s.power with idleSince := s.now } }

/-- Posts the end of the registration of vehicle limits at IDLE (R328). -/
def toIdle (o : Nat) (s : State) : State :=
  let x := s.output o
  let h := handle 4 o
  let s := s.setOutput o { x with
    state := 0, contactWait := none, control := 0, iLim := 0, stopRamp := none, rev := false, signRamp := none, limits := none, lowered := none,
    limitSince := none, imdSince := none, imdPassed := false, hold := none,
    retries := if x.fromRegulate then 0 else x.retries, fromRegulate := false }
  outIdleSession o (closeRec o ((outSlotsOff o (markIdle s)).freeContext h))

/-- Starts the pods and the voltage ramp when both contactors are closed (Table 7-4, R185). -/
def toSoftStart (o : Nat) (s : State) : State :=
  let x := s.output o
  let s := s.setOutput o { x with
    state := 2, contactWait := none, rampStart := s.now, rampFrom := x.volts, inBand := none, shortSince := none, rev := false,
    signRamp := none, iLim := (s.outFld o 20 4 : Nat) }
  regulate o (slotAuto (s.iSlot o) 0 (slotAuto (s.vSlot o) 0 (overL (s.podsOf o) podRun s)))

/-- Both auxiliary contacts are as commanded: the output sequencer advances (R183, R193). -/
def contactsSettled (o : Nat) (s : State) : State :=
  let x := s.output o
  if x.state = 1 ∧ x.commanded ∧ s.auxPos o ∧ s.auxNeg o then toSoftStart o s
  else if x.commanded = false ∧ s.auxPos o = false ∧ s.auxNeg o = false then
    if x.state = 4 ∧ x.stopRamp = none then toIdle o s
    else if x.state = 5 ∧ x.openedAt = none then
      let h := handle 4 o
      let s := s.setOutput o { x with openedAt := some s.now, contactWait := none }
      match s.contextOf h with
      | none => s
      | some c => s.takeContext h c.status c.attempt (some (s.now + 1000 * s.outFld o 24 2 * 4 ^ (c.attempt - 1)))
    else if x.state = 6 then outIdleSession o (closeRec o (s.setOutput o { x with contactWait := none }))
    else s
  else s

/-! ## Sessions and reassignments that a fault or a safe state meets -/

/-- Signals the stop of a connector's session with a reason, once (R266): a session whose output has not started ends; else
i_lim goes to 0 at once, the requests kept. While the cores are in reset no session service runs. -/
def sessionSignal (c reason : Nat) (s : State) : State :=
  let v := s.session c
  if v.state = 0 ∨ v.state = 9 ∨ v.stopping.isSome ∨ s.boot.coreReset then s
  else if v.state ≤ 3 then sessionEnd c reason s
  else
    let s := s.setSession c { v with stopping := some (reason, s.now), question := none }
    match s.outOfConn c with
    | none => s
    | some o => if s.outCtrl o = 1 then sessionIdle c (regulate o s) else s

/-- Signals the stop of the session on an output. -/
def outSessionSignal (o reason : Nat) (s : State) : State := match s.connOfOut o with
  | none => s
  | some c => if s.outCtrl o = 1 then sessionSignal c reason s else s

/-- POD_ASSIGN's RESULT (Table 7-10); with SWITCH_DISAGREE that of Table 7-11. -/
def State.assignResult (s : State) (p status : Nat) : Res :=
  let m := s.mtx p
  if status = 0x0850 then res [(0, 1, p), (2, 2, m.closedA.toNat), (4, 2, m.closedB.toNat)]
  else
    res [(0, 1, ((m.old.getD 0xFF : Nat) : Int)), (1, 1, m.step), (2, 2, m.dvClose), (4, 4, ((s.now - m.started : Nat) : Int))]

/-- Ends a reassignment sequence: its slot off, its command completed with a status. -/
def endReassign (p status : Nat) (s : State) : State :=
  let m := s.mtx p
  if m.step = 0 then s
  else
    let r := s.assignResult p status
    let s := slotOff (s.matchSlot p) s
    let s := s.setMtx p { s.mtx p with
      step := 0, rejoin := false, ramping := false, awaitBlock := false, closeSent := false, dvNoted := false, good := 0,
      status := status }
    s.finishAll 0x0504 (handle 5 p) status r

/-- A safe state stops the sequences that name the output, with their pods OFF (Table 7-7). -/
def stopReassigns (o : Nat) (s : State) : State :=
  overL (upTo 8) (fun p t =>
    let m := t.mtx p
    if m.step ≠ 0 ∧ (m.assigned = some o ∨ m.old = some o ∨ m.target = some o) then
      endReassign p 0x0A50 (podOff p t)
    else t) s

/-- The pod is left unassigned and OFF. -/
def unassign (p : Nat) (s : State) : State :=
  let s := podOff p s
  s.setMtx p { s.mtx p with assigned := none }

/-- A fault of an output, or the end of its stop ramp, meets reassignments (Table 7-7): its own pods leaving are disabled with
it and go on at step 2; a sequence that matches or closes toward a faulty output stops. -/
def outMeetsReassign (o : Nat) (fault : Bool) (s : State) : State :=
  overL (upTo 8) (fun p t =>
    let m := t.mtx p
    if m.step = 1 ∧ m.old = some o then
      (podOff p t).setMtx p { m with step := 2, stepTime := t.now, good := 0, ramping := false, awaitBlock := false }
    else if fault ∧ (m.step = 4 ∨ m.step = 5) ∧ m.target = some o ∧ m.closeSent = false then
      endReassign p 0x0301 (unassign p t)
    else t) s

/-! ## Stops, safe states and faults of outputs -/

/-- Stops an output (R187): from CLOSING the contactors open once the current is below 2 A (R184); else i_lim ramps to 0, and
a slot that a host had put in MANUAL or OFF returns to AUTO (R215). -/
def outputStop (o : Nat) (s : State) : State :=
  let x := s.output o
  if x.state = 1 then
    let s := s.finishAll 0x0501 (handle 4 o) 0x0301 0
    let s := s.setOutput o { s.output o with state := 4, stopRamp := none, fromRegulate := false }
    contactsSettled o (tryOpen o s)
  else if x.state = 2 ∨ x.state = 3 then
    let s := s.setOutput o { x with
      state := 4, stopRamp := some (s.now, x.iLim), fromRegulate := decide (x.state = 3), inBand := none, shortSince := none }
    let s := overL [s.vSlot o, s.iSlot o] (fun k t => if (t.slot k).mode ≤ 1 then slotAuto k (t.slot k).sp t else t) s
    regulate o s
  else s

/-- POD_STOP for every assigned pod: trips of source 3, and the output leaves its running states (R338). -/
def emergencyPods (o : Nat) (s : State) : State :=
  let m := s.podsOf o
  let bits := m.foldl (fun (a : BitVec 8) p => a ||| BitVec.ofNat 8 (2 ^ p)) s.isl.podStop
  let s : State := { s with isl := { s.isl with podStop := bits } }
  let s := overL m (tripCore · 3 0) s
  let x := s.output o
  let s := if x.state = 1 then s.finishAll 0x0501 (handle 4 o) 0x0301 0 else s
  if x.state = 1 ∨ x.state = 2 ∨ x.state = 3 ∨ x.state = 4 then
    outSlotsOff o (s.setOutput o { s.output o with state := 4, stopRamp := none, fromRegulate := false })
  else s

/-- Opens the contactors in the emergency safe state. -/
def emergencyOpen (o : Nat) (s : State) : State :=
  let s := s.setOutput o { s.output o with safeOpened := true }
  contactsSettled o (if (s.output o).commanded then commandOpen o s else s)

/-- Takes an output to a safe state: 1 normal (R337), 2 emergency (R338), for a cause. -/
def enterSafe (o level cause : Nat) (s : State) : State :=
  let x := s.output o
  let s := s.setOutput o { x with
    safe := level, safeSince := s.now, safeAmps := (x.amps.natAbs : Int), safeCause := cause, safeOpened := false }
  let s := endInjectionOn (s.iSlot o) 4 (endInjectionOn (s.vSlot o) 4 s)
  let s := outSessionSignal o 7 (stopReassigns o s)
  if level = 1 then outputStop o s
  else
    let s := emergencyPods o s
    if (s.output o).amps.natAbs < fld (s.blk 7) 8 4 then emergencyOpen o s else s

/-- Hands the events of the island's own log to firmware (Table 1-2). -/
def deliverKept (s : State) : State :=
  overL s.isl.kept (fun e t => t.event 9 e.1 e.2) { s with isl := { s.isl with kept := [] } }

/-- An event of the safety island goes to firmware by way of Q42; one that firmware does not take stays in the island's own
log, 256 entries (Table 1-2). -/
def islandEvent (status : Nat) (r : Res) (s : State) : State :=
  s.viaOr 42 [(status : Int)] (fun t => (deliverKept t).event 9 status r)
    (fun t => if t.isl.kept.length < 256 then { t with isl := { t.isl with kept := t.isl.kept ++ [(status, r)] } } else t)

/-- An event of the safety island, journalled. -/
def islandReport (status : Nat) (obj : Word) (r : Res) (s : State) : State := (islandEvent status r s).jotRes status obj r

/-- Raises SAFE_STATE for outputs and axes that changed (R339). A host's demand has no code: a free value. -/
def safeEvent (outs axes level : Nat) (cause : Option Nat) (s : State) : State :=
  if outs = 0 ∧ axes = 0 then s
  else
    let c := match cause with
      | some c => (c, s)
      | none => let f := s.fresh; (f.1 % 256, f.2)
    islandReport 0x0A01 (handle 0 0) (res [(0, 2, outs), (2, 1, level), (3, 1, axes), (4, 1, c.1)]) c.2

/-- The safe state of Table 19-4 for an output on a second fault; SAFE_STATE gives no code for it (a free value). -/
def secondSafe (o level : Nat) (s : State) : State :=
  if level ≤ (s.output o).safe then s else safeEvent (2 ^ o) 0 level none (enterSafe o level 0xFF s)

/-- Retires an output: it withdraws its tree node (R194), drains, raises OUTPUT_RETIRED. -/
def outputRetire (o status : Nat) (s : State) : State :=
  let h := handle 4 o
  let s := s.finishAll 0x0501 h 0x0303 0
  let s := (markIdle (s.retire h status)).setOutput o { s.output o with state := 6, stopRamp := none, contactWait := none, control := 0 }
  tryOpen o ((s.report 5 0x0854 h (res [(0, 1, o), (1, 1, status % 256)])).drain)

/-- A fault of an output (R193, R451): pods off, contactors opened below 2 A, retry, retirement or second fault. A
contactor that does not close and a short are failures of the retry itself; another detector's fault inside the recovery
window is a second fault (log entry 26). An IDLE output stays IDLE (Table 7-4). -/
def outputFault (o status : Nat) (permanent : Bool) (s : State) : State :=
  let x := s.output o
  let h := handle 4 o
  if x.state = 0 ∨ x.state = 6 then s
  else
    let s := overL [s.vSlot o, s.iSlot o] (fun k t => endInjectionOn k 3 t) s
    let s := outMeetsReassign o true (outSlotsOff o (outPodsOff o s))
    let s := s.finishAll 0x0501 h 0x0301 0
    let s := s.setOutput o { s.output o with
      state := 5, faultStatus := status, openedAt := none, stopRamp := none, control := 0, iLim := 0, inBand := none,
      shortSince := none, fromRegulate := false }
    let s := outSessionSignal o 6 s
    if permanent then outputRetire o status s
    else
      match s.contextOf h with
      | some c =>
        if c.phase = 1 ∨ (c.status ≠ status ∧ status ≠ 0x0852 ∧ status ≠ 0x0853) then
          let s := s.secondFault h c.status status
          let s := (markIdle (s.setOutput o { s.output o with state := 6 })).drain
          secondSafe o 2 s
        else if x.retries ≥ 3 then outputRetire o status s
        else contactsSettled o (tryOpen o (s.takeContext h status (x.retries + 1) none))
      | none =>
        match s.jnl.waiting.find? fun w => decide (w.1 = h) with
        | some w =>
          let s := s.secondFault h w.2 status
          secondSafe o 2 ((markIdle (s.setOutput o { s.output o with state := 6 })).drain)
        | none =>
          if x.retries ≥ 3 then outputRetire o status s
          else contactsSettled o (tryOpen o (s.takeContext h status (x.retries + 1) none))

/-- What follows a trip for reassignments and outputs (Table 7-7, Table 7-8). -/
def afterTrip (p : Nat) (s : State) : State :=
  let m := s.mtx p
  let s :=
    if m.step = 1 then s.setMtx p { m with step := 2, stepTime := s.now, good := 0, ramping := false, awaitBlock := false }
    else if m.step = 4 ∨ (m.step = 5 ∧ m.closeSent = false) then endReassign p 0x0840 (unassign p s)
    else if m.step = 5 then s.setMtx p { m with status := 0x0840 }
    else if m.step = 6 then endReassign p 0x0840 s
    else s
  match (s.mtx p).assigned with
  | none => s
  | some o =>
    let x := s.output o
    if (x.state = 2 ∨ x.state = 3) ∧ x.safe = 0 ∧
        (s.podsOf o).all (fun k => decide ((s.pod k).state = 2 ∨ (s.pod k).state = 4)) then outputFault o 0x0840 false s
    else s

/-- A trip of a pod and all that follows it (R163, R165); an injection on a slot that feeds it ends (Table 8-7). -/
def tripPod (p src index : Nat) (s : State) : State :=
  let dest := fun (d : Nat) => decide (d = 0x2000 + p ∨ (s.mtx p).assigned.map (0x1000 + ·) = some d)
  afterTrip p (tripCore p src index (endInjectionTo dest 3 s))

/-! ## The safety island's judgement -/

/-- Field of a function entry (Table 13-7). -/
def State.fnFld (s : State) (f off n : Nat) : Nat := fld (s.blk 7) (1760 + 8 * f + off) n
/-- Field of an axis entry (Table 13-5). -/
def State.axFld (s : State) (a off n : Nat) : Nat := fld (s.blk 7) (608 + 32 * a + off) n
/-- Field of a safe connection entry (Table 13-6). -/
def State.scFld (s : State) (k off n : Nat) : Nat := fld (s.blk 7) (736 + 16 * k + off) n
/-- Field of a safety output's entry (Table 13-2), input's entry (Table 13-3) and output's entry (Table 13-4). -/
def State.soFld (s : State) (k off n : Nat) : Nat := fld (s.blk 7) (32 + 8 * k + off) n
def State.siFld (s : State) (k off n : Nat) : Nat := fld (s.blk 7) (288 + 8 * k + off) n
def State.ioFld (s : State) (o off n : Nat) : Nat := fld (s.blk 7) (480 + 8 * o + off) n
def State.axFitted (s : State) (a : Nat) : Bool := tst (s.axFld a 0 1) 0

/-- The contactors of an output are closed: either contactor's input is in demand (R326). -/
def State.outClosed (s : State) (o : Nat) : Bool := s.outFitted o && (s.auxPos o || s.auxNeg o)

/-- A function's trigger holds (Table 13-8). -/
def State.triggerOf (s : State) (f : Nat) : Bool :=
  let i := s.fnFld f 1 1
  match s.fnFld f 0 1 with
  | 1 => (s.sin i).demand
  | 2 => (s.sin i).latched
  | 3 => (s.sout i).faulted
  | 4 => decide ((s.sconn i).state = 2)
  | 5 => (s.sconn i).data.getLsbD 0 && (s.sconn i).lastSeq.isSome
  | 6 =>
    let c := s.conn i
    decide (c.pilot = 4 ∨ c.pilot = 7) ||
    (match s.contextOf (handle 9 i) with
      | none => false
      | some x => decide (x.status = 0x0870)) ||
    (decide (c.pilot = 0) && (match s.outOfConn i with
      | none => false
      | some o => s.outClosed o))
  | 7 => decide ((s.axis i).violation ≠ 0)
  | 8 => decide (s.ioFld i 0 1 < 24) && (s.sin (s.ioFld i 0 1)).demand && s.outClosed i
  | _ => false

/-- Judges one function again (R320, R321). -/
def judgeFn (f : Nat) (s : State) : State :=
  let v := s.sfn f
  if s.fnFld f 0 1 = 0 ∧ v.demand = false then s
  else
    let t := s.triggerOf f
    let d := t || (v.demand && decide (s.fnFld f 3 1 = 1))
    if t = v.trigger ∧ d = v.demand then s
    else s.setSfn f { v with
      trigger := t, demand := d, count := if d ∧ v.demand = false then bump32 v.count else v.count,
      time := if d ∧ v.demand = false then s.time else v.time }

/-- Functions in demand that name an output with a reaction. -/
def State.fnOn (s : State) (o react : Nat) : Option Nat :=
  (upTo 128).find? fun f => (s.sfn f).demand && decide (s.fnFld f 2 1 = react) && tst (s.fnFld f 4 2) o

/-- Rows of Table 13-9 by their reaction. -/
def fixedLevel (row : Nat) : Nat := if row = 1 ∨ row = 7 then 1 else 2

/-- The safe state that the demands on an output call for, and its cause: a function, 0x80 plus a fixed cause, or a
host's demand, whose code SAFE_STATE does not give (none). -/
def State.demandOn (s : State) (o : Nat) : Nat × Option Nat :=
  let x := s.output o
  match s.fnOn o 2 with
  | some f => (2, some f)
  | none =>
    match x.fixed.find? fun r => decide (fixedLevel r = 2) with
    | some r => (2, some (0x80 + r))
    | none =>
      if s.isl.reqEmergency.getLsbD o then (2, none)
      else match s.fnOn o 1 with
        | some f => (1, some f)
        | none =>
          match x.fixed.find? fun r => decide (fixedLevel r = 1) with
          | some r => (1, some (0x80 + r))
          | none => if s.isl.reqNormal.getLsbD o then (1, none) else (0, some x.safeCause)

/-- An axis is held in safe torque-off (R320, R322, R332, R338). -/
def State.axisHeld (s : State) (a : Nat) : Bool :=
  (upTo 128).any (fun f => (s.sfn f).demand && tst (s.fnFld f 6 1) a) || s.isl.reqAxes.getLsbD a ||
  decide ((s.axis a).violation ≠ 0) || s.metro.warning.isSome || decide (s.sup.mode = 3)

/-- Mask of a list of indices. -/
def maskOf (l : List Nat) : Nat := l.foldl (fun a k => a ||| 2 ^ k) 0

/-- The payload of a safe message up to its CHECK (Table 13-10). -/
def safeBody (k : Nat) (seq : Half) (kind : Byte) (data : BitVec 64) : List Byte :=
  leBytes k 2 ++ leBytes seq.toNat 2 ++ [kind, 0, 0, 0] ++ leBytes data.toNat 8 ++ [0, 0, 0, 0]

/-- The check of a safe message (R333): CRC-32C over bytes 0 to 19, folded with (CONN << 16) XOR SEQ. -/
def safeCrc (k : Nat) (seq : Half) (kind : Byte) (data : BitVec 64) : Nat :=
  crc (Nat.xor (k * 65536) seq.toNat) (safeBody k seq kind data)

/-- Both copies of a safe message are offered on the connection's ports that run CAN FD and are up (R333, R334, R351); a copy
of the connection's previous message that is still unsent gives way, and the copies are retried without limit
(log entry 102). -/
def sendCopies (k : Nat) (seq : Half) (data : BitVec 64) (s : State) : State :=
  let f : TxFrame :=
    { ident := BitVec.ofNat 32 (s.scFld k 4 4 % 1073741824), retry := 255,
      payload := safeBody k seq 1 data ++ leBytes (safeCrc k seq 1 data) 4 }
  overL ([s.scFld k 1 1, s.scFld k 2 1].filter fun p => s.portUp p && decide (s.portMode p = 1)) (offerFrame f true) s

/-- The transmitter of a connection takes the MSG word from its holding register, while PD9 is on (Table 1-9). -/
def takeMsg (k : Nat) (s : State) : State :=
  match (s.sconn k).msg with
  | none => s
  | some (seq, data) =>
    if s.power.domains.getLsbD 9 = false then s
    else
      let s := s.setSconn k { s.sconn k with msg := none }
      sendCopies k seq data { s with isl := { s.isl with sent := (k, seq, data) :: s.isl.sent } }

/-- Sends a safe message of a transmit connection: both copies carry one SEQ (R334). Its word goes through the holding
register, where it replaces one that the transmitter has not yet taken; the replacement is counted (Table 1-9). -/
def sendSafe (k : Nat) (s : State) : State :=
  let v := s.sconn k
  takeMsg k (s.setSconn k { v with
    txSeq := v.txSeq + 1, txTime := s.now, msg := some (v.txSeq, v.txData),
    msgReplaced := if v.msg.isSome then v.msgReplaced + 1 else v.msgReplaced })

/-- DATA bit 0 of the transmit connections follows the functions that name them (R320); a change is sent at once. -/
def judgeTx (k : Nat) (s : State) : State :=
  if s.scFld k 0 1 ≠ 2 then s
  else
    let d := (upTo 128).any fun f => (s.sfn f).demand && decide (s.fnFld f 7 1 = k) && decide (s.fnFld f 0 1 ≠ 0)
    let v := s.sconn k
    if v.txData.getLsbD 0 = d then s
    else sendSafe k (s.setSconn k { v with txData := if d then v.txData ||| 1 else v.txData &&& ~~~1 })

/-- The safety island ramps an output to zero while Q33 is stalled, or while Q39 is stalled with an entry for one of its pods
(Table 1-2). -/
def State.stallRamp (s : State) (o : Nat) : Bool :=
  (s.iq 33).stalled ||
  ((s.iq 39).stalled && (s.podsOf o).any fun p => (s.iq 39).entries.any fun e => decide (e.body.getD 1 (-1) = (p : Int)))

/-- Applies the demands on outputs and axes: entries, exits, events, the voted bits (R320, R337 to R339). -/
def judgeOutputs (s : State) : State :=
  let outs := (upTo 16).filter fun o => s.outFitted o
  let want := outs.map fun o => (o, s.demandOn o, (s.output o).safe)
  let up := want.filter fun e => decide (e.2.2 < e.2.1.1)
  let gone := want.filter fun e => decide (e.2.1.1 = 0 ∧ e.2.2 ≠ 0)
  let held := (upTo 4).filter fun a => s.axFitted a && s.axisHeld a
  let newSto := held.filter fun a => !s.isl.sto.getLsbD a || !(s.axis a).sto
  let freed := (upTo 4).filter fun a => s.axFitted a && (s.axis a).sto && !held.contains a
  let s := overL (upTo 4) (fun a t =>
    if t.axFitted a then soutSet (t.axFld a 1 1) (!held.contains a) (t.setAxis a { t.axis a with sto := held.contains a })
    else t) s
  let s : State := { s with isl := { s.isl with sto := BitVec.ofNat 4 (maskOf held) } }
  let s := overL up (fun e t => enterSafe e.1 e.2.1.1 (e.2.1.2.getD 0xFF) t) s
  let s := overL gone (fun e t => t.setOutput e.1 { t.output e.1 with safe := 0, safeSince := t.now }) s
  let ramp : Half := BitVec.ofNat 16 (maskOf (outs.filter fun o => decide ((s.output o).safe ≠ 0) || s.stallRamp o))
  let s := if up ≠ [] ∨ ramp &&& ~~~s.isl.outRamp ≠ 0 then s.drain else s
  let stops := outs.filter fun o => decide ((s.output o).safe = 2)
  let pods := (upTo 8).filter fun p => match (s.mtx p).assigned with
    | none => false
    | some o => stops.contains o
  let s : State := { s with isl := { s.isl with
    outRamp := ramp,
    podStop := if s.sup.mode = 3 then 0xFF else BitVec.ofNat 8 (maskOf pods) } }
  let s := overL (up.map fun e => e.2.1).eraseDups (fun d t =>
    safeEvent (maskOf ((up.filter fun e => decide (e.2.1 = d)).map (·.1)))
      (if (up.head?.map fun e => e.2.1) = some d then maskOf newSto else 0) d.1 d.2 t) s
  let s := if up = [] then safeEvent 0 (maskOf newSto) 2 ((upTo 128).find? fun f =>
      (s.sfn f).demand && newSto.any fun a => tst (s.fnFld f 6 1) a) s else s
  safeEvent (maskOf (gone.map (·.1))) (maskOf freed) 0 (match gone with
    | [] => none
    | e :: _ => some (s.output e.1).safeCause) s

/-- Judges every demand again: functions, outputs, axes, transmit connections. -/
def judge (s : State) : State :=
  if s.sup.mode = 3 then s
  else overL (upTo 64) judgeTx (judgeOutputs (overL (upTo 128) judgeFn s))

/-- Puts a fixed cause of Table 13-9 in force on outputs. -/
def addFixed (outs : List Nat) (row : Nat) (s : State) : State :=
  overL outs (fun o t =>
    let x := t.output o
    if x.fixed.contains row then t else t.setOutput o { x with fixed := x.fixed ++ [row] }) s

/-- Ends a fixed cause on outputs. -/
def dropFixed (outs : List Nat) (row : Nat) (s : State) : State :=
  overL outs (fun o t => t.setOutput o { t.output o with fixed := (t.output o).fixed.filter (· ≠ row) }) s

/-- The local outputs: those that are fitted. -/
def State.localOuts (s : State) : List Nat := (upTo 16).filter fun o => s.outFitted o

/-- The outputs follow a stall of Q33, Q34, Q39 or Q40 that began or ended since `was` (Table 1-2, Table 13-9). -/
def stallOver (was s : State) : State :=
  let moved := fun (q : Nat) => decide ((was.iq q).stalled ≠ (s.iq q).stalled)
  if [33, 34, 39, 40].any moved = false then s
  else
    let row := fun (q row : Nat) (t : State) =>
      if moved q = false then t else if (t.iq q).stalled then addFixed t.localOuts row t else dropFixed t.localOuts row t
    let s := judge (row 40 2 (row 34 1 s))
    overL s.localOuts regulate s

/-- The causes grant exceeded, vehicle limit, invalid samples and t_hold end once the contactors are open and no current
flows (R322; log entry 25). -/
def settleFixed (o : Nat) (s : State) : State :=
  let x := s.output o
  if x.commanded = false ∧ s.outClosed o = false ∧ s.below2A o then
    s.setOutput o { x with fixed := x.fixed.filter fun r => decide (r = 1 ∨ r = 2 ∨ r = 6 ∨ r = 8) }
  else s

/-- PD2 is on while channel D votes, is being promoted, or is parked for its self-test (R309, R312, R313). -/
def spareDomain (s : State) : State :=
  let v := s.sup
  let on := v.active.contains 3 || v.promotion.any (fun x => decide (x.1 = 3)) ||
    (v.parked.contains 3 && !s.isRetired (handleSub 0 0 0x23))
  { s with power := { s.power with domains := if on then s.power.domains ||| 4 else s.power.domains &&& 0xFFB } }

/-- VOTER_SAFE: the voter's own sequencer sets POD_STOP, STO and OUT_RAMP at once (R306), and POD_STOP trips every pod
(R163). -/
def enterVoterSafe (cause : Nat) (s : State) : State :=
  if s.sup.mode = 3 ∧ s.sup.started then s
  else
    let s : State := { s with sup := { s.sup with
      mode := 3, safeSince := s.now, safeCause := cause, dropped := false, promotion := none, proof := false } }
    let s := spareDomain s
    let s := islandReport 0x0A13 (handle 0 0) (res [(0, 1, cause), (4, 4, s.sup.frame)]) s
    let outs := s.localOuts.filter fun o => decide ((s.output o).safe ≠ 2)
    let s := addFixed s.localOuts 8 s
    let s := overL outs (fun o t => enterSafe o 2 0x88 t) s
    let s := overL (upTo 4) (fun a t => t.setAxis a { t.axis a with sto := true }) s
    let s : State := { s with isl := { s.isl with podStop := 0xFF, sto := 0xF, outRamp := 0xFFFF } }
    let s := (overL ((upTo 8).filter s.podServes) (fun p t => tripPod p 3 0 t) s).drain
    (safeEvent (maskOf outs) 0xF 2 (some 0x88) s).finishAll 0x0908 (handle 0 0) 0x0301 0

end Sys2Proof.Machine
end

