-- ==== Sys2Proof/Machine/Phases.lean ====
section
/-! DEFINITION. The phase array (chapter 06): the switching of a phase, reload points and pairing, synchronisation,
trips, shedding, debug halt, and the phase-array commands of Table 6-10. -/

namespace Sys2Proof.Machine

/-! ## Switching (R151 to R154) -/

/-- Pod of a phase. -/
def podOf (k : Nat) : Nat := k / 6

/-- Reference of a phase: the pod's REF at the phase's shed level (R170, R171). -/
def State.phaseRef (s : State) (k : Nat) : Rat := ((s.pod (podOf k)).ref : Rat) * ((s.phase k).level : Rat) / 32

/-- code(ref) before and after PK_MAX (R153). -/
def State.phaseCode (s : State) (k : Nat) : Int × Nat :=
  let raw : Int := ((if s.phaseRef k < 0 then -s.phaseRef k else s.phaseRef k) * 4096 / (s.phFld k 4 4 : Rat)).floor
    + signed 2 (s.phFld k 8 2)
  (raw, min (s.phFld k 10 2) (max 0 raw).toNat)

/-- Counts a cut reference, and raises REF_CLAMPED at most once per second per pod (R153, R168). -/
def refClamped (p : Nat) (asked : Int) (code : Nat) (s : State) : State :=
  let d := s.pod p
  let due := match d.clampTime with
    | none => true
    | some t => s.after t 1000000
  let s := s.setPod p { d with clamps := bump32 d.clamps, clampTime := if due then some s.now else d.clampTime }
  if due then s.event 6 0x0040 (res [(0, 1, p), (4, 4, asked), (8, 2, code)]) else s

/-- Drives the gates of a phase: the controlled switch is PH_H, in reverse PH_L (R168). -/
def gates (k : Nat) (controlled complementary : Bool) (s : State) : State :=
  let rev := (s.pod (podOf k)).reverse
  s.setPhase k { s.phase k with
    gateH := if rev then complementary else controlled, gateL := if rev then controlled else complementary }

/-- A phase switches: its pod runs in a domain that is on, it is fitted, in service, not shed, and no sign hold is in
force. -/
def State.phaseRuns (s : State) (k : Nat) : Bool :=
  let d := s.pod (podOf k)
  let f := s.phase k
  decide (d.state = 1 ∧ d.signHold = false ∧ f.state ≠ 2 ∧ f.state ≠ 4 ∧ f.state ≠ 5) && s.phFitted k && s.podPower (podOf k)

/-- Turn-on position of a phase in sixteenths, for a period in counts (R148). -/
def State.turnOnAt (s : State) (k period : Nat) : Nat :=
  if s.phFld k 0 2 = 0xFFFF then k % 6 * period * 16 / 6 else s.phFld k 0 2 * period * 16 / 65536

/-- The counter of a pod has reached a position; a pulse of SYNC_OUT ends 16 counts after the zero (R161). -/
def advance (p counter : Nat) (s : State) : State :=
  let s := s.setPod p { s.pod p with counter := counter }
  if 16 ≤ counter ∧ fld (s.blk 4) 4 1 = p then { s with syncOut := false } else s

/-- The phase's turn-on position of the present period has been reached: it lies within the period, ahead of the counter, and
has not been used (R148, R159). -/
def State.turnsOn (s : State) (k position : Nat) : Bool :=
  let d := s.pod (podOf k)
  decide (position = s.turnOnAt k d.posPeriod ∧ position < 16 * d.stop ∧ 16 * d.counter ≤ position ∧ (s.phase k).onAt < 0)

/-- PHASE_TURN_ON (R151, R153): at its position, in sixteenths, complementary off; after DT_RISE controlled on, blanking and
ramp start. -/
def execPhaseTurnOn (k : Nat) (s : State) (position : Nat := 0) : Out :=
  if s.phaseRuns k = false ∨ s.turnsOn k position = false then .next s
  else
    let c := s.phaseCode k
    let on : Int := ((position + s.paFld (podOf k) 12 2 : Nat) : Int)
    let s := advance (podOf k) (position / 16) s
    let s := gates k true false (s.setPhase k { s.phase k with on := true, blanking := true, code := c.2, onAt := on })
    .next (if (s.phFld k 10 2 : Int) < c.1 then refClamped (podOf k) (s.pod (podOf k)).ref c.2 s else s)

/-- Comparator threshold, DAC codes, at a time since the controlled switch turned on, sixteenths of a count (R153). -/
def State.threshold (s : State) (k onTime : Nat) : Rat :=
  max 0 (((s.phase k).code : Rat) - (s.paFld (podOf k) 16 2 : Rat) * ((onTime : Rat) / 9600) / 16)

/-- The comparator finds the sensed current, in DAC codes at the sense balls, at or above the threshold: its sense is inverted
in reverse, and by SENSE_INV on top of that (R152, R168). -/
def State.reaches (s : State) (k onTime : Nat) (sensed : Int) : Bool :=
  let inverted := (s.pod (podOf k)).reverse != tst (s.phFld k 2 1) 1
  decide (s.threshold k onTime ≤ ((if inverted then -sensed else sensed : Int) : Rat))

/-- The controlled switch turns off, and the complementary one on after DT_FALL (R152). -/
def turnOff (k : Nat) (f : Phase → Phase) (s : State) : State :=
  gates k false true (s.setPhase k (f { s.phase k with on := false, blanking := false }))

/-- COMPARATOR_TURN_OFF (R152): only after blanking, and at the threshold. -/
def execComparatorTurnOff (k : Nat) (s : State) (sensed : Int := 0) (onTime : Nat := 0) : Out :=
  let f := s.phase k
  if f.on ∧ f.blanking = false ∧ s.reaches k onTime sensed then
    .next (turnOff k (fun g => { g with compEnds := bump32 g.compEnds, blankRun := 0 }) s)
  else .next s

/-- MAXON_END (R152): the counters of a halted pod are frozen. -/
def execMaxonEnd (k : Nat) (s : State) : Out :=
  let f := s.phase k
  if f.on ∧ (s.pod (podOf k)).frozen = false then
    .next (turnOff k (fun g => { g with maxonEnds := bump32 g.maxonEnds, blankRun := 0 }) s)
  else .next s

/-- BLANKING_END (R154): a comparator that already reads high, LEB after the turn-on, ends the cycle; the sixteenth in a row
trips the pod. -/
def execBlankingEnd (k : Nat) (sensed : Int) (s : State) : Out :=
  let f := s.phase k
  if f.on = false ∨ f.blanking = false then .next s
  else if s.reaches k (16 * s.paFld (podOf k) 10 2) sensed = false then .next (s.setPhase k { f with blanking := false })
  else
    let s := turnOff k (fun g => { g with blankEnds := bump32 g.blankEnds, blankRun := g.blankRun + 1 }) s
    if (s.phase k).blankRun < 16 then .next s
    else
      let s := s.setPhase k { s.phase k with blankRun := 0, state := 4 }
      .next (tripPod (podOf k) 4 k (s.event 6 0x0841 (res [(0, 1, k), (1, 1, 16)])))

/-! ## References, shedding (R168 to R171) -/

/-- A reference changed sign: a pod in RUN or HALTED holds its gates low for two full periods, from here anew (R169; log entry
95); one whose gates are low already takes the direction at once. -/
def signChange (p : Nat) (new : Int) (s : State) : State :=
  let d := s.pod p
  if d.state = 1 ∨ d.state = 3 then
    gatesLow p (s.setPod p { d with signHold := true, holdLeft := if d.state = 1 ∧ d.counter = 0 then 2 else 3 })
  else s.setPod p { d with reverse := decide (new < 0) }

/-- Loads a reference: the limit of a pod that is not bidirectional, a sign change's hold, a load step. The thresholds of
shedding compare with the reference's magnitude (log entry 96). -/
def loadRef (p : Nat) (asked : Int) (s : State) : State :=
  let bidir := tst (s.podFld p 4 1) 0
  let new := if bidir = false ∧ asked < 0 then 0 else asked
  let s := if new ≠ asked then refClamped p asked 0 s else s
  let d := s.pod p
  let s := s.setPod p { d with
    ref := new, below := if new.natAbs < s.paFld p 20 4 then d.below else 0,
    above := if s.paFld p 24 4 < new.natAbs then d.above else 0 }
  let s := if decide (new < 0) ≠ decide (d.ref < 0) then signChange p new s else s
  let step := s.paFld p 32 4
  if s.paFld p 24 4 < new.natAbs ∨ (step ≠ 0 ∧ d.ref.natAbs + step < new.natAbs) then abortShed p s else s

/-- SIGN_HOLD_END (R169): two full periods of the hold have passed. -/
def execSignHoldEnd (p : Nat) (s : State) : Out :=
  let d := s.pod p
  if d.signHold ∧ d.holdLeft = 0 ∧ d.state = 1 then
    .next (s.setPod p { d with signHold := false, reverse := decide (d.ref < 0) })
  else .next s

/-- PHASE_SHED (R170): the highest-numbered active phase starts its 32 periods. -/
def execPhaseShed (p : Nat) (s : State) : Out :=
  let d := s.pod p
  let a := s.activePhases p
  if tst (s.paFld p 2 1) 2 ∧ d.state = 1 ∧ s.paFld p 28 2 ≤ d.below ∧ s.paFld p 3 1 < a.length then
    match a.getLast? with
    | none => .next s
    | some k => .next ((s.setPhase k { s.phase k with state := 1, level := 31 }).setPod p { d with below := 0 })
  else .next s

/-- The lowest-numbered shed phase of a pod starts to rise over 8 periods (R170). -/
def startRestore (p : Nat) (s : State) : State :=
  match (podPhases p).find? fun k => decide ((s.phase k).state = 2) with
  | none => s
  | some k => (s.setPhase k { s.phase k with state := 3, level := 4 }).setPod p { s.pod p with below := 0, above := 0 }

/-- PHASE_RESTORE (R170): REF has stayed above SHED_HI for one period. -/
def execPhaseRestore (p : Nat) (s : State) : Out :=
  let d := s.pod p
  if tst (s.paFld p 2 1) 2 ∧ d.state = 1 ∧ 1 ≤ d.above then .next (startRestore p s) else .next s

/-- One period of a phase's shed or restore (R170, R171). -/
def shedStep (k : Nat) (s : State) : State :=
  let f := s.phase k
  if f.state = 1 then
    (if f.level = 0 then s.setPhase k { f with state := 2, gateH := false, gateL := false, on := false, blanking := false }
     else s.setPhase k { f with level := f.level - 1 })
  else if f.state = 3 then
    (if 32 ≤ f.level + 4 then s.setPhase k { f with state := 0, level := 32 } else s.setPhase k { f with level := f.level + 4 })
  else s

/-! ## Reload points (R157 to R159) -/

/-- Update mode of a pod: 0 boundary, 1 mid-period, 2 immediate. -/
def State.upd (s : State) (p : Nat) : Nat := s.paFld p 2 1 % 4

/-- Raises PAIR_SPLIT for the halves that are pending, and discards them (R158). -/
def pairSplit (p : Nat) (s : State) : State :=
  let d := s.pod p
  let s := s.setPod p { d with pendP := false, pendM := false, splits := bump32 d.splits }
  s.event 6 0x0340 (res [(0, 1, p), (1, 1, if d.pendP then d.tagP else 0), (2, 1, if d.pendM then d.tagM else 0),
    (3, 1, bit d.pendP + 2 * bit d.pendM)])

/-- Loads a pair into the counters. At mid-period, and in immediate mode at the clock of the load, the present period ends at
the new PERIOD or one count later, and the phases whose position lies beyond that end are skipped and counted; a phase whose
on-time has reached the new MAXON turns off in that clock (R159). -/
def loadPair (p : Nat) (s : State) : State :=
  let d := s.pod p
  let inside := decide (d.state = 1 ∧ d.counter ≠ 0)
  let stop := if inside then max d.shPeriod (d.counter + 1) else d.stop
  let s := overL (podPhases p) (fun k t =>
    let f := t.phase k
    let t := if inside ∧ t.phServes k ∧ f.onAt < 0 ∧ 16 * d.counter ≤ t.turnOnAt k d.posPeriod ∧
        stop * 16 ≤ t.turnOnAt k d.posPeriod then
        t.setPhase k { f with skips := bump32 f.skips } else t
    if d.state = 1 ∧ f.on ∧ (d.shMaxon : Int) ≤ 16 * (d.counter : Int) - f.onAt then
      turnOff k (fun g => { g with maxonEnds := bump32 g.maxonEnds, blankRun := 0 }) t
    else t) s
  s.setPod p { d with
    period := d.shPeriod, maxon := d.shMaxon, stop := stop, pendP := false, pendM := false, lastTag := d.tagP }

/-- The rule of a reload point (R158). A reference that arrives during the disable ramp does not change it (log entry 95). -/
def reload (p clocks : Nat) (atZero : Bool) (s : State) : State :=
  let d := s.pod p
  let immediate := decide (s.upd p = 2 ∨ d.state ≠ 1)
  let s :=
    if d.pendP ∧ d.pendM then (if d.tagP = d.tagM then loadPair p s else pairSplit p s)
    else if d.pendP ∨ d.pendM then
      (if immediate = false ∨ 600 ≤ clocks ∨ atZero then pairSplit p s else s)
    else s
  if (s.pod p).pendR then
    let t := s.setPod p { s.pod p with pendR := false, lastTag := (s.pod p).tagR }
    if d.ramp.isSome then t else loadRef p (s.pod p).shRef t
  else s

/-- Counter zeros of a pod count for the slots that they trigger (R199). -/
def countZeros (p : Nat) (s : State) : State :=
  overL ((upTo 64).filter fun k => decide (s.slFld k 0 1 ≠ 0 ∧ s.trigPod k = some p))
    (fun k t => t.setSlot k { t.slot k with zeros := (t.slot k).zeros + 1 }) s

/-- The expected SYNC_IN edge of a pod: every SYNC_DIV-th period holds one, or it is missing (R160). -/
def Pod.awaitEdge (d : Pod) (div : Nat) : Pod :=
  if div ≤ d.sinceEdge then { d with sinceEdge := 1, missing := bump32 d.missing, goodEdges := 0 }
  else { d with sinceEdge := d.sinceEdge + 1 }

/-- The counter reaches its end and passes to 0: the period count, on-times over the zero, a sign hold's period, the SYNC_IN
edge that the ended period should have held, SYNC_OUT, the slots that the zero triggers (R147, R160, R161, R169, R199). -/
def periodEnd (p : Nat) (s : State) : State :=
  let d := s.pod p
  let d := if tst (s.paFld p 2 1) 3 then d.awaitEdge (fld (s.blk 4) 5 1) else d
  let s := overL (podPhases p) (fun k t => t.setPhase k { t.phase k with
    onAt := if (t.phase k).on then (t.phase k).onAt - 16 * (d.stop : Int) else -1 }) s
  let s := s.setPod p { d with counter := 0, periods := (d.periods + 1) % 4294967296, holdLeft := d.holdLeft - 1 }
  countZeros p (if fld (s.blk 4) 4 1 = p then { s with syncOut := true } else s)

/-- What the counter's zero does after the reload: the length of the new period with the correction of synchronisation, its
positions, the dwell counts, shedding and the disable ramp (R148, R160, R167, R170, R171). SHED_LO and SHED_HI compare with
the magnitude of REF (log entry 96). -/
def periodZero (p : Nat) (s : State) : State :=
  let d := s.pod p
  let slew : Int := fld (s.blk 4) 6 2
  let step := max (-slew) (min slew d.correction)
  let moved := (podPhases p).any fun k => decide ((s.phase k).state = 1 ∨ (s.phase k).state = 3)
  let d := { d with
    stop := ((d.period : Int) - step).toNat, posPeriod := d.period, correction := d.correction - step,
    below := if d.ref.natAbs < s.paFld p 20 4 ∧ moved = false then d.below + 1 else 0,
    above := if s.paFld p 24 4 < d.ref.natAbs then d.above + 1 else 0 }
  let d := match d.ramp with
    | none => d
    | some (r, n) => { d with
        ramp := some (r, min 32 (n + 1)), ref := r * ((32 - min 32 (n + 1) : Nat) : Int) / 32 }
  let due := d.restoreDue
  let s := overL (podPhases p) shedStep (s.setPod p { d with restoreDue := false })
  if due then startRestore p s else s

/-- The point is a reload point of the pod's update mode (R157). -/
def State.reloads (s : State) (p counter : Nat) : Bool :=
  let u := s.upd p
  decide ((u = 0 ∧ counter = 0) ∨ (u = 1 ∧ counter = (s.pod p).period / 2) ∨ u = 2)

/-- RELOAD_POINT: the counter reaches a position, 0 at the end of the period, which may be a reload point by the pod's update
mode. A stopped, tripped or halted pod takes its shadow writes as in immediate mode (R157). -/
def execReloadPoint (p clocks counter : Nat) (s : State) : Out :=
  let d := s.pod p
  if d.state ≠ 1 then .next (reload p clocks false s)
  else if counter = 0 then
    let s := periodEnd p s
    .next (periodZero p (if s.reloads p 0 then reload p clocks true s else s))
  else if counter < d.counter ∨ d.stop ≤ counter then .next s
  else
    let s := advance p counter s
    .next (if s.reloads p counter then reload p clocks false s else s)

/-- Writes shadow registers with a tag; a newer write replaces the older one (R158). -/
def shadowWrite (p tag : Nat) (period maxon : Option Nat) (ref : Option Int) (s : State) : State :=
  let d := s.pod p
  let d := match period with
    | none => d
    | some v => { d with shPeriod := v, pendP := true, tagP := tag }
  let d := match maxon with
    | none => d
    | some v => { d with shMaxon := v, pendM := true, tagM := tag }
  let d := match ref with
    | none => d
    | some v => { d with shRef := v, pendR := true, tagR := tag }
  s.setPod p d

/-- Posts the references that waited for a credit of Q39 (R217). -/
def postWaiting (s : State) : State :=
  overL (upTo 8) (fun p t => match (t.pod p).refDue with
    | none => t
    | some r => if t.credits 39 = 0 then t else postRef p r t) s

/-- The shadow write that an entry of Q39 asks for, if it is of the period in force or a later one (R133, R157). -/
def takeEntry39 (body : Option (List Int)) (s : State) : State :=
  match body with
  | some [kind, p, tag, v, v2, period] =>
    let k := p.toNat
    if period < (s.cal.period : Int) then s
    else if kind = 0 then shadowWrite k tag.toNat none none (some v) s
    else if kind = 1 then shadowWrite k tag.toNat (some v.toNat) none none s
    else if kind = 2 then shadowWrite k tag.toNat none (some v.toNat) none s
    else shadowWrite k tag.toNat (some v.toNat) (some v2.toNat) none s
  | _ => s

/-- Q39_REFERENCE_ENTRY (R157, R158, R133): kinds 0 REF, 1 PERIOD, 2 MAXON, 3 PAIR; an entry of a past period is
discarded. References that waited are posted against the credits as they stood before this entry is taken (Table 1-3). -/
def execQ39ReferenceEntry (s : State) : Out :=
  let t := postWaiting s
  .next (stallOver s (takeEntry39 (t.take 39).1 (t.take 39).2))

/-! ## Synchronisation (R160) -/

/-- Error of the counter at an edge, in −PERIOD/2 to +PERIOD/2. -/
def syncError (expected actual period : Nat) : Int :=
  let e := ((expected : Int) - (actual : Int)) % (period : Int)
  if (period : Int) < 2 * e then e - (period : Int) else e

/-- An edge falls within 1 % of SYNC_DIV periods of the spacing expected since the last one that was taken, the missing ones
between counted in; the first edge has none before it (R160). -/
def Pod.spaced (d : Pod) (div spacing : Nat) : Bool :=
  !d.edgeSeen || (upTo (d.missing + 1)).any fun m =>
    decide ((((spacing : Int) - ((m + 1) * div * d.period : Nat)).natAbs) * 100 ≤ div * d.period)

/-- SYNC_IN_EDGE: the counter as the synchroniser gives it, 3 counts late, and the counts since the last edge taken. -/
def execSyncInEdge (p counter spacing : Nat) (s : State) : Out :=
  let d := s.pod p
  let div := fld (s.blk 4) 5 1
  if tst (s.paFld p 2 1) 3 = false ∨ d.state ≠ 1 then .next s
  else if d.spaced div spacing = false then
    .next (s.setPod p { d with missing := bump32 d.missing, goodEdges := 0, sinceEdge := 0 })
  else
    let e := syncError (s.paFld p 8 2 * d.period / 65536 + 3) counter d.period
    .next (s.setPod p { d with
      goodEdges := if e.natAbs ≤ 1 then min 16 (d.goodEdges + 1) else 0, missing := 0, correction := e, syncLost := false,
      sinceEdge := 0, edgeSeen := true, syncs := if e = 0 then d.syncs else bump32 d.syncs })

/-- SYNC_LOST: SYNC_LOSS edges in a row are missing; the pod free-runs at PERIOD. -/
def execSyncLost (p : Nat) (s : State) : Out :=
  let d := s.pod p
  if tst (s.paFld p 2 1) 3 = false ∨ d.state ≠ 1 ∨ d.syncLost ∨ d.missing < fld (s.blk 4) 8 1 then .next s
  else
    let s := s.setPod p { d with syncLost := true, goodEdges := 0, correction := 0 }
    .next (s.event 6 0x0842 (res [(0, 1, p), (4, 4, d.missing)]))

/-! ## Trips and halt -/

/-- POD_TRIP (R163): source 1 is POD_TRIP_N, source 2 a GTRIP_N input that maps the pod; an input must stay low for TRIP_FILT
counts, and a level that returns high lets the trip be cleared. -/
def execPodTrip (p source index : Nat) (low : Bool) (s : State) (clocks : Nat := 0) : Out :=
  let d := s.pod p
  let acts := low && s.podPower p
  if low ∧ clocks < s.paFld p 18 2 then .next s
  else if source = 1 then
    let s := s.setPod p { d with podTripLow := low }
    .next (if acts then tripPod p 1 0 s else s)
  else if source = 2 ∧ index < 4 ∧ tst (fld (s.blk 4) index 1) p then
    let rest := d.gtripLow.filter (· ≠ index)
    let s := s.setPod p { d with gtripLow := if low then rest ++ [index] else rest }
    .next (if acts then tripPod p 2 index s else s)
  else .next s

/-- A pod with the halt enable freezes, RUN to HALTED; a halted one goes on at the release (R167, R172). -/
def haltPod (halt : Bool) (p : Nat) (s : State) : State :=
  let d := s.pod p
  if halt ∧ d.haltEnable = false then s
  else if halt then s.setPod p { d with state := if d.state = 1 then 3 else d.state, frozen := true }
  else s.setPod p { d with state := if d.state = 3 then 1 else d.state, frozen := false }

/-- DEBUG_HALT (R172): the cores stop; every counter of the pods with the enable freezes; a release returns HALTED to RUN. -/
def execDebugHalt (halt : Bool) (s : State) : Out :=
  .next (overL (upTo 8) (haltPod halt) { s with boot := { s.boot with halted := halt } })

/-- POD_DISABLE_RAMP_END (R167). -/
def execPodDisableRampEnd (p : Nat) (s : State) : Out :=
  match (s.pod p).ramp with
  | none => .next s
  | some (_, n) => if 32 ≤ n then .next (podOff p s) else .next s

/-! ## Commands (Table 6-10) -/

/-- POD_STATUS. -/
def podStatusOf (q : Req) (s : State) : Reply :=
  let p := q.idx
  let d := s.pod p
  let moving := (podPhases p).any fun k => decide ((s.phase k).state = 1 ∨ (s.phase k).state = 2)
  reads s [(0, 1, d.state), (1, 1, (((upTo 6).filter fun k => (s.activePhases p).contains (6 * p + k)).foldl
      (fun a k => a + 2 ^ k) 0 : Nat)), (2, 1, s.upd p), (3, 1, d.lastSource), (4, 2, d.period), (6, 4, d.maxon),
    (10, 4, d.ref), (14, 1, d.lastTag),
    (15, 1, bit (decide (16 ≤ d.goodEdges)) + 2 * bit moving + 4 * bit d.reverse + 8 * bit d.signHold)]
def execPodStatus (c : Cmd) (s : State) : Out := host (line 0x0600 .R [5] 0 0) c podStatusOf s

/-- PHASE_STATUS. -/
def phaseStatusOf (q : Req) (s : State) : Reply :=
  let f := s.phase q.idx
  let r := res [(0, 1, f.state), (1, 1, f.level), (2, 2, f.code), (4, 4, f.compEnds), (8, 4, f.maxonEnds), (12, 4, f.blankEnds)]
  .done 0 r (if (q.word 0).getLsbD 0 then s.setPhase q.idx { f with compEnds := 0, maxonEnds := 0, blankEnds := 0 } else s)
def execPhaseStatus (c : Cmd) (s : State) : Out := host (line 0x0601 .R [6] 0 1) c phaseStatusOf s

/-- The pod is held OFF: its matrix state is unknown, or the open of its pole pairs is not verified (R181, R191). -/
def State.podHeld (s : State) (p : Nat) : Bool := (s.mtx p).unknown || !(s.mtx p).verified

/-- POD_ENABLE (R150, R167): not while the pod's domain is off (R166; log entry 95). -/
def podEnableOf (q : Req) (s : State) : Reply :=
  let p := q.idx
  let d := s.pod p
  if d.state = 4 then rej 0x0303 s
  else if s.podFitted p = false ∨ s.podPower p = false ∨ d.state = 2 ∨ d.state = 3 ∨ s.podHeld p then rej 0x0301 s
  else if d.state = 1 then rej 0x0001 s
  else
    let s := podRun p (leaveIdle s)
    .done 0 0 (if s.isl.podStop.getLsbD p then tripPod p 3 0 s else s)
def execPodEnable (c : Cmd) (s : State) : Out := host (line 0x0602 .A [5] 0 0) c podEnableOf s

/-- POD_DISABLE (R167). -/
def podDisableOf (q : Req) (s : State) : Reply :=
  let p := q.idx
  let d := s.pod p
  if 1 < q.w 0 then rej 0x0108 s
  else if d.state = 4 then rej 0x0303 s
  else if d.state = 0 then rej 0x0001 s
  else if d.state ≠ 1 then rej 0x0301 s
  else if q.w 0 = 1 then .done 0 0 (podOff p s)
  else .done 0 0 (s.setPod p { d with ramp := if d.ramp = none then some (d.ref, 0) else d.ramp })
def execPodDisable (c : Cmd) (s : State) : Out := host (line 0x0603 .A [5] 0 1) c podDisableOf s

/-- The pod is under a loop: assigned to an output whose slots run, or matched (R175). -/
def State.podLooped (s : State) (p : Nat) : Bool :=
  (match (s.mtx p).assigned with
    | none => false
    | some o => decide ((s.output o).state = 2 ∨ (s.output o).state = 3 ∨ (s.output o).state = 4)) ||
  decide ((s.mtx p).step = 4 ∨ (s.mtx p).step = 5)

/-- The PERIOD and MAXON that a POD_SHADOW would pair break the limit of R150: those it writes, and the pending half that
carries its tag (R158, R176). -/
def State.shadowBad (s : State) (q : Req) : Bool :=
  let d := s.pod q.idx
  let tag := q.w 1 % 256
  let period := if (q.word 0).getLsbD 0 then some (q.w 2) else if d.pendP ∧ d.tagP = tag then some d.shPeriod else none
  let maxon := if (q.word 0).getLsbD 1 then some (q.w 3) else if d.pendM ∧ d.tagM = tag then some d.shMaxon else none
  match period, maxon with
  | some a, some b => decide (((a * 16 : Nat) : Int) - (s.paFld q.idx 12 2 + s.paFld q.idx 14 2 : Nat) < (b : Int))
  | _, _ => false

/-- POD_SHADOW (R158, R175, R176). -/
def podShadowOf (q : Req) (s : State) : Reply :=
  let p := q.idx
  let d := s.pod p
  let m := q.w 0
  let hasP := (q.word 0).getLsbD 0
  let hasM := (q.word 0).getLsbD 1
  if 7 < m ∨ m = 0 ∨ (hasP ∧ (q.w 2 < 1500 ∨ 15000 < q.w 2)) ∨ s.shadowBad q then rej 0x0108 s
  else if d.state = 4 then rej 0x0303 s
  else if s.podLooped p then rej 0x0301 s
  else .done 0 0 (shadowWrite p (q.w 1 % 256) (if hasP then some (q.w 2) else none) (if hasM then some (q.w 3) else none)
    (if (q.word 0).getLsbD 2 then some (q.i 4) else none) s)
def execPodShadow (c : Cmd) (s : State) : Out := host (line 0x0604 .A [5] 2 5) c podShadowOf s

/-- TRIP_CLEAR (R164). -/
def tripClearCmd (q : Req) (s : State) : Reply :=
  let p := q.idx
  let d := s.pod p
  if d.state = 4 then rej 0x0303 s
  else if d.state ≠ 2 then rej 0x0001 s
  else if s.tripGone p = false then rej 0x0341 s
  else .done 0 (res [(0, 1, d.tripSource)]) (tripClearOf p s)
def execTripClear (c : Cmd) (s : State) : Out := host (line 0x0605 .A [5] 0 0) c tripClearCmd s

/-- PWM_HALT_ENABLE (R173). -/
def pwmHaltOf (q : Req) (s : State) : Reply :=
  let p := q.idx
  let m := s.mtx p
  let fed : Bool := match m.fed with
    | none => false
    | some o => s.outClosed o
  if 1 < q.w 0 then rej 0x0108 s
  else if s.isl.maintenance = false ∨ m.assigned.isSome ∨ fed then rej 0x0301 s
  else .done 0 0 ((s.setPod p { s.pod p with haltEnable := decide (q.w 0 = 1) }).note 12 (handle 5 p) [BitVec.ofNat 8 (q.w 0)])
def execPwmHaltEnable (c : Cmd) (s : State) : Out := host (line 0x0606 .C [5] 1 1) c pwmHaltOf s

/-- POD_COUNTERS. -/
def podCountersOf (q : Req) (s : State) : Reply :=
  let d := s.pod q.idx
  let r := res [(0, 4, d.splits), (4, 4, d.trips), (8, 4, d.syncs), (12, 4, d.clamps)]
  .done 0 r (if (q.word 0).getLsbD 0 then s.setPod q.idx { d with splits := 0, trips := 0, syncs := 0, clamps := 0 } else s)
def execPodCounters (c : Cmd) (s : State) : Out := host (line 0x0607 .R [5] 0 1) c podCountersOf s

end Sys2Proof.Machine
end

