-- ==== Sys2Proof/Machine/Outputs.lean ====
section
/-! DEFINITION. Outputs, pods and the pod matrix (chapter 07): the output sequencer's events, reassignment, and the
commands of Table 7-10. -/

namespace Sys2Proof.Machine

/-! ## Contactor close requests (R184, R326) -/

/-- Every assigned pod is OFF and the bus voltage is at or below BUS_VMAX (R184). -/
def State.closeReadyOut (s : State) (o : Nat) : Bool :=
  (s.podsOf o).all (fun p => decide ((s.pod p).state = 0)) && decide ((s.output o).busV ≤ 10 * fld (s.blk 5) 12 2)

/-- An auxiliary-contact input is at its open level without discrepancy. -/
def auxOpen (v : SafeIn) : Bool := !v.demand && !v.latched && v.differs.isNone

/-- The first condition of R326 that fails, 1 to 6; none where the close is admitted. -/
def State.interlock (s : State) (o : Nat) : Option Nat :=
  let pilotOk := match s.connOfOut o with
    | none => true
    | some c =>
      let v := (s.conn c).pilot
      decide (v = 2 ∨ v = 3) || (decide (fld (s.blk 8) (16 + 32 * c) 1 = 2) && decide (v = 1)) ||
      (s.isl.maintenance && decide (s.outCtrl o = 2))
  let axes := (upTo 4).filter fun a => tst (s.ioFld o 1 1) a
  let set1 := decide (fld (s.blk 7) 15 1 < 24) && (s.sin (fld (s.blk 7) 15 1)).demand
  if (s.output o).safe ≠ 0 ∨ s.sup.mode = 3 then some 1
  else if ¬ (auxOpen (s.sin (s.outFld o 4 1)) ∧ auxOpen (s.sin (s.outFld o 5 1))) then some 2
  else if (s.sout (s.soutPos o)).faulted ∨ (s.sout (s.soutNeg o)).faulted then some 3
  else if pilotOk = false then some 4
  else if s.outCtrl o = 1 ∧ (s.output o).limits = none then some 5
  else if ¬ axes.all (fun a => set1 && (s.axis a).referenced && !(s.axis a).sto) then some 6
  else none

/-- A close request of the sequencer: both contactors in one SAFE cycle, or CONTACTOR_FAILED with INTERLOCK_REFUSED
journalled (R326). -/
def closeRequest (o : Nat) (s : State) : State :=
  let s := leaveIdle s
  match s.interlock o with
  | none =>
    let s := soutSet (s.soutNeg o) true (soutSet (s.soutPos o) true s)
    s.setOutput o { s.output o with
      state := 1, commanded := true, contactWait := some (s.now, true), operations := bump32 (s.output o).operations,
      openedAt := none }
  | some k =>
    let s := s.setOutput o { s.output o with state := 1, openedAt := none }
    let s := s.jotRes 0x0A09 (handle 4 o) (res [(0, 1, o), (1, 1, k)])
    outputFault o 0x0852 false (s.event 5 0x0852 (res [(0, 1, o), (1, 1, 0)]))

/-- Puts the setpoints of a start into the output (R185, R196). -/
def outTargets (o v : Nat) (i : Int) (vmin : Nat) (s : State) : State :=
  s.setOutput o { s.output o with vReq := v, iReq := i, vMin := vmin }

/-- Reserves and opens the meter record of a host's start (R284, R285). -/
def startRecord (o : Nat) (s : State) : State := openRec o 0 0 [] (reserveRec o 0xFF 0 0 [] s)

/-- An output refuses a start (R183, R184, R194, R246): its status, if it does. -/
def State.startRefused (s : State) (o : Nat) : Option Nat :=
  let x := s.output o
  if x.state = 6 then some 0x0303
  else if s.outFitted o = false ∨ x.state ≠ 0 ∨ s.podsOf o = [] ∨ x.welded.isSome ∨
      (match s.connOfOut o with
        | none => false
        | some c => s.isRetired (handle 9 c)) = true then some 0x0301
  else none

/-- CONTACTOR_CLOSE_REQUEST: the sequencer of an output in CLOSING, or the commit point of an OUTPUT_START, which is refused
where the output has come to refuse starts meanwhile (R56, R184). -/
def execContactorCloseRequest (o : Nat) (s : State) : Out :=
  let x := s.output o
  if s.closeReadyOut o = false ∨ x.commanded then .next s
  else if x.state = 1 then .next (closeRequest o s)
  else if x.state = 0 then
    match s.liveOn 0x0501 (handle 4 o) with
    | [] => .next s
    | l :: _ =>
      .next (commitLive l (fun t =>
        match t.startRefused o with
        | some st => t.finish l st 0
        | none =>
          if t.recFree = 0 then (recFull t).finish l 0x0590 0
          else
            let t := outTargets o (l.params.headD 0).toNat (l.params.getD 1 0).toInt (l.params.getD 2 0).toNat t
            closeRequest o (startRecord o (t.finish l 0 0))) s)
  else .next s

/-- CONTACTOR_TIMEOUT (R183, R194): CONT_T passes without both auxiliary contacts as commanded. -/
def execContactorTimeout (o : Nat) (s : State) : Out :=
  let x := s.output o
  match x.contactWait with
  | none => .next s
  | some (t, closed) =>
    if s.after t (1000 * s.outFld o 26 2) = false then .next s
    else if closed then
      if s.auxPos o ∧ s.auxNeg o then .next (contactsSettled o s)
      else
        let s := s.event 5 0x0852 (res [(0, 1, o), (1, 1, if s.auxPos o then 1 else 0)])
        .next (outputFault o 0x0852 false (s.setOutput o { s.output o with contactWait := none }))
    else if s.auxPos o = false ∧ s.auxNeg o = false then .next (contactsSettled o s)
    else
      let pole : Nat := if s.auxPos o then 0 else 1
      let s := s.event 5 0x0851 (res [(0, 1, o), (1, 1, pole)])
      let s := s.setOutput o { s.output o with contactWait := none, welded := some pole }
      .next (outputFault o 0x0851 true s)

/-- SOFT_START_DONE (R183): within 1 % of target for 1 ms. -/
def execSoftStartDone (o : Nat) (s : State) : Out :=
  let x := s.output o
  if x.state = 2 ∧ s.past x.inBand 1000 then
    let s := (s.setOutput o { x with state := 3, inBand := none, shortSince := none }).freeContext (handle 4 o)
    .next (regulate o s)
  else .next s

/-- When a soft start is judged: SS_TIME + FE_TIME after the start of the ramp, µs (R186). -/
def State.shortAt (s : State) (o : Nat) : Nat :=
  let x := s.output o
  let target := min x.vReq (10 * s.outFld o 10 2)
  x.rampStart + target * 100 / s.outFld o 16 2 + 1000 * s.outFld o 18 2 + 1000 * s.slFld (s.vSlot o) 64 4

/-- OUTPUT_SHORT (R186). -/
def execOutputShort (o : Nat) (s : State) : Out :=
  let x := s.output o
  match x.shortSince with
  | none => .next s
  | some t =>
    if x.state = 2 ∧ s.shortAt o ≤ s.now ∧ t ≤ s.shortAt o then
      let s := s.setOutput o { x with shorts := bump32 x.shorts }
      let s := s.event 5 0x0853 (res [(0, 1, o), (1, 1, x.retries + 1), (4, 4, x.volts), (8, 4, x.amps)])
      .next (outputFault o 0x0853 false s)
    else .next s

/-- STOP_RAMP_END (R187). -/
def execStopRampEnd (o : Nat) (s : State) : Out :=
  let x := s.output o
  match x.stopRamp with
  | none => .next s
  | some (t, _) =>
    if x.state = 4 ∧ s.after t 50000 then
      let s := s.setOutput o { x with stopRamp := none, iLim := 0 }
      let s := outMeetsReassign o false (outSlotsOff o (outPodsOff o s))
      .next (contactsSettled o (tryOpen o s))
    else .next s

/-- OUTPUT_RETRY (R193, R446): trips whose sources have gone are cleared, and the output runs from CLOSING. -/
def execOutputRetry (o : Nat) (s : State) : Out :=
  let x := s.output o
  let h := handle 4 o
  match s.contextOf h with
  | none => .next s
  | some c =>
    match c.due with
    | none => .next s
    | some t =>
      if x.state = 5 ∧ c.phase = 1 ∧ t ≤ s.now then
        let s := s.attemptContext h
        let s := s.setOutput o { x with state := 1, openedAt := none, retries := x.retries + 1, retryCount := bump32 x.retryCount }
        let s := overL (s.podsOf o) (fun p u => if u.tripGone p then tripClearOf p u else u) s
        let done := match s.connOfOut o with
          | none => false
          | some c => decide (s.outCtrl o = 1 ∧ ((s.session c).state = 0 ∨ 7 ≤ (s.session c).state))
        .next (if done then outputStop o s else if s.closeReadyOut o then closeRequest o s else s)
      else .next s

/-! ## Reassignment (R188 to R192) -/

/-- V_CLOSE_MAX, 0.1 V. -/
def State.vCloseMax (s : State) : Nat := fld (s.blk 5) 2 2

/-- Counts a pod as arrived at an output: step 6, its share rising from 0; on an output that is not running it ends OFF
at once (Table 7-5). A pod that rejoins was never assigned out (R190). -/
def enterStep6 (p o : Nat) (s : State) : State :=
  let s := slotOff (s.matchSlot p) s
  let x := s.output o
  let rejoins := (s.mtx p).rejoin
  let s := s.setMtx p { s.mtx p with
    step := 6, stepTime := s.now, assigned := some o, fed := some o, good := 0, closeSent := false }
  let s := if rejoins then s else s.setOutput o { x with podsIn := bump32 x.podsIn }
  if x.state = 2 ∨ x.state = 3 then podRun p s
  else endReassign p (s.mtx p).status (podOff p s)

/-- Step 4: the pod runs under MATCH_SLOT toward the bus voltage of the target (Table 7-5, Table 8-5). -/
def enterStep4 (p o : Nat) (s : State) : State :=
  let s := s.setMtx p { s.mtx p with step := 4, stepTime := s.now, good := 0, assigned := none }
  if (s.pod p).state = 2 ∨ (s.pod p).state = 4 then endReassign p 0x0840 s
  else
    let s := podRun p s
    let lim : Int := ((fld (s.blk 5) 8 4 * s.podPhCount p : Nat) : Int)
    let k := s.matchSlot p
    let s := slotAuto k (voltsF ((s.output o).busV : Nat)) s
    s.setSlot k { s.slot k with clamps := some (if tst (s.podFld p 4 1) 0 then ampsF (-lim) else 0, ampsF lim) }

/-- Step 3: opens the pole pair to the old output, or every pair of an unassigned pod. -/
def enterStep3 (p : Nat) (s : State) : State :=
  let m := s.mtx p
  let s := match m.assigned with
    | none => s.podCmd p 1 0
    | some o => s.podCmd p 2 o
  s.setMtx p { s.mtx p with step := 3, stepTime := s.now, good := 0 }

/-- Step 2: the pod current is polled. -/
def enterStep2 (p : Nat) (s : State) : State :=
  s.setMtx p { s.mtx p with step := 2, stepTime := s.now, good := 0, ramping := false, awaitBlock := false }

/-- Starts a sequence (R188): a running pod leaves at step 1, an unassigned one starts at step 3. -/
def startReassign (p : Nat) (target : Option Nat) (s : State) : State :=
  let m := s.mtx p
  let s := leaveIdle s
  let s := s.setMtx p { m with old := m.assigned, target := target, started := s.now, status := 0, rejoin := false, dvClose := 0 }
  match m.assigned with
  | none => enterStep3 p s
  | some _ =>
    let s := s.drain
    if (s.pod p).state = 1 then
      s.setMtx p { s.mtx p with step := 1, stepTime := s.now, awaitBlock := true, ramping := false }
    else enterStep2 p s

/-- The pod rejoins its old output: step 6 with the old output as target (R190). -/
def rejoin (p status : Nat) (s : State) : State :=
  let m := s.mtx p
  match m.old with
  | none => endReassign p status (unassign p s)
  | some o => enterStep6 p o (s.setMtx p { m with rejoin := true, status := status })

/-- The matrix state of a pod becomes unknown (R191): OFF, counting toward no output, its sequence stopped. -/
def matrixUnknown (p status : Nat) (s : State) : State :=
  let had := (s.mtx p).assigned
  let s := endReassign p status (podOff p s)
  let s := s.setMtx p { s.mtx p with
    unknown := true, openSent := false, homed := true, polls := [], assigned := none,
    old := if had = none then (s.mtx p).old else had }
  let s := if had.isSome then s.drain else s
  match had with
  | none => s
  | some o =>
    if ((s.output o).state = 2 ∨ (s.output o).state = 3) ∧ s.podsOf o = [] then outSessionSignal o 6 s else s

/-- Pods of a switch node. -/
def State.podsOfNode (s : State) (n : Nat) : List Nat :=
  (upTo 8).filter fun p => s.podFitted p && decide (s.podFld p 6 2 = n)

/-- An announced epoch changes a unit of a pod's reassignment: the phase-array block, the outputs and pod matrix block, or the
pod's switch node (Table 7-7, R26, R90). -/
def State.epochTouchesPods (s : State) (p : Nat) : Bool :=
  decide (s.ep.phase = 3) &&
  (decide (tget s.ep.staged.blocks 5 [] ≠ s.blk 5) || decide (tget s.ep.staged.blocks 4 [] ≠ s.blk 4) ||
    decide (aget s.ep.staged.fields (s.podFld p 6 2) ≠ aget s.ep.cfg.fields (s.podFld p 6 2)))

/-- Newest replies of the ports of a pod's switch node that answer, and their times: those that have answered within the
answer timeout (R179). -/
def State.answering (s : State) (p : Nat) : List (PodReply × Nat) :=
  [(s.mtx p).replyA, (s.mtx p).replyB].filterMap fun r => r.filter fun x => !s.after x.2 (s.swAnswer x.2)

/-- The close of step 5 may be sent (R189): of every port that answers, the newest poll is no older than 2 ms, shows ΔV within
the limit, and every other pole pair of the pod open. -/
def State.closeAdmitted (s : State) (p o : Nat) : Bool :=
  (s.answering p).all fun x =>
    decide (s.now ≤ x.2 + 2000) && decide (x.1.dv.natAbs ≤ s.vCloseMax) &&
    (upTo 16).all fun k => decide (k = o) || !x.1.closed.getLsbD k

/-- Commands every pole pair of a pod open; what earlier polls report no longer counts (R181, R191). -/
def openAll (p : Nat) (s : State) : State :=
  let s := s.podCmd p 1 0
  let m := s.mtx p
  s.setMtx p { m with openSent := true, polls := m.polls.filter fun x => decide (x.seq = m.seq) }

/-- The opening at power-up and after an unknown state: every pair is commanded open and verified; then, once after power-up,
the sequence toward HOME starts, unless an announced epoch holds it back (R90, R181, R191). -/
def openReply (p : Nat) (rs : List PodReply) (s : State) : State :=
  let m := s.mtx p
  if m.unknown = false ∧ m.verified then
    let home := s.podFld p 10 1
    if 16 ≤ home then s.setMtx p { m with homed := true }
    else if s.epochTouchesPods p then s
    else startReassign p (some home) (s.setMtx p { m with homed := true })
  else if m.openSent = false then openAll p s
  else if rs.any (fun r => decide (r.closed ≠ 0)) then (if m.op = 0 then openAll p s else s)
  else
    let s := s.setMtx p { m with unknown := false, verified := true, homed := m.homed || decide (16 ≤ s.podFld p 10 1) }
    if m.homed ∨ 16 ≤ s.podFld p 10 1 ∨ s.epochTouchesPods p then s
    else startReassign p (some (s.podFld p 10 1)) (s.setMtx p { s.mtx p with homed := true })

/-- Advances a sequence, or the opening at power-up and after an unknown state, by an accepted state: the replies of the ports
that answered, of which each must meet the step's condition (R179, R181, R188, R189, R191). -/
def acceptReply (p : Nat) (rs : List PodReply) (s : State) : State :=
  match rs.getLast? with
  | none => s
  | some r =>
  let s := s.setMtx p { s.mtx p with closed := r.closed, current := r.current, dv := r.dv, disagree := false }
  let m := s.mtx p
  if m.unknown ∨ (m.step = 0 ∧ (m.verified = false ∨ m.homed = false)) then openReply p rs s
  else if m.step = 2 then
    if rs.all (fun r => decide (r.current.natAbs < 2000)) then
      (if 2 ≤ m.good + 1 then enterStep3 p s else s.setMtx p { m with good := m.good + 1 })
    else s.setMtx p { m with good := 0 }
  else if m.step = 3 then
    let opened := rs.all fun r => match m.assigned with
      | none => decide (r.closed = 0)
      | some o => !r.closed.getLsbD o
    if opened then
      let s := s.setMtx p { m with
        assigned := none, verified := true,
        openFails := match m.assigned with
          | none => m.openFails
          | some o => tset m.openFails o 0 }
      match m.target with
      | none => endReassign p 0 s
      | some o => enterStep4 p o s
    else s
  else if m.step = 4 then
    if rs.all (fun r => decide (r.dv.natAbs ≤ s.vCloseMax)) then
      let o := m.target.getD 0
      if 3 ≤ m.good + 1 ∧ s.closeAdmitted p o then
        let s := s.podCmd p 3 o
        s.setMtx p { s.mtx p with
          step := 5, stepTime := s.now, good := 0, closeSent := true, dvClose := r.dv, dvNoted := false }
      else s.setMtx p { m with good := m.good + 1 }
    else s.setMtx p { m with good := 0 }
  else if m.step = 5 then
    let o := m.target.getD 0
    if rs.all (fun r => r.closed.getLsbD o) then enterStep6 p o s else s
  else s

/-- Journals a close whose ΔV leaves the limit before its confirmation, once, with the ΔV reported (R189). -/
def noteDv (p : Nat) (r : PodReply) (s : State) : State :=
  let m := s.mtx p
  if m.step = 5 ∧ m.dvNoted = false ∧ s.vCloseMax < r.dv.natAbs then
    (s.setMtx p { m with dvNoted := true }).note 9 (handle 5 p) (BitVec.ofNat 8 (m.target.getD 0) :: leInt r.dv 2)
  else s

/-- Accepts the state that a poll's replies report; older polls no longer count. The poll itself waits for the port that has
not answered, whose reply may still disagree (R179; log entry 97). -/
def acceptPoll (p : Nat) (q : SwPoll) (s : State) : State :=
  let rest := ((s.mtx p).polls.dropWhile fun x => decide (x.seq ≠ q.seq)).drop 1
  let waits := q.a.isNone || q.b.isNone
  let s := s.setMtx p { s.mtx p with polls := if waits then { q with taken := true } :: rest else rest }
  if q.taken then s else acceptReply p ([q.a, q.b].filterMap id) s

/-- The answer timeout of polls has passed: a port that did not answer one is silent, and the state that one port alone
reported is accepted (R179). -/
def overduePolls (p : Nat) (s : State) : State :=
  overL ((s.mtx p).polls.filter fun q => s.after q.sent (s.swAnswer q.sent)) (fun q t =>
    if (t.mtx p).polls.contains q = false then t
    else
      let m := t.mtx p
      let t := acceptPoll p q (t.setMtx p { m with
        silentA := m.silentA || q.a.isNone, silentB := m.silentB || q.b.isNone })
      t.setMtx p { t.mtx p with polls := (t.mtx p).polls.filter fun x => decide (x.seq ≠ q.seq) }) s

/-- Another port of the pod's switch node, besides the one that replied, may still answer (R179). -/
def State.otherAnswers (s : State) (p : Nat) (portB : Bool) : Bool :=
  match s.nodePorts (s.podFld p 6 2) with
  | [a, b] => if portB then s.portUp a && !(s.mtx p).silentA else s.portUp b && !(s.mtx p).silentB
  | _ => false

/-- POD_REPLY (R179): a state is accepted when every port that answers reports the same; replies that disagree raise
SWITCH_DISAGREE. -/
def execPodReply (r : PodReply) (s : State) : Out :=
  let p := r.pod
  let n := s.podFld p 6 2
  let port := if r.portB then fld (s.fbody n) 4 1 else n / 32
  if s.carries port n = false then .next s
  else
  let s := countHeard port (nodeIdent 1 2 (n % 32)) 32 s
  match (s.mtx p).polls.find? fun q => decide (q.seq = r.seq) with
  | none => .next s
  | some q =>
    if (s.fnode n).state = 0 ∨ (s.fnode n).state = 3 ∨ s.after q.sent (s.swAnswer q.sent) then .next s
    else
      let m := s.mtx p
      let q := if r.portB then { q with b := some r } else { q with a := some r }
      let m := { m with polls := m.polls.map fun (x : SwPoll) => if x.seq = q.seq then q else x }
      let m := if r.portB then { m with replyB := some (r, s.now), closedB := r.closed, silentB := false }
        else { m with replyA := some (r, s.now), closedA := r.closed, silentA := false }
      let s := noteDv p r (s.setMtx p m)
      match q.a, q.b with
      | some a, some b =>
        if a.closed = b.closed then .next (acceptPoll p q s)
        else
          let s := s.setMtx p { s.mtx p with disagree := true }
          let s := s.event 5 0x0850 (res [(0, 1, p), (2, 2, a.closed.toNat), (4, 2, b.closed.toNat)])
          .next (matrixUnknown p 0x0850 s)
      | _, _ => .next (if s.otherAnswers p r.portB then s else acceptPoll p q s)

/-- POD_POLL (R179): a new SEQ on both ports, every 1 ms of a step that involves the switch node. -/
def execPodPoll (p : Nat) (s : State) : Out :=
  let s := overduePolls p s
  let m := s.mtx p
  if s.podFitted p = false ∨ (m.step = 0 ∧ m.verified ∧ m.homed ∧ m.unknown = false) ∨ m.step = 1 ∨ m.step = 6 then .next s
  else
    let pair := if m.step = 4 ∨ m.step = 5 then m.target.getD 0 else m.old.getD 0
    .next (s.podCmd p 0 pair)

/-- REASSIGN_RAMP_OUT_DONE (Table 7-5 step 1). -/
def execReassignRampOutDone (p : Nat) (s : State) : Out :=
  let m := s.mtx p
  if m.step = 1 ∧ m.ramping ∧ s.after m.stepTime (1000 * fld (s.blk 5) 4 2) then .next (enterStep2 p (podOff p s)) else .next s

/-- SW_ANSWER_TIMEOUT: a poll that one port alone answered is accepted (R179); step 2 fails with CURRENT_NOT_ZERO (Table 7-5). -/
def execSwAnswerTimeout (p : Nat) (s : State) : Out :=
  let s := overduePolls p s
  let m := s.mtx p
  if m.step = 2 ∧ s.after m.stepTime (s.swAnswer m.stepTime) then .next (rejoin p 0x0855 s) else .next s

/-- MATCH_TIMEOUT: the pod is disabled and left unassigned (Table 7-5 step 4). -/
def execMatchTimeout (p : Nat) (s : State) : Out :=
  let m := s.mtx p
  if m.step = 4 ∧ s.after m.stepTime (s.matchTmo m.stepTime) then .next (endReassign p 0x0452 (unassign p s)) else .next s

/-- SWITCH_TIMEOUT: CONT_T in step 3 or 5; the third failure to open in succession retires the pole pair (R190). -/
def execSwitchTimeout (p : Nat) (s : State) : Out :=
  let m := s.mtx p
  if m.step = 3 then
    match m.assigned with
    | none =>
      if s.after m.stepTime (1000 * s.outFld (m.target.getD 0) 26 2) then
        .next (endReassign p 0x0453 (s.setMtx p { m with verified := false, openSent := false }))
      else .next s
    | some o =>
      if s.after m.stepTime (1000 * s.outFld o 26 2) then
        let n := tget m.openFails o 0 + 1
        let s := s.setMtx p { m with openFails := tset m.openFails o n }
        let h := handleSub 5 p (0x10 + o)
        let s := if 3 ≤ n ∧ s.isRetired h = false then (s.retire h 0x0453).note 8 h (leBytes 0x0453 2) else s
        .next (rejoin p 0x0453 s)
      else .next s
  else if m.step = 5 then
    if s.after m.stepTime (1000 * s.outFld (m.target.getD 0) 26 2) then
      let s := endReassign p 0x0453 (unassign p (openAll p s))
      .next (s.setMtx p { s.mtx p with verified := false })
    else .next s
  else .next s

/-- REASSIGN_RAMP_IN_DONE (Table 7-5 step 6). -/
def execReassignRampInDone (p : Nat) (s : State) : Out :=
  let m := s.mtx p
  if m.step = 6 ∧ s.after m.stepTime (1000 * fld (s.blk 5) 6 2) then .next (endReassign p m.status s) else .next s

/-! ## Commands (Table 7-10) -/

/-- OUTPUT_STATUS. -/
def outputStatusOf (q : Req) (s : State) : Reply :=
  let o := q.idx
  let x := s.output o
  let run := decide (x.state = 3)
  reads s [(0, 1, x.state), (1, 1, maskOf (s.podsOf o)), (2, 1, x.retries),
    (3, 1, bit (run && decide (x.control = 1)) + 2 * bit (run && decide (x.control = 2)) + 4 * bit (run && s.outReverse o)
      + 8 * bit (s.outFitted o && s.auxPos o) + 16 * bit (s.outFitted o && s.auxNeg o)),
    (4, 2, x.volts), (6, 2, x.busV), (8, 4, x.amps), (12, 4, s.outGrant o)]
def execOutputStatus (c : Cmd) (s : State) : Out := host (line 0x0500 .R [4] 0 0) c outputStatusOf s

/-- The parameters of OUTPUT_START and OUTPUT_SET are in range. -/
def outParams (q : Req) : Bool := decide (1500 ≤ q.w 0 ∧ q.w 0 ≤ 12500)

/-- OUTPUT_START (R184, R196): commits at the contactor close request. -/
def outputStartOf (q : Req) (s : State) : Reply :=
  let o := q.idx
  if outParams q = false then rej 0x0108 s
  else if s.outCtrl o ≠ 2 then rej 0x0301 s
  else if (s.output o).state = 6 then rej 0x0303 s
  else if s.liveOn 0x0501 q.hnd ≠ [] then rej 0x0301 s
  else match s.startRefused o with
    | some st => rej st s
    | none =>
      if s.recFree = 0 then rej 0x0590 (recFull s)
      else if s.closeReadyOut o then .done 0 0 (closeRequest o (startRecord o (outTargets o (q.w 0) (q.i 1) (q.w 2) s)))
      else .live false [] s
def execOutputStart (c : Cmd) (s : State) : Out := host (line 0x0501 .A [4] 2 3) c outputStartOf s

/-- OUTPUT_SET (R185, R196). -/
def outputSetOf (q : Req) (s : State) : Reply :=
  let o := q.idx
  if outParams q = false then rej 0x0108 s
  else if s.outCtrl o ≠ 2 then rej 0x0301 s
  else if (s.output o).state = 6 then rej 0x0303 s
  else if (s.output o).state ≠ 3 then rej 0x0301 s
  else .done 0 0 (regulate o (outTargets o (q.w 0) (q.i 1) (q.w 2) s))
def execOutputSet (c : Cmd) (s : State) : Out := host (line 0x0502 .A [4] 2 3) c outputSetOf s

/-- OUTPUT_STOP (R187, R196). -/
def outputStopOf (q : Req) (s : State) : Reply :=
  let o := q.idx
  let x := s.output o
  if s.outCtrl o ≠ 2 then rej 0x0301 s
  else if x.state = 6 then rej 0x0303 s
  else if x.state = 5 then rej 0x0301 s
  else if x.state = 0 ∨ x.state = 4 then rej 0x0001 s
  else .done 0 0 (outputStop o s)
def execOutputStop (c : Cmd) (s : State) : Out := host (line 0x0503 .A [4] 0 0) c outputStopOf s

/-- The pole pair to the pod's present output is retired: the pod stays with that output (R190). -/
def State.pairStuck (s : State) (p : Nat) : Bool := match (s.mtx p).assigned with
  | none => false
  | some o => s.isRetired (handleSub 5 p (0x10 + o))

/-- POD_ASSIGN (R188, R196). -/
def podAssignOf (q : Req) (s : State) : Reply :=
  let p := q.idx
  let m := s.mtx p
  let t := q.w 0
  let target := if t = 0xFF then none else some t
  if 15 < t ∧ t ≠ 0xFF then rej 0x0108 s
  else if (s.pod p).state = 4 then rej 0x0303 s
  else if fld (s.blk 5) 14 1 = 1 then rej 0x0301 s
  else if t ≠ 0xFF ∧ tst (s.podFld p 8 2) t = false then rej 0x0351 s
  else if t ≠ 0xFF ∧ ((s.output t).state = 6 ∨ s.isRetired (handleSub 5 p (0x10 + t))) then rej 0x0303 s
  else if s.pairStuck p then rej 0x0303 s
  else if m.step ≠ 0 then rej 0x0350 s
  else if s.epochTouchesPods p then rej 0x0310 s
  else if s.podHeld p ∨ (t ≠ 0xFF ∧ (s.output t).safe ≠ 0) then rej 0x0301 s
  else if m.assigned = target then rej 0x0001 s
  else .live true [] (startReassign p target s)

/-- POD_ASSIGN needs ownership of the pod and of the target output (R196). -/
def assignOwn (q : Req) (s : State) : Bool :=
  decide (s.role q.seat = 0) || decide (q.w 0 = 0xFF) || s.owns q.seat (handle 4 (q.w 0 % 16))
def execPodAssign (c : Cmd) (s : State) : Out :=
  host { line 0x0504 .A [5] 1 1 with ownOk := assignOwn } c podAssignOf s

/-- MATRIX_STATUS. -/
def matrixStatusOf (q : Req) (s : State) : Reply :=
  let p := q.idx
  let m := s.mtx p
  let shown : Nat := if m.unknown then 0xFE else m.assigned.getD 0xFF
  reads s [(0, 1, shown), (1, 1, m.step), (2, 2, m.closed.toNat), (4, 2, m.dv), (6, 4, m.current),
    (10, 1, bit (decide ((s.fnode (s.podFld p 6 2)).state = 1)) + 2 * bit m.disagree)]
def execMatrixStatus (c : Cmd) (s : State) : Out := host (line 0x0505 .R [5] 0 0) c matrixStatusOf s

/-! ## The firmware pod planner (R182) -/

/-- No sequence in progress moves a pod into or out of an output. -/
def State.outStill (s : State) (o : Nat) : Bool :=
  (upTo 8).all fun k =>
    let m := s.mtx k
    decide (m.step = 0) || !(decide (m.assigned = some o) || decide (m.old = some o) || decide (m.target = some o))

/-- What the pods of an output without `p` would carry, W: those in service that no trip holds off (R110, R182). -/
def State.carriedWithout (s : State) (o p : Nat) : Nat :=
  (((s.podsOf o).filter fun k => decide (k ≠ p ∧ (s.pod k).state ≠ 2) && s.podServes k).map s.podRating).sum

/-- The planner may start this move: one reassignment into or out of an output at a time, and none that leaves an output with
less than its present grant; the refusals of POD_ASSIGN hold for it too (R181, R182, R190, R196). -/
def State.moveAdmitted (s : State) (p : Nat) (target : Option Nat) : Bool :=
  let m := s.mtx p
  s.podServes p && decide (m.step = 0 ∧ m.homed ∧ m.assigned ≠ target) && !s.podHeld p && !s.pairStuck p &&
  !s.epochTouchesPods p &&
  (match m.assigned with
    | none => true
    | some o => s.outStill o && decide ((s.outGrant o).natAbs ≤ s.carriedWithout o p)) &&
  (match target with
    | none => true
    | some t => tst (s.podFld p 8 2) t && s.outFitted t && s.outStill t && !s.isRetired (handleSub 5 p (0x10 + t)) &&
      decide ((s.output t).state ≠ 6 ∧ (s.output t).safe = 0))

/-- The moves open to the planner, of a pod to an output or to none. -/
def State.plannerMoves (s : State) : List (Nat × Option Nat) :=
  if fld (s.blk 5) 14 1 ≠ 1 then []
  else ((upTo 8).flatMap fun p => (none :: (upTo 16).map some).map fun t => (p, t)).filter fun e => s.moveAdmitted e.1 e.2

/-- The planner's turn, while firmware runs: it starts one of the moves open to it, or none; which one the spec leaves open
(a free value, log entry 47). -/
def planPods (s : State) : State :=
  let l := s.plannerMoves
  if s.boot.coreReset ∨ l = [] then s
  else match l[s.fresh.1 % (l.length + 1)]? with
    | none => s.fresh.2
    | some e => startReassign e.1 e.2 s.fresh.2

/-- OUTPUT_COUNTERS. -/
def outputCountersOf (q : Req) (s : State) : Reply :=
  let x := s.output q.idx
  let r := res [(0, 4, x.shorts), (4, 4, x.retryCount), (8, 4, x.operations), (12, 4, x.podsIn)]
  .done 0 r (if (q.word 0).getLsbD 0 then
    s.setOutput q.idx { x with shorts := 0, retryCount := 0, operations := 0, podsIn := 0 } else s)
def execOutputCounters (c : Cmd) (s : State) : Out := host (line 0x0506 .R [4] 0 1) c outputCountersOf s

end Sys2Proof.Machine
end

