-- ==== Sys2Proof/Machine/Links.lean ====
section
/-! DEFINITION. Connector links (chapter 09): the control pilot and proximity, matching by SLAC, frames and tone maps, link
states, link faults, and the commands of Table 9-9. -/

namespace Sys2Proof.Machine

/-! ## The connector links block -/

/-- Field of a connector entry (Table 9-3). -/
def State.cnFld (s : State) (c off n : Nat) : Nat := fld (s.blk 8) (16 + 32 * c + off) n
/-- MODE: 0 unused, 1 CCS, 2 MCS. -/
def State.cnMode (s : State) (c : Nat) : Nat := s.cnFld c 0 1

/-- PD8 VEH is on. -/
def State.vehOn (s : State) : Bool := s.power.domains.getLsbD 8

/-- An announced epoch changes the connector's MODE (R247). -/
def State.modeChanging (s : State) (c : Nat) : Bool :=
  decide (s.ep.phase = 3 ∧ fld (tget s.ep.staged.blocks 8 []) (16 + 32 * c) 1 ≠ s.cnMode c)

/-- CTRL of the output that a connector feeds. -/
def State.connCtrl (s : State) (c : Nat) : Nat := match s.outOfConn c with
  | none => 0
  | some o => s.outCtrl o

/-- The form the session service selects: F while the link restarts or is retired (R228, R243), X2 for a vehicle to match
or a link, X1 otherwise, after three failed matches, on a diode fault, and before a change of MODE (R231, R241, R247). -/
def State.autoForm (s : State) (c : Nat) : Nat :=
  let v := s.conn c
  if s.cnMode c = 0 ∨ v.link = 0 then 0
  else if v.link = 5 ∨ v.link = 7 then 2
  else if (v.link = 2 ∨ v.link = 3 ∨ v.link = 4) ∧ s.connCtrl c = 1 ∧ v.pilot ≠ 7 ∧ v.failures < 3 ∧ s.modeChanging c = false then 1
  else 0

/-- Shows a form; CONN_PILOT's form stands until maintenance ends, a retired link holds F, and while PD3 is in reset the
generator keeps its last form (R227, R228, R249). -/
def applyForm (c : Nat) (s : State) : State :=
  let v := s.conn c
  let f := if v.link = 7 then 2
    else if s.boot.coreReset ∧ s.vehOn ∧ v.link ≠ 0 then v.form
    else if v.maint = 4 then 3
    else if v.maint ≠ 0 then v.maint - 1
    else s.autoForm c
  s.setConn c { v with form := f, highSince := if f = 2 then v.highSince else none }

/-! ## The station (R234) and what the session service is told (R230, R243) -/

/-- MAC address of connector n's station: 02-96-u2-u1-u0-(0x40 + n), with bytes 2, 1 and 0 of BT_UID_LO. -/
def stationAddress (uid : BitVec 64) (c : Nat) : BitVec 48 :=
  (0x0296 : BitVec 16) ++ uid.setWidth 24 ++ BitVec.ofNat 8 (0x40 + c)

/-- The connector's station sends a frame. -/
def stationSends (c : Nat) (s : State) : State :=
  s.setConn c { s.conn c with sentFrom := some (stationAddress s.boot.uid c) }

/-- Bodies of Q52 to Q55: a vehicle's frame [connector], and a change [connector, kind, value, site time] of the pilot (1) or
the link (2). -/
def isChange (body : List Int) : Bool := decide (1 < body.length)

/-- The session service takes the changes at the front of a queue, at most `fuel` of them. -/
def serveChanges (q fuel : Nat) (s : State) : State :=
  match fuel with
  | 0 => s
  | n + 1 => match (s.iq q).entries with
    | [] => s
    | e :: _ => if isChange e.body && s.serves q then serveChanges q n (s.take q).2 else s

/-- Passes a change to the session service through Q52 to Q55, in order, with its site-time stamp (R230, R243). -/
def tellSession (c kind value : Nat) (s : State) : State :=
  let q := 52 + c / 4
  let s := s.post q [(c : Int), (kind : Int), (value : Int), (s.time : Int)]
  serveChanges q (s.iq q).entries.length s

/-! ## Link states -/

/-- Ends the matching and the key of a link (R239, R244). -/
def dropKey (c : Nat) (s : State) : State :=
  s.setConn c { s.conn c with
    nmk := false, answered := false, modulation := 0, mapsValid := false, refreshing := false, roboOnly := false,
    retried := 0, blocks := [], mapTime := 0 }

/-- A RESET of the connector completes: it has rejoined its link, or there is none to rejoin (R45, R246; log entry 76). -/
def endConnReset (c st : Nat) (s : State) : State :=
  if st ≤ 1 ∨ st = 3 then s.finishAll 0x0104 (handle 9 c) 0 0
  else if st = 7 then s.finishAll 0x0104 (handle 9 c) 0x0303 0
  else s

/-- A link state, with LINK_CHANGE (R243); a session whose link leaves LINKED ends with a reason. -/
def linkTo (c st reason : Nat) (s : State) : State :=
  let v := s.conn c
  if v.link = st then applyForm c s
  else
    let s := if st = 2 then leaveIdle s else s
    let s := s.setConn c { v with link := st, linkTime := s.now }
    let s := if st = 3 ∨ st = 4 then s else dropKey c s
    let s := s.event 12 0x0071 (res [(0, 1, c), (1, 1, v.link), (2, 1, st), (3, 1, (s.conn c).modulation)])
    let s := endConnReset c st (applyForm c (tellSession c 2 st s))
    if v.link = 3 then
      let s := sessionIdle c (sessionSignal c reason s)
      if (s.session c).state = 9 then sessionTo c 0 s else s
    else s

/-- UNPLUGGED or MATCHING by the filtered pilot state. -/
def State.restState (s : State) (c : Nat) : Nat :=
  let p := (s.conn c).pilot
  if p = 1 ∨ p = 2 ∨ p = 3 then 2 else 1

/-- The link takes a MODE from UNPLUGGED: at power-up, at PD8's release and at a tick (R243, R247). -/
def linkStart (c : Nat) (s : State) : State :=
  if s.isRetired (handle 9 c) then linkTo c 7 5 s
  else if s.cnMode c = 0 ∨ s.vehOn = false then linkTo c 0 5 s
  else linkTo c (s.restState c) 5 (s.setConn c { s.conn c with failures := 0 })

/-- RESET of scope 4 on a connector (R246): the link restarts, the generator keeps its form. -/
def connReset (c : Nat) (s : State) : State :=
  let v := s.conn c
  if v.link = 2 ∨ v.link = 3 ∨ v.link = 4 ∨ v.link = 5 then
    linkTo c (s.restState c) 5 (dropKey c s)
  else s

/-- A PLC link comes up in ROBO; which of the three the spec leaves open (a free value); an MCS link has none (R236,
R242). -/
def linkUp (c : Nat) (s : State) : State :=
  let f := s.fresh
  let s := if s.cnMode c = 1 then f.2.setConn c { f.2.conn c with modulation := 1 + f.1 % 3 } else s
  linkTo c 3 5 (s.setConn c { s.conn c with heard := s.now, failures := 0 })

/-- Backoff of a connector link after its n-th fault in the window, µs (R246). -/
def State.linkBackoff (s : State) (c : Nat) : Nat := backoffTime (s.faultCount (handle 9 c))

/-- Starts the backoff of a link that holds a recovery context (R246, R450). -/
def linkStartBackoff (c : Nat) (s : State) : State :=
  let h := handle 9 c
  match s.contextOf h with
  | none => s
  | some x => s.takeContext h x.status (s.faultCount h) (some (s.now + s.linkBackoff c))

/-- Retires a connector link: pilot F, CONN_RETIRED (R246). -/
def linkRetire (c status : Nat) (s : State) : State :=
  let h := handle 9 c
  linkTo c 7 5 ((s.retire h status).report 12 0x0872 h (res [(0, 1, c), (1, 1, status % 256)]))

/-- A transient link fault whose event has been raised (R246, R449, R451): FAULT and a backoff, the fourth within 10 min
retires; a fault in the recovery window is a second fault. -/
def linkFault (c status : Nat) (s : State) : State :=
  let h := handle 9 c
  let s := if s.isRetired h then s
    else if s.inRecovery h then
      let first := match s.contextOf h with
        | some x => x.status
        | none => ((s.jnl.waiting.find? fun w => decide (w.1 = h)).map (·.2)).getD 0
      let s := linkTo c 7 5 (s.secondFault h first status)
      match s.outOfConn c with
      | none => s
      | some o => secondSafe o 1 s
    else
      let n := s.countFault h 600000000
      if 4 ≤ n.1 then linkRetire c status n.2
      else linkStartBackoff c (linkTo c 6 5 (n.2.takeContext h status n.1 none))
  judge s

/-- LINK_FAULT_BACKOFF_END (Table 9-6): the link returns to service. -/
def execLinkFaultBackoffEnd (c : Nat) (s : State) : Out :=
  let h := handle 9 c
  match s.contextOf h with
  | none => .next s
  | some x =>
    match x.due with
    | none => .next s
    | some t =>
      if (s.conn c).link = 6 ∧ t ≤ s.now then .next (judge (linkTo c (s.restState c) 5 (s.freeContext h))) else .next s

/-! ## Control pilot -/

/-- The boundaries of Table 9-4 from the highest, 0.01 V. -/
def State.pilotBounds (s : State) (c : Nat) : List Int :=
  [1350, (s.cnFld c 4 2 : Int), (s.cnFld c 6 2 : Int), (s.cnFld c 8 2 : Int), (s.cnFld c 10 2 : Int), -150]

/-- Place of a state among the boundaries: Invalid 0, A 1 to F 6; none for the diode fault. -/
def pilotPlace (st : Nat) : Option Nat := if st = 6 then some 0 else if st = 7 then none else some (st + 1)

/-- Code of a place. -/
def placeCode (k : Nat) : Nat := if k = 0 then 6 else k - 1

/-- The raw pilot state of two plateaus (R229): a boundary is crossed only by more than HYS. Beyond 13.50 V is Invalid. -/
def State.pilotRaw (s : State) (c : Nat) (high low : Int) : Nat :=
  let v := s.conn c
  let hys : Int := (s.cnFld c 12 2 : Nat)
  let b := s.pilotBounds c
  let below := fun (i : Nat) (t : Int) =>
    match pilotPlace v.pilot with
    | none => if i = 0 then decide (high ≤ t) else decide (high < t)
    | some cur => if cur ≤ i then decide (high < t - hys) else decide (high ≤ t + hys)
  let place := ((upTo 6).filter fun i => below i (b.getD i 0)).length
  let st := placeCode place
  if (st = 1 ∨ st = 2 ∨ st = 3) ∧ v.form = 1 ∧ -(s.cnFld c 14 2 : Int) < low then 7 else st

/-- PILOT_FAULT of a connector. -/
def pilotFault (c cause : Nat) (high : Int) (s : State) : State :=
  s.report 12 0x0870 (handle 9 c) (res [(0, 1, c), (1, 1, cause), (4, 2, high)])

/-- Records a changed pilot state: the event, the island's log, the session service (R230, R231). -/
def pilotChanged (c st : Nat) (high low : Int) (s : State) : State :=
  let old := (s.conn c).pilot
  let s := s.setConn c { s.conn c with pilot := st, proxSince := none, proxRaised := false }
  let s := s.event 12 0x0070 (res [(0, 1, c), (1, 1, old), (2, 1, st), (4, 2, high), (6, 2, low)])
  tellSession c 1 st (logIn 2 [(c : Int), (st : Int)] s)

/-- What a changed pilot state does to the link and the session (Table 9-4, R231, R243, R244). -/
def pilotActs (c st : Nat) (high : Int) (s : State) : State :=
  let link := (s.conn c).link
  let form := (s.conn c).form
  if s.cnMode c = 0 then s
  else if st = 0 then
    if link = 0 ∨ link = 7 ∨ link = 6 then s else linkTo c 1 4 (s.setConn c { s.conn c with failures := 0 })
  else if (st = 1 ∨ st = 2 ∨ st = 3) ∧ link = 1 then linkTo c 2 5 s
  else if st = 7 then
    let f := s.fresh
    applyForm c (sessionSignal c (f.1 % 256) f.2)
  else if st = 5 ∧ (form = 0 ∨ form = 1) then linkFault c 0x0870 (pilotFault c 1 high s)
  else if st = 6 then linkFault c 0x0870 (pilotFault c 2 high s)
  else s

/-- A filtered state that has not changed is a fault that the link has not answered yet: the level, or F while the drive shows
X1 or X2 (R231), once the backoff or the F step is over. -/
def State.pilotStuck (s : State) (c st : Nat) : Bool :=
  let v := s.conn c
  decide (v.pilot = st ∧ v.link ≠ 0 ∧ v.link ≠ 6 ∧ v.link ≠ 7 ∧ (st = 6 ∨ (st = 5 ∧ v.form ≤ 1)))

/-- PILOT_CHANGE (R229 to R231, R243, R244): a raw state held for CP_FILT ms becomes the filtered one. -/
def execPilotChange (c : Nat) (high low : Int) (s : State) (held : Nat := 0) : Out :=
  if s.vehOn = false then .next s
  else
    let old := (s.conn c).pilot
    let st := s.pilotRaw c high low
    let s := s.setConn c { s.conn c with high := high, low := low }
    if held < s.cnFld c 2 1 then .next s
    else if st = old then .next (if s.pilotStuck c st then judge (pilotActs c st high s) else s)
    else .next (judge (pilotActs c st high (pilotChanged c st high low s)))

/-- PILOT_READBACK_FAULT (R231): in form F, a high plateau above −LOW_MIN held for 100 ms. -/
def execPilotReadbackFault (c : Nat) (high : Int) (s : State) : Out :=
  let v := s.conn c
  if s.vehOn = false ∨ s.cnMode c = 0 ∨ v.form ≠ 2 ∨ high ≤ -(s.cnFld c 14 2 : Int) then
    .next (s.setConn c { v with highSince := none })
  else match v.highSince with
    | none => .next (s.setConn c { v with high := high, highSince := some s.now })
    | some t =>
      if s.after t 100000 then
        let s := s.setConn c { v with high := high, highSince := none }
        .next (linkFault c 0x0870 (pilotFault c 1 high s))
      else .next s

/-- Proximity is plugged or released (R232). -/
def State.proxPresent (s : State) (c ohm : Nat) : Bool :=
  decide (s.cnFld c 16 2 ≤ ohm ∧ ohm ≤ s.cnFld c 18 2) ||
  decide (0 < s.cnFld c 22 2 ∧ s.cnFld c 20 2 ≤ ohm ∧ ohm ≤ s.cnFld c 22 2)

/-- PROXIMITY_WITHOUT_PILOT (R232): a resistance held for CP_FILT ms is the filtered one; journalled, no count toward
retirement. -/
def execProximityWithoutPilot (c ohm : Nat) (s : State) (held : Nat := 0) : Out :=
  let v := s.conn c
  if s.vehOn = false ∨ tst (s.cnFld c 1 1) 0 = false ∨ held < s.cnFld c 2 1 then .next s
  else
    let s := logIn 3 [(c : Int), (ohm : Int)] (s.setConn c { v with prox := ohm })
    if s.proxPresent c ohm = false ∨ v.pilot ≠ 0 then
      .next (s.setConn c { s.conn c with proxSince := none, proxRaised := false })
    else match v.proxSince with
      | none => .next (s.setConn c { s.conn c with proxSince := some s.now })
      | some t =>
        if s.after t 1000000 ∧ v.proxRaised = false then
          .next (pilotFault c 3 v.high (s.setConn c { s.conn c with proxRaised := true }))
        else .next s

/-! ## Frames (R233, R236 to R238, R242) -/

/-- Starts a channel estimation where one may be requested (R236). -/
def startRefresh (c : Nat) (s : State) : State :=
  let v := s.conn c
  if v.link = 3 ∧ s.cnMode c = 1 ∧ v.roboOnly = false ∧ v.refreshing = false ∧ v.mapTime ≠ 0 then
    s.setConn c { v with refreshing := true, retried := 0, blocks := [] }
  else s

/-- The newest physical blocks that together make 64 (R236). -/
def lastBlocks (fuel : Nat) (l : List (Nat × Nat)) : List (Nat × Nat) :=
  match l with
  | [] => []
  | (b, n) :: r => if fuel ≤ n then [(b, n)] else (b, n) :: lastBlocks (fuel - n) r

/-- More than PER_REFRESH % of the last 64 blocks were bad. -/
def State.perHigh (s : State) (l : List (Nat × Nat)) : Bool :=
  let bad := l.foldl (fun a e => a + e.1) 0
  let all := l.foldl (fun a e => a + e.2) 0
  decide (64 ≤ all ∧ fld (s.blk 8) 7 1 * all < 100 * bad)

/-- Posts a frame to Q52 to Q55: without a credit it is dropped and counted (Table 9-8). -/
def postFrame (c : Nat) (s : State) : State :=
  let v := s.conn c
  if s.credits (52 + c / 4) = 0 ∨ (s.iq (52 + c / 4)).stalled then s.setConn c { v with dropped := bump32 v.dropped }
  else (s.setConn c { v with received := bump32 v.received }).post (52 + c / 4) [(c : Int)]

/-- An intact frame: a peer is heard, relinks, and IPv6 goes to the session service. -/
def frameIn (c : Nat) (f : VehFrame) (s : State) : State :=
  let s := s.setConn c { s.conn c with heard := s.now }
  let v := s.conn c
  let s :=
    if v.link = 4 ∧ s.after (v.linkTime + 1) (s.relinkT v.linkTime) = false then startRefresh c (linkTo c 3 5 s)
    else if v.link = 2 ∧ s.cnMode c = 2 ∧ (v.pilot = 1 ∨ v.pilot = 2 ∨ v.pilot = 3) ∧ s.modeChanging c = false then linkUp c s
    else s
  if (s.conn c).link ≠ 3 then s
  else if f.ethertype = 0x86DD then postFrame c s
  else if f.ethertype = 0x88E1 ∧ s.cnMode c = 1 then
    s.setConn c { s.conn c with received := bump32 (s.conn c).received }
  else s.setConn c { s.conn c with dropped := bump32 (s.conn c).dropped }

/-- VEHICLE_FRAME: blanking judged first on frame control, then on the payload (R238). -/
def execVehicleFrame (c : Nat) (f : VehFrame) (s : State) : Out :=
  let v := s.conn c
  if s.vehOn = false ∨ s.cnMode c = 0 ∨ v.inReset ∨ v.link = 0 ∨ v.link = 6 ∨ v.link = 7 then .next s
  else if s.cnMode c = 2 then .next (frameIn c f s)
  else
    let frac := if f.payTotal = 0 then 0 else f.payBlank * 10000 / f.payTotal
    let v := { v with
      rms := f.rms, lastBlank := frac, maxBlank := max v.maxBlank frac, blankSamples := v.blankSamples + f.fcBlank + f.payBlank,
      blankFrames := if f.fcBlank + f.payBlank = 0 then v.blankFrames else bump32 v.blankFrames }
    let s := s.setConn c v
    if fld (s.blk 8) 5 1 * f.fcTotal < 100 * f.fcBlank then .next s
    else if fld (s.blk 8) 4 1 * f.payTotal < 100 * f.payBlank then
      let n := v.retried + 1
      let s := s.setConn c { v with heard := s.now, retried := n, blanked := bump32 v.blanked }
      .next (if 3 ≤ n then startRefresh c s else s)
    else
      let l := lastBlocks 64 ((f.badBlocks, f.blocks) :: v.blocks)
      let s := s.setConn c { v with retried := 0, blocks := l, heard := s.now }
      let s := if s.perHigh l then startRefresh c s else s
      .next (if f.badBlocks = 0 then frameIn c f s else s)

/-- TONE_MAP_REFRESH_DUE (R236). -/
def execToneMapRefreshDue (c : Nat) (s : State) : Out :=
  let v := s.conn c
  if s.after v.mapTime (1000000 * fld (s.blk 8) 0 2) then .next (startRefresh c s) else .next s

/-! ## Matching by SLAC (R239 to R241) -/

/-- A connector answers CM_SLAC_PARAM.REQ (R239). -/
def State.slacOpen (s : State) (c : Nat) : Bool :=
  let v := s.conn c
  decide (s.cnMode c = 1 ∧ (v.pilot = 1 ∨ v.pilot = 2 ∨ v.pilot = 3) ∧ v.form = 1 ∧ v.link = 2 ∧ v.inReset = false) &&
  !s.modeChanging c

/-- Connectors that answered a RunID. -/
def State.answered (s : State) (run : BitVec 64) : List Nat :=
  (upTo 16).filter fun k => (s.conn k).answered && decide ((s.conn k).runId = run)

/-- Silences the connectors whose average does not lie within ATTEN_TIE dB of the lowest (R240). -/
def arbitrate (run : BitVec 64) (s : State) : State :=
  let l := (s.answered run).filter fun k => decide (2 ≤ (s.conn k).lastSlac)
  let low := l.foldl (fun a k => min a (s.conn k).atten) 1000000
  let mask := BitVec.ofNat 16 (maskOf (s.answered run))
  overL l (fun k t =>
    let v := t.conn k
    let silent := decide (low + fld (t.blk 8) 6 1 < v.atten)
    let t := t.setConn k { v with answeredMask := mask, outcome := if silent then 3 else 0 }
    if silent then t else stationSends k t) s

/-- SLAC_MESSAGE. A message outside the matching that a connector serves is not answered; one that ISO 15118-3 does not require is
refused by a failure confirmation, and the refusal journalled (R7, R233, note 11). -/
def execSlacMessage (c : Nat) (m : SlacMsg) (s : State) : Out :=
  let v := s.conn c
  if s.vehOn = false then .next s
  else match m with
    | .param run =>
      if s.slacOpen c then
        .next (stationSends c <| s.setConn c { v with
          runId := run, answered := true, atten := 0, toggles := 0, outcome := 0, lastSlac := 1, slacSince := s.now })
      else .next s
    | .sounds run atten =>
      if s.slacOpen c ∧ v.answered ∧ v.runId = run then
        .next (arbitrate run (s.setConn c { v with atten := atten, lastSlac := 2 }))
      else .next s
    | .validate run toggles =>
      if s.slacOpen c ∧ v.answered ∧ v.runId = run ∧ v.outcome ≠ 3 ∧ 2 ≤ v.lastSlac then
        .next (stationSends c (s.setConn c { v with toggles := toggles, lastSlac := 3 }))
      else .next s
    | .slacMatch run =>
      if s.slacOpen c ∧ v.answered ∧ v.runId = run ∧ v.outcome ≠ 3 ∧ 2 ≤ v.lastSlac ∧ s.trust.rngFault = 0 then
        let others := (s.answered run).filter (· ≠ c)
        let s := overL others (fun k t => t.setConn k { t.conn k with answered := false }) s
        let s : State := { s with trust := { s.trust with draws := s.trust.draws + 1 } }
        .next (linkUp c (stationSends c <| s.setConn c { s.conn c with outcome := 1, nmk := true, answered := false, lastSlac := 4 }))
      else .next s
    | .estimation part =>
      if v.link ≠ 3 ∨ s.cnMode c ≠ 1 ∨ v.roboOnly ∨ (v.mapTime ≠ 0 ∧ v.refreshing = false) then .next s
      else if part then
        .next (s.setConn c { v with
          modulation := 4, mapsValid := true, mapTime := s.now + 1, refreshing := false,
          refreshes := if v.refreshing then bump32 v.refreshes else v.refreshes })
      else if v.refreshing then
        .next (s.setConn c { v with modulation := 3, mapsValid := false, mapTime := s.now + 1, refreshing := false })
      else .next (s.setConn c { v with roboOnly := true })
    | .other code =>
      if s.cnMode c ≠ 1 ∨ v.inReset ∨ v.link = 0 ∨ v.link = 6 ∨ v.link = 7 then .next s
      else .next ((stationSends c s).note 11 (handle 9 c) (1 :: leBytes code.toNat 2))

/-- SLAC_FAILED (R241): the code of the last message is a free value. -/
def execSlacFailed (c : Nat) (s : State) : Out :=
  let v := s.conn c
  if s.vehOn = false ∨ v.link ≠ 2 ∨ s.cnMode c ≠ 1 ∨ v.form ≠ 1 then .next s
  else
    let n := v.failures + 1
    let f := s.fresh
    let s := f.2.setConn c { v with failures := n, outcome := 2, answered := false }
    let s := s.event 12 0x0470 (res [(0, 1, c), (1, 1, ((f.1 % 256 : Nat) : Int)), (2, 1, n)])
    .next (if n < 3 then linkTo c 5 5 s else applyForm c s)

/-- RESTART_F_STEP_END (R241, R243): F shown for 4 s. -/
def execRestartFStepEnd (c : Nat) (s : State) : Out :=
  if (s.conn c).link = 5 ∧ s.after (s.conn c).linkTime 4000000 then .next (linkTo c 2 5 s) else .next s

/-- LINK_IDLE_TIMEOUT (R243). -/
def execLinkIdleTimeout (c : Nat) (s : State) : Out :=
  let v := s.conn c
  if v.link = 3 ∧ s.after v.heard (s.linkIdle v.heard) then .next (linkTo c 4 5 s) else .next s

/-- RELINK_TIMEOUT (R244). -/
def execRelinkTimeout (c : Nat) (s : State) : Out :=
  let v := s.conn c
  if v.link = 4 ∧ s.after v.linkTime (s.relinkT v.linkTime) then .next (linkTo c 5 5 s) else .next s

/-- LINK_DRIVER_FAULT (Table 9-7): causes 1 and 2 are transient, 3 is permanent. -/
def execLinkDriverFault (c cause : Nat) (s : State) : Out :=
  let h := handle 9 c
  if s.vehOn = false ∨ s.isRetired h ∨ s.cnMode c = 0 then .next s
  else
    let n := ((aget s.jnl.counts h).getD []).filter fun x => decide (s.windowTime < x + 600000000)
    let s := s.report 12 0x0871 h (res [(0, 1, c), (1, 1, cause), (2, 1, n.length + 1)])
    if cause = 3 then .next (judge (linkRetire c 0x0871 s)) else .next (linkFault c 0x0871 s)

/-! ## Commands (Table 9-9) -/

/-- CONN_STATUS. -/
def connStatusOf (q : Req) (s : State) : Reply :=
  let v := s.conn q.idx
  reads s [(0, 1, v.link), (1, 1, v.pilot), (2, 1, s.cnMode q.idx), (3, 1, v.form), (4, 2, v.high), (6, 2, v.low),
    (8, 2, v.prox), (10, 1, v.modulation), (11, 1, v.atten), (12, 4, ((s.now - v.linkTime) / 1000000 : Nat))]
def execConnStatus (c : Cmd) (s : State) : Out := host (line 0x0C00 .R [9] 0 0) c connStatusOf s

/-- CONN_PILOT (R249): in maintenance, with the connector's output IDLE. -/
def connPilotOf (q : Req) (s : State) : Reply :=
  let v := s.conn q.idx
  let idle := match s.outOfConn q.idx with
    | none => true
    | some o => decide ((s.output o).state = 0)
  if 4 < q.w 0 ∨ (q.w 0 = 4 ∧ (q.w 1 < 30 ∨ 970 < q.w 1)) then rej 0x0108 s
  else if s.isRetired q.hnd then rej 0x0303 s
  else if s.isl.maintenance = false ∨ idle = false then rej 0x0301 s
  else .done 0 (res [(0, 1, v.form)]) (applyForm q.idx (s.setConn q.idx { v with
    maint := q.w 0, duty := if q.w 0 = 4 then q.w 1 else v.duty }))
def execConnPilot (c : Cmd) (s : State) : Out := host (line 0x0C01 .A [9] 1 2) c connPilotOf s

/-- LINK_COUNTERS. -/
def linkCountersOf (q : Req) (s : State) : Reply :=
  let v := s.conn q.idx
  let r := res [(0, 4, v.received), (4, 4, v.blanked), (8, 4, v.dropped), (12, 4, v.refreshes)]
  .done 0 r (if (q.word 0).getLsbD 0 then
    s.setConn q.idx { v with received := 0, blanked := 0, dropped := 0, refreshes := 0 } else s)
def execLinkCounters (c : Cmd) (s : State) : Out := host (line 0x0C02 .R [9] 0 1) c linkCountersOf s

/-- TONEMAP_REFRESH (R249). -/
def tonemapRefreshOf (q : Req) (s : State) : Reply :=
  if s.isRetired q.hnd then rej 0x0303 s
  else if s.cnMode q.idx ≠ 1 ∨ s.linked q.idx = false then rej 0x0301 s
  else .done 0 (res [(0, 1, bit (s.conn q.idx).mapsValid)]) (startRefresh q.idx s)
def execTonemapRefresh (c : Cmd) (s : State) : Out := host (line 0x0C03 .A [9] 0 0) c tonemapRefreshOf s

/-- SLAC_READ. -/
def slacReadOf (q : Req) (s : State) : Reply :=
  let v := s.conn q.idx
  reads s [(0, 1, v.outcome), (1, 1, v.failures), (2, 2, v.answeredMask.toNat), (4, 1, v.atten), (5, 1, v.toggles),
    (8, 8, v.runId.toNat)]
def execSlacRead (c : Cmd) (s : State) : Out := host (line 0x0C04 .R [9] 0 0) c slacReadOf s

/-- NOISE_READ. -/
def noiseReadOf (q : Req) (s : State) : Reply :=
  let v := s.conn q.idx
  let r := res [(0, 2, v.rms), (2, 2, (fld (s.blk 8) 2 2 * v.rms / 16 : Nat)), (4, 2, v.lastBlank), (6, 2, v.maxBlank),
    (8, 4, v.blankFrames), (12, 4, (v.blankSamples / 1000 : Nat))]
  .done 0 r (if (q.word 0).getLsbD 0 then s.setConn q.idx { v with maxBlank := 0 } else s)
def execNoiseRead (c : Cmd) (s : State) : Out := host (line 0x0C05 .R [9] 0 1) c noiseReadOf s

end Sys2Proof.Machine
end

