-- ==== Sys2Proof/Machine/Sessions.lean ====
section
/-! DEFINITION. The charging session service (chapter 10): protocol selection, session states, requests, questions to the
authority seat, stops, and the commands of Table 10-11. -/

namespace Sys2Proof.Machine

/-! ## The session service block -/

/-- Field of a connector entry (Table 10-4). -/
def State.seFld (s : State) (c off n : Nat) : Nat := fld (s.blk 9) (16 + 32 * c + off) n
/-- FLAGS of a connector entry. -/
def State.seFlag (s : State) (c k : Nat) : Bool := tst (s.seFld c 3 1) k
/-- AUTH_SEAT. -/
def State.authSeat (s : State) (c : Nat) : Nat := s.seFld c 2 1

/-- The output of a connector, where one is fitted. -/
def State.connOut (s : State) (c : Nat) : Nat := (s.outOfConn c).getD 16

/-- I_MAX of the connector's output, mA. -/
def State.connImax (s : State) (c : Nat) : Nat := s.outFld (s.connOut c) 12 4
/-- I_SS of the connector's output, mA. -/
def State.connIss (s : State) (c : Nat) : Nat := s.outFld (s.connOut c) 20 4

/-- A protocol of Table 10-7 is enabled on the connector with the session's TLS (R251 to R253, Table 10-1). -/
def State.protoOn (s : State) (c p : Nat) : Bool :=
  let bits := s.seFld c 0 1
  let tls := (s.session c).tls
  if p = 1 then tst bits 0 && decide (s.cnMode c = 1) && !tls
  else if p = 2 then tst bits 1 && decide (s.cnMode c = 1) && (tls || !s.seFlag c 0)
  else if p = 3 then tst bits 2 && tls
  else if p = 4 then tst bits 3 && tls && s.outBidir (s.connOut c)
  else false

/-! ## Standing of tree nodes -/

/-- A field node bound to the node or to an ancestor is quarantined (R27, R98). -/
def State.nodeQuar (s : State) (n : Nat) : Bool :=
  (s.ep.cfg.path 16 n).any fun a =>
    let m := s.ep.cfg.node a
    decide ((nKind m = 3 ∨ nKind m = 7 ∨ nKind m = 8) ∧ (s.fnode (nBind m)).state = 2)

/-- The node is withdrawn: retired in its own right or by an ancestor, or held at 0 for an announced epoch (R27, R115). -/
def State.nodeOff (s : State) (n : Nat) : Bool :=
  (s.node n).retired || s.nodeWithdrawn n || s.cal.withdrawn.contains n

/-- An announced epoch changes the connector's entry or its output's node (R265). -/
def State.epochTouches (s : State) (c : Nat) : Bool :=
  decide (s.ep.phase = 3) &&
  ((upTo 32).any (fun k =>
    decide (mget (tget s.ep.staged.blocks 9 []) (16 + 32 * c + k) ≠ mget (s.blk 9) (16 + 32 * c + k))) ||
  match s.outNode (s.connOut c) with
  | none => false
  | some n => decide (s.ep.staged.node n ≠ s.ep.cfg.node n))

/-- A new session is refused: its end reason (R265, R284, R340). -/
def State.sessionRefused (s : State) (c : Nat) : Option Nat :=
  let o := s.connOut c
  if s.clk.inForce.contains 3 then some 8
  else if o = 16 ∨ (s.output o).state = 6 ∨ s.podsOf o = [] ∨ s.recFree = 0 then some 6
  else if s.isl.maintenance then some 7
  else if s.epochTouches c ∨ (match s.outNode o with
      | none => false
      | some n => s.nodeOff n || s.nodeQuar n) = true then some 10
  else none

/-! ## Requests (R257) -/

/-- The smaller of a value and a bound that may be unlimited. -/
def minOpt (a : Nat) : Option Nat → Nat
  | none => a
  | some b => min a b

/-- The schedule entry in force. -/
def State.schedNow (s : State) (c : Nat) : Option SchedEntry :=
  let v := s.session c
  let t := (s.now - v.tariffTime) / 1000000
  ((v.schedules.getD v.chosen []).filter fun e => decide (e.start ≤ t)).getLast?

/-- Measured output voltage, at least 150 V, in 0.1 V (R257). -/
def State.connVolts (s : State) (c : Nat) : Nat := max (s.output (s.connOut c)).volts.toNat 1500

/-- Demand, offer and firm discharge of a session, W (R257). -/
def State.sessionRequest (s : State) (c : Nat) : Nat × Nat × Nat :=
  let x := s.session c
  let v := s.connVolts c
  let early := decide (x.state = 4 ∨ x.state = 5)
  let p : Option Nat :=
    if early then some ((s.output (s.connOut c)).vReq * s.connIss c / 10000)
    else if x.dynamic then x.ev.maxPower
    else some (v * x.iTarget / 10000)
  let bounds : List (Option Nat) :=
    [x.ev.maxPower, x.ev.maxCurrent.map fun i => v * i / 10000, some (v * x.iCool.toNat / 10000), some (s.seFld c 4 4),
     x.authCap, x.hostCap, if x.dynamic then none else (s.schedNow c).map fun e => e.pMax]
  let demand := bounds.foldl minOpt (p.getD (s.seFld c 4 4))
  let offer : Nat := if x.proto = 4 then
      minOpt (x.ev.maxDischargePower.getD 4294967295) (x.ev.maxDischargeCurrent.map fun i => v * i / 10000) else 0
  let firm := if x.proto = 4 ∧ x.dynamic = false then min (((s.schedNow c).map fun e => e.pFirm).getD 0) offer else 0
  (if 0 < firm then 0 else demand, offer, firm)

/-- Caldera runs: PD4 is out of reset under a configuration (R29). -/
def State.calOn (s : State) : Bool := s.power.domains.getLsbD 4 && s.ep.loaded

/-- Takes the oldest entry of Q32: the node's newest request (R122). -/
def takeRequest (s : State) : State :=
  let t := s.take 32
  match t.1 with
  | some [n, demand, offer, firm] =>
    t.2.setNode n.toNat { t.2.node n.toNat with demand := demand.toNat, offer := offer.toNat, firm := firm.toNat }
  | _ => t.2

/-- Takes every waiting request of Q32, the oldest first: the newer replaces the older (Table 5-7). -/
def takeRequests (s : State) : State := overL (s.iq 32).entries (fun _ t => takeRequest t) s

/-- Posts a request for a tree node to Q32 (R122); Caldera takes it at once while it runs, ahead of its next snapshot.
Body: node, demand, offer, firm discharge. -/
def postRequest (n demand offer firm : Nat) (s : State) : State :=
  let s := s.post 32 [(n : Int), (demand : Int), (offer : Int), (firm : Int)]
  if s.calOn then takeRequests s else s

/-- Posts the session's request. -/
def sessionPost (c : Nat) (s : State) : State :=
  match s.outNode (s.connOut c) with
  | none => s
  | some n =>
    let r := s.sessionRequest c
    let s := s.setSession c { s.session c with posted := r.1, postTime := s.now }
    postRequest n r.1 r.2.1 r.2.2 s

/-- Posts at a power message whose demand differs by more than 1 % or 1,000 W. -/
def sessionPostIf (c : Nat) (s : State) : State :=
  let d := (s.sessionRequest c).1
  let old := (s.session c).posted
  let diff := max d old - min d old
  if 1000 < diff ∨ old < 100 * diff then sessionPost c s else s

/-- i_cool follows the cable-cooling slot (R259). -/
def coolStep (c : Nat) (s : State) : State :=
  let v := s.session c
  let k := s.seFld c 8 1
  let top : Int := (s.connImax c : Nat)
  let hot := decide (k < 64) && (s.slot k).satHi && (s.slot k).derating
  let rate := if hot then fld (s.blk 9) 2 1 else fld (s.blk 9) 3 1
  let step : Int := ((s.connImax c * rate * (s.now - v.coolTime) / 100000000 : Nat) : Int)
  let i := if hot then max 0 (v.iCool - step) else min top (v.iCool + step)
  s.setSession c { v with iCool := i, coolTime := s.now, derate := decide (i < top) }

/-- States the controller's limits and the meter value in a response (R258, R285). -/
def stateLimits (c : Nat) (s : State) : State :=
  let x := s.session c
  let o := s.connOut c
  let g := s.outGrant o
  let v : Int := (s.connVolts c : Nat)
  let top : Int := (s.connImax c : Nat)
  let dis : Int := if x.proto ≠ 4 then 0
    else if g < 0 then min top (-g * 10000 / v) else (((s.sessionRequest c).2.1 : Nat) : Int) * 10000 / v
  s.setSession c { x with
    statedI := max 0 (min (min top x.iCool) (g * 10000 / v)), statedP := max 0 (min g (s.seFld c 4 4 : Nat)), statedD := dis,
    meterInfo := (tget (s.point o).regs 0 {}).billing }

/-! ## Questions (R260, R261) -/

/-- A question's body of 128 bytes (Table 10-7). -/
def State.questionBody (s : State) (c kind : Nat) (tail : List Byte) : List Byte :=
  let v := s.session c
  let head := [BitVec.ofNat 8 kind, BitVec.ofNat 8 v.proto] ++ leBytes v.qid.toNat 2 ++
    [BitVec.ofNat 8 v.evccid.length, 0, 0, 0] ++ (v.evccid ++ List.replicate 24 0).take 24
  (head ++ tail ++ List.replicate 128 0).take 128

/-- Asks a question of the authority seat. -/
def ask (c kind : Nat) (certs : List (List Byte)) (tail : List Byte) (s : State) : State :=
  let v := s.session c
  let s := s.setSession c { v with qid := v.qid + 1 }
  let body := s.questionBody c kind tail
  let s := s.setSession c { s.session c with question := some (kind, certs, s.now, body), response := 1 }
  let a := s.authSeat c
  let left := min (s.questionT kind s.now) (Config.ongoingEnd v.proto + 1) / 1000
  s.eventTo (· = a) 12 0x0080
    (res [(0, 1, c), (1, 1, kind), (2, 2, (v.qid + 1).toNat), (4, 4, (left : Nat)), (8, 8, v.id.toNat)])

/-- Kind 1: authorisation. -/
def askAuth (c : Nat) (s : State) : State :=
  ask c 1 [] (((s.session c).emaid ++ List.replicate 24 0).take 24) s

/-- Kind 3: the status of a chain's certificates, leaf first, then kind 1. -/
def askCerts (c : Nat) (certs : List (List Byte)) (pos : Nat) (s : State) : State :=
  match certs with
  | [] => askAuth c s
  | b :: r => ask c 3 r ((b ++ List.replicate 84 0).take 84 ++ [BitVec.ofNat 8 pos]) s

/-- Kind 2: tariff. -/
def askTariff (c : Nat) (s : State) : State :=
  let e := (s.session c).ev
  ask c 2 [] (leBytes (e.maxPower.getD 4294967295) 4 ++ leBytes e.departure.toNat 4 ++ leBytes e.energy.toNat 8) s

/-- The identification is denied: reason 3, journalled (R261). -/
def deny (c : Nat) (s : State) : State :=
  let v := s.session c
  let s := s.setSession c { v with nDenied := bump32 v.nDenied, question := none }
  (sessionEnd c 3 s).jotRes 0x0082 (handle 9 c) (res [(0, 1, c), (1, 1, 3),
    (4, 4, ((s.now - v.started) / 1000000 : Nat)), (8, 8, v.id.toNat)])

/-- The vehicle is authorised. -/
def authorise (c : Nat) (s : State) : State :=
  let v := s.session c
  s.setSession c { v with authorised := true, question := none, nAuth := bump32 v.nAuth }

/-- The pending question's end has come: the kind's timeout, or 2 s before the protocol's ongoing limit (R261). -/
def State.questionEnded (s : State) (c : Nat) : Bool :=
  let v := s.session c
  match v.question with
  | none => false
  | some (kind, _, t, _) => s.after t (s.questionT kind t) || s.after t (Config.ongoingEnd v.proto + 1)

/-- QUESTION_TIMEOUT (R261): the question ends as deny. -/
def execQuestionTimeout (c : Nat) (s : State) : Out :=
  let v := s.session c
  if s.boot.coreReset ∨ s.questionEnded c = false then .next s
  else .next (deny c (s.setSession c { v with expired := v.qid :: v.expired, nTimeout := bump32 v.nTimeout }))

/-! ## Messages (R252 to R256) -/

/-- Answers the vehicle with a response code. -/
def respond (c code : Nat) (s : State) : State := s.setSession c { s.session c with response := code }

/-- A message out of sequence: the protocol's code and reason 11 (R254). -/
def outOfSeq (c code : Nat) (s : State) : State := sessionSignal c 11 (respond c code s)

/-- A refused option: the protocol's code, journalled (R7, R254). -/
def refuse (c code kind : Nat) (s : State) : State :=
  (respond c code s).note 11 (handle 9 c) (BitVec.ofNat 8 kind :: leBytes code 2)

/-- A refusal whose code the standard gives and the spec does not: a free value. -/
def refuseOpen (c kind : Nat) (s : State) : State := let f := s.fresh; refuse c (f.1 % 65536) kind f.2

/-- A sequence error whose code the standard gives: a free value. -/
def seqOpen (c : Nat) (s : State) : State := let f := s.fresh; outOfSeq c (f.1 % 65536) f.2

/-- A session begins: SETUP. -/
def sessionNew (c : Nat) (tls : Bool) (s : State) : State :=
  let v := s.session c
  let s := s.setSession c { v with
    proto := 0, ident := 0, tls := tls, dynamic := false, authorised := false, plain := false, id := 0, evccid := [],
    emaid := [], ev := ⟨none, none, 0, 0, none, none, 0, 0⟩, vTarget := 0, iTarget := 0, question := none, expired := [],
    schedules := [], chosen := 0, authCap := none, hostCap := none, stopping := none, ownStop := false, posted := 0,
    started := s.now, response := 0, derate := false }
  sessionTo c 1 s

/-- A TLS handshake can be made on a connector: its server key is usable, random values are to be had, and the vehicle offers
an enabled cipher suite and key-exchange group, in the bits of Table 16-9 (R391, R392, R402, R405). -/
def State.tlsReady (s : State) (c suites groups : Nat) : Bool :=
  let k := s.key (fld (s.blk 12) (16 + 8 * c) 1)
  decide (k.state = 1) && k.use.getLsbD 3 && decide (s.trust.rngFault = 0) &&
  decide (suites &&& fld (s.blk 12) 1 1 ≠ 0 ∧ groups &&& fld (s.blk 12) 2 1 ≠ 0)

/-- Secure discovery (R253). -/
def onSdp (c tls suites groups : Nat) (s : State) : State :=
  let v := s.session c
  if v.state ≠ 0 ∧ v.state ≠ 9 ∧ v.state ≠ 1 then seqOpen c s
  else
    let req := s.seFlag c 0
    let plain := v.plain && decide (v.state = 1)
    let s := if v.state = 9 then sessionTo c 0 s else s
    let s := sessionNew c (decide (tls = 2) && !plain) s
    if tls = 2 ∧ plain = false ∧ s.tlsReady c suites groups = false then sessionEnd c 11 (refuseOpen c 3 s)
    else if tls = 1 ∧ plain = false then
      let s := refuseOpen c 3 s
      if req then sessionEnd c 11 s else s.setSession c { s.session c with plain := true }
    else s

/-- SupportedAppProtocolReq (R252). -/
def onSupportedApp (c : Nat) (offers : List (Nat × Nat)) (s : State) : State :=
  let v := s.session c
  if v.state ≠ 1 ∨ v.proto ≠ 0 then seqOpen c s
  else
    let on := offers.filter fun e => s.protoOn c e.1
    match on.foldl (fun (a : Option (Nat × Nat)) e => match a with
        | none => some e
        | some b => if e.2 < b.2 then some e else some b) none with
    | none => sessionEnd c 11 (refuseOpen c 2 s)
    | some (p, _) => s.setSession c { v with proto := p, response := 0 }

/-- SessionSetup (R256, R265, R284). -/
def onSetup (c : Nat) (evccid : List Byte) (s : State) : State :=
  let s := if (s.session c).state = 9 then
      let v := s.session c
      let s := sessionNew c v.tls (sessionTo c 0 s)
      s.setSession c { s.session c with proto := v.proto }
    else s
  let v := s.session c
  if v.state ≠ 1 ∨ v.proto = 0 then seqOpen c s
  else if s.trust.rngFault ≠ 0 then sessionEnd c 11 (refuseOpen c 2 s)
  else match s.sessionRefused c with
    | some r => sessionEnd c r (refuseOpen c 2 (if s.recFree = 0 then recFull s else s))
    | none =>
      let f := s.fresh
      let s : State := { f.2 with trust := { f.2.trust with draws := f.2.trust.draws + 1 } }
      let id := BitVec.ofNat 64 f.1
      let s := s.setSession c { v with
        id := id, evccid := evccid, iCool := (s.connImax c : Nat), coolTime := s.now, nStarted := bump32 v.nStarted, response := 0 }
      sessionTo c 2 (reserveRec (s.connOut c) c v.proto id evccid s)

/-- Authorization (R260, R261). -/
def onAuth (c : Nat) (pnc : Bool) (emaid : List Byte) (chainOk : Bool) (certs : List (List Byte)) (s : State) : State :=
  let v := s.session c
  if v.state ≠ 2 then seqOpen c s
  else if v.question.isSome then respond c 1 s
  else if v.authorised then sessionTo c 3 (respond c 0 s)
  else if pnc then
    if tst (s.seFld c 1 1) 1 = false ∨ v.tls = false then refuseOpen c 2 s
    else
      let s := s.setSession c { v with ident := 2, emaid := emaid }
      if chainOk = false then deny c (refuseOpen c 2 s) else askCerts c certs 0 s
  else if tst (s.seFld c 1 1) 0 = false then refuseOpen c 2 s
  else
    let s := s.setSession c { v with ident := 1, emaid := [] }
    if s.seFlag c 1 then sessionTo c 3 (respond c 0 (authorise c s)) else askAuth c s

/-- Services (R252, R263): DC_BPT where offered; -20 in a mode the entry offers, the others scheduled. -/
def onService (c : Nat) (bpt dyn : Bool) (s : State) : State :=
  let v := s.session c
  let modeOk := if v.proto = 3 ∨ v.proto = 4 then (if dyn then s.seFlag c 3 else s.seFlag c 4) else !dyn
  if v.state ≠ 3 then seqOpen c s
  else if modeOk = false ∨ (bpt ∧ s.protoOn c 4 = false) ∨ (bpt = false ∧ v.proto = 4 ∧ s.protoOn c 3 = false) then refuseOpen c 2 s
  else
    let p := if v.proto = 3 ∨ v.proto = 4 then (if bpt then 4 else 3) else v.proto
    s.setSession c { v with proto := p, dynamic := dyn, response := 0 }

/-- Parameters: the vehicle's limits go to the island through Q43 (R328); then the tariff (R262). Body of a Q43 entry:
output, maximum voltage and current, minimum voltage, discharge current, DC_BPT. -/
def onParameters (c : Nat) (l : EvLimits) (s : State) : State :=
  let v := s.session c
  if v.state ≠ 3 then seqOpen c s
  else
    let o := s.connOut c
    let s := s.setSession c { v with ev := l, response := 0 }
    let s := s.post 43 [(o : Int), (l.maxVoltage : Int), ((l.maxCurrent.getD (s.connImax c) : Nat) : Int), (l.minVoltage : Int),
      ((l.maxDischargeCurrent.getD (s.connImax c) : Nat) : Int), ((bit (decide (v.proto = 4)) : Nat) : Int)]
    if v.dynamic then s
    else if s.seFlag c 2 then (if v.question.isSome ∨ v.schedules ≠ [] then s else askTariff c s)
    else s.setSession c { s.session c with schedules := [[⟨0, s.seFld c 4 4, 0⟩]], chosen := 0, tariffTime := s.now }

/-- CableCheck: starts the output, then waits for the cable-check voltage and the insulation check (R256). -/
def onCableCheck (c : Nat) (s : State) : State :=
  let v := s.session c
  let o := s.connOut c
  let x := s.output o
  if v.state = 3 then
    if v.question.isSome then respond c 1 s
    else if v.dynamic = false ∧ v.schedules = [] then seqOpen c s
    else if (s.startRefused o).isSome ∨ s.isl.maintenance ∨ s.outCtrl o ≠ 1 then
      sessionEnd c (if s.isl.maintenance then 7 else 6) s
    else
      let s := sessionTo c 4 (respond c 1 s)
      let s := openRec o v.proto v.ident v.emaid s
      let s := outTargets o (min v.ev.maxVoltage (10 * s.outFld o 10 2)) (s.connIss c : Nat) v.ev.minVoltage s
      let s := if s.closeReadyOut o then closeRequest o s else s.setOutput o { s.output o with state := 1 }
      sessionPost c s
  else if v.state = 4 then
    if v.stopping.isSome then s
    else if x.state = 3 ∧ x.imdPassed then sessionTo c 5 (respond c 0 s)
    else sessionPostIf c (respond c 1 s)
  else seqOpen c s

/-- PreCharge (Table 10-5). -/
def onPreCharge (c voltage current : Nat) (s : State) : State :=
  let v := s.session c
  let o := s.connOut c
  if v.state ≠ 5 then seqOpen c s
  else if v.stopping.isSome then s
  else
    let i : Int := (min current (s.connIss c) : Nat)
    let s := outTargets o voltage i v.ev.minVoltage s
    let s := s.setSession c { v with vTarget := voltage, iTarget := current, response := 0 }
    sessionPostIf c (stateLimits c (regulate o s))

/-- The vehicle stops power delivery (R266): reason 1 where no stop was signalled before. -/
def vehicleStop (c : Nat) (s : State) : State :=
  let v := s.session c
  let s := s.setSession c { v with
    stopping := if v.stopping.isSome then v.stopping else some (1, s.now), question := none, response := 0 }
  outputStop (s.connOut c) (sessionTo c 7 s)

/-- PowerDelivery. -/
def onPowerDelivery (c : Nat) (start : Bool) (s : State) : State :=
  let v := s.session c
  if start then (if v.state = 5 ∧ v.stopping = none then sessionTo c 6 (respond c 0 s) else seqOpen c s)
  else if v.state = 4 ∨ v.state = 5 ∨ v.state = 6 then vehicleStop c s
  else if v.state = 7 then respond c 0 s
  else seqOpen c s

/-- i_req of a charge loop, mA: the vehicle's target, negative where it asks to discharge, within i_cool; in dynamic mode, which
sends no target, its largest current in the direction of the grant (R185, R195, R257; log entry 100). -/
def State.loopRequest (s : State) (c : Nat) (current : Int) (l : EvLimits) : Int :=
  let v := s.session c
  let top : Int := (s.connImax c : Nat)
  let asked : Int := if v.dynamic = false then current
    else if s.outReverse (s.connOut c) then -((l.maxDischargeCurrent.map fun i => (i : Int)).getD top)
    else (l.maxCurrent.map fun i => (i : Int)).getD top
  max (-v.iCool) (min asked v.iCool)

/-- CurrentDemand and DC_ChargeLoop (R257, R258). -/
def onChargeLoop (c : Nat) (current : Int) (l : EvLimits) (s : State) : State :=
  let v := s.session c
  let o := s.connOut c
  if v.state ≠ 6 then seqOpen c s
  else if v.stopping.isSome then stateLimits c (s.setSession c { v with ev := l })
  else
    let s := coolStep c (s.setSession c { v with ev := l, iTarget := current.toNat, vTarget := l.maxVoltage, response := 0 })
    let s := outTargets o l.maxVoltage (s.loopRequest c current l) l.minVoltage s
    sessionPostIf c (stateLimits c (regulate o s))

/-- WeldingDetection: once the output is IDLE (Table 10-5). -/
def onWelding (c : Nat) (s : State) : State :=
  let v := s.session c
  if v.state = 7 then (if s.connOutIdle c then sessionTo c 8 (respond c 0 s) else respond c 1 s)
  else if v.state = 8 then respond c 0 s
  else seqOpen c s

/-- SessionStop (R266). -/
def onSessionStop (c : Nat) (s : State) : State :=
  let v := s.session c
  let reason := (v.stopping.map (·.1)).getD 1
  if v.state = 0 ∨ v.state = 9 then s
  else if v.state ≤ 3 then sessionEnd c reason (respond c 0 s)
  else
    let s := if v.state ≤ 6 then vehicleStop c s else s
    sessionIdle c (s.setSession c { s.session c with ownStop := true, response := 0 })

/-- Takes the entries of a queue up to the oldest frame of a connector, at most `fuel` of them; whether the frame was delivered,
not discarded for its epoch (R22). -/
def takeFrame (q c fuel : Nat) (s : State) : Bool × State :=
  match fuel with
  | 0 => (false, s)
  | n + 1 => match (s.iq q).entries with
    | [] => (false, s)
    | e :: _ =>
      let t := s.take q
      if e.body = [(c : Int)] then (t.1.isSome, t.2) else takeFrame q c n t.2

/-- A frame of the connector waits in its queue. -/
def State.frameWaits (s : State) (c : Nat) : Bool :=
  (s.iq (52 + c / 4)).entries.any fun e => decide (e.body = [(c : Int)])

/-- The answer goes to the baseband by way of Q56 to Q59, with the stop or the emergency shutdown in its status field (R15, R266,
Table 10-9). -/
def answerVehicle (c : Nat) (s : State) : State :=
  s.via (56 + c / 4) [(c : Int)] fun t =>
    let v := t.session c
    stationSends c (t.setSession c { v with status := match v.stopping with
      | none => 0
      | some (r, _) => if r = 6 ∨ r = 7 then 2 else 1 })

/-- A message of the vehicle: the service's answer and its acts. -/
def onMessage (c : Nat) (m : V2gMsg) (s : State) : State :=
    match m with
    | .sdp tls suites groups => onSdp c tls suites groups s
    | .supportedApp offers => onSupportedApp c offers s
    | .sessionSetup id => onSetup c id s
    | .authorization pnc emaid ok certs => onAuth c pnc emaid ok certs s
    | .serviceSelection bpt dyn => onService c bpt dyn s
    | .parameters l => onParameters c l s
    | .scheduleSelected k =>
      let v := s.session c
      if v.state ≠ 3 ∨ v.dynamic then seqOpen c s
      else if v.question.isSome then respond c 1 s
      else if k < v.schedules.length then s.setSession c { v with chosen := k, response := 0 }
      else refuseOpen c 2 s
    | .cableCheck => onCableCheck c s
    | .preCharge v i => onPreCharge c v i s
    | .powerDelivery b => onPowerDelivery c b s
    | .chargeLoop i l => onChargeLoop c i l s
    | .weldingDetection => onWelding c s
    | .sessionStop => onSessionStop c s
    | .meteringReceipt ok =>
      let f := s.fresh
      respond c 0 (f.2.note (f.1 % 256) (handle 9 c) [BitVec.ofNat 8 (bit ok)])
    | .refusedOption code => refuse c code.toNat 2 s
    | .outOfSequence code => outOfSeq c code.toNat s

/-- V2G_MESSAGE (R254, R256): the service runs while firmware does and the link is LINKED; the message came in a frame of the
connector that waits in Q52 to Q55 (log entry 101). -/
def execV2gMessage (c : Nat) (m : V2gMsg) (s : State) : Out :=
  let q := 52 + c / 4
  if s.boot.coreReset ∨ s.linked c = false ∨ s.connCtrl c ≠ 1 ∨ s.frameWaits c = false then .next s
  else
    let t := takeFrame q c (s.iq q).entries.length s
    let u := serveChanges q (t.2.iq q).entries.length t.2
    .next (if t.1 then answerVehicle c (onMessage c m u) else u)

/-- REQ_PERIOD_EXPIRE (R257, R259). -/
def execReqPeriodExpire (c : Nat) (s : State) : Out :=
  let v := s.session c
  if s.boot.coreReset ∨ s.after v.postTime (1000 * fld (s.blk 9) 0 2) = false then .next s
  else if v.state = 4 ∨ v.state = 5 ∨ v.state = 6 then
    .next (sessionPost c (coolStep c s))
  else .next s

/-- VEHICLE_STOP_TIMEOUT (R266). -/
def execVehicleStopTimeout (c : Nat) (s : State) : Out :=
  let v := s.session c
  match v.stopping with
  | none => .next s
  | some (_, t) =>
    if s.boot.coreReset ∨ s.after t 5000000 = false ∨ (v.state ≠ 4 ∧ v.state ≠ 5 ∧ v.state ≠ 6) then .next s
    else
      let s := sessionTo c 7 (s.setSession c { v with ownStop := true })
      .next (sessionIdle c (outputStop (s.connOut c) s))

/-! ## Commands (Table 10-11) -/

/-- A connector without a session: IDLE or ENDED (R270). -/
def State.noSession (s : State) (c : Nat) : Bool := decide ((s.session c).state = 0 ∨ (s.session c).state = 9)

/-- SESSION_STATUS. -/
def sessionStatusOf (q : Req) (s : State) : Reply :=
  let v := s.session q.idx
  if s.noSession q.idx then .done 0 0 s
  else reads s [(0, 1, v.state), (1, 1, v.proto), (2, 1, v.ident),
    (3, 1, bit v.tls + 2 * bit v.dynamic + 4 * bit v.authorised + 8 * bit v.derate + 16 * bit v.question.isSome),
    (4, 4, v.posted), (8, 4, v.iCool), (12, 4, (v.id.toNat % 4294967296 : Nat))]
def execSessionStatus (c : Cmd) (s : State) : Out := host (line 0x0C10 .R [9] 0 0) c sessionStatusOf s

/-- Only the connector's AUTH_SEAT answers (R264). -/
def isAuthSeat (q : Req) (s : State) : Bool := decide (s.authSeat q.idx = q.seat)

/-- The status of an answer whose QID is not pending (R264, Table 10-9): expired, from the instant its end has come; withdrawn;
or no session. -/
def answerRefused (q : Req) (kinds : List Nat) (s : State) : Option Nat :=
  let v := s.session q.idx
  let qid := BitVec.ofNat 16 (q.w 0)
  if v.expired.contains qid ∨ (s.questionEnded q.idx ∧ qid = v.qid) then some 0x0480
  else match v.question with
    | some (k, _, _, _) => if qid ≠ v.qid then some 0x0380 else if kinds.contains k then none else some 0x0108
    | none => if s.noSession q.idx ∧ qid ≠ v.qid then some 0x0381 else some 0x0380

/-- SESSION_ANSWER. -/
def sessionAnswerOf (q : Req) (s : State) : Reply :=
  let c := q.idx
  let v := s.session c
  match answerRefused q [1, 3] s with
  | some st => rej st s
  | none =>
    if 1 < q.w 1 then rej 0x0108 s
    else if q.w 1 = 0 then .done 0 0 (deny c s)
    else match v.question with
      | some (3, rest, _, body) =>
        .done 0 0 (askCerts c rest ((body.getD 116 0).toNat + 1) (s.setSession c { v with question := none }))
      | _ => .done 0 0 (authorise c (s.setSession c { v with authCap := if q.w 2 = 0 then none else some (q.w 2) }))
def execSessionAnswer (c : Cmd) (s : State) : Out :=
  host { line 0x0C11 .A [9] 2 3 with ownOk := isAuthSeat, owned := false } c sessionAnswerOf s

/-- Entries of a tariff from word `i`. -/
def tariffEntries (ws : List Word) (n : Nat) : List SchedEntry :=
  match n, ws with
  | k + 1, a :: b :: d :: r => ⟨a.toNat, b.toNat, d.toNat⟩ :: tariffEntries r k
  | _, _ => []

/-- Ascending START from 0 (R262). -/
def schedOk (l : List SchedEntry) : Bool :=
  match l with
  | [] => true
  | e :: r => decide (e.start = 0) && decide (((e :: r).map fun x => x.start).Pairwise (· < ·))

/-- SESSION_TARIFF. -/
def sessionTariffOf (q : Req) (s : State) : Reply :=
  let c := q.idx
  let v := s.session c
  match answerRefused q [2] s with
  | some st => rej st s
  | none =>
    let n := [q.w 1 % 256, q.w 1 / 256 % 256, q.w 1 / 65536 % 256]
    let all := q.params.drop 2
    let a := tariffEntries all (n.getD 0 0)
    let b := tariffEntries (all.drop (3 * n.getD 0 0)) (n.getD 1 0)
    let d := tariffEntries (all.drop (3 * (n.getD 0 0 + n.getD 1 0))) (n.getD 2 0)
    if n.getD 0 0 = 0 ∨ n.any (fun k => decide (20 < k)) ∨ all.length < 3 * n.sum ∨ (n.getD 1 0 = 0 ∧ n.getD 2 0 ≠ 0) ∨
        ¬ (schedOk a ∧ schedOk b ∧ schedOk d) ∨
        (tst (s.seFld c 0 1) 3 = false ∧ (a ++ b ++ d).any fun e => decide (e.pFirm ≠ 0)) then rej 0x0108 s
    else .done 0 0 (s.setSession c { v with
      schedules := [a, b, d].filter (· ≠ []), chosen := 0, tariffTime := s.now, question := none })
def execSessionTariff (c : Cmd) (s : State) : Out :=
  host { line 0x0C12 .A [9] 5 182 with ownOk := isAuthSeat, owned := false } c sessionTariffOf s

/-- QUESTION_READ. -/
def questionReadOf (q : Req) (s : State) : Reply :=
  let v := s.session q.idx
  if s.noSession q.idx then rej 0x0381 s
  else if q.w 1 % 16 ≠ 0 ∨ 112 < q.w 1 then rej 0x0108 s
  else match v.question with
    | none => rej 0x0380 s
    | some (_, _, _, body) =>
      if BitVec.ofNat 16 (q.w 0) ≠ v.qid then rej 0x0380 s else .done 0 (resBytes (body.drop (q.w 1))) s
def execQuestionRead (c : Cmd) (s : State) : Out := host (line 0x0C13 .R [9] 2 2) c questionReadOf s

/-- SESSION_STOP (R266). -/
def sessionStopOf (q : Req) (s : State) : Reply :=
  if s.noSession q.idx then rej 0x0381 s
  else .done 0 (res [(0, 1, (s.session q.idx).state)]) (sessionSignal q.idx 2 s)
def execSessionStop (c : Cmd) (s : State) : Out := host (line 0x0C14 .A [9] 0 0) c sessionStopOf s

/-- SESSION_LIMIT (R257). -/
def sessionLimitOf (q : Req) (s : State) : Reply :=
  let v := s.session q.idx
  if s.noSession q.idx then rej 0x0381 s
  else .done 0 (res [(0, 4, ((v.hostCap.getD 0xFFFFFFFF : Nat) : Int))])
    (s.setSession q.idx { v with hostCap := if q.w 0 = 0xFFFFFFFF then none else some (q.w 0) })
def execSessionLimit (c : Cmd) (s : State) : Out := host (line 0x0C15 .A [9] 1 1) c sessionLimitOf s

/-- SESSION_COUNTERS. -/
def sessionCountersOf (q : Req) (s : State) : Reply :=
  let v := s.session q.idx
  let r := res [(0, 4, v.nStarted), (4, 4, v.nAuth), (8, 4, v.nDenied), (12, 4, v.nTimeout)]
  .done 0 r (if (q.word 0).getLsbD 0 then
    s.setSession q.idx { v with nStarted := 0, nAuth := 0, nDenied := 0, nTimeout := 0 } else s)
def execSessionCounters (c : Cmd) (s : State) : Out := host (line 0x0C16 .R [9] 0 1) c sessionCountersOf s

end Sys2Proof.Machine
end

