-- ==== Sys2Proof/Machine/Island.lean ====
section
/-! DEFINITION. The safety supervisor (chapter 12): votes, checkpoints and the spare; the safety functions (chapter 13): inputs,
outputs, limits, axes, safe messages and safe states; and the commands of Table 13-13. -/

namespace Sys2Proof.Machine

/-- Signals that the demands are judged with contactors that may have settled. -/
def rejudge (s : State) : State := judge (overL s.localOuts (fun o t => settleFixed o (contactsSettled o t)) s)

/-! ## Axes (R331, R332) -/

/-- The limit set in force. -/
def State.limitSet (s : State) : Bool := decide (fld (s.blk 7) 15 1 < 24) && (s.sin (fld (s.blk 7) 15 1)).demand

/-- Speed limit in force of an axis: the smaller of both sets while it must be referenced (R331). -/
def State.axisSpeed (s : State) (a : Nat) : Nat :=
  if (s.axis a).referenced = false ∧ tst (s.axFld a 0 1) 1 then min (s.axFld a 4 4) (s.axFld a 8 4)
  else if s.limitSet then s.axFld a 8 4 else s.axFld a 4 4

/-- A signed 32-bit field of an axis entry. -/
def State.axInt (s : State) (a off : Nat) : Int := signed 4 (s.axFld a off 4)

/-- The drive's own position differs by more than POS_TOL (R332). -/
def State.implausible (s : State) (a : Nat) : Bool :=
  let k := s.axFld a 3 1
  decide (k < 64) && match (s.sconn k).position with
    | none => false
    | some q => decide (s.axFld a 22 2 < (q - (s.axis a).pos).natAbs)

/-- Count change of an axis over the last 10 ms (R331). -/
def State.axisMoved (s : State) (a : Nat) : Int := (((s.axis a).recent.filter fun e => decide (s.now < e.1 + 10000)).map (·.2)).sum

/-- The violation that holds at an axis, 1 to 5; 0 none (R332). -/
def State.axisBroken (s : State) (a : Nat) (error : Bool) : Nat :=
  let x := s.axis a
  if 10 * s.axisSpeed a < (s.axisMoved a).natAbs then 1
  else if x.referenced ∧ (x.pos < s.axInt a 12 ∨ s.axInt a 16 < x.pos) then 2
  else if 16 < x.against then 3
  else if s.implausible a then 4
  else if error then 5
  else 0

/-- Renews an axis's speed, counts per ms over the last 10 ms, and its plausibility difference. -/
def axisRenew (a : Nat) (s : State) : State :=
  let x := s.axis a
  let q := (s.sconn (s.axFld a 3 1)).position
  s.setAxis a { x with
    recent := x.recent.filter fun e => decide (s.now < e.1 + 10000), speed := (s.axisMoved a).tdiv 10,
    plausible := match q with
      | none => x.plausible
      | some q => q - x.pos }

/-- Judges an axis again: a violation de-energises STO_SOUT at once, and lasts until the axis stands still within its limits
with the cause cleared (R332). -/
def axisStep (a : Nat) (error : Bool) (s0 : State) : State :=
  let s := axisRenew a s0
  let x := s.axis a
  let k := s.axisBroken a error
  if s.axFitted a = false then s0
  else if x.violation = 0 ∧ k ≠ 0 then
    let s := s.setAxis a { x with violation := k }
    judge (soutSet (s.axFld a 1 1) false (islandReport 0x0A06 (handle 0 0) (res [(0, 1, a), (1, 1, k)]) s))
  else if x.violation ≠ 0 ∧ s.axisMoved a = 0 then
    let s := s.setAxis a { x with against := 0 }
    if s.axisBroken a error = 0 then judge (s.setAxis a { s.axis a with violation := 0 }) else s
  else s

/-! ## The supervisor -/

/-- Handle of a safety channel (Table 19-8). -/
def chanHandle (x : Nat) : Word := handleSub 0 0 (0x20 + x)

/-- Changes the supervisor. -/
def State.setSup (s : State) (v : Supervisor) : State := { s with sup := v }

/-- The spare can be promoted. -/
def State.spareReady (s : State) : Bool := match s.sup.spare with
  | none => false
  | some x => !s.isRetired (chanHandle x)

/-- Retires a safety channel: CHANNEL_RETIRED (R312). -/
def retireChannel (x cause : Nat) (s : State) : State :=
  islandReport 0x0A14 (handle 0 0) (res [(0, 1, x), (1, 1, cause)]) (s.retire (chanHandle x) 0x0A14)

/-- Starts a promotion of the spare in place of a channel: kind 1 after a vote-out, 2 proof test (R309). Channel D is
powered in PD2. -/
def startPromotion (x kind : Nat) (s : State) : State :=
  match s.sup.spare with
  | none => s
  | some sp =>
    spareDomain (s.setSup { s.sup with mode := 1, spare := none, promotion := some (sp, x, kind, s.now, 0), failStage := 0 })

/-- Votes a channel out (R304, R305, R312). -/
def voteOut (x kind bitNo cycle : Nat) (s : State) : State :=
  let v := s.sup
  let s := islandReport 0x0A10 (handle 0 0) (res [(0, 1, x), (1, 1, kind), (2, 1, bitNo), (4, 4, v.frame), (8, 4, cycle)]) s
  let s := s.setSup { s.sup with
    active := v.active.filter (· ≠ x), parked := v.parked ++ [x], voteOuts := tset v.voteOuts x (tget v.voteOuts x 0 + 1) }
  if s.spareReady then startPromotion x 1 s else s.setSup { s.sup with mode := 2 }

/-- Channels of a mask. -/
def chanList (m : BitVec 4) : List Nat := (upTo 4).filter fun k => m.getLsbD k

/-- VOTE_MISMATCH (R303 to R306): in TMR one channel is voted out; two at once, a pair that disagrees, or voter halves that
differ lead to VOTER_SAFE. -/
def execVoteMismatch (channels : BitVec 4) (kind bitNo cycle : Nat) (halvesDiffer : Bool) (s : State) : Out :=
  let v := s.sup
  if v.started = false ∨ v.mode = 3 then .next s
  else if halvesDiffer then .next (enterVoterSafe 3 s)
  else match (chanList channels).filter (v.active.contains ·) with
    | [] => .next s
    | [x] => if v.mode = 0 then .next (voteOut x kind bitNo cycle s) else .next (enterVoterSafe 2 s)
    | _ => if v.mode = 0 then .next (enterVoterSafe 1 s) else .next (enterVoterSafe 2 s)

/-- The value that most of a list agree on. -/
def majority (l : List Word) : Option Word := l.find? fun w => decide (l.length < 2 * (l.filter (· = w)).length)

/-- The present frame has run its 300,000 cycles of the SAFE clock, 1 ms, counted from the release of PD1 (R301). -/
def State.frameOver (s : State) : Bool := s.power.domains.getLsbD 1 && s.after s.sup.frameAt 1000

/-- SAFETY_FRAME_BOUNDARY (R301, R304, R307): signatures first, then every tenth frame a checkpoint streams, and the axes
are judged again (R332). `signatures` follows the active channels in order. -/
def execSafetyFrameBoundary (signatures : List Word) (s : State) : Out :=
  let v := s.sup
  let t := s
  let s := s.setSup { v with frame := (v.frame + 1) % 4294967296, frameAt := v.frameAt + 1000 * ((t.now - v.frameAt) / 1000) }
  if t.frameOver = false then .next t
  else if v.started = false ∨ v.mode = 3 then .next s
  else
    let pairs := v.active.zip signatures
    let s : State := match majority signatures with
      | none => if signatures.length < 2 then s else enterVoterSafe (if v.mode = 0 then 1 else 2) s
      | some w =>
        match pairs.filter fun e => decide (e.2 ≠ w) with
        | [] => s
        | [e] => if v.mode = 0 then voteOut e.1 2 0 0 s else enterVoterSafe 2 s
        | _ => enterVoterSafe 1 s
    let s := if s.sup.frame % 10 = 0 ∧ s.sup.mode ≠ 3 then s.setSup { s.sup with streaming := some s.sup.frame } else s
    .next (overL (upTo 4) (fun a t => axisStep a false t) s)

/-- CHECKPOINT_VALID (R307, R308): the last of the 32,768 words, one per SAFE cycle, is written 109.2 µs after the frame
boundary; the log keeps what follows the older valid checkpoint. -/
def execCheckpointValid (s : State) : Out :=
  let v := s.sup
  match v.streaming with
  | none => .next s
  | some f =>
    if s.after v.frameAt 109 = false then .next s
    else .next (s.setSup { v with
      older := v.checkpoint, checkpoint := f, streaming := none, log := v.log.filter fun e => decide (v.checkpoint ≤ e.frame) })

/-- The proof test ends (R314): the PROOF_TEST command completes and a maintenance exit that waited takes effect. -/
def proofDone (stage : Nat) (pass : Bool) (s : State) : State :=
  let r := res [(0, 1, stage), (1, 1, bit pass), (4, 4, s.sup.proofTime)]
  (s.setSup { s.sup with proof := false }).finishAll 0x0908 (handle 0 0) 0 r

/-- Leaves maintenance (R340): what only maintenance admits ends. A running injection that required the state ends with
cause 5, debug halt is disabled, and pilots return to the session service. -/
def leaveMaint (s : State) : State :=
  if s.isl.maintenance = false then s
  else
    let s : State := { s with isl := { s.isl with maintenance := false }, sup := { s.sup with exitDue := false } }
    let s := logIn 10 [2, 0] s
    let s := if fld (s.blk 3) 0 1 = 1 then endInjection 5 s else s
    let s := overL (upTo 8) (fun p t =>
      let d := t.pod p
      let t := if d.state = 3 then podOff p t else t
      t.setPod p { t.pod p with haltEnable := false, frozen := false }) s
    let s := overL (upTo 16) (fun c t => applyForm c (t.setConn c { t.conn c with maint := 0 })) s
    s.finishAll 0x0907 (handle 0 0) 0 0

/-- A maintenance exit takes effect, after a proof test that runs (Table 12-6). -/
def exitMaint (s : State) : State :=
  if s.sup.proof then s.setSup { s.sup with exitDue := true } else leaveMaint s

/-- What waits for the end of a proof test. -/
def afterProof (s : State) : State := if s.sup.exitDue ∧ s.sup.proof = false then leaveMaint s else s

/-- A promotion fails at a stage (R309, R310): the spare is parked and retired, the island continues in DUAL. -/
def failPromotion (stage : Nat) (s : State) : State :=
  let v := s.sup
  match v.promotion with
  | none => s
  | some (sp, _, kind, t, _) =>
    let s := s.setSup { v with
      mode := 2, promotion := none, parked := v.parked ++ [sp], failStage := stage, proofStage := stage,
      proofTime := s.now - t }
    let s := islandReport 0x0A12 (handle 0 0) (res [(0, 1, sp), (1, 1, stage), (4, 4, ((s.now - t : Nat) : Int))]) s
    let s := spareDomain ((s.retire (chanHandle sp) 0x0A12).note 8 (chanHandle sp) (leBytes 0x0A12 2))
    if kind = 2 then afterProof (proofDone stage false s) else s

/-- A promotion at stage `k` goes on to the next one, unless it has passed 11.9 ms (R310). -/
def promotionStep (k : Nat) (ok : Bool) (failAs : Nat) (s : State) : State :=
  match s.sup.promotion with
  | none => s
  | some (sp, x, kind, t, st) =>
    if st ≠ k then s
    else if s.after t 11900 then failPromotion 4 s
    else if ok then s.setSup { s.sup with promotion := some (sp, x, kind, t, k + 1) }
    else failPromotion failAs s

/-- SPARE_POWERED. -/
def execSparePowered (s : State) : Out := .next (promotionStep 0 true 1 s)
/-- SPARE_SELF_TEST_DONE. -/
def execSpareSelfTestDone (pass : Bool) (s : State) : Out := .next (promotionStep 1 pass 2 s)
/-- SPARE_CHECKPOINT_LOADED. -/
def execSpareCheckpointLoaded (eccOk : Bool) (s : State) : Out := .next (promotionStep 2 eccOk 3 s)
/-- SPARE_CAUGHT_UP. -/
def execSpareCaughtUp (s : State) : Out := .next (promotionStep 3 true 3 s)

/-- SPARE_PROMOTED (R309 to R311): the join at a frame boundary. -/
def execSparePromoted (signatureOk : Bool) (s : State) : Out :=
  let v := s.sup
  match v.promotion with
  | none => .next s
  | some (sp, x, kind, t, st) =>
    if st ≠ 4 ∨ (s.now - v.frameAt) % 1000 ≠ 0 then .next s
    else if s.after t 11900 then .next (failPromotion 4 s)
    else if signatureOk = false then .next (failPromotion 5 s)
    else
      let s := s.setSup { v with
        mode := 0, promotion := none, active := v.active ++ [sp], proofTime := s.now - t, proofStage := 0,
        parked := if v.parked.contains x then v.parked else v.parked ++ [x] }
      .next (islandReport 0x0A11 (handle 0 0) (res [(0, 1, sp), (1, 1, x), (2, 1, kind), (4, 4, ((s.now - t : Nat) : Int))]) (spareDomain s))

/-- SPARE_FAILED (R310): power-up that does not complete, or the limit of 11.9 ms. -/
def execSpareFailed (s : State) : Out :=
  match s.sup.promotion with
  | none => .next s
  | some (_, _, _, t, st) =>
    if s.after t 11900 then .next (failPromotion 4 s) else if st = 0 then .next (failPromotion 1 s) else .next s

/-- PARKED_SELF_TEST_DONE (R312, R314): a channel parked after a join becomes the spare, or is retired; a cleared channel
takes its test the same way (R448). -/
def execParkedSelfTestDone (x : Nat) (pass : Bool) (s : State) : Out :=
  let v := s.sup
  if v.parked.contains x = false ∨ v.promotion.isSome ∨ v.mode = 3 ∨ s.isRetired (chanHandle x) then .next s
  else
    let s := s.setSup { v with parked := v.parked.filter (· ≠ x) }
    let s :=
      if pass = false then retireChannel x 1 s
      else if 3 ≤ tget v.voteOuts x 0 then retireChannel x 2 s
      else s.setSup { s.sup with spare := some x }
    let s := spareDomain s
    .next (if v.proof then afterProof (proofDone v.proofStage pass s) else s)

/-- SAFETY_STARTUP_TEST_DONE (R313): A, B and C, with D in place of one that fails or is retired. -/
def execSafetyStartupTestDone (pass : BitVec 4) (s : State) : Out :=
  if s.sup.started ∨ s.power.domains.getLsbD 1 = false then .next s
  else
    let fit := fun (k : Nat) => !s.isRetired (chanHandle k)
    let good := fun (k : Nat) => fit k && pass.getLsbD k
    let abc := (upTo 3).filter good
    let useD := decide (abc.length < 3) && fit 3
    let failed := ((upTo 3).filter fun k => fit k && !pass.getLsbD k) ++ (if useD ∧ pass.getLsbD 3 = false then [3] else [])
    let act := if useD ∧ good 3 then abc ++ [3] else abc
    let mode := if act.length = 3 then 0 else if act.length = 2 then 2 else 3
    let s := s.setSup { s.sup with
      started := true, active := act, mode := mode, parked := [], promotion := none,
      spare := if act.length = 3 ∧ act.contains 3 = false ∧ fit 3 then some 3 else none }
    let s := overL failed (fun k t => retireChannel k 1 t) s
    let s := spareDomain s
    if mode = 3 then
      let s := s.setSup { s.sup with mode := 2 }
      .next (enterVoterSafe 4 s)
    else
      let s : State := { s with isl := { s.isl with outRamp := 0, podStop := 0, sto := 0 } }
      .next (rejudge s)

/-! ## Safety inputs (R324, R325) -/

/-- A channel stands at its safe level (Table 13-3). -/
def safeLevels (mode : Nat) (a b : Bool) : Bool × Bool := if mode = 2 then (!a, b) else (!a, !b)

/-- Sets an axis's referenced bit and position at the first edge of its reference input into demand (R331). -/
def referenceAxes (input : Nat) (s : State) : State :=
  overL (upTo 4) (fun a t =>
    if t.axFitted a ∧ t.axFld a 2 1 = input ∧ (t.axis a).referenced = false then
      t.setAxis a { t.axis a with referenced := true, pos := 0 }
    else t) s

/-- An output's insulation monitor is in demand with its contactors closed (R329). -/
def State.insulationBad (s : State) (o : Nat) : Bool :=
  decide (s.ioFld o 0 1 < 24) && (s.sin (s.ioFld o 0 1)).demand && s.outClosed o

/-- INSULATION_FAULT of the outputs that have come to that since `old` (R329). -/
def insulationFaults (old s : State) : State :=
  overL s.localOuts (fun o t =>
    if t.insulationBad o ∧ old.insulationBad o = false then islandReport 0x0A05 (handle 4 o) (res [(0, 1, o)]) t else t) s

/-- The insulation-good conditions of a cable check hold now (R329). -/
def State.imdGood (s : State) (o : Nat) : Bool :=
  let x := s.output o
  let target : Int := (x.vReq : Int)
  decide (s.ioFld o 0 1 < 24) && !(s.sin (s.ioFld o 0 1)).demand && decide (x.state = 3) &&
  decide ((x.volts - target).natAbs * 50 ≤ target.natAbs)

/-- Runs or clears the insulation-good timer of an output. -/
def imdStep (o : Nat) (s : State) : State :=
  let x := s.output o
  if s.imdGood o then (if x.imdSince = none then s.setOutput o { x with imdSince := some s.now } else s)
  else if x.imdSince = none then s else s.setOutput o { x with imdSince := none }

/-- Latches an input in demand with a cause (R324, R325). -/
def latchInput (k cause : Nat) (s : State) : State :=
  let v := s.sin k
  let s := s.setSin k { v with latched := true, cleared := false, demand := true }
  islandReport 0x0A03 (handle 0 0) (res [(0, 1, k), (1, 1, cause)]) s

/-- What follows a change of an input's demand since `old`. -/
def inputMoved (k : Nat) (old s : State) : State :=
  let v := s.sin k
  let was := (old.sin k).demand
  let s := insulationFaults old (if v.demand ∧ was = false then referenceAxes k s else s)
  let s := if was ∧ v.demand = false ∧ k = fld (s.blk 7) 14 1 then exitMaint s else s
  rejudge (overL s.localOuts imdStep s)

/-- SAFETY_INPUT_CHANGE (R324): levels that have stood for DEBOUNCE; in demand while either channel shows its safe level, or
while latched. -/
def execSafetyInputChange (k : Nat) (a b : Bool) (s : State) (held : Nat := 0) : Out :=
  let mode := s.siFld k 0 1
  if s.sup.started = false ∨ mode = 0 ∨ held < 1000 * s.siFld k 3 1 then .next s
  else
    let v := s.sin k
    let safe := safeLevels mode a b
    let both := safe.1 && safe.2
    let neither := !safe.1 && !safe.2
    let cleared := v.cleared || (v.latched && both)
    let latched := v.latched && !(cleared && neither)
    let w : SafeIn := { v with
      a := a, b := b, demand := safe.1 || safe.2 || latched, latched := latched, cleared := cleared && latched,
      differs := if safe.1 = safe.2 then none else if v.differs.isSome then v.differs else some s.now }
    let t := s
    let s := logIn 0 [(k : Int), (bit a : Nat), (bit b : Nat)] (s.setSin k w)
    .next (inputMoved k t s)

/-- INPUT_DISCREPANCY (R324). -/
def execInputDiscrepancy (k : Nat) (s : State) : Out :=
  let v := s.sin k
  if s.siFld k 0 1 = 0 ∨ v.latched ∨ s.past v.differs (1000 * s.siFld k 4 2) = false then .next s
  else .next (inputMoved k s (latchInput k 1 s))

/-- A test-pulsed output has taken an off-pulse at least 100 µs ago (R325). -/
def State.pulsed (s : State) (j : Nat) : Bool :=
  decide (j < 32 ∧ s.soFld j 0 1 = 1 ∧ 0 < (s.sout j).pulseTime) && s.after (s.sout j).pulseTime 100

/-- TEST_PULSE_MISSED (R325): a channel has not shown the off-pulse of the output that feeds it. -/
def execTestPulseMissed (k : Nat) (s : State) : Out :=
  let v := s.sin k
  if s.siFld k 0 1 = 0 ∨ (s.pulsed (s.siFld k 1 1) = false ∧ s.pulsed (s.siFld k 2 1) = false) ∨ v.latched then .next s
  else .next (inputMoved k s (latchInput k 2 s))

/-! ## Safety outputs (R323) -/

/-- Faults a safety output and holds it off: SOUT_FAULT. -/
def soutFault (k kind partner : Nat) (s : State) : State :=
  let v := s.sout k
  if v.faulted then s
  else
    let s := s.setSout k { v with faulted := true, energised := false }
    islandReport 0x0A02 (handle 0 0) (res [(0, 1, k), (1, 1, kind), (2, 1, partner)]) s

/-- An output is in its off-pulse: the pulses are staggered, so that no other takes one meanwhile (R323). -/
def State.inPulse (s : State) (j : Nat) : Bool :=
  decide (s.soFld j 0 1 = 1 ∧ 0 < (s.sout j).pulseTime) && !s.after (s.sout j).pulseTime (s.soFld j 2 2)

/-- TEST_PULSE (R323): an energised MODE 1 output goes off for TP_WIDTH; `fell` names the outputs whose readback fell
meanwhile. -/
def execTestPulse (k : Nat) (stillHigh : Bool) (fell : Word) (s : State) : Out :=
  let v := s.sout k
  if s.soFld k 0 1 ≠ 1 ∨ v.energised = false ∨ s.after v.pulseTime (1000 * s.soFld k 4 2) = false ∨
      (upTo 32).any s.inPulse then .next s
  else
    let s := s.setSout k { v with pulseTime := s.now, readback := !stillHigh }
    let s := if stillHigh then soutFault k 1 0xFF (s.setSout k { s.sout k with readback := true })
      else s.setSout k { s.sout k with readback := true }
    let shorts := (upTo 32).filter fun j => decide (j ≠ k) && fell.getLsbD j && (s.sout j).energised
    .next (rejudge (overL shorts (fun j t => soutFault k 3 j (soutFault j 3 k t)) s))

/-- SOUT_STUCK (R323): the readback disagrees with the command for 1 ms, low outside an off-pulse. -/
def execSoutStuck (k : Nat) (high : Bool) (s : State) (held : Nat := 0) : Out :=
  let v := s.sout k
  if s.soFld k 0 1 = 0 ∨ v.energised = high ∨ held < 1000 ∨
      (high = false ∧ 0 < v.pulseTime ∧ s.after v.pulseTime (s.soFld k 2 2 + 1000) = false) then
    .next (s.setSout k { v with readback := high })
  else .next (rejudge (soutFault k (if high then 1 else 2) 0xFF (logIn 1 [(k : Int), (bit high : Nat)] (s.setSout k { v with readback := high }))))

/-! ## Vehicle limits (R328) and insulation (R329) -/

/-- A registration of vehicle limits (R328): raised terms count at once, lowered ones 100 ms later. -/
def registerLimits (o : Nat) (l : VehLimits) (s : State) : Out :=
  let s := logIn 9 [(o : Int), (l.vMax : Int), (l.iMax : Int)] s
  let x := s.output o
  match x.limits with
  | none => .next (s.setOutput o { x with limits := some l, lowered := none })
  | some old =>
    let up : VehLimits :=
      { vMax := max old.vMax l.vMax, iMax := max old.iMax l.iMax, vMin := min old.vMin l.vMin, iDis := max old.iDis l.iDis,
        bpt := l.bpt }
    .next (s.setOutput o { x with limits := some up, lowered := if up = l then none else some (l, s.now) })

/-- VEHICLE_LIMIT_REGISTER (R328): the island takes the registration from Q43; one of another epoch is discarded (R22). -/
def execVehicleLimitRegister (o : Nat) (l : VehLimits) (s : State) : Out :=
  match s.take 43 with
  | (none, t) => .next t
  | (some _, t) => registerLimits o l t

/-- VEHICLE_LIMIT_LOWERED (R328). -/
def execVehicleLimitLowered (o : Nat) (s : State) : Out :=
  let x := s.output o
  match x.lowered with
  | none => .next s
  | some (l, t) =>
    if s.after t 100000 then .next (s.setOutput o { x with limits := if x.limits.isSome then some l else none, lowered := none })
    else .next s

/-- The limits an output is tested against: the registered ones, or V_MAX and I_MAX with CTRL 2 (R328). -/
def State.testLimits (s : State) (o : Nat) : Option VehLimits :=
  if s.outCtrl o = 2 then some ⟨10 * s.outFld o 10 2, s.outFld o 12 4, 0, s.outFld o 12 4, false⟩ else (s.output o).limits

/-- The condition of R328 that a sample breaks, 1 to 4; 0 none. Without DC_BPT the vehicle has registered no minimum
voltage and no discharge current. -/
def State.limitBroken (s : State) (o : Nat) : Nat :=
  let x := s.output o
  let vb : Int := (fld (s.blk 7) 0 2 : Nat)
  let ib : Int := (fld (s.blk 7) 4 4 : Nat)
  match s.testLimits o with
  | none => 0
  | some l =>
    if (l.vMax : Int) + vb < x.volts then 1
    else if (l.iMax : Int) + ib < x.amps then 2
    else if (l.bpt ∨ s.outCtrl o = 2) ∧ x.amps < -((l.iDis : Int) + ib) then 3
    else if l.bpt ∧ x.amps < 0 ∧ x.volts < (l.vMin : Int) - vb then 4
    else 0

/-- VEHICLE_LIMIT (R328): the condition has held for VL_TIME: emergency safe state and a transient output fault. -/
def execVehicleLimit (o : Nat) (s : State) : Out :=
  let x := s.output o
  match x.limitSince with
  | none => .next s
  | some (k, t) =>
    if s.after t (1000 * fld (s.blk 7) 2 2) = false ∨ x.fixed.contains 4 then .next s
    else
      let s := islandReport 0x0A04 (handle 4 o) (res [(0, 1, o), (1, 1, k), (4, 4, x.volts), (8, 4, x.amps)]) s
      let s := judge (addFixed [o] 4 s)
      .next (outputFault o 0x0A04 false s)

/-- INSULATION_PASSED (R329): reported through Q42. -/
def execInsulationPassed (o : Nat) (s : State) : Out :=
  let x := s.output o
  if x.imdPassed = false ∧ s.imdGood o ∧ s.past x.imdSince (1000 * fld (s.blk 7) 12 2) then
    .next (s.via 42 [0, (o : Int)] fun t => t.setOutput o { t.output o with imdPassed := true })
  else .next s

/-! ## Encoders (R331, R332) -/

/-- A count error at the encoder (R332): a double transition, or an input frequency, Hz, above 10 MHz. -/
def countError (frequency : Nat) (double : Bool) : Bool := double || decide (10000000 < frequency)

/-- ENCODER_EDGE (R331, R332). -/
def execEncoderEdge (a : Nat) (delta : Int) (frequency : Nat) (double : Bool) (s : State) : Out :=
  if s.axFitted a = false ∨ s.sup.started = false then .next s
  else
    let x := s.axis a
    let dir := if s.limitSet then s.axFld a 21 1 else s.axFld a 20 1
    let wrong : Int := if dir = 1 then -delta else if dir = 2 then delta else 0
    let s := s.setAxis a { x with
      pos := x.pos + delta, recent := x.recent ++ [(s.now, delta)], against := max 0 (x.against + wrong) }
    .next (axisStep a (countError frequency double) (logIn (4 + a / 2) [(a : Int), delta] s))

/-! ## Safe messages (R333 to R336) -/

/-- The check that a received copy should carry (R333). -/
def safeCheck (m : SafeMsg) : Nat := safeCrc m.conn m.seq m.kind m.data

/-- SAFE_MESSAGE_TRANSMIT (R334). -/
def execSafeMessageTransmit (k : Nat) (s : State) : Out :=
  let v := s.sconn k
  if s.scFld k 0 1 = 2 ∧ s.sup.started ∧ s.sup.mode ≠ 3 ∧ s.after v.txTime (1000 * s.scFld k 8 2) then .next (sendSafe k s)
  else .next s

/-- The waiting copies of a connection without those of one SEQ. -/
def SafeConn.without (v : SafeConn) (q : Half) : List (SafeMsg × Nat) := v.waiting.filter fun w => decide (w.1.seq ≠ q)

/-- Rejects a message with a cause: SAFE_MSG_MISMATCH (R335); two messages in succession are then still due (R336). A wrong
check counts as structure 11 (R453). -/
def rejectSafe (k : Nat) (q : Half) (cause : Nat) (s : State) : State :=
  let v := s.sconn k
  let s := s.setSconn k { v with rejected := bump32 v.rejected, waiting := v.without q, confirm := 0 }
  let s := islandReport 0x0A08 (handle 0 0) (res [(0, 1, k), (1, 1, cause)]) s
  if cause = 2 then s.checkFault 11 k else s

/-- Accepts a message (R335, R336). -/
def acceptSafe (k : Nat) (m : SafeMsg) (s : State) : State :=
  let v := s.sconn k
  let n := if v.state = 2 then v.confirm + 1 else 0
  let up := decide (v.state ≠ 2 ∨ 2 ≤ n)
  let s := s.setSconn k { v with
    state := if up then 1 else 2, lastSeq := some m.seq, data := m.data, lastTime := s.now, confirm := if up then 0 else n,
    waiting := v.without m.seq, position := if m.kind = 2 then some m.data.toInt else v.position, accepted := bump32 v.accepted }
  let s := logIn 8 [(k : Int), (m.data.toNat : Int)] s
  judge (overL (upTo 4) (fun a t => if t.axFld a 3 1 = k then axisStep a false t else t) s)

/-- SEQ lies 1 to 3 above the last accepted one, or any SEQ is taken (R335). -/
def seqFits (v : SafeConn) (q : Half) : Bool := match v.lastSeq with
  | none => true
  | some l => (decide (v.state = 2) && decide (v.confirm = 0)) || decide (1 ≤ (q - l).toNat ∧ (q - l).toNat ≤ 3)

/-- A port of the connection is retired, which keeps it lost (R336). -/
def State.connPortRetired (s : State) (k : Nat) : Bool :=
  s.isRetired (handle 10 (s.scFld k 1 1)) || s.isRetired (handle 10 (s.scFld k 2 1))

/-- The connection's port that a copy comes by. -/
def State.copyPort (s : State) (m : SafeMsg) : Nat := s.scFld m.conn (if m.portB then 2 else 1) 1

/-- A copy meets the connection's rules (R335): it waits for its partner, the copy of the same SEQ on the other port, or the
pair is accepted or rejected. -/
def takeCopy (k : Nat) (m : SafeMsg) (s : State) : State :=
  let v := s.sconn k
  if v.lastSeq = some m.seq then s
  else match v.waiting.find? fun w => decide (w.1.seq = m.seq) with
    | none => s.setSconn k { v with waiting := v.waiting ++ [(m, s.now)] }
    | some (w, t) =>
      if w.portB = m.portB then s
      else if s.after t (1000 * s.scFld k 3 1) then rejectSafe k m.seq 4 s
      else if w.kind ≠ m.kind ∨ w.data ≠ m.data ∨ w.check ≠ m.check then rejectSafe k m.seq 1 s
      else if safeCheck m ≠ m.check.toNat then rejectSafe k m.seq 2 s
      else if seqFits v m.seq = false then rejectSafe k m.seq 3 s
      else acceptSafe k m s

/-- SAFE_MESSAGE_RECEIVE (R335): a copy on a port that hears it (R347 to R349), for the island once its channels run. -/
def execSafeMessageReceive (m : SafeMsg) (s : State) : Out :=
  let k := m.conn
  let p := s.copyPort m
  if 64 ≤ k ∨ s.scFld k 0 1 ≠ 1 then .next s
  else if (s.port p).state = 5 then .next (s.setPort p { s.port p with received := bump32 (s.port p).received })
  else if s.portHears p = false then .next s
  else
    let t := countHeard p (BitVec.ofNat 32 (s.scFld k 4 4 % 1073741824)) 24 s
    .next (if t.connPortRetired k ∨ s.sup.started = false then t else takeCopy k m t)

/-- SAFE_MSG_SKEW_EXPIRE (R335): each copy whose partner has not come within SKEW rejects its message. -/
def execSafeMsgSkewExpire (k : Nat) (s : State) : Out :=
  .next (overL ((s.sconn k).waiting.filter fun w => s.after w.2 (1000 * s.scFld k 3 1))
    (fun w t => rejectSafe k w.1.seq 4 t) s)

/-- A receive connection is lost (R336). -/
def loseConn (k : Nat) (s : State) : State :=
  let v := s.sconn k
  if v.state = 2 then s
  else judge (islandReport 0x0A07 (handle 0 0) (res [(0, 1, k)]) (s.setSconn k { v with state := 2, confirm := 0, waiting := [] }))

/-- SAFE_MSG_LOST (R336). -/
def execSafeMsgLost (k : Nat) (s : State) : Out :=
  if s.scFld k 0 1 = 1 ∧ s.sup.started ∧ s.after (s.sconn k).lastTime (1000 * s.scFld k 10 2) then .next (loseConn k s)
  else .next s

/-- The connections whose port is retired are lost at once (R336). -/
def losePort (p : Nat) (s : State) : State :=
  overL ((upTo 64).filter fun k => decide (s.scFld k 0 1 = 1 ∧ (s.scFld k 1 1 = p ∨ s.scFld k 2 1 = p))) loseConn s

/-! ## Safe states (R337, R338) -/

/-- Escalates an output from the normal to the emergency safe state; SAFE_STATE keeps the cause. -/
def escalate (o : Nat) (s : State) : State :=
  let x := s.output o
  safeEvent (2 ^ o) 0 2 (some x.safeCause) (enterSafe o 2 x.safeCause s)

/-- NORMAL_SAFE_STATE_ESCALATE (R337): not below 2 A 60 ms after entry, or outside the ramp's allowance for GCHK_TIME. -/
def execNormalSafeStateEscalate (o : Nat) (s : State) : Out :=
  let x := s.output o
  if x.safe = 1 ∧ s.below2A o = false ∧
      (s.after x.safeSince 60000 ∨ s.past x.outside (1000 * fld (s.blk 2) 20 4)) then .next (escalate o s)
  else .next s

/-- EMERGENCY_CONTACTOR_OPEN (R338): twenty milliseconds after the demand. -/
def execEmergencyContactorOpen (o : Nat) (s : State) : Out :=
  let x := s.output o
  if x.safe = 2 ∧ x.safeOpened = false ∧ s.after x.safeSince 20000 then .next (emergencyOpen o s) else .next s

/-- T_HOLD_EXPIRE (R440): an output that firmware has not re-owned takes the normal safe state. -/
def execTHoldExpire (o : Nat) (s : State) : Out :=
  let x := s.output o
  if s.past x.hold (1000 * fld (s.blk 15) 4 2) then
    .next (judge (addFixed [o] 7 (s.setOutput o { x with hold := none })))
  else .next s

/-! ## Commands (Table 13-13) -/

/-- SAFETY_STATUS. -/
def safetyStatusOf (_ : Req) (s : State) : Reply :=
  let outs := fun (k : Nat) => maskOf (s.localOuts.filter fun o => decide ((s.output o).safe = k))
  let axes := maskOf ((upTo 4).filter fun a => (s.axis a).sto)
  let fns := ((upTo 128).filter fun f => (s.sfn f).demand).length
  let lost := ((upTo 64).filter fun k => decide ((s.sconn k).state = 2)).length
  let dead := maskOf ((upTo 4).filter fun c => s.isRetired (chanHandle c))
  reads s [(0, 1, s.sup.mode), (1, 1, match s.sup.spare with
      | none => 0x80
      | some x => (x : Int)), (2, 1, bit s.isl.maintenance), (3, 1, dead), (4, 2, outs 1), (6, 2, outs 2), (8, 4, s.sup.frame),
    (12, 1, axes), (13, 1, fns), (14, 2, lost)]
def execSafetyStatus (c : Cmd) (s : State) : Out := host (line 0x0900 .R [0] 0 0) c safetyStatusOf s

/-- State of a function: 0 idle, 1 in demand, 2 awaiting SAFE_ACK. -/
def State.fnState (s : State) (f : Nat) : Nat :=
  let v := s.sfn f
  if v.trigger then 1 else if v.demand then 2 else 0

/-- FUNCTION_STATUS. -/
def functionStatusOf (q : Req) (s : State) : Reply :=
  let v := s.sfn q.idx
  reads s [(0, 1, s.fnState q.idx), (1, 1, s.fnFld q.idx 0 1), (4, 4, v.count), (8, 8, v.time)]
def execFunctionStatus (c : Cmd) (s : State) : Out := host (line 0x0901 .R [14] 0 0) c functionStatusOf s

/-- IO_STATUS. -/
def ioStatusOf (q : Req) (s : State) : Reply :=
  let o := fun (p : SafeOut → Bool) => maskOf ((upTo 32).filter fun k => p (s.sout k))
  let i := fun (p : SafeIn → Bool) => maskOf ((upTo 24).filter fun k => p (s.sin k))
  if q.w 0 = 0 then reads s [(0, 4, o (·.energised)), (4, 4, o (·.readback)), (8, 4, o (·.faulted))]
  else if q.w 0 = 1 then
    reads s [(0, 3, i (·.a)), (3, 3, i (·.b)), (6, 3, i (·.demand)), (9, 3, i (·.latched))]
  else rej 0x0108 s
def execIoStatus (c : Cmd) (s : State) : Out := host (line 0x0902 .R [0] 0 1) c ioStatusOf s

/-- SAFE_ACK (R321, R323): a function on a faulted output releases the output first. -/
def safeAckOf (q : Req) (s : State) : Reply :=
  let f := q.idx
  let v := s.sfn f
  let k := s.fnFld f 1 1
  if v.demand = false then rej 0x0001 s
  else if s.fnFld f 0 1 = 3 ∧ (s.sout k).faulted then
    let t := judge (s.setSout k { s.sout k with faulted := false })
    let t := judge (t.setSfn f { t.sfn f with demand := (t.sfn f).trigger })
    .done 0 (res [(0, 1, t.fnState f)]) t
  else if s.triggerOf f then rej 0x0A0B s
  else
    let t := judge (s.setSfn f { v with demand := false, trigger := false })
    .done 0 (res [(0, 1, t.fnState f)]) t
def execSafeAck (c : Cmd) (s : State) : Out := host (line 0x0903 .S [14] 0 0) c safeAckOf s

/-- Masks of outputs and axes name only what is used (R343). -/
def maskFits (s : State) (outs axes : Nat) : Bool :=
  decide (outs < 65536 ∧ axes < 16) && (upTo 16).all (fun o => !tst outs o || s.outFitted o) &&
  (upTo 4).all fun a => !tst axes a || s.axFitted a

/-- SAFE_STATE_REQUEST (R339). -/
def safeStateRequestOf (q : Req) (s : State) : Reply :=
  if (q.w 1 ≠ 1 ∧ q.w 1 ≠ 2) ∨ maskFits s (q.w 0) (q.w 2) = false then rej 0x0108 s
  else
    let m := BitVec.ofNat 16 (q.w 0)
    let i := s.isl
    .done 0 0 (judge { s with isl := { i with
      reqNormal := if q.w 1 = 1 then i.reqNormal ||| m else i.reqNormal,
      reqEmergency := if q.w 1 = 2 then i.reqEmergency ||| m else i.reqEmergency,
      reqAxes := i.reqAxes ||| BitVec.ofNat 4 (q.w 2) } })
def execSafeStateRequest (c : Cmd) (s : State) : Out := host (line 0x0904 .S [0] 2 3) c safeStateRequestOf s

/-- SAFE_RELEASE (R339). -/
def safeReleaseOf (q : Req) (s : State) : Reply :=
  if maskFits s (q.w 0) (q.w 1) = false then rej 0x0108 s
  else
    let m := BitVec.ofNat 16 (q.w 0)
    let i := s.isl
    .done 0 0 (judge { s with isl := { i with
      reqNormal := i.reqNormal &&& ~~~m, reqEmergency := i.reqEmergency &&& ~~~m,
      reqAxes := i.reqAxes &&& ~~~(BitVec.ofNat 4 (q.w 1)) } })
def execSafeRelease (c : Cmd) (s : State) : Out := host (line 0x0905 .S [0] 1 2) c safeReleaseOf s

/-- MAINT_ENTER (R340). -/
def maintEnterOf (_ : Req) (s : State) : Reply :=
  let k := fld (s.blk 7) 14 1
  if s.isl.maintenance then rej 0x0001 s
  else if s.localOuts.any (fun o => decide ((s.output o).state ≠ 0 ∧ (s.output o).state ≠ 6)) ∨
      (k < 24 ∧ (s.sin k).demand = false) then rej 0x0301 s
  else .done 0 0 (logIn 10 [2, 1] { s with isl := { s.isl with maintenance := true } })
def execMaintEnter (c : Cmd) (s : State) : Out := host (line 0x0906 .S [0] 0 0) c maintEnterOf s

/-- MAINT_EXIT (R340): commits when the exit takes effect, after a proof test. -/
def maintExitOf (_ : Req) (s : State) : Reply :=
  if s.isl.maintenance = false then rej 0x0001 s
  else if s.sup.proof then .live false [] (exitMaint s)
  else .done 0 0 (leaveMaint s)
def execMaintExit (c : Cmd) (s : State) : Out := host (line 0x0907 .S [0] 0 0) c maintExitOf s

/-- PROOF_TEST (R314). -/
def proofTestOf (q : Req) (s : State) : Reply :=
  let x := q.w 0
  if 3 < x then rej 0x0108 s
  else if s.isl.maintenance = false ∨ s.sup.mode ≠ 0 ∨ s.spareReady = false ∨ s.sup.active.contains x = false then rej 0x0301 s
  else
    let s := s.setSup { s.sup with active := s.sup.active.filter (· ≠ x), proof := true, proofStage := 0, proofTime := 0 }
    .live true [] (logIn 10 [3, (x : Int)] (startPromotion x 2 s))
def execProofTest (c : Cmd) (s : State) : Out := host (line 0x0908 .S [0] 1 1) c proofTestOf s

/-- AXIS_STATUS. -/
def axisStatusOf (q : Req) (s : State) : Reply :=
  let a := q.w 0
  let x := s.axis a
  if 3 < a ∨ s.axFitted a = false then rej 0x0108 s
  else reads s [(0, 1, bit x.referenced + 2 * bit x.sto + 4 * bit s.limitSet), (4, 4, x.pos), (8, 4, x.speed), (12, 4, x.plausible)]
def execAxisStatus (c : Cmd) (s : State) : Out := host (line 0x0909 .R [0] 1 1) c axisStatusOf s

/-- SAFE_CONN_STATUS. -/
def safeConnStatusOf (q : Req) (s : State) : Reply :=
  let k := q.w 0
  let v := s.sconn k
  if 63 < k ∨ s.scFld k 0 1 = 0 then rej 0x0108 s
  else
    let r := res [(0, 1, v.state), (2, 2, ((v.lastSeq.getD 0).toNat : Int)), (4, 4, v.accepted), (8, 4, v.rejected),
      (12, 4, ((s.now - v.lastTime) / 1000 : Nat))]
    .done 0 r (if (q.word 1).getLsbD 0 then s.setSconn k { v with accepted := 0, rejected := 0 } else s)
def execSafeConnStatus (c : Cmd) (s : State) : Out := host (line 0x090A .R [0] 1 2) c safeConnStatusOf s

end Sys2Proof.Machine
end

