-- ==== Sys2Proof/Machine/Loops.lean ====
section
/-! DEFINITION. The loop engine and Geyser (chapter 08): slot samples, the two laws, modes, coefficient writes, injection and
capture, and the commands of Table 8-10. -/

namespace Sys2Proof.Machine

/-! ## Slots -/

/-- LAW of a slot's working set. -/
def State.law (s : State) (k : Nat) : Nat := s.slFld k 0 1
/-- A FLAGS bit of a slot's working set. -/
def State.slFlag (s : State) (k b : Nat) : Bool := tst (s.slFld k 1 1) b
/-- GEYSER_MODE. -/
def State.geyserMode (s : State) : Nat := fld (s.blk 3) 0 1

/-- The output whose V_SLOT or I_SLOT a slot is. -/
def State.slotOut (s : State) (k : Nat) : Option Nat :=
  s.localOuts.find? fun o => decide (s.vSlot o = k ∨ s.iSlot o = k)
/-- A slot is the MATCH_SLOT of a fitted pod. -/
def State.isMatch (s : State) (k : Nat) : Bool := (upTo 8).any fun p => s.podFitted p && decide (s.matchSlot p = k)
/-- A slot is under the output sequencer. -/
def State.sequenced (s : State) (k : Nat) : Bool := s.isMatch k || (s.slotOut k).isSome

/-- The working set differs from the configured set (R210). -/
def State.slotDiffers (s : State) (k : Nat) : Bool := decide ((s.slot k).working ≠ s.slotConf k)

/-- Changes a working set; a difference that begins or ends is journalled (note 10). -/
def setWorking (k : Nat) (m : Mem) (s : State) : State :=
  let was := s.slotDiffers k
  let s := s.setSlot k { s.slot k with working := m }
  if s.slotDiffers k = was then s else s.note 10 (handle 7 k) [BitVec.ofNat 8 (bit (s.slotDiffers k))]

/-- Enables a slot: AUTO with AUTO_START, else MANUAL at MAN_DEFAULT; a slot under the output sequencer stays OFF (R207,
Table 8-5). -/
def slotEnable (k : Nat) (s : State) : State :=
  if s.law k = 0 ∨ s.sequenced k then s
  else
    let d := s.slF k 72
    s.setSlot k { s.slot k with
      mode := if s.slFlag k 0 then 2 else 1, manual := d, out := if s.slFlag k 0 then 0 else d, first := true, preset := false, i := 0 }

/-- The next AUTO sample presets the states (R208). -/
def presetNext (k : Nat) (s : State) : State :=
  if (s.slot k).mode = 2 then s.setSlot k { s.slot k with preset := true, first := true } else s

/-! ## Geyser's generator -/

/-- Nominal FAB cycles between samples of a slot (R199). -/
def State.nominal (s : State) (k : Nat) : Nat :=
  match s.trigPod k with
  | none => s.slFld k 8 4
  | some p => s.slFld k 6 2 * (s.pod p).period

/-- One step of an n-bit shift register with feedback taps. -/
def lfsrStep (n taps shift : Nat) : Nat :=
  let fb := ((upTo n).filter fun b => tst taps b && tst shift b).length % 2
  (shift * 2 + fb) % 2 ^ n

/-- Steps, at most `fuel`, until a register is all ones again. -/
def lfsrPeriod (n taps fuel shift : Nat) : Nat :=
  match fuel with
  | 0 => 0
  | k + 1 =>
    let next := lfsrStep n taps shift
    if next = 2 ^ n - 1 then 1 else 1 + lfsrPeriod n taps k next

/-- Taps that make an n-bit register maximal-length, for 7 to 15 bits. -/
def knownTaps (n : Nat) : Nat := [0x60, 0xB8, 0x110, 0x240, 0x500, 0x829, 0x100D, 0x2015, 0x6000].getD (n - 7) 0

/-- Taps of Geyser's register: maximal-length; which of them the spec leaves open (Table 8-6; log entry 98). -/
def prbsTaps (n : Nat) : Nat :=
  if lfsrPeriod n (Config.prbsTaps n) (2 ^ n) (2 ^ n - 1) = 2 ^ n - 1 then Config.prbsTaps n else knownTaps n

/-- One step of the PRBS register. -/
def prbsStep (n shift : Nat) : Nat := lfsrStep n (prbsTaps n) shift

/-- The generator's next value on a slot, in amperes or engineering units (Table 8-6). -/
def geyserValue (k : Nat) (s : State) : Word × State :=
  let g := s.geyser
  if g.running = false ∨ g.slot ≠ k then (0, s)
  else
    let t : Rat := ((g.injected * s.nominal k : Nat) : Rat) / 600000000
    let len := max 1 g.word4.toNat
    let shift := if g.signal = 1 ∧ g.injected ≠ 0 ∧ g.injected % len = 0 then prbsStep g.word3.toNat g.shift else g.shift
    let v : Word :=
      if g.signal = 1 then (if tst shift 0 then g.amplitude else fMinus g.amplitude)
      else if g.signal = 2 then fOf (fVal g.amplitude * sinTurns (fVal g.word3 * t))
      else if g.signal = 3 then
        let f0 := fVal g.word3
        let dur : Rat := (g.duration : Rat) / 1000
        let l := ratLn (fVal g.word4 / f0)
        if l = 0 then fOf (fVal g.amplitude * sinTurns (f0 * t))
        else fOf (fVal g.amplitude * sinTurns (f0 * dur / l * (ratPow (l * t / dur) - 1)))
      else g.amplitude
    (v, { s with geyser := { g with injected := g.injected + 1, shift := shift, value := v } })

/-- An injection whose duration has passed ends (R220). -/
def endElapsed (s : State) : State :=
  let g := s.geyser
  if g.running ∧ g.duration ≠ 0 ∧ s.after g.start (1000 * g.duration) then endInjection 0 s else s

/-- GEYSER_DONE (R220). -/
def execGeyserDone (s : State) : Out := .next (endElapsed s)

/-! ## Capture (R221) -/

/-- Samples that each signal holds. -/
def Geyser.depth (g : Geyser) : Nat := if g.signals = [] then 0 else 65536 / g.signals.length

/-- Latest value of a captured signal. -/
def State.signal (s : State) (code : Half) : Word :=
  let c := code.toNat
  let v := s.slot (c % 64)
  if c / 4096 = 1 then fOf ((tget s.geyser.mdat (c % 64) 0 : Int) : Rat)
  else if c / 4096 = 2 then fOf (((s.ainCh (c % 32)).code : Nat) : Rat)
  else match c / 256 % 16 with
    | 0 => v.sp
    | 1 => v.meas
    | 2 => v.err
    | 3 => v.p
    | 4 => v.i
    | 5 => v.d
    | 6 => v.out
    | _ => if s.geyser.running ∧ s.geyser.slot = c % 64 then s.geyser.value else 0

/-- A threshold crossing of signal j between the last stored instant and this one. -/
def Geyser.crosses (g : Geyser) (now : List Word) : Bool :=
  match g.record.getLast? with
  | none => false
  | some prev =>
    let a := prev.getD g.trigArg 0
    let b := now.getD g.trigArg 0
    if g.trigger = 2 then fLt a g.threshold && !fLt b g.threshold
    else if g.trigger = 3 then fLt g.threshold a && !fLt g.threshold b
    else false

/-- Stores an instant at a sample of the clock slot. -/
def captureStep (k : Nat) (s : State) : State :=
  let g := s.geyser
  if (g.capture ≠ 1 ∧ g.capture ≠ 2) ∨ g.clockSlot ≠ k then s
  else if g.since + 1 < g.every then { s with geyser := { g with since := g.since + 1 } }
  else
    let now := g.signals.map s.signal
    let g := { g with since := 0 }
    let g := if g.capture = 1 ∧ g.crosses now then { g with capture := 2, trigIndex := g.record.length } else g
    if g.capture = 1 then
      let keep := g.depth * g.preTrig / 256
      let r := g.record ++ [now]
      { s with geyser := { g with record := r.drop (r.length - max 1 keep) } }
    else
      let extra := g.trigIndex - g.depth * g.preTrig / 256
      let r := (g.record.drop extra) ++ [now]
      { s with geyser := { g with
        record := r, trigIndex := g.trigIndex - extra, after := g.after + 1, capture := if g.depth ≤ r.length then 3 else 2 } }

/-! ## Measurements (Table 8-4, R214) -/

/-- Raw value of a slot's measurement source (R202, Table 8-4). -/
def State.slotRaw (s : State) (k : Nat) : Word :=
  let m := s.slFld k 12 2
  let r := match (s.fnode (m % 512)).report with
    | none => none
    | some r => r.channels.getD (m / 512 % 8) none
  if m / 4096 = 2 then fOf (((s.ainCh (m % 32)).code : Nat) : Rat)
  else if m / 4096 = 3 then fOf (((r.getD 0 : Int)) : Rat)
  else if m / 4096 = 4 then (s.slot (m % 64)).out
  else fOf ((tget s.geyser.mdat (m % 64) 0 : Int) : Rat)

/-- Stamp of a slot's measurement: when, or how often, its source gave a value. -/
def State.measStamp (s : State) (k : Nat) : Nat :=
  let m := s.slFld k 12 2
  if m / 4096 = 2 then (s.ainCh (m % 32)).time
  else if m / 4096 = 3 then (s.fnode (m % 512)).reportTime
  else if m / 4096 = 4 then (s.slot (m % 64)).samples
  else 0

/-- Counts the samples in a row whose measurement was not renewed (R214): a control filter that delivered, or a source whose
stamp moved, since the slot's last sample renews it. -/
def renew (k : Nat) (codes : List (Nat × Int)) (s : State) : State :=
  let m := s.slFld k 12 2
  let v := s.slot k
  let new := if m / 4096 = 0 then true else if m / 4096 = 1 then codes.any (fun e => decide (e.1 = m % 64))
    else decide (s.measStamp k ≠ v.stamp)
  s.setSlot k { v with stamp := s.measStamp k, lostRun := if new then 0 else v.lostRun + 1 }

/-- The measurement is lost (R214). -/
def State.measLost (s : State) (k : Nat) (lost : Bool) : Bool :=
  let m := s.slFld k 12 2
  let r := match (s.fnode (m % 512)).report with
    | none => none
    | some r => r.channels.getD (m / 512 % 8) none
  lost || decide (3 ≤ (s.slot k).lostRun) ||
  (decide (m / 4096 = 2) && decide ((s.ainCh (m % 32)).standing = 2 ∨ (s.ainCh (m % 32)).standing = 3)) ||
  (decide (m / 4096 = 3) && (decide ((s.fnode (m % 512)).state ≠ 1) || decide (r = none)))

/-- Enters FALLBACK: MAN_DEFAULT, held (R206, R207, R214). -/
def fallback (k : Nat) (s : State) : State :=
  let v := s.slot k
  let s := s.setSlot k { v with
    mode := 3, back := v.mode, out := s.slF k 72, stopped := true, following := none, followed := false, validRun := 0 }
  checkInjection k (postSlot k s)

/-- A sample gave an infinity or NaN in a state (1) or the output (2): LOOP_NUMERIC and FALLBACK (R206). -/
def numericFault (k code : Nat) (s : State) : State :=
  fallback k (s.report 7 0x0861 (handle 7 k) (res [(0, 1, k), (1, 1, code)]))

/-- The measurement of a slot in MANUAL or AUTO is lost: LOOP_MEAS_LOST. -/
def loseMeas (k : Nat) (s : State) : State :=
  let v := s.slot k
  if v.mode = 1 ∨ v.mode = 2 then
    fallback k (s.report 7 0x0860 (handle 7 k) (res [(0, 1, k), (2, 2, s.slFld k 12 2)]))
  else s

/-- LOOP_MEAS_LOST (R214). -/
def execLoopMeasLost (k : Nat) (s : State) : Out :=
  if s.law k = 0 ∨ s.slFld k 12 2 = 0 then .next s else .next (loseMeas k s)

/-! ## The laws -/

/-- Setpoint in use: the slot's own, or the output of SP_SRC's slot. -/
def State.setpoint (s : State) (k : Nat) : Word :=
  let c := s.slFld k 14 2
  if c / 4096 = 4 then (s.slot (c % 64)).out else (s.slot k).sp

/-- Output clamps. -/
def State.clamps (s : State) (k : Nat) : Word × Word := match (s.slot k).clamps with
  | some c => c
  | none => (s.slF k 32, s.slF k 28)

/-- Interpolated gain at an error (R203). -/
def State.gainAt (s : State) (k : Nat) (e : Word) : Word :=
  let x := fMul (fMin (fDiv (fAbs e) (s.slF k 56)) fOne) 0x42000000
  let j := min (if fFinite x then (fVal x).floor.toNat else 0) 31
  let g := fun (n : Nat) => s.slF k (120 + 4 * n)
  fAdd (g j) (fMul (fSub (g (j + 1)) (g j)) (fSub x (fOf (j : Rat))))

/-- Integration stops (R204). -/
def stops (held : Bool) (lo hi uRaw e : Word) : Bool := held || (fLt hi uRaw && fLt 0 e) || (fLt uRaw lo && fLt e 0)

/-- Held: in FALLBACK, by the selector of its output, or by a destination that acts on nothing (R204, R207). -/
def State.destHeld (s : State) (k : Nat) : Bool :=
  let d := s.slFld k 16 2
  if (s.slot k).mode = 3 then true
  else if d / 4096 = 1 then (s.slot k).held || !(s.podsOf (d % 16)).any fun p => decide ((s.pod p).state = 1)
  else if d / 4096 = 2 then decide ((s.pod (d % 8)).state ≠ 1)
  else if d / 4096 = 3 then s.lsHeld (d % 32)
  else false

/-- The native law (R203) on a slot whose measurement and error stand in it: u_raw, and the state. -/
def nativeLaw (k : Nat) (injOut ts : Word) (s : State) : Word × State :=
  let v := s.slot k
  let c := s.clamps k
  let inv := s.slFlag k 1
  let g := s.gainAt k v.err
  let p := fMul (fMul (s.slF k 40) g) v.err
  let mf := fAdd v.mf (fDiv (fMul (fSub v.meas v.mf) ts) (fAdd (s.slF k 52) ts))
  let prev := if v.preset then mf else v.mfPrev
  let dRaw := fDiv (fMul (s.slF k 48) (fSub mf prev)) ts
  let d := if s.slFlag k 2 then (if inv then dRaw else fMinus dRaw) else 0
  let i := if v.preset then fClamp c.1 c.2 (fSub (fSub v.out (s.slF k 36)) p) else v.i
  let uRaw := fAdd (fAdd (fAdd (fAdd (s.slF k 36) injOut) p) i) d
  let u := fClamp c.1 c.2 uRaw
  let stop := stops (s.destHeld k) c.1 c.2 uRaw v.err
  let i2 := if stop then i else fClamp c.1 c.2 (fAdd i (fMul (fMul (fMul (s.slF k 44) g) v.err) ts))
  (uRaw, s.setSlot k { v with
    p := p, d := d, i := i2, mf := if s.slFlag k 2 then mf else v.mf, mfPrev := if s.slFlag k 2 then mf else v.mfPrev, out := u,
    satHi := fLt c.2 uRaw, satLo := fLt uRaw c.1, stopped := stop, preset := false, first := false })

/-- One biquad section: output and next states (R205). -/
def biquad (s : State) (k n : Nat) (x s1 s2 : Word) : Word × Word × Word :=
  let c := fun (j : Nat) => s.slF k (120 + 20 * n + 4 * j)
  let y := fAdd (fMul (c 0) x) s1
  (y, fAdd (fSub (fMul (c 1) x) (fMul (c 3) y)) s2, fSub (fMul (c 2) x) (fMul (c 4) y))

/-- The chain of sections: output and next states in order. -/
def biquads (s : State) (k : Nat) (ns : List Nat) (x : Word) (s1 s2 : List Word) : Word × List Word × List Word :=
  match ns with
  | [] => (x, [], [])
  | n :: r =>
    let b := biquad s k n x (s1.headD 0) (s2.headD 0)
    let t := biquads s k r b.1 s1.tail s2.tail
    (t.1, b.2.1 :: t.2.1, b.2.2 :: t.2.2)

/-- GSL-5120 mode (R205): u_raw, and the state. -/
def biquadLaw (k : Nat) (injOut : Word) (s : State) : Word × State :=
  let v := s.slot k
  let c := s.clamps k
  let n := s.slFld k 2 1
  let gain := (upTo n).foldl (fun a j => fMul a (s.slF k (120 + 20 * j))) fOne
  let s1 := if v.preset then
      (List.replicate (n - 1) (0 : Word)) ++ [fSub (fSub v.out (s.slF k 36)) (fMul gain v.err)]
    else v.s1
  let s2 := if v.preset then [0, 0, 0, 0] else v.s2
  let b := biquads s k (upTo n) v.err s1 s2
  let uRaw := fAdd (fAdd (s.slF k 36) injOut) b.1
  let u := fClamp c.1 c.2 uRaw
  let stop := stops (s.destHeld k) c.1 c.2 uRaw v.err
  (uRaw, s.setSlot k { v with
    s1 := ((if stop then s1 else b.2.1) ++ [0, 0, 0, 0]).take 4, s2 := ((if stop then s2 else b.2.2) ++ [0, 0, 0, 0]).take 4,
    out := u, satHi := fLt c.2 uRaw, satLo := fLt uRaw c.1, stopped := stop, preset := false, first := false })

/-- Which of a slot's states or output is an infinity or NaN: 1 state, 2 output, before its clamps (R206; log entry 84). -/
def Slot.numeric (v : Slot) (uRaw : Word) : Nat :=
  if ([v.i, v.mf, v.mfPrev] ++ v.s1 ++ v.s2).all fFinite then (if fFinite uRaw then 0 else 2) else 1

/-- Measurement and error of a slot (R203). -/
def measure (k : Nat) (injSp : Word) (s : State) : State :=
  let m := fAdd (fMul (s.slF k 20) (s.slotRaw k)) (s.slF k 24)
  let sp := s.setpoint k
  let t := fAdd sp injSp
  s.setSlot k { s.slot k with sp := sp, meas := m, err := if s.slFlag k 1 then fSub m t else fSub t m }

/-- Supervises the error of an AUTO slot that is not held (R213). -/
def superviseError (k : Nat) (s : State) : State :=
  let v := s.slot k
  if s.destHeld k ∨ fLt (s.slF k 60) (fAbs v.err) = false then s.setSlot k { v with following := none, followed := false }
  else if v.following.isSome then s
  else s.setSlot k { v with following := some s.now }

/-- One sample of AUTO. -/
def autoSample (k cycles : Nat) (s : State) : State :=
  let g := geyserValue k s
  let s := g.2
  let atOut := decide (s.geyser.point = 1)
  let old := s.slot k
  let n := if old.first then s.nominal k else cycles
  let ts := fOf ((n : Rat) / 600000000)
  let s := measure k (if atOut then 0 else g.1) s
  let inj := if atOut then g.1 else 0
  let x := if s.law k = 2 then biquadLaw k inj s else nativeLaw k inj ts s
  let s := x.2
  let v := s.slot k
  if v.numeric x.1 ≠ 0 then
    numericFault k (v.numeric x.1) (s.setSlot k { old with sp := v.sp })
  else
    let s := s.setSlot k { v with
      satCount := if v.satHi ∨ v.satLo then bump32 v.satCount else v.satCount, derating := v.derating && v.satHi }
    postSlot k (superviseError k s)

/-- One sample of MANUAL: the manual value, with an injection at the output clamped (R207, R218). -/
def manualSample (k : Nat) (s : State) : State :=
  let g := geyserValue k s
  let s := measure k 0 g.2
  let v := s.slot k
  let c := s.clamps k
  let u := if s.geyser.running ∧ s.geyser.slot = k ∧ s.geyser.point = 1 then fClamp c.1 c.2 (fAdd v.manual g.1) else v.manual
  if fFinite u then postSlot k (s.setSlot k { v with out := u }) else numericFault k 2 s

/-- One sample of FALLBACK: three valid samples in a row return the slot to the mode it left. -/
def fallbackSample (k : Nat) (lost : Bool) (s : State) : State :=
  let v := s.slot k
  if lost then s.setSlot k { v with validRun := 0 }
  else if v.validRun + 1 < 3 then postSlot k (measure k 0 (s.setSlot k { v with validRun := v.validRun + 1 }))
  else
    measure k 0 (presetNext k (s.setSlot k { v with mode := v.back, validRun := 0 }))

/-! ## Pending changes (R209) -/

/-- Both sets of a slot take a new entry at once; a difference that this ends is journalled (R210, R212, note 10). -/
def installEntry (k : Nat) (new : Mem) (s : State) : State :=
  let was := s.slotDiffers k
  let s := s.setSlot k { s.slot k with working := new, conf := none, entryDue := false }
  if was then s.note 10 (handle 7 k) [0] else s

/-- The entry of an epoch whose tick has passed (R212). A slot that it leaves unused posts 0 to its old destination (R207). -/
def takeEntry (k : Nat) (s : State) : State :=
  let v := s.slot k
  if v.entryDue = false then s
  else
    let new := s.slotEntry k
    let keep := decide (fld v.working 0 1 = fld new 0 1 ∧ fld v.working 12 2 = fld new 12 2 ∧ fld v.working 16 2 = fld new 16 2)
    let was := v.mode = 0 ∧ fld v.working 0 1 = 0
    let s := installEntry k new (if fld new 0 1 = 0 then slotOff k s else s)
    let s := s.finishAll 0x0703 (handle 7 k) 0x0304 0
    if fld new 0 1 = 0 then s
    else if was then slotEnable k s
    else if keep then s
    else presetNext k s

/-- LOOP_REVERT at a boundary (R211). -/
def applyReverts (k : Nat) (s : State) : State :=
  overL (s.liveOn 0x0705 (handle 7 k)) (fun l t => commitLive l (fun t =>
    let n := (t.liveOn 0x0703 (handle 7 k)).length
    let t := t.finishAll 0x0703 (handle 7 k) 0x0301 0
    let t := presetNext k (setWorking k (t.slotConf k) t)
    t.finish l 0 (res [(0, 2, n)])) t) s

/-- The oldest coefficient write (R210). -/
def applyWrite (k : Nat) (s : State) : State :=
  match s.liveOn 0x0703 (handle 7 k) with
  | [] => s
  | l :: _ => commitLive l (fun t =>
    let off := (l.params.headD 0).toNat
    let old := t.slFld k off 4
    let t := setWorking k (mputs (t.slot k).working off (wordBytes (l.params.getD 1 0))) t
    t.finish l 0 (res [(0, 4, old), (4, 4, (t.slot k).samples)])) s

/-- LOOP_MODE is admitted on a slot now: a status where it is not (R219). -/
def State.modeRefused (s : State) (k : Nat) : Option Nat :=
  if s.law k = 0 then some 0x0301
  else if s.slFlag k 3 = false then some 0x0260
  else if s.isMatch k then some 0x0301
  else match s.slotOut k with
    | none => none
    | some o => if (s.outCtrl o ≠ 2 ∧ s.isl.maintenance = false) ∨ (s.output o).state ≠ 3 then some 0x0301 else none

/-- Sets a mode by LOOP_MODE; word 1 bit 0 gives the manual value (R207, R208). -/
def setMode (k : Nat) (ps : List Word) (s : State) : State :=
  let v := s.slot k
  let m := (ps.headD 0).toNat
  let value := (ps.getD 1 0).getLsbD 0
  let s := if m = 0 then slotOff k s
    else if m = 1 then s.setSlot k { v with
      mode := 1, manual := if value then ps.getD 2 0 else v.out, following := none, followed := false }
    else s.setSlot k { v with
      mode := 2, preset := v.preset || decide (v.mode = 1 ∨ v.mode = 3), first := decide (v.mode ≠ 2) || v.first,
      following := none, followed := false }
  checkInjection k s

/-- LOOP_MODE at a boundary. -/
def applyModes (k : Nat) (lost : Bool) (s : State) : State :=
  overL (s.liveOn 0x0701 (handle 7 k)) (fun l t => commitLive l (fun t =>
    match t.modeRefused k with
    | some st => t.finish l st 0
    | none =>
      if lost ∧ (l.params.headD 0).toNat = 2 then t.finish l 0x0301 0
      else
        let old := (t.slot k).mode
        (setMode k l.params t).finish l 0 (res [(0, 1, old)])) t) s

/-- LOOP_SETPOINT at a boundary. -/
def applySetpoints (k : Nat) (s : State) : State :=
  overL (s.liveOn 0x0702 (handle 7 k)) (fun l t => commitLive l (fun t =>
    let old := (t.slot k).sp
    (t.setSlot k { t.slot k with sp := l.params.headD 0 }).finish l 0 (res [(0, 4, old.toNat)])) t) s

/-- The injection mode is admitted by the slot's mode (R218). -/
def injectMode (point mode : Nat) : Bool := decide (mode = 2 ∨ (point = 1 ∧ mode = 1))

/-- Starts a waiting injection at its first sample (R218). -/
def startInjection (k : Nat) (s : State) : State :=
  match s.liveOn 0x1010 (handle 7 k) with
  | [] => s
  | l :: _ => commitLive l (fun t =>
    let w := fun (i : Nat) => l.params.getD i 0
    if injectMode (w 0).toNat (t.slot k).mode = false then t.finish l 0x0301 0
    else
      let t := leaveIdle t
      let t : State := { t with geyser := { t.geyser with
        running := true, slot := k, point := (w 0).toNat, signal := (w 1).toNat, amplitude := w 2, word3 := w 3, word4 := w 4,
        duration := (w 5).toNat, start := t.now, injected := 0, shift := 2 ^ (w 3).toNat - 1, value := 0 } }
      (t.captureOn 1 0).finish l 0 (res [(0, 4, (t.slot k).samples)])) s

/-- The control filters of MDAT channels deliver their values (R202). -/
def latchMdat (codes : List (Nat × Int)) (s : State) : State :=
  overL codes (fun e t => { t with geyser := { t.geyser with mdat := tset t.geyser.mdat e.1 e.2 } }) s

/-- The trigger of a slot's sample stands: TRIG_DIV counter zeros of its pod, or TRIG_PER cycles where no counter runs; a slot
without a law takes its new entry at once (R199, R212). -/
def State.triggered (s : State) (k cycles : Nat) : Bool :=
  if s.law k = 0 then (s.slot k).entryDue
  else match s.trigPod k with
    | none => decide (s.slFld k 8 4 ≤ cycles)
    | some _ => decide (s.slFld k 6 2 ≤ (s.slot k).zeros)

/-- Cascade depth of a slot over its SP_SRC and MEAS references, at most `fuel`. -/
def State.depthOf (s : State) (fuel k : Nat) : Nat :=
  match fuel with
  | 0 => 0
  | n + 1 =>
    max (if s.slFld k 14 2 / 4096 = 4 then 1 + s.depthOf n (s.slFld k 14 2 % 64) else 0)
      (if s.slFld k 12 2 / 4096 = 4 then 1 + s.depthOf n (s.slFld k 12 2 % 64) else 0)

/-- Another slot that the same counter zero triggered executes first: by cascade depth, then by index (R199). -/
def State.waitsTurn (s : State) (k : Nat) : Bool :=
  (s.trigPod k).isSome && (upTo 64).any fun j =>
    decide (j ≠ k ∧ s.law j ≠ 0 ∧ s.trigPod j = s.trigPod k ∧ s.slFld j 6 2 ≤ (s.slot j).zeros) &&
    decide (s.depthOf 4 j < s.depthOf 4 k ∨ (s.depthOf 4 j = s.depthOf 4 k ∧ j < k))

/-- What precedes the pending changes at a sample: the trigger is used, and the setpoints of an output that ramps follow
(R183, R187). -/
def sampleBegin (k : Nat) (s : State) : State :=
  let s := s.setSlot k { s.slot k with zeros := 0 }
  match s.slotOut k with
  | none => s
  | some o => if (s.output o).state = 2 ∨ (s.output o).state = 4 then regulate o s else s

/-- The pending commands of a slot in the order of R209 after its entry, its reverts and its writes. -/
def samplePending (k : Nat) (gone : Bool) (s : State) : State :=
  startInjection k (applySetpoints k (applyModes k gone s))

/-- The sample itself, by the slot's mode (R203, R206, R208). -/
def sampleRun (k : Nat) (gone : Bool) (cycles : Nat) (s : State) : State :=
  let s := endElapsed (s.setSlot k { s.slot k with samples := bump32 (s.slot k).samples })
  let s := if gone then loseMeas k s else s
  let v := s.slot k
  if v.mode = 2 then autoSample k cycles s
  else if v.mode = 1 then manualSample k s
  else if v.mode = 3 then fallbackSample k gone s
  else s

/-- SLOT_SAMPLE (R199, R202 to R214): the control filters deliver; a trigger that stands and is too early is skipped and
counted; else, in its turn, pending changes, then the sample. -/
def execSlotSample (k : Nat) (codes : List (Nat × Int)) (lost : Bool) (cycles : Nat) (s : State) : Out :=
  let s := latchMdat codes s
  if s.triggered k cycles = false then .next s
  else if cycles < 3000 then .next (s.setSlot k { s.slot k with skips := bump32 (s.slot k).skips, zeros := 0 })
  else if s.waitsTurn k then .next s
  else
    let s := renew k codes (applyWrite k (applyReverts k (takeEntry k (sampleBegin k s))))
    let gone := s.measLost k lost
    .next (captureStep k (sampleRun k gone cycles (samplePending k gone s)))

/-- An out-of-turn sample (R216): the proportional term and the output alone. A slot whose first AUTO sample still has to preset
its states keeps its output (R208; log entry 99). -/
def outOfTurn (k : Nat) (s : State) : State :=
  let v := s.slot k
  if v.mode ≠ 2 ∨ v.preset then s
  else
    let t := if s.geyser.running ∧ s.geyser.slot = k ∧ s.geyser.point = 0 then fAdd v.sp s.geyser.value else v.sp
    let e := if s.slFlag k 1 then fSub v.meas t else fSub t v.meas
    let c := s.clamps k
    let inj : Word := if s.geyser.running ∧ s.geyser.slot = k ∧ s.geyser.point = 1 then s.geyser.value else 0
    let p := fMul (fMul (s.slF k 40) (s.gainAt k e)) e
    let uRaw := if s.law k = 2 then fAdd (fAdd (s.slF k 36) inj) (biquads s k (upTo (s.slFld k 2 1)) e v.s1 v.s2).1
      else fAdd (fAdd (fAdd (fAdd (s.slF k 36) inj) p) v.i) v.d
    let u := fClamp c.1 c.2 uRaw
    if fFinite uRaw then s.setSlot k { v with err := e, p := if s.law k = 2 then v.p else p, out := u }
    else numericFault k 2 s

/-- A grant block takes force at the outputs that regulate or stop (R216). -/
def grantTaken (o : Nat) (s : State) : State :=
  let x := s.output o
  if x.state ≠ 3 ∧ x.state ≠ 4 then s
  else selectOutput o (outOfTurn (s.iSlot o) (outOfTurn (s.vSlot o) (regulate o s)))

/-- LOOP_FOLLOWING (R213): a V_SLOT in SOFT_START takes no action of its own. -/
def execLoopFollowing (k : Nat) (s : State) : Out :=
  let v := s.slot k
  let soft : Bool := match s.slotOut k with
    | none => false
    | some o => decide (s.vSlot o = k ∧ (s.output o).state = 2)
  if v.mode ≠ 2 ∨ v.followed ∨ soft ∨ s.past v.following (1000 * s.slFld k 64 4) = false then .next s
  else
    let act := s.slFld k 68 1
    let s := s.setSlot k { v with followed := true, followCount := bump32 v.followCount, derating := v.satHi }
    let s := s.event 7 0x0460 (res [(0, 1, k), (1, 1, act), (4, 4, v.err.toNat), (8, 4, v.sp.toNat)])
    .next (if act = 1 then checkInjection k (s.setSlot k { s.slot k with
      mode := 1, manual := v.out, following := none, followed := false }) else s)

/-! ## Commands (Table 8-10) -/

/-- LOOP_STATUS. -/
def loopStatusOf (q : Req) (s : State) : Reply :=
  let k := q.idx
  let v := s.slot k
  let inj := s.geyser.running && decide (s.geyser.slot = k)
  reads s [(0, 1, v.mode),
    (1, 1, bit v.satHi + 2 * bit v.satLo + 4 * bit v.stopped + 8 * bit v.following.isSome + 16 * bit (s.slotDiffers k) + 32 * bit inj),
    (2, 2, (s.liveOn 0x0703 q.hnd).length), (4, 4, v.sp.toNat), (8, 4, v.meas.toNat), (12, 4, v.out.toNat)]
def execLoopStatus (c : Cmd) (s : State) : Out := host (line 0x0700 .R [7] 0 0) c loopStatusOf s

/-- LOOP_MODE (R207, R219): commits at the slot's next sample boundary. -/
def loopModeOf (q : Req) (s : State) : Reply :=
  if 2 < q.w 0 then rej 0x0108 s
  else match s.modeRefused q.idx with
    | some st => rej st s
    | none => .live false [] s
def execLoopMode (c : Cmd) (s : State) : Out := host (line 0x0701 .A [7] 1 3) c loopModeOf s

/-- LOOP_SETPOINT. -/
def loopSetpointOf (q : Req) (s : State) : Reply :=
  if s.law q.idx = 0 ∨ s.slFld q.idx 14 2 ≠ 0 ∨ s.sequenced q.idx then rej 0x0301 s else .live false [] s
def execLoopSetpoint (c : Cmd) (s : State) : Out := host (line 0x0702 .A [7] 1 1) c loopSetpointOf s

/-- A working set still follows R201 after one field is written. -/
def coefOk (m : Mem) (off : Nat) (w : Word) : Bool :=
  let n := mputs m off (wordBytes w)
  let pos := fun (o : Nat) => fLt 0 (ffld n o)
  let nneg := fun (o : Nat) => !fLt (ffld n o) 0
  fFinite w && fLt (ffld n 32) (ffld n 28) && pos 56 && pos 60 && nneg 40 && nneg 44 && nneg 48 && nneg 52 &&
  (decide (off < 120) || (if fld m 0 1 = 1 then !fLt w 0 && !fLt 0x41800000 w
    else decide (off < 120 + 20 * fld m 2 1) || decide (w = 0)))

/-- LOOP_COEF_WRITE (R210, R219). -/
def loopCoefWriteOf (q : Req) (s : State) : Reply :=
  let k := q.idx
  let off := q.w 0
  if s.law k = 0 then rej 0x0301 s
  else if s.slFlag k 3 = false then rej 0x0260 s
  else if off % 4 ≠ 0 ∨ ¬ ((20 ≤ off ∧ off ≤ 60) ∨ (120 ≤ off ∧ off ≤ 248)) ∨ coefOk (s.slot k).working off (q.word 1) = false then
    rej 0x0108 s
  else if 16 ≤ (s.liveOn 0x0703 q.hnd).length then rej 0x0501 s
  else .live false [] s
def execLoopCoefWrite (c : Cmd) (s : State) : Out := host (line 0x0703 .A [7] 2 2) c loopCoefWriteOf s

/-- LOOP_COEF_READ. -/
def loopCoefReadOf (q : Req) (s : State) : Reply :=
  let off := q.w 0
  if off % 4 ≠ 0 ∨ 240 < off then rej 0x0108 s
  else
    let m := if (q.word 1).getLsbD 0 then s.slotConf q.idx else (s.slot q.idx).working
    .done 0 (resBytes (mbytes m off 16)) s
def execLoopCoefRead (c : Cmd) (s : State) : Out := host (line 0x0704 .R [7] 1 2) c loopCoefReadOf s

/-- LOOP_REVERT (R211). -/
def loopRevertOf (q : Req) (s : State) : Reply := if s.law q.idx = 0 then rej 0x0301 s else .live false [] s
def execLoopRevert (c : Cmd) (s : State) : Out := host (line 0x0705 .A [7] 0 0) c loopRevertOf s

/-- LOOP_CONFIG_SET (R211). -/
def loopConfigSetOf (q : Req) (s : State) : Reply := configSet 3 (16 + 256 * q.idx) 252 q s
def execLoopConfigSet (c : Cmd) (s : State) : Out := host (line 0x0706 .C [7] 3 12) c loopConfigSetOf s

/-- LOOP_COUNTERS. -/
def loopCountersOf (q : Req) (s : State) : Reply :=
  let v := s.slot q.idx
  let r := res [(0, 4, v.samples), (4, 4, v.skips), (8, 4, v.satCount), (12, 4, v.followCount)]
  .done 0 r (if (q.word 0).getLsbD 0 then s.setSlot q.idx { v with samples := 0, skips := 0, satCount := 0, followCount := 0 } else s)
def execLoopCounters (c : Cmd) (s : State) : Out := host (line 0x0707 .R [7] 0 1) c loopCountersOf s

/-- Parameters of GEYSER_INJECT (Table 8-6); 0.01 Hz is the binary32 nearest to it. -/
def injectParams (q : Req) (s : State) : Bool :=
  let rate : Rat := 600000000 / ((max 1 (s.nominal q.idx) : Nat) : Rat)
  decide (q.w 0 ≤ 1) && fFinite (q.word 2) &&
  (match q.w 1 with
    | 1 => decide (7 ≤ q.w 3 ∧ q.w 3 ≤ 15 ∧ 1 ≤ q.w 4 ∧ q.w 4 ≤ 256)
    | 2 => fFinite (q.word 3) && decide (q.w 4 = 0) &&
      decide (fVal 0x3C23D70A ≤ fVal (q.word 3) ∧ fVal (q.word 3) ≤ rate / 4)
    | 3 => fFinite (q.word 3) && fFinite (q.word 4) && decide ((0 : Rat) < fVal (q.word 3) ∧ (0 : Rat) < fVal (q.word 4)) &&
      decide (100 ≤ q.w 5 ∧ q.w 5 ≤ 600000)
    | 4 => decide (q.w 3 = 0 ∧ q.w 4 = 0)
    | _ => false)

/-- GEYSER_INJECT (R218, R219). -/
def geyserInjectOf (q : Req) (s : State) : Reply :=
  let k := q.idx
  let session := match s.slotOut k with
    | none => false
    | some o => decide (s.outCtrl o = 1)
  if s.law k = 0 then rej 0x0301 s
  else if injectParams q s = false then rej 0x0108 s
  else if s.slFlag k 3 = false ∨ s.geyserMode = 0 ∨ (s.geyserMode = 1 ∧ s.isl.maintenance = false) ∨
      (s.geyserMode = 2 ∧ session = true) then rej 0x0260 s
  else if s.geyser.running ∨ s.liveOf 0x1010 ≠ [] then rej 0x0560 s
  else if injectMode (q.w 0) (s.slot k).mode = false then rej 0x0301 s
  else .live false [] s
def execGeyserInject (c : Cmd) (s : State) : Out := host (line 0x1010 .A [7] 6 6) c geyserInjectOf s

/-- Signal codes of words 0 to 3. -/
def armSignals (q : Req) : List Half :=
  ((upTo 4).flatMap fun i => [(q.word i).setWidth 16, (q.word i >>> 16).setWidth 16]).filter (· ≠ 0xFFFF)

/-- A signal code is one of R221. -/
def signalOk (h : Half) : Bool :=
  let c := h.toNat
  (decide (c / 4096 = 0 ∧ c / 256 % 16 < 8 ∧ c % 256 < 64)) || decide (c / 4096 = 1 ∧ c % 4096 < 48) ||
  decide (c / 4096 = 2 ∧ c % 4096 < 32)

/-- GEYSER_ARM (R221). -/
def geyserArmOf (q : Req) (s : State) : Reply :=
  let sig := armSignals q
  let clock := q.w 4 % 64
  let trig := q.w 5 % 16
  let arg := q.w 5 / 16 % 8
  if s.geyserMode = 0 then rej 0x0260 s
  else if s.geyser.capture = 1 ∨ s.geyser.capture = 2 then rej 0x0560 s
  else if sig = [] ∨ sig.all signalOk = false ∨ s.law clock = 0 ∨ 5 < trig ∨ ((trig = 2 ∨ trig = 3) ∧ sig.length ≤ arg) ∨ 255 < q.w 7 then
    rej 0x0108 s
  else
    .done 0 (res [(0, 4, (65536 / sig.length : Nat))]) { s with geyser := { s.geyser with
      capture := if trig = 0 then 2 else 1, signals := sig, clockSlot := clock, every := q.w 4 / 256 % 256 + 1, trigger := trig,
      trigArg := arg, trigStatus := q.w 5 / 65536, threshold := q.word 6, preTrig := q.w 7, record := [], since := 0,
      trigIndex := 0, after := 0 } }
def execGeyserArm (c : Cmd) (s : State) : Out := host (line 0x1011 .A [0] 6 8) c geyserArmOf s

/-- GEYSER_STATUS. -/
def geyserStatusOf (_ : Req) (s : State) : Reply :=
  let g := s.geyser
  reads s [(0, 1, bit g.running), (1, 1, g.slot), (2, 1, g.capture), (3, 1, g.signals.length), (4, 4, g.depth),
    (8, 4, g.trigIndex), (12, 4, g.record.length)]
def execGeyserStatus (c : Cmd) (s : State) : Out := host (line 0x1012 .R [0] 0 0) c geyserStatusOf s

/-- GEYSER_READ: four samples, or as much of the rest of a signal as the buffer holds (R42). -/
def geyserReadOf (q : Req) (s : State) : Reply :=
  let g := s.geyser
  let i := if q.buf.isSome then q.w 4 else q.w 0
  let first := if q.buf.isSome then q.w 5 else q.w 1
  if g.capture ≠ 3 then rej 0x0301 s
  else if g.signals.length ≤ i ∨ g.record.length ≤ first then rej 0x0108 s
  else
    let data := ((g.record.drop first).map fun x => x.getD i 0).flatMap wordBytes
    match q.buf with
    | none => .done 0 (resBytes data) s
    | some b =>
      let part := data.take b.len
      match writeBuf q part s with
      | .error st => rej st s
      | .ok t => .done 0 (res [(0, 4, part.length)]) t
def execGeyserRead (c : Cmd) (s : State) : Out :=
  host { line 0x1013 .R [0] 2 2 with loB := 6, hiB := 6 } c geyserReadOf s

/-- GEYSER_STOP (R220). -/
def geyserStopOf (q : Req) (s : State) : Reply :=
  let inj := (q.word 0).getLsbD 0 && s.geyser.running
  let cap := (q.word 0).getLsbD 1 && decide (s.geyser.capture = 1 ∨ s.geyser.capture = 2)
  if inj = false ∧ cap = false then rej 0x0001 s
  else
    let s := if inj then endInjection 1 s else s
    .done 0 0 (if cap then { s with geyser := { s.geyser with capture := 0 } } else s)
def execGeyserStop (c : Cmd) (s : State) : Out := host (line 0x1014 .A [0] 1 1) c geyserStopOf s

end Sys2Proof.Machine
end

