-- ==== Sys2Proof/Machine/Tree.lean ====
section
/-! DEFINITION. The power tree (chapter 04): node values, the checks of R98 to R104, curtailments, and the commands of
Table 4-5. -/

namespace Sys2Proof.Machine

/-! ## Node values (Table 4-2) -/

/-- BIDIR, implied for STORAGE (Table 4-1). -/
def nodeBidir (m : Mem) : Bool := nBidir m || decide (nKind m = 3)
/-- Kinds bound to a field node. -/
def fieldKind (k : Nat) : Bool := decide (k = 3 ∨ k = 7 ∨ k = 8)
/-- The node has a voltage measurement (R104). -/
def nodeVolts (m : Mem) : Bool :=
  decide (nKind m = 6) || fieldKind (nKind m) || (decide (nKind m = 1 ∨ nKind m = 2) && decide (nBind m ≠ 0xFFFF))
/-- Sensor code of position 0 to 3, or 4 for AMB (Table 4-3). -/
def nodeSensor (m : Mem) (k : Nat) : Nat := fld m (68 + 2 * k) 2

/-- Parents that Table 4-1 permits for a kind. -/
def parentKinds (k : Nat) : List Nat := match k with
  | 2 => [1, 2, 9]
  | 3 => [1, 2, 4, 9]
  | 4 => [1, 2, 9]
  | 5 => [4]
  | 6 => [5]
  | 7 => [1, 2, 9]
  | 8 => [7, 2, 1, 9]
  | 9 => [1, 2, 4, 7, 9]
  | _ => []

/-- A nonzero rsvd bit of a body (R13, R102). -/
def nodeRsvd (m : Mem) : Bool := decide (fld m 5 1 / 8 ≠ 0 ∨ fld m 10 2 ≠ 0 ∨ fld m 78 2 ≠ 0 ∨ fld m 84 4 ≠ 0)

/-- BIND in the range of its kind. -/
def bindRange (k b : Nat) : Bool :=
  if k = 1 ∨ k = 2 then decide (b = 16 ∨ b = 17 ∨ b = 0xFFFF)
  else if fieldKind k then decide (b < 512)
  else if k = 5 then decide (1 ≤ b ∧ b ≤ 255)
  else if k = 6 then decide (b < 16)
  else decide (b = 0xFFFF)

/-- A sensor code is in range and names a temperature channel (Table 4-3, R109): asked of every node, THERM or not. -/
def sensorCodeOk (c : SiteCfg) (code : Nat) : Bool :=
  let src := code % 4096
  match code / 4096 with
  | 0 => true
  | 1 => decide (src < 32) && decide (fld (tget c.blocks 15 []) (16 + 16 * src) 1 ≠ 0)
  | 2 => true
  | 3 => decide (src = 0)
  | _ => false

/-- A sensor code is out of range, or a thermal field of a node with THERM = 1 (Table 4-2; log entry 105). -/
def thermalBad (c : SiteCfg) (m : Mem) : Bool :=
  (nTherm m && (decide (sfld m 52 2 - 20 < sfld m 54 2) || decide (fld m 60 4 < 100 ∨ 86400000 < fld m 60 4) ||
    decide (fld m 64 4 < 1000 ∨ 600000 < fld m 64 4))) || (upTo 5).any fun k => !sensorCodeOk c (nodeSensor m k)

/-- The reason of Table 4-7 that a node's own values give (R118). The ranges of the thermal fields hold with THERM = 1 and
that of WIN_LEN with WINDOW = 1 (log entry 105). -/
def ownFault (c : SiteCfg) (i : Nat) (m : Mem) : Option Nat :=
  let k := nKind m
  let known := decide (1 ≤ k ∧ k ≤ 9)
  if i ≠ 0 ∧ i ≤ nParent m then some 1
  else if known ∧ (k = 1 ↔ i ≠ 0) then some 4
  else if known ∧ bindRange k (nBind m) = false then some 5
  else if fld m 12 4 < fld m 16 4 ∨ fld m 12 4 < fld m 24 4 then some 7
  else if fld m 32 4 = 0 ∨ fld m 36 4 = 0 ∨ nWeight m = 0 then some 8
  else if thermalBad c m then some 9
  else if nWindow m ∧ (fld m 40 4 < 60 ∨ 86400 < fld m 40 4) then some 10
  else if known ∧ fld m 28 4 ≠ 0 ∧ nodeVolts m = false then some 11
  else if fld m 20 4 ≠ 0 ∧ nodeBidir m = false then some 12
  else if fld m 80 4 ≠ 0 ∧ k ≠ 1 then some 15
  else none

/-- Any other value of a node outside its range. -/
def ownRange (i : Nat) (m : Mem) : Bool :=
  decide (nKind m < 1 ∨ 9 < nKind m) || decide (15 < nClass m) || decide (2147483647 < fld m 28 4) ||
  (decide (i = 0) && decide (nParent m ≠ 0xFFFF))

/-- Level of a node: its number of ancestors (R101), counted as far as a tree of 1,024 nodes can reach. -/
def SiteCfg.level (c : SiteCfg) (n : Nat) : Nat := (c.path 1024 n).length - 1

/-- The reason of Table 4-7 that a node gives within its whole tree (R98 to R104, R478). -/
def SiteCfg.nodeFault (c : SiteCfg) (fitted bidirPod : Nat → Bool) (i : Nat) (m : Mem) : Option Nat :=
  let k := nKind m
  let b := nBind m
  let before := c.nodes.filter fun e => decide (e.1 < i)
  let kids := c.children i
  let parent := c.node (nParent m)
  if i ≠ 0 ∧ (i ≤ nParent m ∨ (aget c.nodes (nParent m)).isNone) then some 1
  else if 15 < c.level i then some 2
  else if i ≠ 0 ∧ k ≠ 1 ∧ (parentKinds k).contains (nKind parent) = false then some 3
  else if k = 1 ↔ i ≠ 0 then some 4
  else if bindRange k b = false ∨
      (fieldKind k ∧ (aget c.fields b).isNone) ∨
      (k = 4 ∧ before.any fun e => decide (nKind e.2 = 4)) ∨
      (b ≠ 0xFFFF ∧ k ≠ 5 ∧ before.any fun e =>
        decide (nBind e.2 = b) && (decide (nKind e.2 = k) || (fieldKind k && fieldKind (nKind e.2)) ||
          decide (k ≤ 2 ∧ nKind e.2 ≤ 2))) ∨
      (k = 5 ∧ (upTo 8).any fun p => tst b p && (!fitted p || before.any fun e => decide (nKind e.2 = 5) && tst (nBind e.2) p))
    then some 5
  else if fieldKind k ∧ fld ((aget c.fields b).getD []) 2 2 ≠ i then some 6
  else if fld m 12 4 < fld m 16 4 ∨ fld m 12 4 < fld m 24 4 ∨
      fld m 12 4 < kids.foldl (fun a x => a + fld (c.node x) 16 4) 0 then some 7
  else if fld m 32 4 = 0 ∨ fld m 36 4 = 0 ∨ nWeight m = 0 then some 8
  else if thermalBad c m then some 9
  else if nWindow m ∧ (fld m 40 4 < 60 ∨ 86400 < fld m 40 4) then some 10
  else if fld m 28 4 ≠ 0 ∧ nodeVolts m = false then some 11
  else if (fld m 20 4 ≠ 0 ∧ nodeBidir m = false) ∨
      (k = 6 ∧ nBidir m ∧ (upTo 8).any fun p => tst (nBind parent) p && !bidirPod p) ∨
      ((k = 2 ∨ k = 4 ∨ k = 5 ∨ k = 9) ∧ nBidir m = false ∧ kids.any fun x => nodeBidir (c.node x)) then some 12
  else if 255 < kids.length then some 13
  else if fld m 80 4 ≠ 0 ∧ k ≠ 1 then some 15
  else none

/-- The state as it would stand under a configuration: a view for the checks. -/
def State.under (s : State) (c : SiteCfg) : State := { s with ep := { s.ep with cfg := c } }

/-- The first fault of a tree: node and reason (TREE_CHECK). -/
def State.treeFault (s : State) (c : SiteCfg) : Option (Nat × Nat) :=
  let v := s.under c
  if (aget c.nodes 0).isNone then some (0, 4)
  else c.nodes.findSome? fun e =>
    (c.nodeFault v.podFitted (fun p => tst (v.podFld p 4 1) 0) e.1 e.2).map fun r => (e.1, r)

/-- A tree node's body holds a value outside its range that no reason names (R118). -/
def SiteCfg.treeRange (c : SiteCfg) : Bool := c.nodes.any fun e => nodeRsvd e.2 || ownRange e.1 e.2

/-! ## Standing and curtailment -/

/-- The node is retired in its own right: an output's retirement withdraws its node (R194). -/
def State.nodeRetired (s : State) (n : Nat) : Bool :=
  let m := s.ep.cfg.node n
  (s.node n).retired || (decide (nKind m = 6) && s.isRetired (handle 4 (nBind m)))

/-- Some group above the node is retired or the node is (R27). -/
def State.nodeOut (s : State) (n : Nat) : Bool := (s.ep.cfg.path 16 n).any s.nodeRetired

/-- Caldera grants the node 0: retired, withdrawn, or named by an announced epoch (R27, R115). -/
def State.nodeZero (s : State) (n : Nat) : Bool := s.nodeOut n || s.cal.withdrawn.contains n

/-- The field node is quarantined: by its own standing, or absent and left behind by a tick (R91). -/
def FNode.quarantined (v : FNode) : Bool := decide (v.state = 2) || (decide (v.state = 0) && v.behind)

/-- The node's bound field node is absent, quarantined or retired (R114, R361). -/
def State.fallbackOnly (s : State) (n : Nat) : Bool :=
  let m := s.ep.cfg.node n
  fieldKind (nKind m) && decide ((s.fnode (nBind m)).state ≠ 1)

/-- The curtailment in force in a direction: 0 power cap, 1 source cap. -/
def State.curtailOf (s : State) (n dir : Nat) : Option Nat :=
  (s.cal.curtails.find? fun c => decide (c.1 = n ∧ c.2.1 = dir)).map fun c => c.2.2.1

/-- Drops a curtailment. -/
def dropCurtail (n dir : Nat) (s : State) : State :=
  { s with cal := { s.cal with curtails := s.cal.curtails.filter fun c => decide (¬ (c.1 = n ∧ c.2.1 = dir)) } }

/-- Grant of a node in the block in force, W. -/
def State.grantOf (s : State) (n : Nat) : Int := (aget s.cal.inForce.grants n).getD 0

/-- Grant of a node in the newest block computed (R122 prev). -/
def State.prevOf (s : State) (n : Nat) : Int := match s.cal.held.getLast? with
  | none => s.grantOf n
  | some b => (aget b.grants n).getD 0

/-! ## Commands (Table 4-5) -/

/-- NODE_READ. -/
def nodeReadOf (q : Req) (s : State) : Reply :=
  let c := if tst (q.w 1) 0 then s.overlaid else s.ep.cfg
  if q.w 0 % 4 ≠ 0 ∨ 84 < q.w 0 then rej 0x0108 s
  else .done 0 (resBytes (mbytes (c.node q.idx) (q.w 0) 16)) s
def execNodeRead (c : Cmd) (s : State) : Out :=
  host { line 0x0400 .R [3] 1 2 with view := fun q => q.w 1 % 2 } c nodeReadOf s

/-- Normalised t_est is above the derating start. -/
def State.nodeDerates (s : State) (n : Nat) : Bool :=
  let m := s.ep.cfg.node n
  nTherm m && decide ((sfld m 54 2 : Rat) / 10 < (s.node n).tEst.getD ((sfld m 52 2 : Rat) / 10))

/-- NODE_STATE; t_est is rounded down to 0.1 °C (log entry 106). -/
def nodeStateOf (q : Req) (s : State) : Reply :=
  let n := q.idx
  let m := s.ep.cfg.node n
  let v := s.node n
  let standing := if s.nodeRetired n then 2 else if fieldKind (nKind m) ∧ (s.fnode (nBind m)).quarantined then 1 else 0
  let above := (s.ep.cfg.path 16 n).tail.any fun a => s.nodeRetired a || s.cal.withdrawn.contains a
  let subst := nTherm m && (upTo 5).any fun k => decide ((tget v.sensors k {}).state = 3)
  let absent := fieldKind (nKind m) && decide ((s.fnode (nBind m)).state = 0 ∨ (s.fnode (nBind m)).state = 3)
  let cur := (s.curtailOf n 0).isSome || (s.curtailOf n 1).isSome
  let t : Int := if nTherm m then (v.tEst.getD ((sfld m 52 2 : Rat) / 10) * 10).floor else 0x8000
  reads s [(0, 1, standing), (1, 1, bit above + 2 * bit (s.nodeDerates n) + 4 * bit subst + 8 * bit absent + 16 * bit cur),
    (2, 2, nParent m), (4, 4, v.presented), (8, 4, s.grantOf n), (12, 2, t), (14, 1, s.ep.cfg.level n), (15, 1, v.cls)]
def execNodeState (c : Cmd) (s : State) : Out := host (line 0x0401 .R [3] 0 0) c nodeStateOf s

/-- TREE_INVALID with its node and reason. -/
def treeInvalid (n reason : Nat) (s : State) : Reply := .done 0x0120 (res [(0, 2, n), (2, 1, reason)]) s

/-- Puts an edit into the overlay, or OVERLAY_FULL (R73). -/
def pushed (e : Edit) (s : State) : Reply := match s.pushEdit e with
  | none => rej 0x0511 s
  | some t => .done 0 0 t

/-- The checks of an edited node, then its edit (R118). -/
def editNode (n : Nat) (m : Mem) (inUse : Bool) (e : Edit) (s : State) : Reply :=
  if nodeRsvd m then rej 0x0104 s
  else if inUse ∧ 1024 ≤ s.overlaid.nodes.length then rej 0x0520 s
  else match ownFault s.overlaid n m with
    | some r => treeInvalid n (if inUse ∧ 14 < r then 14 else r) s
    | none => if inUse then treeInvalid n 14 s else if ownRange n m then rej 0x0108 s else pushed e s

/-- NODE_ADD: a full overlay view answers TREE_FULL before anything but RSVD_NONZERO. -/
def nodeAddOf (q : Req) (s : State) : Reply :=
  let m := mputs [] 0 (q.params.flatMap wordBytes)
  if nodeRsvd m = false ∧ 1024 ≤ s.overlaid.nodes.length then rej 0x0520 s
  else editNode q.idx m (aget s.overlaid.nodes q.idx).isSome (.addNode q.idx m) s
def execNodeAdd (c : Cmd) (s : State) : Out :=
  host { line 0x0402 .C [3] 22 22 with view := fun _ => 2 } c nodeAddOf s

/-- NODE_REMOVE. -/
def nodeRemoveOf (q : Req) (s : State) : Reply :=
  if s.overlaid.children q.idx ≠ [] then rej 0x0320 s else pushed (.removeNode q.idx) s
def execNodeRemove (c : Cmd) (s : State) : Out :=
  host { line 0x0403 .C [3] 0 0 with view := fun _ => 1 } c nodeRemoveOf s

/-- NODE_SET. -/
def nodeSetOf (q : Req) (s : State) : Reply :=
  let off := q.w 0
  let n := q.w 1
  if off % 4 ≠ 0 ∨ off < 4 ∨ 84 < off ∨ n = 0 ∨ 10 < n ∨ 88 < off + 4 * n ∨ q.params.length < 2 + n then rej 0x0108 s
  else
    let data := ((q.params.drop 2).take n).flatMap wordBytes
    editNode q.idx (mputs (s.overlaid.node q.idx) off data) false (.bytes 2 q.idx off data) s
def execNodeSet (c : Cmd) (s : State) : Out :=
  host { line 0x0404 .C [3] 3 12 with view := fun _ => 1 } c nodeSetOf s

/-- NODE_MOVE (R119). -/
def nodeMoveOf (q : Req) (s : State) : Reply :=
  if q.idx = 0 then treeInvalid 0 4 s
  else if 1023 < q.w 0 then rej 0x0108 s
  else if q.idx ≤ q.w 0 then treeInvalid q.idx 1 s
  else pushed (.moveNode q.idx (q.w 0)) s
def execNodeMove (c : Cmd) (s : State) : Out :=
  host { line 0x0405 .C [3] 1 1 with view := fun _ => 1 } c nodeMoveOf s

/-- TREE_CHECK; a deepest level beyond 255, which only a faulty overlay can have, reads 255 (log entry 106). -/
def treeCheckOf (q : Req) (s : State) : Reply :=
  let c := if tst (q.w 0) 0 then s.overlaid else s.ep.cfg
  let f := (s.treeFault c).getD (0xFFFF, 0)
  let deep := c.nodes.foldl (fun a e => max a (c.level e.1)) 0
  reads s [(0, 2, f.1), (2, 1, f.2), (4, 2, c.nodes.length), (6, 1, min 255 deep)]
def execTreeCheck (c : Cmd) (s : State) : Out := host (line 0x0406 .R [0] 0 1) c treeCheckOf s

/-- TREE_LIST; the bytes of children that do not remain read 0 (log entry 107). -/
def treeListOf (q : Req) (s : State) : Reply :=
  let kids := s.ep.cfg.children q.idx
  let page := (kids.drop (q.w 0)).take 7
  .done 0 (res ([(14, 2, (kids.length : Int))] ++ (upTo page.length).map fun k => (2 * k, 2, ((page.getD k 0 : Nat) : Int)))) s
def execTreeList (c : Cmd) (s : State) : Out := host (line 0x0407 .R [3] 1 1) c treeListOf s

end Sys2Proof.Machine
end

