-- ==== Sys2Proof/Machine/Alloc.lean ====
section
/-! DEFINITION. The allocation cycle (chapter 05): periods, sensors and thermal models, demand windows, the solve of R124
to R128, grant blocks and their force, overruns, snapshots, the grant check, and the commands of Table 5-10. -/

namespace Sys2Proof.Machine

/-! ## The period (R121) -/

/-- PERIOD, µs. -/
def State.periodUs (s : State) : Nat := max 1 (s.cfgD 2 0 4 1000)
/-- PERIOD, ms. -/
def State.dtMs (s : State) : Rat := (s.periodUs : Rat) / 1000
/-- AHEAD. -/
def State.ahead (s : State) : Nat := fld (s.blk 2) 4 1
/-- The count that boundaries follow: site time once aligned, else the uptime. -/
def State.calCount (s : State) : Nat := if s.cal.aligned then s.clk.tai else s.clk.uptime
/-- The boundary that ends the period in progress has come. -/
def State.boundaryDue (s : State) : Bool := s.calOn && decide (s.cal.periodEnd ≤ s.calCount)
/-- The announced tick has come (R91); a provisioning commit takes effect at once (R97). -/
def State.tickDue (s : State) : Bool := match s.ep.tick with
  | none => false
  | some t => s.boot.provisioning || (s.clk.timeValid && decide (t ≤ s.clk.tai))

/-- First multiple of `p` that is not below `t`. -/
def ceilTo (p t : Nat) : Nat := (t + p - 1) / p * p

/-- Stretches the period in progress to the next boundary aligned to site time, and renumbers it, its block and what is held
(R121, R133); a boundary that falls now is kept (Table 5-7). -/
def alignPeriod (s : State) : State :=
  if s.clk.timeValid = false ∨ s.cal.aligned ∨ s.boundaryDue then s
  else
    let p := s.periodUs
    let e := ceilTo p (s.clk.tai + (s.cal.periodEnd - s.clk.uptime))
    let old := s.cal.nextPeriod
    let new := e / p
    let move := fun (b : Block) => { b with period := b.period + new - old }
    { s with cal := { s.cal with
      aligned := true, periodEnd := e, period := s.cal.period + new - old, nextPeriod := new, inForce := move s.cal.inForce,
      held := s.cal.held.map move, solved := s.cal.solved.map move } }

/-- Site time is no longer valid: boundaries follow the uptime count from here. -/
def unalignPeriod (s : State) : State :=
  if s.cal.aligned then
    { s with cal := { s.cal with aligned := false, periodEnd := s.clk.uptime + (s.cal.periodEnd - s.clk.tai) } }
  else s

/-! ## Sensors (R109, R141) -/

/-- What a sensor code's source gives now: none yet, or its reading (0.1 °C) with its time, or a failure. -/
def State.reading (s : State) (code : Nat) : Option (Option (Rat × Nat)) :=
  match code / 4096 with
  | 1 =>
    let a := s.ainCh (code % 32)
    if a.standing = 0 then none
    else if a.standing ≠ 1 ∨ s.after a.time 3000 then some none
    else some (some ((a.temp : Rat), a.time))
  | 2 =>
    let n := code % 512
    let every := 1000 * fld (s.fbody n) 5 1
    match (s.fnode n).report with
    | none => none
    | some r =>
      if every = 0 then none
      else if s.after (s.fnode n).reportTime (3 * every) then some none
      else match r.channels.getD (code % 4096 / 512) none with
        | none => some none
        | some t => some (some ((t : Rat), (s.fnode n).reportTime))
  | 3 =>
    if s.clk.sampled = false then none
    else if s.clk.diodeFault ∨ 3 ≤ s.clk.missing then some none
    else some (some ((s.clk.dieTemp : Rat), s.now))
  | _ => none

/-- Worst-case rise of a node, µK per ms (R141). -/
def worstRate (m : Mem) : Rat := if fld m 60 4 = 0 then 0 else (fld m 56 4 * fld m 12 4 : Nat) / (fld m 60 4 : Rat)

/-- The substitute of a failed sensor, 0.1 °C (R141). -/
def substitute (m : Mem) (last : Rat) (ms : Rat) : Rat :=
  max last (min (last + worstRate m * ms / 100000) ((sfld m 52 2 : Rat) + 100))

/-- SENSOR_SUBSTITUTED's RESULT. -/
def sensorRes (n k : Nat) (last : Rat) : List (Nat × Nat × Int) := [(0, 2, n), (2, 1, k), (4, 2, last.floor)]

/-- SENS_FAULT, µs. -/
def State.sensFault (s : State) : Nat := 1000 * s.cfgD 2 8 4 30000

/-- One sensor of a node at an upward pass. A reading that comes as SENS_FAULT expires is discarded (Table 5-7). -/
def senseStep (n k : Nat) (s : State) : State :=
  let m := s.ep.cfg.node n
  let code := nodeSensor m k
  let v := tget (s.node n).sensors k {}
  let put := fun (w : Sensor) (t : State) => t.setNode n { t.node n with sensors := tset (t.node n).sensors k w }
  if code / 4096 = 0 ∨ v.state = 4 ∨ s.past v.faultSince s.sensFault then s
  else match s.reading code with
    | some (some (x, t)) => put { v with state := 2, lastValid := x, value := x, lastTime := t, faultSince := none } s
    | r =>
      let ms : Rat := ((s.now - v.lastTime : Nat) : Rat) / 1000
      if v.state = 3 then put { v with value := substitute m v.lastValid ms } s
      else if v.state = 2 ∧ r.isSome then
        (put { v with state := 3, value := substitute m v.lastValid ms, faultSince := some s.now } s).event 4 0x0830
          (res (sensorRes n k v.lastValid))
      else if v.state = 2 then s
      else put { v with faultSince := some (v.faultSince.getD s.now) } s

/-- SENSOR_RETIRED (R142): the sensor is retired and the node capped from the next period. -/
def execSensorRetired (n k : Nat) (s : State) : Out :=
  let m := s.ep.cfg.node n
  let v := tget (s.node n).sensors k {}
  if k < 5 ∧ nTherm m ∧ nodeSensor m k / 4096 ≠ 0 ∧ v.state ≠ 4 ∧ v.state ≠ 2 ∧ s.past v.faultSince s.sensFault then
    let x := s.node n
    let cap := min (fld m 24 4) x.capShown
    let s := s.setNode n { x with
      capHeld := some (match x.capHeld with
        | none => cap
        | some c => min c cap),
      sensors := tset x.sensors k { v with state := 4, faultSince := none } }
    let h := handleSub 3 n (k + 1)
    .next ((s.retire h 0x0831).report 4 0x0831 h (res (sensorRes n k v.lastValid ++ [(6, 4, (cap : Int))]))).drain
  else .next s

/-! ## Thermal model and window (R107, R108, R129, R130) -/

/-- Latest measured power of a node, W: its metering point, or its field node's report. -/
def State.measuredPower (s : State) (n : Nat) : Option Rat :=
  let m := s.ep.cfg.node n
  let k := nKind m
  if k = 6 ∨ ((k = 1 ∨ k = 2) ∧ nBind m ≠ 0xFFFF) then
    if (s.point (nBind m)).valid then some (s.point (nBind m)).power else none
  else if fieldKind k then (s.fnode (nBind m)).report.map fun r => (r.voltage : Rat) * (r.current : Rat) / 10000
  else none

/-- T_LIMIT of a body, °C. -/
def tLimit (m : Mem) : Rat := (sfld m 52 2 : Rat) / 10
/-- T_DERATE of a body, °C. -/
def tDerate (m : Mem) : Rat := (sfld m 54 2 : Rat) / 10
/-- t_est of a node, °C: T_LIMIT until it moves (R31). -/
def State.tEstOf (s : State) (n : Nat) : Rat := (s.node n).tEst.getD (tLimit (s.ep.cfg.node n))

/-- Values in use of the sensors that take part in R107, °C. -/
def State.sensorsUsed (s : State) (n : Nat) (ks : List Nat) : List Rat :=
  (ks.filter fun k => decide ((tget (s.node n).sensors k {}).state = 2 ∨ (tget (s.node n).sensors k {}).state = 3)).map
    fun k => (tget (s.node n).sensors k {}).value / 10

/-- t_hot (R107). -/
def State.tHot (s : State) (n : Nat) : Option Rat := match s.sensorsUsed n (upTo 4) with
  | [] => none
  | x :: r => some (r.foldl max x)

/-- The estimate's update; kept to 2⁻⁶⁴ °C (log entry 28). -/
def thermStep (n : Nat) (s : State) : State :=
  let m := s.ep.cfg.node n
  if nTherm m = false then s
  else
    let s := overL (upTo 5) (senseStep n) s
    let dt := s.dtMs
    let p := (s.measuredPower n).getD ((s.grantOf n : Int) : Rat)
    let t := s.tEstOf n
    let t := match s.sensorsUsed n [4] with
      | [] => t
      | a :: _ => t + (a + (fld m 56 4 : Rat) * p / 1000000 - t) * dt / (fld m 60 4 : Rat)
    let t := match s.tHot n with
      | none => t
      | some h => t + (h - t) * dt / (fld m 64 4 : Rat)
    s.setNode n { s.node n with tEst := some (cut t) }

/-- Normalised temperature of a node's own model (R108). -/
def State.normTemp (s : State) (n : Nat) : Option Rat :=
  let m := s.ep.cfg.node n
  if nTherm m then some ((s.tEstOf n - tDerate m) / (tLimit m - tDerate m)) else none

/-- Thermal states that the nodes present: the highest normalised temperature of a node's own model and of its members;
none where neither has one (R26, R109). -/
def State.thermals (s : State) : List (Nat × Rat) :=
  s.ep.cfg.nodes.reverse.foldl (fun t e =>
    match (s.normTemp e.1).toList ++ (s.ep.cfg.children e.1).filterMap (aget t) with
    | [] => t
    | x :: r => (e.1, r.foldl max x) :: t) []

/-- Presented power cap of R108 with the cap of R142, W. -/
def State.thermCap (s : State) (n : Nat) : Nat :=
  let m := s.ep.cfg.node n
  let cap := fld m 12 4
  let fb := fld m 24 4
  let t := s.tEstOf n
  let c := if nTherm m = false ∨ t ≤ tDerate m then cap
    else if t < tLimit m then fb + ((((cap - fb : Nat) : Rat) * (tLimit m - t) / (tLimit m - tDerate m)).floor).toNat
    else if t ≤ tLimit m + 10 then fb
    else 0
  match (s.node n).capHeld with
  | none => c
  | some h => min c h

/-- Presented source cap, W. -/
def State.thermSrc (s : State) (n : Nat) : Nat :=
  let m := s.ep.cfg.node n
  let cap := fld m 20 4
  let t := s.tEstOf n
  if (s.node n).capHeld.isSome then 0
  else if nTherm m = false ∨ t ≤ tDerate m then cap
  else if t < tLimit m then (((cap : Rat) * (tLimit m - t) / (tLimit m - tDerate m)).floor).toNat
  else 0

/-- The 64 slices, in quanta; full at the start (R31). -/
def State.slicesOf (s : State) (n : Nat) : List Rat :=
  if (s.node n).slices = [] then List.replicate 64 ((fld (s.ep.cfg.node n) 44 8 : Rat) / 64) else (s.node n).slices

/-- Energy in the window, quanta. -/
def State.eWin (s : State) (n : Nat) : Rat := (s.slicesOf n).foldl (· + ·) 0

/-- Contracted average power, W (R129): a quantum is 3600/65536 J. -/
def windowAvg (m : Mem) : Rat := (fld m 44 8 : Rat) * 3600 / 65536 / (max 1 (fld m 40 4) : Nat)

/-- win_cap, W (R129). -/
def State.winCapOf (s : State) (n : Nat) : Nat :=
  let m := s.ep.cfg.node n
  let slice : Rat := (max 1 (fld m 40 4) : Nat) / 64
  ((windowAvg m + ((fld m 44 8 : Rat) - s.eWin n) * 3600 / 65536 / slice).floor).toNat

/-- A period's energy joins the current slice at publish; a full slice makes the oldest leave (R106, R130). A period without
a block publishes nothing and adds nothing (log entry 111). -/
def windowStep (n : Nat) (s : State) : State :=
  let m := s.ep.cfg.node n
  let v := s.node n
  if nWindow m = false then s
  else
    let metered := nKind m = 6 ∨ ((nKind m = 1 ∨ nKind m = 2) ∧ nBind m ≠ 0xFFFF)
    let e : Rat := if metered then v.metered else (s.grantOf n : Rat) * s.dtMs * 65536 / 3600000
    let e := if nodeBidir m then e else max 0 e
    let l := s.slicesOf n
    let l := l.take 63 ++ [l.getD 63 0 + e]
    let len : Rat := (max 1 (fld m 40 4) : Nat) * 1000 / 64
    let ms := v.sliceMs + s.dtMs
    let k := (ms / len).floor.toNat
    s.setNode n { v with
      metered := 0, sliceMs := ms - (k : Rat) * len, slices := (l ++ List.replicate (min k 64) 0).drop (min k 64) }

/-! ## Values that bound a node (R104, R110 to R112) -/

/-- Keeps the latest valid measured voltage, V; the sum of the phases at an AC point. -/
def voltStep (n : Nat) (s : State) : State :=
  let m := s.ep.cfg.node n
  let v := s.node n
  if nKind m = 6 ∨ ((nKind m = 1 ∨ nKind m = 2) ∧ nBind m ≠ 0xFFFF) then
    let p := s.point (nBind m)
    if p.valid then s.setNode n { v with volts := some p.volts } else s
  else if fieldKind (nKind m) then
    match (s.fnode (nBind m)).report with
    | none => s
    | some r => s.setNode n { v with volts := some ((r.voltage : Rat) / 10) }
  else s

/-- pod_cap (R110); none for other kinds. A pod that retires at the snapshot's own instant still counts (R117), and one counts
toward its output outside a reassignment and from step 6 of one (R188). -/
def State.podCap (s : State) (n : Nat) : Option Nat :=
  let m := s.ep.cfg.node n
  let serves := fun (p : Nat) => s.podServes p || (s.podFitted p && decide ((s.pod p).retiredAt = some s.now))
  let sum := fun (l : List Nat) => (l.filter serves).foldl (fun a p => a + s.podRating p) 0
  if nKind m = 5 then some (sum ((upTo 8).filter fun p => tst (nBind m) p))
  else if nKind m = 6 then some (sum ((s.podsOf (nBind m)).filter fun p => decide ((s.mtx p).step = 0 ∨ (s.mtx p).step = 6)))
  else none

/-- The smaller of a value and a term that may be absent. -/
def capBy (a : Nat) (o : Option Nat) : Nat := match o with
  | none => a
  | some b => min a b

/-- I_CAP × v, W, rounded down (R104, R127); none without I_CAP. -/
def State.iCapOf (s : State) (n : Nat) : Option Nat :=
  let m := s.ep.cfg.node n
  if fld m 28 4 = 0 then none
  else some (((fld m 28 4 : Rat) * max 150 ((s.node n).volts.getD 150) / 1000).floor).toNat

/-- hi(n) without its ramp, W. An output in a safe state is taken to 0 (R337), every node in STANDBY (R418); P_CAP less
RESERVE at the feed (R112). -/
def State.hiCap (s : State) (n : Nat) : Nat :=
  let m := s.ep.cfg.node n
  let cap := fld m 12 4 - (if nKind m = 1 then fld m 80 4 else 0)
  let cap := min cap (s.thermCap n)
  let cap := capBy (capBy (capBy cap (s.iCapOf n)) (s.curtailOf n 0)) (s.podCap n)
  let cap := if nWindow m then min cap (s.winCapOf n) else cap
  if s.power.state = 2 ∨ (nKind m = 6 ∧ s.isl.outRamp.getLsbD (nBind m)) then 0 else cap

/-- ex(n) without its ramp, W; I_CAP limits current in both directions (R104). -/
def State.exCap (s : State) (n : Nat) : Nat :=
  let m := s.ep.cfg.node n
  if s.power.state = 2 ∨ nodeBidir m = false ∨ (nKind m = 6 ∧ s.isl.outRamp.getLsbD (nBind m)) then 0
  else capBy (capBy (s.thermSrc n) (s.iCapOf n)) (s.curtailOf n 1)

/-! ## The upward pass (R124) -/

/-- What a node presents in a solve. -/
structure Shown where
  d : Int
  src : Int
  firm : Int
  fix : Int
  hi : Int
  cls : Nat
  /-- Its limit lies below prev − RAMP_DOWN × dt (R128). -/
  ovr : Bool
deriving DecidableEq, Repr

/-- Presented values of a node; all 0 where it is not listed. -/
def shownOf (t : Tbl Shown) (n : Nat) : Shown := tget t n ⟨0, 0, 0, 0, 0, 0, false⟩

/-- Sum of a number over a list. -/
def sumOf (l : List Nat) (f : Nat → Int) : Int := l.foldl (fun a k => a + f k) 0

/-- One node of the upward pass. -/
def State.showNode (s : State) (n : Nat) (m : Mem) (t : Tbl Shown) : Shown :=
  let kids := s.ep.cfg.children n
  let prev : Rat := (s.prevOf n : Rat)
  let up : Rat := (fld m 32 4 : Rat) * s.dtMs
  let down : Rat := (fld m 36 4 : Rat) * s.dtMs
  let lit := kids.filter fun c => decide (0 < (shownOf t c).d)
  let cls := if lit = [] then nClass m else lit.foldl (fun a c => max a (shownOf t c).cls) 0
  if (s.ep.cfg.path 16 n).any s.nodeZero ∨ (s.ep.cfg.path 16 n).tail.any s.fallbackOnly then ⟨0, 0, 0, 0, 0, cls, false⟩
  else if s.fallbackOnly n then ⟨(fld m 24 4 : Nat), 0, 0, (fld m 24 4 : Nat), (fld m 24 4 : Nat), cls, false⟩
  else
    let hi : Int := min (s.hiCap n : Nat) (max 0 (prev + up).floor)
    let ex : Int := min (s.exCap n : Nat) (max 0 (down - prev).floor)
    let ovr := decide ((hi : Rat) < prev - down)
    let v := s.node n
    if kids = [] then
      let src : Int := min (v.offer : Int) ex
      ⟨min (v.demand : Int) hi, src, min (v.firm : Int) src, 0, hi, cls, ovr⟩
    else
      let sd := sumOf kids fun c => (shownOf t c).d
      let ss := sumOf kids fun c => (shownOf t c).src
      let src := min ss ex
      ⟨min sd (hi + ss), src, min (sumOf kids fun c => (shownOf t c).firm) src,
        min (sumOf kids fun c => (shownOf t c).fix) hi, hi, cls, ovr⟩

/-- The upward pass, children before parents. -/
def State.upward (s : State) : Tbl Shown :=
  s.ep.cfg.nodes.reverse.foldl (fun t e => tset t e.1 (s.showNode e.1 e.2 t)) []

/-! ## The downward pass (R125 to R128) -/

/-- Puts a number into a rising list. -/
def insertRat (x : Rat) : List Rat → List Rat
  | [] => [x]
  | y :: r => if x ≤ y then x :: y :: r else y :: insertRat x r

/-- A child in water-filling: its index, weight, reserve and load. -/
abbrev FillItem := Nat × Nat × Int × Int

/-- Power above the reserves that a level takes. -/
def fillAt (l : List FillItem) (lam : Rat) : Rat :=
  l.foldl (fun a e => a + (min (e.2.2.2 : Rat) (max (e.2.2.1 : Rat) ((e.2.1 : Rat) * lam)) - (e.2.2.1 : Rat))) 0

/-- The level between breakpoints at which `avail` is used up, exactly (R127). -/
def fillLevel (l : List FillItem) (avail : Rat) (lo : Rat) : List Rat → Rat
  | [] => lo
  | p :: r =>
    if avail < fillAt l p then
      let a := fillAt l lo
      let b := fillAt l p
      lo + (avail - a) * (p - lo) / (b - a)
    else fillLevel l avail p r

/-- Water-filling of one class: each child's load, rounded down. -/
def fillClass (l : List FillItem) (avail : Int) : List (Nat × Int) :=
  if (l.foldl (fun a e => a + (e.2.2.2 - e.2.2.1)) 0) ≤ avail then l.map fun e => (e.1, e.2.2.2)
  else
    let pts := l.foldl (fun a e => if e.2.1 = 0 then a
      else insertRat ((e.2.2.1 : Rat) / (e.2.1 : Rat)) (insertRat ((e.2.2.2 : Rat) / (e.2.1 : Rat)) a)) []
    let lam := fillLevel l (avail : Rat) 0 pts
    l.map fun e => (e.1, min e.2.2.2 (max e.2.2.1 ((e.2.1 : Rat) * lam).floor))

/-- Reserves and loads of a division, classes from the highest: reserves (first), then loads, with what is left. -/
structure Fill where
  avail : Int
  given : List (Nat × Int)
  ovr : Bool
deriving DecidableEq, Repr

/-- Whole pro-rata share, rounded down. -/
def share (total part whole : Int) : Int := if whole = 0 then 0 else total * part / whole

/-- Gives the reserves of one class (R126, R128). -/
def giveReserves (kids : List Nat) (cls : Nat → Nat) (r : Nat → Int) (cl : Nat) (f : Fill) : Fill :=
  let g := kids.filter fun c => decide (cls c = cl)
  let total := sumOf g r
  if total ≤ f.avail then { f with avail := f.avail - total, given := f.given ++ g.map fun c => (c, r c) }
  else ⟨0, f.given ++ g.map (fun c => (c, share f.avail (r c) total)), true⟩

/-- Fills the loads of one class; what rounding leaves stays ungranted (R126, R127). -/
def giveLoads (kids : List Nat) (cls : Nat → Nat) (weight : Nat → Nat) (rsv : Nat → Int) (dl : Nat → Int) (cl : Nat)
    (f : Fill) : Fill :=
  let g := kids.filter fun c => decide (cls c = cl)
  let ld := fillClass (g.map fun c => (c, weight c, rsv c, dl c)) f.avail
  let short := ld.any fun e => decide (e.2 < dl e.1)
  { f with
    avail := if short then 0 else f.avail - sumOf g fun c => dl c - rsv c, given := f.given ++ ld }

/-- Classes from the highest. -/
def classesDown : List Nat := (List.range 16).reverse

/-- The division of one node's grant: grants of its children, ramp override, excess under R484. -/
def State.divide (s : State) (t : Tbl Shown) (n : Nat) (g : Int) : List (Nat × Int) × Bool × Int :=
  let kids := s.ep.cfg.children n
  let sh := shownOf t
  let body := fun c => s.ep.cfg.node c
  let firmSum := sumOf kids fun c => (sh c).firm
  let fm := fun c => share (sh n).firm (sh c).firm firmSum
  let fixSum := sumOf kids fun c => (sh c).fix
  let avail0 := g - fixSum + sumOf kids fm
  let fixedOver := decide (avail0 < 0 ∧ 0 < fixSum)
  let avail1 := if fixedOver then 0 else avail0
  let spare := fun c => (sh c).src - fm c
  let leaf := fun c => decide (s.ep.cfg.children c = [] ∧ 0 < spare c)
  let load := fun c => (sh c).d - (sh c).fix
  let short := sumOf (kids.filter fun c => !leaf c) load - avail1
  let spareSum := sumOf kids spare
  let draw := if 0 < short then min short spareSum else 0
  let dl := fun c => if decide (0 < short) && leaf c then 0 else load c
  let off := fun c => share draw (spare c) spareSum
  let avail2 := max 0 (avail1 + sumOf kids off)
  let ramp := fun c => (((s.prevOf c : Int) : Rat) - (fld (body c) 36 4 : Rat) * s.dtMs).ceil
  let r := fun c => min (dl c) (max (max ((fld (body c) 16 4 : Nat) : Int) (ramp c)) 0)
  let f1 := classesDown.foldl (fun f cl => giveReserves kids (fun c => (sh c).cls) r cl f) ⟨avail2, [], false⟩
  let rsv := fun c => (aget f1.given c).getD 0
  let f2 := classesDown.foldl (fun f cl => giveLoads kids (fun c => (sh c).cls) (fun c => nWeight (body c)) rsv dl cl f)
    ⟨f1.avail, [], false⟩
  let ld := fun c => (aget f2.given c).getD (rsv c)
  (kids.map fun c => (c, (sh c).fix + ld c - fm c - off c), f1.ovr || fixedOver, if fixedOver then -avail0 else 0)

/-- The downward pass: grants by node, ramp override, and the divisions under R484 with their excess. -/
def State.downward (s : State) (t : Tbl Shown) : List (Nat × Int) × Bool × List (Nat × Int) :=
  let root := shownOf t 0
  let over0 := t.any fun e => e.2.ovr
  s.ep.cfg.nodes.foldl (fun a e =>
    let kids := s.ep.cfg.children e.1
    if kids = [] then a
    else if (s.ep.cfg.path 16 e.1).any s.nodeZero ∨ (s.ep.cfg.path 16 e.1).any s.fallbackOnly then
      (a.1 ++ kids.map fun c => (c, 0), a.2)
    else
      let x := s.divide t e.1 ((aget a.1 e.1).getD 0)
      (a.1 ++ x.1, a.2.1 || x.2.1, if x.2.2 = 0 then a.2.2 else a.2.2 ++ [(e.1, x.2.2)]))
    ([(0, min (root.d - root.firm) root.hi)], over0, [])

/-! ## Grant blocks (R16, R133 to R135) -/

/-- The bound field nodes of a port that take GRANT frames: present or quarantined, in rising address (R362). -/
def State.grantNodes (s : State) (p : Nat) : List (Nat × Nat × Nat) :=
  let l := s.ep.cfg.nodes.filterMap fun e =>
    let f := nBind e.2
    if fieldKind (nKind e.2) ∧ (s.nodePorts f).contains p ∧ ((s.fnode f).state = 1 ∨ (s.fnode f).state = 2) then
      some (f % 32, f, e.1) else none
  (upTo 32).flatMap fun a => l.filter fun e => decide (e.1 = a)

/-- Groups of at most `k`. -/
def chunks {α : Type} (k fuel : Nat) (l : List α) : List (List α) := match fuel with
  | 0 => []
  | f + 1 => if l = [] then [] else l.take k :: chunks k f (l.drop k)

/-- GRANT frames of a block on the ports of a group of four (R362, Table 14-7); without a credit the queue takes none. -/
def sendGrants (b : Block) (g : Nat) (s : State) : State :=
  let ports := (upTo 4).map (4 * g + ·)
  if ports.all fun p => (s.grantNodes p).isEmpty then s
  else s.via (35 + g) [(b.period : Int)] fun t =>
    overL ports (fun p t => overL (chunks 12 32 (t.grantNodes p)) (fun l t =>
      let mask := l.foldl (fun a e => a + 2 ^ e.1) 0
      let vals := l.flatMap fun e => leInt ((aget b.grants e.2.2).getD 0) 4
      t.sendFrame [p] 2 8 0x3F (b.period % 4294967296) (leBytes mask 4 ++ (vals ++ List.replicate 48 0).take 48) 255 false) t) t

/-- GRANT frames still unsent when their period takes force, or has ended, are dropped and counted (R362). -/
def dropGrants (n : Nat) (s : State) : State :=
  let late := fun (f : TxFrame) => decide (f.ident = profIdent 2 8 0x3F ∧
    (n + 4294967296 - leNat ((f.payload.drop 4).take 4)) % 4294967296 < 2147483648)
  overL s.profilePorts (fun p t =>
    let k := ((t.port p).profile.filter late).length
    if k = 0 then t
    else
      let t := t.setPort p { t.port p with profile := (t.port p).profile.filter fun f => !late f }
      { t with field := { t.field with grantsDropped := t.field.grantsDropped + k } }) s

/-- An output's grant at the safety island: after a decrease the older one counts for one period more, whatever blocks come
meanwhile (R17, R134). -/
def islandGrant (b : Block) (o : Nat) (s : State) : State :=
  match s.outNode o with
  | none => s
  | some n =>
    let x := s.output o
    let g := (aget b.grants n).getD 0
    let lower := decide (g.natAbs < x.grant.natAbs ∨ (g < 0 ∧ 0 < x.grant) ∨ (0 < g ∧ x.grant < 0))
    s.setOutput o { x with
      grant := g, older := (x.older.filter fun e => decide (s.now < e.2)) ++
        (if lower then [(x.grant, s.now + s.periodUs)] else []) }

/-- A grant block takes force (R133, R134, R188, R216). -/
def takeForce (b : Block) (s : State) : State :=
  let s : State := { s with cal := { s.cal with inForce := b } }
  let s := overL s.localOuts (islandGrant b) s
  let s := logIn 7 (s.localOuts.map fun o => (s.output o).grant) s
  let s := overL (upTo 8) (fun p t =>
    let m := t.mtx p
    if m.step = 1 ∧ m.awaitBlock = false ∧ m.ramping = false then t.setMtx p { m with ramping := true, stepTime := t.now }
    else t) s
  overL s.localOuts grantTaken s

/-- Both consumers take their entries of a held block. -/
def takeEntries (s : State) : Bool × State :=
  let a := s.take 33
  let b := a.2.take 34
  (a.1.isSome && b.1.isSome, stallOver s b.2)

/-- Posts a block to Q33, Q34 and the field-bus queues: it takes force on arrival, or is held (R133). -/
def postBlock (b : Block) (s : State) : State :=
  let s := overL (upTo 4) (sendGrants b) s
  if b.period ≤ s.cal.period then
    let a := s.hand 33 [(b.period : Int)]
    let c := a.2.hand 34 [(b.period : Int)]
    let t := stallOver s c.2
    if a.1.isSome ∧ c.1.isSome then takeForce b t else t
  else
    let s := (s.post 33 [(b.period : Int)]).post 34 [(b.period : Int)]
    { s with cal := { s.cal with held := s.cal.held ++ [b] } }

/-- Discards what is held without counting a drain: an overrun block supersedes it (R136). -/
def supersede (s : State) : State :=
  let was := s
  let clear := fun (v : IQueue) => { v with entries := [], head := v.tail, expectSeq := v.nextSeq, stalled := false }
  let s := (s.setIq 33 (clear (s.iq 33))).setIq 34 (clear (s.iq 34))
  stallOver was { s with cal := { s.cal with held := [] } }

/-- One grant moved toward 0 by its ramp (R136). -/
def State.overrunGrant (s : State) (e : Nat × Int) : Nat × Int :=
  let m := s.ep.cfg.node e.1
  let down : Rat := (fld m 36 4 : Rat) * s.dtMs
  let up : Rat := (fld m 32 4 : Rat) * s.dtMs
  (e.1, if 0 < e.2 then max 0 ((e.2 : Rat) - down).ceil else min 0 ((e.2 : Rat) + up).floor)

/-- The late solve is abandoned and an overrun block posted for the period that starts (R136, R137). -/
def overrun (late : Block) (n : Nat) (s : State) : State :=
  let short := decide (s.credits 33 = 0 ∨ s.credits 34 = 0)
  let b : Block := ⟨n, s.cal.inForce.grants.map s.overrunGrant⟩
  let s : State := { s with cal := { s.cal with solved := none, overruns := bump32 s.cal.overruns, period := n } }
  let s := overL (s.ep.cfg.nodes.map (·.1)) windowStep (supersede s)
  let s := if s.credits 33 = 0 ∨ s.credits 34 = 0 then s else postBlock b s
  s.event 4 0x0430 (res [(0, 8, late.period), (8, 1, if short then 2 else 1)])

/-- A solve misses the boundary that is due. -/
def State.lateSolve (s : State) : Option Block :=
  if s.boundaryDue then s.cal.solved.filter fun b => decide (b.period ≤ s.cal.nextPeriod) else none

/-- ALLOC_OVERRUN. -/
def execAllocOverrun (s : State) : Out := match s.lateSolve with
  | none => .next s
  | some b => .next (overrun b s.cal.nextPeriod s)

/-- GRANT_BLOCK_PUBLISH: to Q33 and Q34 together, or to neither (R16); `solve` is its duration in 0.1 µs. -/
def execGrantBlockPublish (solve : Nat) (s : State) : Out :=
  match s.cal.solved with
  | none => .next s
  | some b =>
    if s.calOn = false ∨ s.credits 33 = 0 ∨ s.credits 34 = 0 then .next s
    else
      let c := s.cal
      let s : State := { s with cal := { c with solved := none, lastSolve := sat 16 solve, maxSolve := max c.maxSolve (sat 16 solve) } }
      .next (overL (s.ep.cfg.nodes.map (·.1)) windowStep (postBlock b s))

/-! ## Snapshots (R139, R140) -/

/-- One entry of a snapshot (Table 5-5). -/
def State.snapEntry (s : State) (n : Nat) (m : Mem) : List Byte :=
  let v := s.node n
  leBytes n 2 ++ leBytes (bit (nTherm m) + 2 * bit (nWindow m)) 2 ++
  leInt (if nTherm m then (s.tEstOf n * 10).floor else 0) 2 ++ leBytes 0 2 ++
  leBytes (if nWindow m then v.sliceMs.floor.toNat else 0) 4 ++ leBytes 0 4 ++
  (if nWindow m then (s.slicesOf n).flatMap fun x => leInt x.floor 8 else [])

/-- A snapshot of the estimators (Table 5-4). -/
def State.snapshot (s : State) : List Byte :=
  let es := s.ep.cfg.nodes.filter fun e => nTherm e.2 || nWindow e.2
  let body := es.flatMap fun e => s.snapEntry e.1 e.2
  let head := leBytes 0x50414E53 4 ++ leBytes 1 2 ++ leBytes es.length 2 ++ leBytes s.time 8 ++ leBytes s.ep.root.toNat 32 ++
    leBytes (64 + body.length + 4) 4 ++ List.replicate 12 0
  head ++ body ++ leBytes (crc (s.time % 4294967296) (head ++ body)) 4

/-- An entry read from a snapshot: node, flags, t_est 0.1 °C, slice ms, slices. -/
structure SnapEntry where
  node : Nat
  flags : Nat
  tEst : Int
  ms : Nat
  slices : List Int
deriving DecidableEq, Repr

/-- Reads the entries of a snapshot; none where the layout is wrong: an entry whose FLAGS name neither model is such a fault
(log entry 112). -/
def snapEntries (count last : Nat) (bs : List Byte) : Option (List SnapEntry) := match count with
  | 0 => if bs = [] then some [] else none
  | k + 1 =>
    let n := leNat (bs.take 2)
    let flags := leNat ((bs.drop 2).take 2)
    let size := 16 + (if tst flags 1 then 512 else 0)
    if bs.length < size ∨ 3 < flags ∨ flags = 0 ∨ 1023 < n ∨ n < last ∨ leNat ((bs.drop 6).take 2) ≠ 0 ∨
        leNat ((bs.drop 12).take 4) ≠ 0 then none
    else
      let sl := if tst flags 1 then (upTo 64).map fun i => signed 8 (leNat ((bs.drop (16 + 8 * i)).take 8)) else []
      (snapEntries k (n + 1) (bs.drop size)).map fun r =>
        ⟨n, flags, signed 2 (leNat ((bs.drop 4).take 2)), leNat ((bs.drop 8).take 4), sl⟩ :: r

/-- The entries of a snapshot's bytes, where magic, format, length and layout are right (R139). -/
def snapParse (bs : List Byte) : Option (List SnapEntry) :=
  let len := leNat ((bs.drop 48).take 4)
  if leNat (bs.take 4) ≠ 0x50414E53 ∨ leNat ((bs.drop 4).take 2) ≠ 1 ∨ bs.length < len ∨ len < 68 ∨
      1024 < leNat ((bs.drop 6).take 2) ∨ leNat ((bs.drop 52).take 12) ≠ 0 then none
  else snapEntries (leNat ((bs.drop 6).take 2)) 0 (((bs.take len).drop 64).take (len - 68))

/-- The check value of a snapshot is right. -/
def snapCheck (bs : List Byte) : Bool :=
  let len := leNat ((bs.drop 48).take 4)
  decide (crc (leNat ((bs.drop 8).take 4)) (bs.take (len - 4)) = leNat ((bs.drop (len - 4)).take 4))

/-- Applies one entry: answers whether its node still carries a flagged model (R139). -/
def snapApply (age : Nat) (e : SnapEntry) (s : State) : Bool × State :=
  match aget s.ep.cfg.nodes e.node with
  | none => (false, s)
  | some m =>
    let th := tst e.flags 0 && nTherm m
    let wn := tst e.flags 1 && nWindow m
    let v := s.node e.node
    let t := (e.tEst : Rat) / 10
    let t := match s.tHot e.node with
      | none => t
      | some h => max t h
    let v := if th then { v with tEst := some (min (s.tEstOf e.node) t) } else v
    let len : Rat := (max 1 (fld m 40 4) : Nat) * 1000 / 64
    let ms : Rat := (e.ms : Rat) + (age : Rat) / 1000
    let k := (ms / len).floor.toNat
    let full : Rat := (fld m 44 8 : Rat) / 64
    let v := if wn then { v with
        sliceMs := ms - (k : Rat) * len,
        slices := ((e.slices.map fun x => (x : Rat)) ++ List.replicate (min k 64) full).drop (min k 64) } else v
    (th || wn, s.setNode e.node v)

/-- Commits the snapshot commands at a period boundary. -/
def snapCommit (s : State) : State :=
  let s := overL (s.liveOf 0x0411) (fun l t =>
    let data := t.snapshot
    let len := (l.keep.getD 1 0).toNat
    if len < data.length then t.finish l 0x0530 0
    else if l.keep.getD 2 0 ≠ 0 then t.finish l 0x0801 0
    else
      let t : State := { t with hostIf := { t.hostIf with dma := aset t.hostIf.dma (l.keep.getD 0 0).toNat data } }
      t.finish l 0 (res [(0, 4, data.length), (4, 8, t.time)])) s
  overL (s.liveOf 0x0412) (fun l t =>
    commitLive l (fun t =>
      let bs := l.keep.map fun x => BitVec.ofNat 8 x.toNat
      let saved := leNat ((bs.drop 8).take 8)
      if t.cal.restored then t.finish l 0x0330 0
      else if 1000000 * fld (t.blk 2) 6 2 < t.time - saved ∨ t.time < saved then t.finish l 0x0331 0
      else if leNat ((bs.drop 16).take 32) ≠ t.ep.root.toNat then t.finish l 0x0332 0
      else
        let r := ((snapParse bs).getD []).foldl (fun (a : Nat × Nat × State) e =>
          let x := snapApply (t.time - saved) e a.2.2
          if x.1 then (a.1 + 1, a.2.1, x.2) else (a.1, a.2.1 + 1, x.2)) (0, 0, t)
        let t : State := { r.2.2 with cal := { r.2.2.cal with restored := true } }
        t.finish l 0 (res [(0, 2, r.1), (2, 2, r.2.1)])) t) s

/-! ## The boundary (R122) -/

/-- A thermal cap fell below a held grant by more than RAMP_DOWN × dt (Table 5-3). -/
def State.thermDrain (s : State) : Bool :=
  s.ep.cfg.nodes.any fun e => nTherm e.2 && s.cal.held.any fun b =>
    decide ((s.thermCap e.1 : Rat) + (fld e.2 36 4 : Rat) * s.dtMs < ((aget b.grants e.1).getD 0 : Int))

/-- The period whose block the solve at this boundary yields: on arrival after a drain, then one period further ahead at a
time (R133, R135). -/
def State.solveFor (s : State) : Nat :=
  let n := s.cal.period
  let newest := match s.cal.held.getLast? with
    | none => s.cal.inForce.period
    | some b => b.period
  if s.cal.drained then n else n + min s.ahead (newest + 2 - n)

/-- The block's period starts at or after an announced tick (R91). -/
def State.barred (s : State) (p : Nat) : Bool := match s.ep.tick with
  | none => false
  | some t => s.cal.aligned && decide (t ≤ p * s.periodUs)

/-- Snapshot and solve (R122 to R128). -/
def solve (s : State) : State :=
  let s := takeRequests s
  let idx := s.ep.cfg.nodes.map (·.1)
  let s := overL idx (fun n t => voltStep n (thermStep n t)) s
  let s := if s.thermDrain then s.drain else s
  let s := overL (upTo 8) (fun p t => if (t.mtx p).step = 1 then t.setMtx p { t.mtx p with awaitBlock := false } else t) s
  let target := s.solveFor
  if s.cal.solved.isSome ∨ s.barred target ∨ idx = [] then s
  else
    let up := s.upward
    let dn := s.downward up
    let therms := s.thermals
    let s := overL idx (fun n t => t.setNode n { t.node n with
      presented := (shownOf up n).d, cls := (shownOf up n).cls, therm := aget therms n, capShown := t.thermCap n,
      winCap := (t.winCapOf n : Nat) }) s
    let s := overL dn.2.2 (fun e t => t.note 19 (handle 3 e.1) (0 :: leInt e.2 4)) s
    { s with cal := { s.cal with solved := some ⟨target, dn.1⟩, rampOver := dn.2.1, drained := false } }

/-- A held block whose period has come takes force; one whose period has passed is discarded with its credit (R133). -/
def applyHeld (fuel : Nat) (s : State) : State := match fuel with
  | 0 => s
  | k + 1 => match s.cal.held with
    | [] => s
    | b :: r =>
      if s.cal.period < b.period then s
      else
        let e := takeEntries s
        let t : State := { e.2 with cal := { e.2.cal with held := r } }
        applyHeld k (if b.period = s.cal.period ∧ e.1 then takeForce b t else t)

/-- A period ends and the next starts. While periods follow site time, the period ends at the first multiple of PERIOD that
lies at least one PERIOD ahead, and its number follows (R121). Each period recomputes the setpoints of R185 and gives the pod
planner its turn (R182, log entry 47). -/
def periodBoundary (s : State) : State :=
  let p := s.periodUs
  let e := if s.cal.aligned then ceilTo p (s.cal.periodEnd + p) else s.cal.periodEnd + p
  let n := if s.cal.aligned then e / p - 1 else s.cal.nextPeriod
  let s := match s.lateSolve with
    | none => s
    | some b => overrun b n s
  let s : State := { s with cal := { s.cal with period := n, nextPeriod := n + 1, periodEnd := e } }
  let s := applyHeld 3 (dropGrants n s)
  planPods (alignPeriod (snapCommit (solve (overL s.localOuts regulate s))))

/-- PERIOD_BOUNDARY: an epoch tick that falls here comes first (R91, Table 4-4). -/
def execPeriodBoundary (s : State) : Out :=
  if s.boundaryDue = false ∨ s.tickDue then .next s else .next (periodBoundary s)

/-- The state that an event of Table 4-4 meets: one that comes at the very instant of a boundary finds the snapshot taken,
and so applies from the next period (R117, log entry 125). -/
def afterSnapshot (s : State) : State :=
  if s.boundaryDue ∧ s.tickDue = false ∧ s.calCount = s.cal.periodEnd then periodBoundary s else s

/-! ## Curtailment (R116) -/

/-- CURTAIL_EXPIRE (R116): the snapshot of the same instant still sees it (Table 4-4). -/
def execCurtailExpire (n dir : Nat) (s : State) : Out :=
  match s.cal.curtails.find? fun c => decide (c.1 = n ∧ c.2.1 = dir) with
  | none => .next s
  | some c => match c.2.2.2 with
    | none => .next s
    | some t => .next (if t ≤ s.now then dropCurtail n dir (afterSnapshot s) else s)

/-- NODE_CURTAIL (R116): one lowered, or set below the grant, discards the blocks held ahead (Table 5-3). -/
def nodeCurtailOf (q : Req) (s : State) : Reply :=
  let n := q.idx
  let dir := q.w 1
  let s := afterSnapshot s
  let old := s.curtailOf n dir
  let r := res [(0, 4, ((old.getD 0xFFFFFFFF : Nat) : Int))]
  if 1 < dir then rej 0x0108 s
  else if q.w 0 = 0xFFFFFFFF then .done 0 r (dropCurtail n dir s)
  else if old.isNone ∧ 64 ≤ s.cal.curtails.length then rej 0x0501 s
  else
    let till := if q.w 2 = 0 then none else some (s.now + 1000 * q.w 2)
    let t := dropCurtail n dir s
    let t : State := { t with cal := { t.cal with curtails := t.cal.curtails ++ [(n, dir, q.w 0, till)] } }
    let g := s.grantOf n
    let below := if dir = 0 then decide ((q.w 0 : Int) < g) else decide ((q.w 0 : Int) < -g)
    let lower := match old with
      | none => false
      | some x => decide (q.w 0 < x)
    .done 0 r (if below || lower then t.drain else t)
def execNodeCurtail (c : Cmd) (s : State) : Out := host (line 0x0408 .A [3] 1 3) c nodeCurtailOf s

/-! ## The grant check (R143) -/

/-- Bounds of an output's current, mA, with the grants they come from: (lower, its grant, upper, its grant). -/
def State.allowance (s : State) (o : Nat) : Rat × Int × Rat × Int :=
  let x := s.output o
  let v : Rat := max ((x.volts : Rat) / 10) 150
  let band := fun (g : Int) => |(g : Rat) * 1000 / v| * (fld (s.blk 2) 12 2 : Rat) / 1000 + (fld (s.blk 2) 16 4 : Rat)
  let old := (x.older.filter fun e => decide (s.now < e.2)).map (·.1)
  let gu := old.foldl max x.grant
  let gl := old.foldl min x.grant
  let upper := max ((gu : Rat) * 1000 / v) 0 + band gu
  let lower := if s.outBidir o then min ((gl : Rat) * 1000 / v) 0 - band gl else -(band gu)
  (lower, gl, upper, gu)

/-- GRANT_EXCEEDED: outside for GCHK_TIME: emergency safe state and a transient output fault. -/
def execGrantExceeded (o : Nat) (s : State) : Out :=
  let x := s.output o
  if s.outFitted o = false ∨ x.safe ≠ 0 ∨ x.fixed.contains 3 ∨
      s.past x.outside (1000 * s.cfgD 2 20 4 20) = false then .next s
  else
    let a := s.allowance o
    let high := decide (a.2.2.1 < (x.amps : Rat))
    let r := res [(0, 1, o), (4, 4, if high then a.2.2.2 else a.2.1), (8, 4, x.amps),
      (12, 4, if high then a.2.2.1.floor else a.1.floor)]
    let s := judge (addFixed [o] 3 (s.event 4 0x0A30 r))
    .next (outputFault o 0x0A30 false s)

/-! ## Commands (Table 5-10) -/

/-- ALLOC_STATUS. -/
def allocStatusOf (q : Req) (s : State) : Reply :=
  let c := s.cal
  let r := res [(0, 4, c.period), (4, 2, c.lastSolve), (6, 2, c.maxSolve), (8, 4, c.overruns), (12, 2, sat 16 c.drains),
    (14, 1, s.ahead), (15, 1, bit c.aligned + 2 * bit c.restored + 4 * bit c.rampOver)]
  .done 0 r (if tst (q.w 0) 0 then { s with cal := { c with maxSolve := 0, overruns := 0, drains := 0 } } else s)
def execAllocStatus (c : Cmd) (s : State) : Out := host (line 0x0410 .R [0] 0 1) c allocStatusOf s

/-- SNAPSHOT_SAVE: the state is copied at the next period boundary. Without a buffer it is refused (log entry 109). -/
def snapshotSaveOf (q : Req) (s : State) : Reply := match q.buf with
  | none => rej 0x0108 s
  | some b => .live false [(b.addr : Int), (b.len : Int), (bit b.fails : Nat)] s
def execSnapshotSave (c : Cmd) (s : State) : Out := host (line 0x0411 .R [0] 4 4) c snapshotSaveOf s

/-- SNAPSHOT_RESTORE: the checks of R139 that come before its commit point. Without a buffer it is refused (log entry 109). -/
def snapshotRestoreOf (q : Req) (s : State) : Reply := match q.buf with
  | none => rej 0x0108 s
  | some b =>
    if s.clk.timeValid = false then rej 0x0311 s
    else if s.cal.restored ∨ s.past s.clk.firstValid 300000001 then rej 0x0330 s
    else if (snapParse b.data).isNone then rej 0x0130 s
    else if snapCheck b.data = false then rej 0x0101 (s.checkFault 4 0)
    else .live false (b.data.map fun x => (x.toNat : Int)) s
def execSnapshotRestore (c : Cmd) (s : State) : Out :=
  host { line 0x0412 .A [3] 4 4 with bufIn := true, handleOk := fun q _ => decide (q.idx = 0) } c snapshotRestoreOf s

/-- SENSOR_STATE; of a sensor that never read validly, [6–9] is the uptime (log entry 110). -/
def sensorStateOf (q : Req) (s : State) : Reply :=
  let m := s.ep.cfg.node q.idx
  let v := tget (s.node q.idx).sensors (q.w 0) {}
  if 4 < q.w 0 then rej 0x0108 s
  else if nTherm m = false then rej 0x0301 s
  else if nodeSensor m (q.w 0) / 4096 = 0 then reads s [(10, 4, (worstRate m).floor)]
  else reads s [(0, 1, v.state), (2, 2, v.lastValid.floor), (4, 2, v.value.floor), (6, 4, ((s.now - v.lastTime) / 1000 : Nat)),
    (10, 4, (worstRate m).floor)]
def execSensorState (c : Cmd) (s : State) : Out := host (line 0x0413 .R [3] 1 1) c sensorStateOf s

/-- WINDOW_READ. -/
def windowReadOf (q : Req) (s : State) : Reply :=
  let m := s.ep.cfg.node q.idx
  if nWindow m = false then rej 0x0301 s
  else reads s [(0, 8, (s.eWin q.idx).floor), (8, 4, (s.node q.idx).winCap), (12, 4, (windowAvg m).floor)]
def execWindowRead (c : Cmd) (s : State) : Out := host (line 0x0414 .R [3] 0 0) c windowReadOf s

end Sys2Proof.Machine
end

