-- ==== Sys2Proof/Machine/Meter.lean ====
section
/-! DEFINITION. Legal metrology (chapter 11): samples and registers of the eighteen points, reads and captures, meter
records, saves and gaps, what each sample means to the safety island and the outputs, and the commands of Table 11-11. -/

namespace Sys2Proof.Machine

/-! ## The metrology block -/

/-- Field of a point entry (Table 11-2). -/
def State.ptFld (s : State) (p off n : Nat) : Nat := fld (s.blk 6) (32 + 32 * p + off) n
/-- Field of a channel entry (Table 11-3). -/
def State.chFld (s : State) (c off n : Nat) : Nat := fld (s.blk 6) (608 + 16 * c + off) n
def State.ptKind (s : State) (p : Nat) : Nat := s.ptFld p 0 1
def State.ptComp (s : State) (p : Nat) : Bool := tst (s.ptFld p 1 1) 0
/-- P_FS × a time in µs as quanta, rounded up: a gap bound. -/
def State.gapBound (s : State) (p us : Nat) : Nat := (s.ptFld p 16 4 * us * 65536 + 3599999999) / 3600000000
/-- MDAT channels of a point: voltages, currents. -/
def State.ptChans (s : State) (p : Nat) : List Nat :=
  let k := if s.ptKind p = 2 then 3 else if s.ptKind p = 1 then 1 else 0
  (((upTo k).map fun i => s.ptFld p (2 + i) 1) ++ ((upTo k).map fun i => s.ptFld p (5 + i) 1)).filter (· < 48)

/-- Largest magnitude of the metrology filter's output: a sinc³ of ratio 250 over ±1 bits (R274; log entry 29). -/
def fullScale : Nat := 15625000

/-- A channel's calibrated value, exact (R276). -/
def State.calibrated (s : State) (c : Nat) (codes : List Int) : Rat :=
  fVal (ffld (s.blk 6) (608 + 16 * c + 4)) * (codes.getD c 0 : Rat) + fVal (ffld (s.blk 6) (608 + 16 * c + 8))

/-- Square root to 2⁻³², rounded down. -/
def ratSqrt (q : Rat) : Rat := if q ≤ 0 then 0 else (Nat.sqrt (q * 18446744073709551616).floor.toNat : Rat) / 4294967296

/-! ## Channel faults (R279) -/

/-- One channel at a sample: its fault kind (0 none, 1 no transitions, 2 full scale) and full-scale run. -/
def stepChannel (codes : List Int) (quiet : BitVec 48) (c : Nat) (s : State) : State :=
  let run := if fullScale ≤ (codes.getD c 0).natAbs then tget s.metro.fullScale c 0 + 1 else 0
  let f := if quiet.getLsbD c then 1 else if 3 ≤ run then 2 else 0
  { s with metro := { s.metro with
    fullScale := tset s.metro.fullScale c run, chanFault := tset s.metro.chanFault c f } }

/-- The first faulted channel of a point. -/
def State.badChannel (s : State) (p : Nat) : Option (Nat × Nat) :=
  (s.ptChans p).findSome? fun c =>
    let f := tget s.metro.chanFault c 0
    if f = 0 then none else some (c, f)

/-- Sets flags of the open record of a point. -/
def markRecord (p : Nat) (flags : Half) (s : State) : State :=
  s.editRec p fun r => if r.stage = 1 then { r with flags := r.flags ||| flags } else r

/-- The point's channels are judged: faulted, or valid again from the third valid sample. -/
def stepFault (p : Nat) (s : State) : State :=
  let v := s.point p
  match s.badChannel p with
  | some (c, f) =>
    let s := s.setPoint p { v with faulted := true, validRun := 0, valid := false }
    if v.faulted then s else s.event 8 0x0910 (res [(0, 1, p), (1, 1, c), (2, 1, f)])
  | none =>
    if v.faulted then
      if v.validRun + 1 < 3 then s.setPoint p { v with validRun := v.validRun + 1, valid := false }
      else s.setPoint p { v with faulted := false, validRun := 0, valid := true }
    else s.setPoint p { v with valid := true }

/-- The shunt temperature that a point with SHUNT_TC uses: the last valid one while its reading fails. -/
def stepShunt (p : Nat) (s : State) : State :=
  if tst (s.ptFld p 1 1) 1 = false ∨ s.ptKind p ≠ 1 then s
  else
    let v := s.point p
    let a := s.ainCh (s.ptFld p 20 1)
    if a.standing = 1 then s.setPoint p { v with shuntTemp := (a.temp : Rat) / 10, tempFault := false }
    else if a.standing = 0 ∨ v.tempFault then s
    else (s.setPoint p { v with tempFault := true }).event 8 0x0910
      (res [(0, 1, p), (1, 1, (0x80 + s.ptFld p 20 1 : Nat)), (2, 1, 3)])

/-! ## Samples (R276, R277) -/

/-- A DC point's sample. -/
def sampleDc (p : Nat) (codes : List Int) (s : State) : State :=
  let x := s.point p
  let v := s.calibrated (s.ptFld p 2 1) codes
  let i := s.calibrated (s.ptFld p 5 1) codes
  let tc : Rat := (signed 4 (s.ptFld p 24 4) : Rat) / 100000000
  let tref : Rat := (signed 2 (s.ptFld p 28 2) : Rat) / 10
  let i := if tst (s.ptFld p 1 1) 1 then i / (1 + tc * (x.shuntTemp - tref)) else i
  let w := v * i - (if s.ptComp p then i * i * (s.ptFld p 8 4 : Rat) / 1000000 else 0)
  s.setPoint p { x with volts := v, amps := i, power := w }

/-- Positions in a newest-first history at which L1 crosses zero upward. -/
def crossings (l : List (List Rat)) : List Nat :=
  (upTo (l.length - 1)).filter fun j => decide (0 ≤ (l.getD j []).headD 0 ∧ (l.getD (j + 1) []).headD 0 < 0)

/-- The fundamental period in samples (R277; log entry 30): between the last two crossings of L1 in 45 to 65 Hz, else
1/F_NOM. -/
def State.acPeriod (s : State) (l : List (List Rat)) : Nat :=
  let nom := if fld (s.blk 6) 2 1 = 60 then 160 else 192
  match crossings l with
  | a :: b :: _ => if 148 ≤ b - a ∧ b - a ≤ 213 then b - a else nom
  | _ => nom

/-- Mean of a list. -/
def mean (l : List Rat) : Rat := if l = [] then 0 else l.foldl (· + ·) 0 / (l.length : Rat)

/-- RMS of column `k` over some samples. -/
def rms (l : List (List Rat)) (k : Nat) : Rat := ratSqrt (mean (l.map fun r => r.getD k 0 * r.getD k 0))

/-- An AC point's sample. -/
def sampleAc (p : Nat) (codes : List Int) (s : State) : State :=
  let x := s.point p
  let now := (upTo 6).map fun k => s.calibrated (s.ptFld p (2 + k) 1) codes
  let hist := (now :: x.acV).take 430
  let t := s.acPeriod hist
  let back := hist.getD (t / 4) []
  let pk := (upTo 3).foldl (fun a k => a + now.getD k 0 * now.getD (k + 3) 0) (0 : Rat)
  let qk := (upTo 3).foldl (fun a k => a + back.getD k 0 * now.getD (k + 3) 0) (0 : Rat)
  let ps := (pk :: x.acP).take 214
  let qs := (qk :: x.acQ).take 214
  let last := hist.take t
  s.setPoint p { x with
    acV := hist, acP := ps, acQ := qs, freq := if (crossings hist).length < 2 then 0 else 960000 / t,
    volts := rms last 0 + rms last 1 + rms last 2, amps := max (rms last 3) (max (rms last 4) (rms last 5)),
    power := mean (ps.take t) }

/-! ## Registers (R278, R280, R281) -/

/-- Adds an energy in 2⁻²⁴ quanta to a register: the new register, and whether LOST is set by it. -/
def addEnergy (r : Reg) (e : Nat) : Reg × Bool :=
  let t := r.residue + e
  let q := t / 16777216
  let b := r.billing + q
  let r := { r with residue := t % 16777216, total := r.total + q, billing := b % 281474976710656 }
  if b < 281474976710656 then (r, false)
  else if r.wraps < 15 then ({ r with wraps := r.wraps + 1 }, false)
  else ({ r with lost := true }, !r.lost)

/-- Energy of one sample of a power, in 2⁻²⁴ quanta, rounded down. -/
def sampleEnergy (w : Rat) : Nat := (|w| * 65536 * 16777216 / 34560000).floor.toNat

/-- Adds an energy to register `k` of a point; LOST is journalled and marks the open record (R281). -/
def addReg (p k e : Nat) (s : State) : State :=
  let v := s.point p
  let x := addEnergy (tget v.regs k {}) e
  let s := s.setPoint p { v with regs := tset v.regs k x.1 }
  if x.2 then (markRecord p 0x0006 s).report 8 0x0912 (handle 8 p) (res [(0, 1, p), (1, 1, k)]) else s

/-- Counts a valid sample of a point (R278). -/
def countSample (p : Nat) (s : State) : State :=
  let v := s.point p
  if |v.power| < (s.ptFld p 12 4 : Rat) then s
  else
    let out := decide (v.power < 0)
    let turn := v.counted && (out != v.exporting)
    let s := s.setPoint p { v with
      exporting := out, counted := true, revInt := if turn then v.revInt + 1 else v.revInt,
      revSession := if turn then v.revSession + 1 else v.revSession }
    let s := addReg p (if out then 1 else 0) (sampleEnergy v.power) s
    if s.ptKind p ≠ 2 then s
    else
      let q := mean (v.acQ.take (s.acPeriod v.acV))
      addReg p (if 0 < q then (if out then 3 else 2) else (if out then 4 else 5)) (sampleEnergy q) s

/-- The tree node bound to a point. -/
def State.pointNode (s : State) (p : Nat) : Option Nat := s.nodeOf (handle 8 p)

/-- A point's sample at the boundary: its channels, its energy, the window of its tree node (R130), its gap. Every sample with
a channel fault or a failed shunt temperature sets SAMPLE_FAULT in the open record (R279). -/
def stepPoint (codes : List Int) (p : Nat) (s : State) : State :=
  if s.ptKind p = 0 then s
  else
    let s := stepFault p (stepShunt p s)
    let s := if (s.point p).faulted ∨ (s.point p).tempFault then markRecord p 0x0402 s else s
    let s := if s.ptKind p = 2 then sampleAc p codes s else sampleDc p codes s
    if (s.point p).valid then
      let s := countSample p s
      match s.pointNode p with
      | none => s
      | some n =>
        let w := (s.point p).power
        let w := if nodeBidir (s.ep.cfg.node n) then w else max 0 w
        let x := s.node n
        if nWindow (s.ep.cfg.node n) then s.setNode n { x with metered := x.metered + w * 65536 / 34560000 } else s
    else s.editRec p fun r => if r.stage = 1 then { r with gap := r.gap + (s.ptFld p 16 4 * 65536 + 34559999) / 34560000 } else r

/-! ## Reads (R282) -/

/-- Wraps and LOST as a byte. -/
def Reg.wrapByte (r : Reg) : Nat := r.wraps + 16 * bit r.lost

/-- METRO_READ's RESULT. -/
def regRes (r : Reg) : Res := res [(0, 6, r.billing), (6, 1, r.wrapByte), (8, 8, r.total)]

/-- A read-and-reset of a point: the capture, then the new interval. -/
def readReset (p : Nat) (s : State) : State :=
  let v := s.point p
  let regs := (upTo 6).map fun k => tget v.regs k {}
  s.setPoint p { v with
    capture := some ⟨regs, v.revInt, s.time, v.capNo + 1⟩, capNo := v.capNo + 1, revInt := 0,
    regs := tmap (fun _ r => { r with billing := 0, wraps := 0, lost := false }) v.regs }

/-- Serves the pending reads of a point, and at most one read-and-reset; answers whether one was served. -/
def serveReads (p : Nat) (s : State) : Bool × State :=
  let h := handle 8 p
  let s := overL (s.liveOn 0x0801 h) (fun l t =>
    t.finish l 0 (regRes (tget (t.point p).regs ((l.params.headD 0).toNat) {}))) s
  match s.liveOn 0x0802 h with
  | [] => (false, s)
  | l :: _ =>
    if ownedAtCommit l s = false then (false, s.finish l 0x0202 0)
    else
      let i := tget (s.point p).regs 0 {}
      let e := tget (s.point p).regs 1 {}
      let s := readReset p s
      (true, s.finish l 0 (res [(0, 6, i.billing), (6, 1, i.wrapByte), (7, 1, e.wrapByte), (8, 6, e.billing),
        (14, 2, (s.point p).capNo)]))

/-! ## Meter records (R285 to R287) -/

/-- Totaliser of a register. -/
def State.total (s : State) (p k : Nat) : Nat := (tget (s.point p).regs k {}).total

/-- The record opens: read-and-reset, START readings, the session's reversal count (R285). -/
def openRecord (p : Nat) (s : State) : State :=
  let s := readReset p s
  let n := s.metro.nextRec
  let s := s.editRec p fun r => { r with
    recno := n, stage := 1, startTime := s.time, startImp := s.total p 0, startExp := s.total p 1, gap := 0,
    flags := if s.clk.timeValid then 0 else 0x40 }
  let s : State := { s with metro := { s.metro with nextRec := n + 1 } }
  s.setPoint p { s.point p with openDue := false, record := some n, revSession := 0 }

/-- The key slot holds a usable key (R391, R392). -/
def State.keyUsable (s : State) (k : Nat) : Bool := decide ((s.key k).state = 1)

/-- Firmware slot that runs. -/
def State.running (s : State) : FwSlot := s.fw s.boot.image

/-- KEY_STALE, raised once while closed records wait for their key (R392). -/
def staleRecord (s : State) : State :=
  if s.keyUsable (fld (s.blk 6) 4 1) ∨ s.trust.staleRaised then s
  else ({ s with trust := { s.trust with staleRaised := true } } : State).event 13 0x0703 (res [(0, 1, fld (s.blk 6) 4 1)])

/-- The flags of a record at its composition (Table 11-6). -/
def State.recFlags (s : State) (r : MRecord) : Half :=
  let set := fun (b : Bool) (k : Nat) => if b then 2 ^ k else 0
  let m := decide (s.boot.grade = 1)
  let f := r.flags.toNat ||| set (s.metro.sealed.isNone || !m) 0 ||| set (decide (r.startExp ≠ r.stopExp)) 7 |||
    set (tst (fld (s.blk 6) 3 1) 2) 8 ||| set s.metro.mismatch 11 ||| set (m && s.metro.sealed.isNone) 12
  BitVec.ofNat 16 (f ||| set ([2, 3, 9, 10, 11, 12].any fun k => tst f k) 1)

/-- The record closes with the readings given, and is composed (R285, R287). -/
def composeRecord (r : MRecord) (time imp exp rev : Nat) (flags : Half) (s : State) : MRecord :=
  let r := { r with
    stage := 2, stopTime := time, stopImp := imp, stopExp := exp, reversals := rev, epoch := s.boot.epoch,
    rCable := if s.ptComp r.point then s.ptFld r.point 8 4 else 0, flags := r.flags ||| flags, legal := s.running.legal,
    fw := s.boot.fwVersion }
  { r with flags := s.recFlags r }

/-- The record of a point closes at a sample boundary (R285). -/
def closeRecord (p : Nat) (s : State) : State :=
  let v := s.point p
  let s' := s.editRec p fun r =>
    if r.stage = 1 then composeRecord r s.time (s.total p 0) (s.total p 1) v.revSession (if s.clk.timeValid then 0 else 0x40) s
    else r
  staleRecord (s'.setPoint p { v with closeDue := false, record := none })

/-- Opens or closes a point's record at a boundary; a seat's read-and-reset at it comes first (R283, Table 11-9). -/
def stepRecord (p : Nat) (served : Bool) (s : State) : State :=
  let v := s.point p
  if v.openDue then (if served ∨ s.liveOn 0x0802 (handle 8 p) ≠ [] then s else openRecord p s)
  else if v.closeDue then closeRecord p s
  else s

/-- The 256 body bytes of a record (Table 11-5). -/
def MRecord.body (r : MRecord) (uid : Nat) (grade : Nat) : List Byte :=
  leBytes 0x4345524D 4 ++ leBytes 1 2 ++ leBytes r.flags.toNat 2 ++ leBytes r.recno 4 ++ leBytes r.point 1 ++
  leBytes r.conn 1 ++ leBytes r.proto 1 ++ leBytes r.ident 1 ++ leBytes uid 8 ++ leBytes r.sessionId.toNat 8 ++
  leBytes r.evccid.length 1 ++ leBytes 0 3 ++ (r.evccid ++ List.replicate 24 0).take 24 ++
  (r.emaid ++ List.replicate 24 0).take 24 ++ leBytes r.startTime 8 ++ leBytes r.stopTime 8 ++ leBytes r.startImp 8 ++
  leBytes r.stopImp 8 ++ leBytes r.startExp 8 ++ leBytes r.stopExp 8 ++ leBytes r.reversals 4 ++ leBytes r.rCable 4 ++
  leBytes r.gap 8 ++ leBytes r.epoch.toNat 4 ++ leBytes r.legal.toNat 32 ++
  leBytes (if grade = 1 then Config.typeExam else 0) 24 ++ leBytes r.fw.toNat 4 ++ leBytes 0 44

/-- A stored record's bytes. -/
def State.recBytes (s : State) (r : MRecord) : List Byte := r.body s.boot.uid.toNat s.boot.grade ++ r.signature

/-- The stored record of a number and point. -/
def State.stored (s : State) (recno p : Nat) : Option MRecord :=
  s.metro.records.find? fun r => decide (r.recno = recno ∧ r.point = p ∧ r.stage = 3)

/-- The signed record is stored: RECORD_CLOSED (R285). -/
def storeRecord (r : MRecord) (counter : Bool) (s : State) : State :=
  let f := s.fresh
  let sig := leBytes f.1 (2420 + if counter then 64 else 0)
  let s : State := { f.2 with
    metro := { f.2.metro with records := f.2.metro.records.map fun x =>
      if x.recno = r.recno ∧ x.stage = 2 then { x with stage := 3, signature := sig } else x },
    trust := { f.2.trust with staleRaised := false } }
  s.report 8 0x0090 (handle 8 r.point) (res [(0, 1, r.point), (1, 1, bit (!tst r.flags.toNat 1)),
    (2, 2, r.flags.toNat), (4, 4, r.recno), (8, 8, r.sessionId.toNat)])

/-- RECORD_SIGNED: the lowest waiting record, posted on Q60, is signed with KEY_ML, and KEY_EC where the flag asks; the result
comes back on Q61 and is stored through Q62 (R285). While firmware is in reset the result is discarded (Table 11-9); while
MRAM writes are gated, or random output has stopped (R405), the record waits. -/
def execRecordSigned (recno : Nat) (s : State) : Out :=
  match s.metro.records.find? fun r => decide (r.recno = recno ∧ r.stage = 2) with
  | none => .next s
  | some r =>
    let counter := tst r.flags.toNat 8
    if s.boot.coreReset ∨ s.gated ∨ s.trust.rngFault ≠ 0 ∨ s.keyUsable (fld (s.blk 6) 4 1) = false ∨
        (counter ∧ s.keyUsable (fld (s.blk 6) 5 1) = false) ∨
        s.metro.records.any (fun x => decide (x.stage = 2 ∧ x.recno < recno)) then .next s
    else
      .next (s.via 60 [(recno : Int)] fun s => s.via 61 [(recno : Int)] fun s => s.via 62 [(recno : Int)] (storeRecord r counter))

/-! ## Samples at the safety island and the output sequencer (R143, R328, R330, R337, R338) -/

/-- GCHK_TIME, µs. -/
def State.gchkTime (s : State) : Nat := 1000 * s.cfgD 2 20 4 20

/-- The current of an output's sample is outside its allowance: the grant's, or the ramp's in the normal safe state. -/
def State.outsideNow (s : State) (o : Nat) : Bool :=
  let x := s.output o
  if x.sampleOk = false then true
  else if x.safe = 1 then
    let left : Rat := ((50000 - (s.now - x.safeSince) : Nat) : Rat) / 50000
    let i := (x.safeAmps : Rat) * left
    let band := i * (fld (s.blk 2) 12 2 : Rat) / 1000 + (fld (s.blk 2) 16 4 : Rat)
    decide (i + band < (x.amps.natAbs : Rat))
  else
    let a := s.allowance o
    decide ((x.amps : Rat) < a.1 ∨ a.2.2.1 < (x.amps : Rat))

/-- A timer that runs while a condition holds. -/
def runTimer (s : State) (c : Bool) (t : Option Nat) : Option Nat := if c then some (t.getD s.now) else none

/-- An output's measured voltage and current follow its point's valid samples. -/
def measureOut (o : Nat) (s : State) : State :=
  let p := s.point o
  if p.valid then s.setOutput o { s.output o with volts := (p.volts * 10).floor, amps := rneInt (p.amps * 1000) } else s

/-- The output sequencer's part of a sample: the voltage within 1 % of its target (Table 7-4); below 10 % of it with the
current loop at I_SS (R186); contacts that may open or have settled. -/
def sequenceOut (o : Nat) (s : State) : State :=
  let x := s.output o
  let target : Nat := min x.vReq (10 * s.outFld o 10 2)
  let inBand := decide (x.state = 2 ∧ 100 * (x.volts - (target : Int)).natAbs ≤ target)
  let short := decide (x.state = 2 ∧ 10 * x.volts < (target : Int) ∧ x.control = 2 ∧ x.iLim = (s.outFld o 20 4 : Nat))
  let s := s.setOutput o { x with
    inBand := runTimer s inBand x.inBand, shortSince := runTimer s short x.shortSince }
  settleFixed o (contactsSettled o (tryOpen o s))

/-- The safety island's part of a sample, once it has taken the entry from Q40: the timers of the grant check and of R328,
the insulation test of R330, and what a safe state does at it. -/
def islandOut (o : Nat) (s : State) : State :=
  let valid := (s.point o).valid
  let s := s.setOutput o { s.output o with sampleOk := valid }
  let s := logIn 6 [(o : Int), (s.output o).volts, (s.output o).amps, (bit valid : Nat)] s
  let x := s.output o
  let broken := if x.sampleOk then s.limitBroken o else if (s.testLimits o).isSome then (x.limitSince.map (·.1)).getD 1 else 0
  let s := s.setOutput o { x with
    outside := runTimer s (s.outsideNow o) x.outside, invalidSince := runTimer s (!x.sampleOk) x.invalidSince,
    limitSince := if broken = 0 then none else match x.limitSince with
      | some (k, t) => some (if k = broken then k else broken, t)
      | none => some (broken, s.now) }
  let s := imdStep o s
  let x := s.output o
  let s := if x.safe = 2 ∧ x.safeOpened = false ∧ x.amps.natAbs < fld (s.blk 7) 8 4 then emergencyOpen o s else s
  if s.past x.invalidSince s.gchkTime ∧ x.fixed.contains 5 = false ∧ s.sup.mode ≠ 3 then judge (addFixed [o] 5 s) else s

/-- Every point counts the sample (R276 to R279). -/
def samplePoints (codes : List Int) (quiet : BitVec 48) (s : State) : State :=
  overL (upTo 18) (stepPoint codes) (overL (upTo 48) (stepChannel codes quiet) s)

/-- Reads are served and records open and close at the boundary, point by point (R283, R285). -/
def sampleReads (s : State) : State :=
  overL (upTo 18) (fun p t => if t.ptKind p = 0 then t else stepRecord p (serveReads p t).1 (serveReads p t).2) s

/-- Metered points. -/
def State.usedPoints (s : State) : List Nat := (upTo 18).filter fun p => decide (s.ptKind p ≠ 0)

/-- A point's sample as a queue entry: the point and whether it is valid (R279). -/
def State.sampleBody (s : State) (p : Nat) : List Int := [(p : Int), (bit (s.point p).valid : Nat)]

/-- The samples go to Q40 and Q41. The safety island judges an output's sample once it has taken the entry; an entry that
finds firmware in reset, or no credit, is dropped and counted (Table 1-2, R23). -/
def samplePosts (s : State) : State :=
  overL s.usedPoints (fun p t =>
    (t.via 40 (t.sampleBody p) fun t => if t.localOuts.contains p then islandOut p t else t).via 41 (t.sampleBody p) id) s

/-- A metering strobe (R298): the latest sample of the points of STROBE_MASK with its site time. -/
def meteringStrobe (s : State) : State :=
  overL ((upTo 18).filter fun p => tst (fld (s.blk 6) 8 4) p && decide (s.ptKind p ≠ 0)) (fun p t =>
    let v := t.point p
    let l1 := v.acV.headD []
    t.setPoint p { v with strobe := some (if t.ptKind p = 2 then (t.time, l1.getD 0 0, l1.getD 3 0) else (t.time, v.volts, v.amps)) }) s

/-! ## Saves (R288 to R291) -/

/-- The newest valid save, and whether it stands in slot B. -/
def State.newestSave (s : State) : Option (Save × Bool) :=
  match s.metro.saveA.filter (·.complete), s.metro.saveB.filter (·.complete) with
  | none, none => none
  | some a, none => some (a, false)
  | none, some b => some (b, true)
  | some a, some b => if a.generation < b.generation then some (b, true) else some (a, false)

/-- The metrology state is copied into the slot that does not hold the newest valid save (R288). -/
def storeSave (reason : Nat) (s : State) : State :=
  let m := s.metro
  let v : Save :=
    { generation := ((s.newestSave.map fun x => x.1.generation).getD 0 + 1) % 4294967296, time := s.time, reason := reason,
      points := m.points, records := m.records, nextRec := m.nextRec, complete := true }
  match s.newestSave with
  | some (_, false) => { s with metro := { m with saveB := some v } }
  | _ => { s with metro := { m with saveA := some v } }

/-- Writes a save with a reason through Q62; while writes are forbidden it is skipped and counted (R291). -/
def writeSave (reason : Nat) (s : State) : State :=
  let m := s.metro
  if s.gated then { s with metro := { m with skipped := m.skipped + 1, skippedNew := m.skippedNew + 1 } }
  else s.via 62 [(reason : Int)] (storeSave reason)

/-- The save that is due takes its snapshot at this sample boundary, after the reads of it (R289, R290, Table 11-9); without
a credit on Q62 it stays due. -/
def saveAtBoundary (s : State) : State := match s.metro.saveDue with
  | none => s
  | some r => if s.credits 62 = 0 then s else writeSave r { s with metro := { s.metro with saveDue := none } }

/-- A sample boundary has come: one every 625/6 µs, 250 MET clocks, from the release of PD7 (R274). -/
def State.boundaryNow (s : State) : Bool :=
  s.power.domains.getLsbD 7 && s.ep.loaded && decide (s.metro.sampleAt ≤ 6 * s.now)

/-- The boundary after this one. -/
def nextBoundary (s : State) : State :=
  { s with metro := { s.metro with sampleAt := s.metro.sampleAt + 625 * ((6 * s.now - s.metro.sampleAt) / 625 + 1) } }

/-- SAMPLE_BOUNDARY: every point counts, reads are served, records open and close, a save that is due takes its snapshot, then
the samples go to Q40 and Q41. `codes` are the outputs of the metrology filters after PHASE's interpolation, whose filter
the spec does not give (log entry 29). -/
def execSampleBoundary (codes : List Int) (quiet : BitVec 48) (s : State) : Out :=
  if s.boundaryNow = false then .next s
  else
    let s := nextBoundary s
    let s := overL s.localOuts measureOut (saveAtBoundary (sampleReads (samplePoints codes quiet s)))
    let s := overL s.localOuts sequenceOut (stallOver s (samplePosts s))
    .next (if s.serves 40 then judge s else s)

/-- Writes every totaliser to the anchor record. -/
def writeAnchor (s : State) : State :=
  if s.gated then s
  else { s with metro := { s.metro with
    anchorTime := s.now, anchor := (upTo 18).flatMap fun p => (upTo 6).map fun k => ((p, k), s.total p k) } }

/-- An orderly save before PD7 leaves (R288, R289). -/
def orderlySave (s : State) : State := writeAnchor (writeSave 2 s)

/-- Journals the saves skipped, once writes are permitted again (R291). -/
def noteSkipped (s : State) : State :=
  if s.metro.skippedNew = 0 ∨ s.gated then s
  else
    let s := s.note 13 (handle 0 0) (0 :: leBytes (sat 16 s.metro.skippedNew) 2)
    { s with metro := { s.metro with skippedNew := 0 } }

/-- Metrology and the MRAM writer run. -/
def State.metOn (s : State) : Bool := s.power.domains.getLsbD 7 && s.power.domains.getLsbD 4 && s.ep.loaded

/-- PERIODIC_SAVE: due at the next sample boundary (R289); dropped while a power-fail warning lasts (Table 11-9). -/
def execPeriodicSave (s : State) : Out :=
  if s.metOn = false ∨ s.after s.metro.saveTime (1000 * fld (s.blk 6) 0 2) = false then .next s
  else
    let s : State := { s with metro := { s.metro with saveTime := s.now } }
    .next (if s.metro.warning.isSome then s else { s with metro := { s.metro with saveDue := some (s.metro.saveDue.getD 0) } })

/-- TOTALISER_ANCHOR_WRITE: once per hour. -/
def execTotaliserAnchorWrite (s : State) : Out :=
  if s.metOn ∧ s.after s.metro.anchorTime 3600000000 then .next (writeAnchor s) else .next s

/-- POWER_FAIL_WARNING: from PFW_N, low for `held` µs, or from the internal comparator (R290). A periodic save in progress gives
way to the power-fail save, whose snapshot comes at the next sample boundary. -/
def execPowerFailWarning (external : Bool) (s : State) (held : Nat := 0) : Out :=
  let flags := fld (s.blk 6) 3 1
  if s.metOn = false ∨ (if external then tst flags 0 && decide (2 ≤ held) else tst flags 1) = false ∨
      s.metro.warning.isSome then .next s
  else
    let s := logIn 1 [1] { s with metro := { s.metro with
      warning := some s.now, warnInput := true, lastFail := s.now, saveDue := some 1 } }
    .next (judge (addFixed s.localOuts 6 s))

/-- POWER_FAIL_REPEAT_SAVE: every 2 ms while the warning stays asserted. -/
def execPowerFailRepeatSave (s : State) : Out :=
  if s.metro.warning.isSome ∧ s.metOn ∧ s.after s.metro.lastFail 2000 then
    .next { s with metro := { s.metro with lastFail := s.now, saveDue := some 1 } }
  else .next s

/-- POWER_FAIL_WITHDRAWN: the warning has been clear for `clear` µs, which must be 10 ms (R290). -/
def execPowerFailWithdrawn (s : State) (clear : Nat := 0) : Out :=
  match s.metro.warning with
  | none => .next s
  | some t =>
    if clear < 10000 ∨ s.after t clear = false then .next s
    else
      let s := s.note 14 (handle 0 0) (0 :: leBytes (sat 32 (s.now - t)) 4)
      let s := logIn 1 [0] { s with metro := { s.metro with warning := none, warnInput := false } }
      .next (judge (dropFixed s.localOuts 6 s))

/-! ## Restart (R292) -/

/-- A point as it restarts: registers, counters and captures restored, everything of the running sample cleared. -/
def restartPoint (v : Point) : Point :=
  { v with
    volts := 0, amps := 0, power := 0, valid := true, faulted := false, validRun := 0, tempFault := false, acP := [],
    acQ := [], acV := [], freq := 0, openDue := false, closeDue := false, record := none, strobe := none }

/-- The records of the store that a restart finds: those closed or stored. -/
def State.keptRecords (s : State) : List MRecord := s.metro.records.filter fun r => decide (2 ≤ r.stage)

/-- A point's newest STOP reading in the store. -/
def State.lastStop (s : State) (p k : Nat) : Nat :=
  match (s.keptRecords.filter fun r => decide (r.point = p)).getLast? with
  | none => 0
  | some r => if k = 0 then r.stopImp else if k = 1 then r.stopExp else 0

/-- Raises and journals METRO_GAP: the event's fields, and one entry per point with its bound in six bytes (log entry 32). -/
def metroGap (reason : Nat) (time : Nat) (bound : Nat → Option Nat) (s : State) : State :=
  let s := s.event 8 0x0913 (res [(0, 1, reason), (4, 8, time), (12, 4, maskOf s.usedPoints)])
  overL s.usedPoints (fun p t => t.jot 0x0913 (handle 8 p) (leBytes (sat 48 ((bound p).getD (2 ^ 48))) 6)) s

/-- Adds a gap to the points' lists. -/
def pushGaps (time : Nat) (bound : Nat → Option Nat) (s : State) : State :=
  overL s.usedPoints (fun p t => t.setPoint p { t.point p with gaps := (time, bound p) :: (t.point p).gaps }) s

/-- Metrology's restart from its newest valid save (Table 11-8). -/
def metroRestart (s : State) : State :=
  let kept := s.keptRecords
  let clear := fun (t : State) => { t with metro := { t.metro with
    warning := none, warnInput := false, saveTime := t.now, fullScale := [], chanFault := [], fullRaised := false,
    lowRaised := false, gapPending := none, saveDue := none } }
  match s.newestSave with
  | none =>
    let old := s.metro
    let s : State := { s with metro := { old with
      records := kept, points := [], nextRec := max old.nextRec ((kept.map fun r => r.recno + 1).foldl max 1) } }
    let s := overL (upTo 18) (fun p t => t.setPoint p { (t.point p : Point) with
      regs := (upTo 6).map fun k => (k, ({ total := max ((aget old.anchor (p, k)).getD 0) (t.lastStop p k) } : Reg)) }) s
    let f := s.fresh
    metroGap (f.1 % 256) f.2.time (fun _ => none) (pushGaps f.2.time (fun _ => none) (clear f.2))
  | some (v, _) =>
    let bound : Nat → Option Nat := fun p =>
      if v.reason = 1 then some (s.gapBound p 4000)
      else if v.reason = 2 then some 0
      else if v.reason = 0 then some (s.gapBound p (1000 * fld (s.blk 6) 0 2 + 2000))
      else none
    let flag : Half := if v.reason = 1 then 0x10 else if v.reason = 2 then 0 else 0x0A
    let open' := v.records.filter fun r => decide (r.stage = 1) && !kept.any fun k => decide (k.recno = r.recno)
    let s : State := { s with metro := { s.metro with
      points := tmap (fun _ x => restartPoint x) v.points,
      nextRec := max v.nextRec ((kept.map fun r => r.recno + 1).foldl max 1) } }
    let closed := open'.map fun r =>
      composeRecord { r with gap := r.gap + (bound r.point).getD 0 } v.time (s.total r.point 0) (s.total r.point 1)
        (s.point r.point).revSession flag s
    let s := clear { s with metro := { s.metro with records := kept ++ closed } }
    if v.reason = 1 ∨ v.reason = 2 then (if v.reason = 1 then pushGaps v.time bound s else s)
    else
      let s := metroGap v.reason v.time bound (pushGaps v.time bound s)
      if v.reason = 3 then { s with metro := { s.metro with gapPending := some v.time } } else s

/-- The bound of a gate entry's gap, once site time is valid (Table 11-8). -/
def gapResolve (s : State) : State :=
  match s.metro.gapPending with
  | none => s
  | some t =>
    if s.clk.timeValid = false then s
    else
      let bound : Nat → Option Nat := fun p => some (s.gapBound p (s.clk.tai - t))
      let s := overL s.usedPoints (fun p u =>
        let v := u.point p
        match v.gaps with
        | [] => u
        | g :: r => u.setPoint p { v with gaps := (g.1, bound p) :: r }) s
      metroGap 3 t bound { s with metro := { s.metro with gapPending := none } }

/-! ## Commands (Table 11-11) -/

/-- METRO_STATUS. -/
def metroStatusOf (q : Req) (s : State) : Reply :=
  let v := s.point q.idx
  let k := s.ptKind q.idx
  let last := v.acV.take (s.acPeriod v.acV)
  let volts : Int := if k = 2 then (max (rms last 0) (max (rms last 1) (rms last 2)) * 10).floor else (v.volts * 10).floor
  let bits := bit v.faulted + 2 * bit (s.metro.records.any fun r => decide (r.point = q.idx ∧ r.stage = 1)) +
    4 * bit (v.regs.any fun r => r.2.lost) + 8 * bit v.exporting + 16 * bit (s.ptComp q.idx)
  if k = 0 then reads s []
  else reads s [(0, 1, k), (1, 1, bits), (2, 2, sat 16 v.revInt), (4, 2, volts), (6, 2, v.freq), (8, 4, rneInt (v.amps * 1000)),
    (12, 4, rneInt v.power)]
def execMetroStatus (c : Cmd) (s : State) : Out := host (line 0x0800 .R [8] 0 0) c metroStatusOf s

/-- Registers that a point's KIND has. -/
def State.regCount (s : State) (p : Nat) : Nat := if s.ptKind p = 1 then 2 else if s.ptKind p = 2 then 6 else 0

/-- METRO_READ. -/
def metroReadOf (q : Req) (s : State) : Reply := if s.regCount q.idx ≤ q.w 0 then rej 0x0108 s else .live false [] s
def execMetroRead (c : Cmd) (s : State) : Out := host (line 0x0801 .R [8] 1 1) c metroReadOf s

/-- METRO_READ_RESET; a point without a KIND refuses it (log entry 117): the session service owns it while a session is open on the point (R283). -/
def metroReadResetOf (q : Req) (s : State) : Reply :=
  if s.ptKind q.idx = 0 ∨ (s.pointRec q.idx).isSome then rej 0x0301 s else .live false [] s
def execMetroReadReset (c : Cmd) (s : State) : Out := host (line 0x0802 .A [8] 0 0) c metroReadResetOf s

/-- METRO_CAPTURE_READ. -/
def metroCaptureReadOf (q : Req) (s : State) : Reply :=
  if q.w 0 ≠ 6 ∧ s.regCount q.idx ≤ q.w 0 then rej 0x0108 s
  else match (s.point q.idx).capture with
    | none => rej 0x0391 s
    | some c =>
      if q.w 0 = 6 then reads s [(0, 8, c.time), (8, 4, c.reversals), (12, 4, c.number)]
      else .done 0 (regRes (c.regs.getD (q.w 0) {})) s
def execMetroCaptureRead (c : Cmd) (s : State) : Out := host (line 0x0803 .R [8] 1 1) c metroCaptureReadOf s

/-- METER_RECORD_LIST. -/
def meterRecordListOf (_ : Req) (s : State) : Reply :=
  let l := (s.metro.records.filter fun r => decide (r.stage = 3)).map (·.recno)
  reads s [(0, 4, ((l.foldl min (l.headD 0) : Nat) : Int)), (4, 4, ((l.foldl max 0 : Nat) : Int)), (8, 2, l.length),
    (10, 2, s.recFree)]
def execMeterRecordList (c : Cmd) (s : State) : Out := host (line 0x0804 .R [0] 0 0) c meterRecordListOf s

/-- A stored record whose check is found wrong as it is read is counted, marked damaged and returned with NOT_BILLABLE
(Table 19-5). -/
def markDamaged (recno p : Nat) (s : State) : State :=
  if (s.stored recno p).isNone then s
  else ({ s with metro := { s.metro with records := s.metro.records.map fun r =>
    if r.recno = recno ∧ r.point = p ∧ r.stage = 3 then { r with damaged := true, flags := r.flags ||| 2 } else r } }
    : State).checkFault 7 recno

/-- METER_RECORD_READ. -/
def meterRecordReadOf (q : Req) (s : State) : Reply :=
  let s := if q.mram then markDamaged (if q.buf.isSome then q.w 4 else q.w 0) q.idx s else s
  if q.buf.isSome then
    match s.stored (q.w 4) q.idx with
    | none => rej 0x0390 s
    | some r => match writeBuf q (s.recBytes r) s with
      | .error st => rej st s
      | .ok t => .done 0 (res [(0, 4, (s.recBytes r).length), (4, 2, r.flags.toNat)]) t
  else if q.w 1 % 16 ≠ 0 ∨ 2736 < q.w 1 then rej 0x0108 s
  else match s.stored (q.w 0) q.idx with
    | none => rej 0x0390 s
    | some r => .done 0 (resBytes (((s.recBytes r).drop (q.w 1)).take 16)) s
def execMeterRecordRead (c : Cmd) (s : State) : Out :=
  host { line 0x0805 .R [8] 2 2 with loB := 5, hiB := 5 } c meterRecordReadOf s

/-- METER_RECORD_ACK. -/
def meterRecordAckOf (q : Req) (s : State) : Reply :=
  match s.stored (q.w 0) q.idx with
  | none => rej 0x0390 s
  | some _ =>
    let t := recFreed { s with metro := { s.metro with
      records := s.metro.records.filter fun r => decide (¬ (r.recno = q.w 0 ∧ r.point = q.idx ∧ r.stage = 3)) } }
    .done 0 (res [(0, 2, t.recFree)]) t
def execMeterRecordAck (c : Cmd) (s : State) : Out := host (line 0x0806 .A [8] 1 1) c meterRecordAckOf s

/-- The byte at an offset of the metrology block is marked L (Tables 11-2, 11-3). -/
def legalByte (b : Nat) : Bool :=
  if b < 32 then false
  else if b < 608 then
    let o := (b - 32) % 32
    decide (¬ (21 ≤ o ∧ o ≤ 23) ∧ o < 30)
  else decide (b < 1376)

/-- METRO_CONFIG_SET; a sealed device's refusal is journalled (R5). -/
def metroConfigSetOf (q : Req) (s : State) : Reply :=
  if s.boot.grade = 1 ∧ s.metro.sealed.isSome ∧ q.w 0 % 4 = 0 ∧ q.w 0 ≤ 1372 ∧ 1 ≤ q.w 1 ∧ q.w 1 ≤ 10 ∧
      (upTo (4 * q.w 1)).any (fun i => legalByte (q.w 0 + i)) ∧ q.w 0 + 4 * q.w 1 ≤ 1376 ∧ 2 + q.w 1 ≤ q.params.length
  then rej 0x0901 (s.jotSealed 0x0901 0x0807 (handle 0 0))
  else configSet 6 0 1372 q s
def execMetroConfigSet (c : Cmd) (s : State) : Out := host (line 0x0807 .C [0] 3 12) c metroConfigSetOf s

/-- The L fields of a metrology block, in order. -/
def legalSet (m : Mem) : List Byte := ((upTo 1376).filter legalByte).map fun b => mget m b

/-- The overlay holds a metrology change. -/
def State.metroPending (s : State) : Bool := s.ep.overlay.any fun e => match e.1 with
  | .bytes 1 6 _ _ => true
  | _ => false

/-- METRO_SEAL (R293, R294); a second one's refusal is journalled (R5). -/
def metroSealOf (_ : Req) (s : State) : Reply :=
  let l := legalSet (s.blk 6)
  if s.boot.grade ≠ 1 then rej 0x0301 s
  else if s.metro.sealed.isSome then rej 0x0901 (s.jotSealed 0x0901 0x0808 (handle 0 0))
  else if s.metro.records.any (fun r => decide (r.stage = 1)) ∨ s.metroPending ∨ s.ep.phase = 3 then rej 0x0301 s
  else .done 0 ((Config.sha3 l).setWidth 128)
    { s with metro := { s.metro with sealed := some (l, s.running.legal) } }
def execMetroSeal (c : Cmd) (s : State) : Out := host (line 0x0808 .C [0] 0 0) c metroSealOf s

/-- METRO_SAVE_STATUS. -/
def metroSaveStatusOf (_ : Req) (s : State) : Reply :=
  let skip : Nat × Nat × Int := (14, 2, sat 16 s.metro.skipped)
  match s.newestSave with
  | none => reads s [skip]
  | some (v, b) => reads s [(0, 4, v.generation), (4, 8, v.time), (12, 1, bit b), (13, 1, v.reason), skip]
def execMetroSaveStatus (c : Cmd) (s : State) : Out := host (line 0x0809 .R [0] 0 0) c metroSaveStatusOf s

/-- METRO_GAP_READ; a place beyond the list is refused (log entry 118). -/
def metroGapReadOf (q : Req) (s : State) : Reply :=
  match (s.point q.idx).gaps[q.w 0]? with
  | none => rej 0x0108 s
  | some (t, b) => reads s [(0, 8, t), (8, 8, ((b.getD 0xFFFFFFFFFFFFFFFF : Nat) : Int))]
def execMetroGapRead (c : Cmd) (s : State) : Out := host (line 0x080A .R [8] 1 1) c metroGapReadOf s

/-- METRO_STROBE_READ. -/
def metroStrobeReadOf (q : Req) (s : State) : Reply :=
  match (s.point q.idx).strobe with
  | none => reads s []
  | some (t, v, i) => reads s [(0, 8, t), (8, 4, (v * 100).floor), (12, 4, rneInt (i * 1000))]
def execMetroStrobeRead (c : Cmd) (s : State) : Out := host (line 0x080B .R [8] 0 0) c metroStrobeReadOf s

end Sys2Proof.Machine
end

