-- ==== Sys2Proof/Machine/Image.lean ====
section
/-! DEFINITION. The site image (chapter 03): its header and records (R75 to R77), the digests of R84 and R85, the ranges
that each chapter gives the fields of its block (R345 and its fellows, R478), and the rules between blocks. -/

namespace Sys2Proof.Machine

/-! ## Record lengths -/

/-- BODYLEN of a block; block 1 has the length that its record gives. -/
def SiteCfg.blockLen (c : SiteCfg) (k : Nat) : Nat :=
  if k = 1 then c.seatsLen
  else [16, 0, 32, 16400, 1296, 656, 1376, 2784, 528, 528, 272, 400, 208, 528, 96, 528].getD k 0

/-- BODYLEN of a field node record (R358). -/
def fieldLen (m : Mem) : Nat := 32 + (fld m 8 2 + 3) / 4 * 4

/-- Body and BODYLEN of a record: kind 1 block, 2 tree node, 3 field node. -/
def SiteCfg.body (c : SiteCfg) (kind i : Nat) : List Byte :=
  if kind = 1 then mbytes (tget c.blocks i []) 0 (c.blockLen i)
  else if kind = 2 then mbytes (c.node i) 0 88
  else let m := (aget c.fields i).getD []; mbytes m 0 (fieldLen m)

/-- A record: header and body (R76). -/
def SiteCfg.record (c : SiteCfg) (kind i : Nat) : List Byte :=
  let b := c.body kind i
  leBytes kind 2 ++ leBytes i 2 ++ leBytes b.length 4 ++ b

/-! ## Digests (R84, R85) -/

/-- The 32 bytes of a digest. -/
def digestBytes (d : Digest) : List Byte := leBytes d.toNat 32

/-- Own digest of a unit. -/
def SiteCfg.own (c : SiteCfg) (kind i : Nat) : Digest := Config.sha3 (c.record kind i)

/-- Own digest of the device: header bytes 16 to 35. -/
def SiteCfg.ownDevice (c : SiteCfg) : Digest :=
  Config.sha3 (leBytes c.uid.toNat 8 ++ leBytes c.minFw.toNat 4 ++ leBytes 16 2 ++ leBytes c.nodes.length 2 ++
    leBytes c.fields.length 2 ++ leBytes 0 2)

/-- Field nodes that serve a tree node, in ascending number. -/
def SiteCfg.serving (c : SiteCfg) (n : Nat) : List Nat :=
  (c.fields.filter fun e => decide (fld e.2 2 2 = n)).map (·.1)

/-- Group digest of a tree node over given own digests; a tree is at most 17 levels deep (R101). -/
def SiteCfg.group (c : SiteCfg) (own : Nat → Nat → Digest) (fuel n : Nat) : Digest :=
  match fuel with
  | 0 => Config.sha3 (digestBytes (own 2 n))
  | k + 1 => Config.sha3 (digestBytes (own 2 n) ++ (c.children n).flatMap (fun x => digestBytes (c.group own k x)) ++
      (c.serving n).flatMap fun f => digestBytes (own 3 f))

/-- Root digest over given own digests. -/
def SiteCfg.rootOf (c : SiteCfg) (own : Nat → Nat → Digest) : Digest :=
  Config.sha3 (digestBytes c.ownDevice ++ (upTo 16).flatMap (fun b => digestBytes (own 1 b)) ++
    digestBytes (c.group own 17 0))

/-- The units of a configuration, by kind and index. -/
def SiteCfg.units (c : SiteCfg) : List (Nat × Nat) :=
  (upTo 16).map (fun b => (1, b)) ++ c.nodes.map (fun e => (2, e.1)) ++ c.fields.map fun e => (3, e.1)

/-- Intended digests of every unit. -/
def SiteCfg.digests (c : SiteCfg) : List ((Nat × Nat) × Digest) := c.units.map fun u => (u, c.own u.1 u.2)

/-! ## Field ranges -/

/-- A field and its range: offset, size, least and largest value. -/
abbrev Span := Nat × Nat × Nat × Nat

/-- A field of an entry at `base` lies outside its range; `free` admits 0 as well (R478). -/
def outside (m : Mem) (base : Nat) (free : Bool) (l : List Span) : Bool :=
  l.any fun f =>
    let v := fld m (base + f.1) f.2.1
    !(free && decide (v = 0)) && decide (v < f.2.2.1 ∨ f.2.2.2 < v)

/-- A rsvd field of an entry at `base` is not 0: offsets and sizes (R77). -/
def rsvdSet (m : Mem) (base : Nat) (l : List (Nat × Nat)) : Bool := l.any fun f => decide (fld m (base + f.1) f.2 ≠ 0)

/-- A byte of an entry is neither within 0 to `hi` nor 0xFF. -/
def noneOr (m : Mem) (off hi : Nat) : Bool := decide (hi < fld m off 1 ∧ fld m off 1 ≠ 0xFF)

/-- Bits from `k` up of a byte are set. -/
def highBits (m : Mem) (off k : Nat) : Bool := decide (2 ^ k ≤ fld m off 1)

/-- Some binary32 field of an entry is not finite. -/
def infinite (m : Mem) (base : Nat) (l : List Nat) : Bool := l.any fun o => !fFinite (ffld m (base + o))

/-- The fields of Tables 3-3 and 5-1 (R80, R120). -/
def range0 (m : Mem) : Bool := outside m 0 false [(0, 1, 1, 4), (1, 1, 0, 127), (2, 2, 50, 10000), (4, 4, 10000, 3600000)]
def range2 (m : Mem) : Bool :=
  outside m 0 false [(0, 4, 250, 100000), (4, 1, 0, 2), (6, 2, 60, 3600), (8, 4, 1000, 600000), (12, 2, 0, 500),
    (16, 4, 0, 100000), (20, 4, 1, 1000)] || decide (fld m 0 4 % 250 ≠ 0)

/-- Every seat and queue keeps the rules of R18, R48, R65, Table 1-2 and Table 19-2. -/
def seatsBad (b : SeatsBlock) : Bool :=
  let seats : List SeatCfg := b.seats.map (·.2)
  let qs : List QueueDef := seats.flatMap (·.queues)
  let count := fun (t : Nat) => (seats.filter fun x => decide (x.transport = t)).length
  b.seats.any (fun e => decide (7 < e.1)) ||
  !decide (qs.map (·.qnum)).Nodup || !decide (b.seats.map (·.1)).Nodup ||
  qs.any (fun q => decide (31 < q.qnum ∨ q.depthLog2 < 4 ∨ 12 < q.depthLog2 ∨ (q.kind ≠ 1 ∧ q.kind ≠ 2))) ||
  seats.any (fun x =>
    decide (4 < x.queues.length ∨ 3 < x.role ∨ 2 < x.transport ∨ x.hbTimeout < 50 ∨ 60000 < x.hbTimeout) ||
    !x.queues.any (fun q => decide (q.kind = 1)) || !x.queues.any (fun q => decide (q.kind = 2)) ||
    x.queues.any fun q => decide (q.kind = 1) && !(match x.queues[q.pair]? with
      | none => false
      | some p => decide (p.kind = 2))) ||
  decide (4 < count 0 ∨ 4 < count 1 ∨ 2 < count 2) ||
  !decide ((seats.filter fun x => decide (x.transport ≠ 1)).map fun x => (x.transport, x.port)).Nodup ||
  b.depths.any (fun d => decide (d.2 < 4 ∨ 12 < d.2 ∨ 2 ^ d.2 < iqMin d.1)) ||
  decide (524288 < qs.foldl (fun (a : Nat) (q : QueueDef) => a + 2 ^ q.depthLog2 * (if q.kind = 1 then 64 else 32)) 0)

/-- A source or destination code outside Table 8-4: kinds admitted, code. -/
def codeBad (kinds : List Nat) (limit : Nat → Nat) (v : Nat) : Bool :=
  !kinds.contains (v / 4096) || decide (limit (v / 4096) ≤ v % 4096)

/-- Cascade depth of a slot over its SP_SRC and MEAS references, at most `fuel`. -/
def slotDepth (m : Mem) (fuel k : Nat) : Nat :=
  match fuel with
  | 0 => 0
  | f + 1 =>
    let up := fun (off : Nat) => if fld m (16 + 256 * k + off) 2 / 4096 = 4 then [fld m (16 + 256 * k + off) 2 % 64] else []
    1 + (up 12 ++ up 14).foldl (fun a x => max a (slotDepth m f x)) 0

/-- A slot entry breaks its own ranges (R201). -/
def slotBad (m : Mem) (pods : Mem) (k : Nat) : Bool :=
  let b := 16 + 256 * k
  let law := fld m b 1
  let kind := fld m (b + 3) 1
  let dest := fld m (b + 16) 2 / 4096
  let per := fld m (b + 8) 4
  let podPer := fld m (b + 6) 2 * fld pods (16 + 64 * (fld m (b + 4) 1 % 8)) 2
  if law = 0 then (upTo 256).any fun i => decide (mget m (b + i) ≠ 0)
  else
    decide (2 < law) || (if law = 1 then decide (fld m (b + 2) 1 ≠ 0) else outside m b false [(2, 1, 1, 4)]) ||
    outside m b false [(3, 1, 0, 2), (8, 4, 3000, 60000000), (64, 4, 1, 60000), (68, 1, 0, 1)] ||
    outside m b (kind = 0) [(6, 2, 1, 4096)] ||
    (if kind = 1 then outside m b false [(4, 1, 0, 7)] else decide (fld m (b + 4) 1 ≠ 0)) ||
    codeBad [0, 1, 2, 3, 4] (fun t => [1, 48, 32, 4096, 64].getD t 0) (fld m (b + 12) 2) ||
    codeBad [0, 4] (fun t => [1, 0, 0, 0, 64].getD t 0) (fld m (b + 14) 2) ||
    codeBad [0, 1, 2, 3, 4] (fun t => [1, 16, 8, 24, 4096].getD t 0) (fld m (b + 16) 2) ||
    infinite m b [20, 24, 28, 32, 36, 40, 44, 48, 52, 56, 60, 72] || !fLt (ffld m (b + 32)) (ffld m (b + 28)) ||
    [40, 44, 48, 52].any (fun o => fLt (ffld m (b + o)) 0) || [56, 60].any (fun o => !fLt 0 (ffld m (b + o))) ||
    (if law = 1 then (upTo 33).any fun i =>
        let g := ffld m (b + 120 + 4 * i)
        !fFinite g || fLt g 0 || fLt (fOf 16) g
      else (upTo (5 * fld m (b + 2) 1)).any fun i => !fFinite (ffld m (b + 120 + 4 * i))) ||
    decide (4 < slotDepth m 6 k) || decide (kind = 2 ∧ dest ≠ 1) ||
    decide (dest = 3 ∧ (per < 600000 ∨ (kind = 1 ∧ podPer < 600000))) ||
    decide (dest = 4 ∧ (per < 6000000 ∨ (kind = 1 ∧ podPer < 6000000)))

/-- The loop engine block (R200, R201). -/
def range3 (m pods : Mem) : Bool := outside m 0 false [(0, 1, 0, 2)] || (upTo 64).any (slotBad m pods)

/-- The phase array block (R149, R150, R478). -/
def range4 (m : Mem) : Bool :=
  let fitted := fun (p : Nat) => (podPhases p).any fun k => tst (fld m (528 + 16 * k + 2) 1) 0
  let anySync := (upTo 8).any fun p => tst (fld m (16 + 64 * p + 2) 1) 3
  noneOr m 4 7 || outside m 0 (!anySync) [(5, 1, 1, 16), (6, 2, 1, 64), (8, 1, 2, 16)] ||
  (upTo 8).any (fun p =>
    let b := 16 + 64 * p
    let free := !fitted p
    let shed := tst (fld m (b + 2) 1) 2
    outside m b free [(0, 2, 1500, 15000), (10, 2, 0, 600), (12, 2, 0, 4095), (14, 2, 0, 4095), (16, 2, 0, 4095),
      (18, 2, 0, 4095)] ||
    outside m b (free || !shed) [(3, 1, 1, 6), (28, 2, 1, 10000)] || decide (fld m (b + 2) 1 % 4 = 3) ||
    (upTo 4).any (fun i =>
      let t := fld m (b + 48 + 4 * i + 2) 1
      outside m (b + 48 + 4 * i) (free || decide (t / 32 = 0)) [(3, 1, 1, 16)] ||
      decide (4 < t / 32 ∨ (t / 32 ≠ 1 ∧ t % 32 ≠ 0))) ||
    (!free && decide (fld m b 2 * 16 < fld m (b + 4) 4 + fld m (b + 12) 2 + fld m (b + 14) 2)) ||
    (!free && shed && decide (fld m (b + 24) 4 * 5 < fld m (b + 20) 4 * 6))) ||
  (upTo 48).any fun k =>
    let b := 528 + 16 * k
    let free := !tst (fld m (b + 2) 1) 0
    outside m b free [(4, 4, 1000, 2000000), (10, 2, 1, 4095)] ||
    decide (sfld m (b + 8) 2 < -256 ∨ 255 < sfld m (b + 8) 2)

/-- The outputs and pod matrix block over the phase array block (R177, R178). -/
def range5 (m phases : Mem) : Bool :=
  let fitted := fun (p : Nat) => (podPhases p).any fun k => tst (fld phases (528 + 16 * k + 2) 1) 0
  outside m 0 false [(2, 2, 20, 500), (4, 2, 1, 50), (6, 2, 1, 50), (8, 4, 500, 20000), (12, 2, 10, 120), (14, 1, 0, 1)] ||
  (upTo 16).any (fun o =>
    let b := 16 + 32 * o
    outside m b (!tst (fld m b 1) 0) [(2, 1, 0, 31), (3, 1, 0, 31), (4, 1, 0, 23), (5, 1, 0, 23), (6, 1, 0, 31),
      (8, 1, 0, 63), (9, 1, 0, 63), (10, 2, 150, 1250), (12, 4, 1000, 3000000), (16, 2, 1, 500), (18, 2, 10, 2000),
      (20, 4, 500, 100000), (24, 2, 100, 60000), (26, 2, 10, 200)] ||
    noneOr m (b + 1) 15 || decide (fld m b 1 / 2 % 4 = 3)) ||
  (upTo 8).any fun p =>
    let b := 528 + 16 * p
    outside m b (!fitted p) [(0, 4, 1, 1000000), (5, 1, 0, 63), (6, 2, 0, 511)] || noneOr m (b + 10) 15

/-- The metrology block (R275). -/
def range6 (m : Mem) : Bool :=
  outside m 0 false [(0, 2, 250, 10000)] || decide (fld m 2 1 ≠ 50 ∧ fld m 2 1 ≠ 60) ||
  decide (tst (fld m 3 1) 2 = false ∧ fld m 5 1 ≠ 0xFF) || decide (2 ^ 18 ≤ fld m 8 4) ||
  (upTo 18).any (fun p =>
    let b := 32 + 32 * p
    let k := fld m b 1
    decide (k ≠ 0 ∧ k ≠ (if p < 16 then 1 else 2)) || (upTo 6).any (fun i => noneOr m (b + 2 + i) 47 &&
      !(decide (k = 0 ∧ fld m (b + 2 + i) 1 = 0))) ||
    outside m b (decide (k = 0)) [(8, 4, 0, 1000000), (12, 4, 0, 10000), (20, 1, 0, 31)]) ||
  (upTo 48).any fun c => outside m (608 + 16 * c) false [(0, 1, 0, 3), (1, 1, 0, 4)] || infinite m (608 + 16 * c) [4, 8]

/-- The safety island block (R319, R355), with the indices that name an unused entry. -/
def range7 (m : Mem) : Bool :=
  let so := fun (k : Nat) => decide (k < 32) && decide (fld m (32 + 8 * k) 1 ≠ 0)
  let si := fun (k : Nat) => decide (k < 24) && decide (fld m (288 + 8 * k) 1 ≠ 0)
  let sc := fun (k d : Nat) => decide (k < 64) && decide (fld m (736 + 16 * k) 1 = d)
  let ax := fun (a : Nat) => decide (a < 4) && tst (fld m (608 + 32 * a) 1) 0
  let opt := fun (off : Nat) (f : Nat → Bool) => decide (fld m off 1 ≠ 0xFF) && !f (fld m off 1)
  outside m 0 false [(0, 2, 0, 500), (2, 2, 1, 1000), (4, 4, 0, 100000), (8, 4, 500, 50000), (12, 2, 100, 10000)] ||
  opt 14 si || opt 15 si ||
  (upTo 32).any (fun k => outside m (32 + 8 * k) false [(0, 1, 0, 2)] ||
    outside m (32 + 8 * k) (decide (fld m (32 + 8 * k) 1 ≠ 1)) [(2, 2, 150, 800), (4, 2, 100, 5000)]) ||
  (upTo 24).any (fun k =>
    let b := 288 + 8 * k
    let used := decide (fld m b 1 ≠ 0)
    let src := fun (o : Nat) => decide (fld m (b + o) 1 ≠ 0xFF ∧ fld m (32 + 8 * fld m (b + o) 1) 1 ≠ 1) ||
      decide (fld m (b + o) 1 ≠ 0xFF ∧ 31 < fld m (b + o) 1)
    outside m b (!used) [(0, 1, 0, 2), (3, 1, 0, 20), (4, 2, 5, 2000)] || noneOr m (b + 1) 31 || noneOr m (b + 2) 31 ||
    (used && (src 1 || src 2 || decide (fld m (b + 1) 1 = fld m (b + 2) 1 ∧ fld m (b + 1) 1 ≠ 0xFF)))) ||
  (upTo 16).any (fun o => opt (480 + 8 * o) si || (upTo 4).any fun a => tst (fld m (480 + 8 * o + 1) 1) a && !ax a) ||
  (upTo 4).any (fun a =>
    let b := 608 + 32 * a
    outside m b (!ax a) [(1, 1, 0, 31), (2, 1, 0, 23), (20, 1, 0, 2), (21, 1, 0, 2)] || noneOr m (b + 3) 63 ||
    ax a && (!(so (fld m (b + 1) 1) && decide (fld m (32 + 8 * fld m (b + 1) 1) 1 = 1)) || !si (fld m (b + 2) 1) ||
      opt (b + 3) (fun k => sc k 1) || decide (sfld m (b + 16) 4 ≤ sfld m (b + 12) 4))) ||
  (upTo 64).any (fun k =>
    let b := 736 + 16 * k
    let used := decide (fld m b 1 ≠ 0)
    let id := fld m (b + 4) 4
    outside m b (!used) [(0, 1, 0, 2), (1, 1, 0, 15), (2, 1, 0, 15), (3, 1, 1, 50), (8, 2, 10, 1000), (10, 2, 20, 5000)] ||
    decide (511 < fld m (b + 12) 2 ∧ fld m (b + 12) 2 ≠ 0xFFFF) ||
    decide (0x100 ≤ (if tst id 29 then id % 536870912 / 262144 else id % 536870912)) ||
    (used && decide (fld m (b + 1) 1 = fld m (b + 2) 1 ∨ fld m (b + 10) 2 < 2 * fld m (b + 8) 2))) ||
  (upTo 128).any fun f =>
    let b := 1760 + 8 * f
    let t := fld m b 1
    let i := fld m (b + 1) 1
    outside m b (decide (t = 0)) [(0, 1, 0, 8), (2, 1, 0, 2), (3, 1, 0, 1)] || noneOr m (b + 7) 63 ||
    (decide (t ≠ 0) && (opt (b + 7) (fun k => sc k 2) || (upTo 4).any (fun a => tst (fld m (b + 6) 1) a && !ax a) ||
      !(match t with
        | 1 => si i
        | 2 => si i
        | 3 => so i
        | 4 => sc i 1
        | 5 => sc i 1
        | 6 => decide (i < 16)
        | 7 => ax i
        | _ => decide (i < 16))))

/-- The connector links block (R226). -/
def range8 (m : Mem) : Bool :=
  outside m 0 false [(0, 2, 5, 300), (2, 2, 32, 255), (4, 1, 1, 30), (5, 1, 5, 50), (6, 1, 0, 10), (7, 1, 1, 50)] ||
  (upTo 16).any fun c =>
    let b := 16 + 32 * c
    let mode := fld m b 1
    let h := 2 * fld m (b + 12) 2
    let t := fun (o : Nat) => fld m (b + o) 2
    decide (2 < mode) || outside m b (decide (mode = 0)) [(2, 1, 1, 20), (12, 2, 0, 100), (14, 2, 900, 1200)] ||
    outside m b false [(3, 1, 0, if mode = 2 then 0 else 60)] ||
    (decide (mode ≠ 0) && decide (t 4 < t 6 + max h 1 ∨ t 6 < t 8 + max h 1 ∨ t 8 < t 10 + max h 1))

/-- The session service block over the connector links block (R255). -/
def range9 (m links : Mem) (bidir : Nat → Bool) : Bool :=
  outside m 0 false [(0, 2, 20, 1000), (2, 1, 1, 50), (3, 1, 1, 20)] ||
  (upTo 16).any fun c =>
    let b := 16 + 32 * c
    let mode := fld links (16 + 32 * c) 1
    let proto := fld m b 1
    let flags := fld m (b + 3) 1
    noneOr m (b + 2) 7 || noneOr m (b + 8) 63 ||
    decide (mode ≠ 0) &&
    (decide (mode = 2 ∧ proto % 4 ≠ 0) || (tst proto 3 && !bidir c) ||
      decide (fld m (b + 2) 1 = 0xFF ∧ ¬ (tst flags 1 ∧ tst flags 2 = false ∧ tst (fld m (b + 1) 1) 1 = false)) ||
      decide (4 ≤ proto ∧ flags / 8 % 4 = 0))

/-- The field-bus ports block (R345). -/
def range10 (m : Mem) : Bool :=
  outside m 0 false [(0, 1, 2, 32), (1, 1, 50, 90)] ||
  (upTo 16).any fun p =>
    let b := 16 + 16 * p
    let mode := fld m b 1
    decide (3 < mode) || outside m b (decide (mode = 0)) [(1, 1, 0, 3), (2, 1, 0, 4), (3, 1, 1, 255)] ||
    decide (mode = 2 ∧ fld m (b + 2) 1 ≠ 0)

/-- The load switches block over the loop engine block (R372). -/
def range11 (m loops : Mem) : Bool :=
  let driven := fun (c : Nat) => (upTo 64).any fun k =>
    decide (fld loops (16 + 256 * k) 1 ≠ 0 ∧ fld loops (16 + 256 * k + 16) 2 = 0x3000 + c)
  outside m 0 false [(0, 2, 80, 320), (2, 2, 60, 300)] || decide (fld m 0 2 ≤ fld m 2 2) ||
  decide (1 < ((upTo 24).filter fun c => decide (fld m (16 + 16 * c) 1 ≠ 0 ∧ fld m (16 + 16 * c + 2) 1 = 2)).length) ||
  (upTo 24).any fun c =>
    let b := 16 + 16 * c
    let mode := fld m b 1
    let free := decide (mode = 0)
    decide (3 < mode) || outside m b free [(1, 1, 0, if 16 ≤ c then 0 else 5), (2, 1, 0, 2), (6, 2, 1, 2000),
      (8, 1, 20, 100), (9, 1, 20, 100), (10, 1, 0, if 16 ≤ c then 8 else 0)] ||
    outside m b (decide (mode ≤ 1)) [(4, 2, 100, 1000)] || decide (mode = 1 ∧ fld m (b + 4) 2 ≠ 0) ||
    decide (mode ≠ 0 ∧ fld m (b + 1) 1 ≠ 4 ∧ fld m (b + 9) 1 ≠ 100) ||
    (decide (mode ≠ 0 ∧ fld m (b + 2) 1 = 1) && !driven c)

/-- The trust policy block (R401). -/
def range12 (m : Mem) : Bool :=
  outside m 0 false [(1, 1, 1, 7), (2, 1, 1, 7)] ||
  (upTo 16).any (fun c => outside m (16 + 8 * c) (decide (fld m (16 + 8 * c) 1 = 0xFF)) [(1, 1, 0, 31), (2, 1, 1, 4)]) ||
  (upTo 16).any fun a => noneOr m (144 + 4 * a) 31 ||
    outside m (144 + 4 * a) (decide (fld m (144 + 4 * a) 1 = 0xFF)) [(1, 1, 1, 3)]

/-- The Fumarole and power states block (R412). -/
def range13 (m : Mem) : Bool :=
  outside m 0 false [(0, 2, 1, 3600)] ||
  (upTo 32).any fun r =>
    let b := 16 + 16 * r
    let k := fld m b 1
    let i := fld m (b + 1) 1
    let f := fld m (b + 3) 1
    decide (7 < k) ||
    outside m b (decide (k = 0)) [(2, 1, if k = 1 ∨ k = 3 ∨ k = 7 then 0 else if k = 0 then 0 else 1, 4), (4, 1, 1, 5),
      (12, 2, 0, 1000)] ||
    (match f / 64 with
      | 0 => false
      | 1 => decide (f % 64 = 0)
      | 2 => decide (f % 64 ≠ 3 ∧ f % 64 ≠ 5 ∧ f % 64 ≠ 7)
      | _ => decide (f % 64 = 0 ∨ 8 < f % 64)) ||
    (decide (k ≠ 0) && (
      (match k with
        | 1 => noneOr m (b + 1) 15
        | 2 => noneOr m (b + 1) 15
        | 3 => decide (23 < i % 32 ∨ i / 32 % 4 ≠ 0)
        | 4 => decide (31 < i)
        | 5 => decide (31 < i)
        | _ => decide (i ≠ 0)) ||
      decide (fld m (b + 6) 2 % 2 ≠ 0 ∨ tst (fld m (b + 6) 2) 2 ∨ 4096 ≤ fld m (b + 6) 2) ||
      decide ((fld m (b + 4) 1 = 3 ∨ fld m (b + 4) 1 = 4) ∧ sfld m (b + 10) 2 ≤ sfld m (b + 8) 2)))

/-- The timeouts and journal block (R443, R445). -/
def range14 (m : Mem) : Bool :=
  outside m 0 false ((upTo 16).map (fun g => (4 * g, 4, 10, 600000)) ++ [(64, 2, 1, 1000), (66, 2, 10, 60000),
    (68, 2, 10, 10000), (70, 2, 2, 100), (72, 2, 10, 1000), (74, 2, 1000, 60000), (76, 2, 200, 10000), (78, 2, 100, 10000),
    (80, 2, 1000, 60000), (82, 2, 1000, 60000), (84, 2, 1000, 30000)]) || decide (fld m 8 4 ≤ fld m 74 2)

/-- The clocks and thermal block (R431). -/
def range15 (m : Mem) : Bool :=
  outside m 0 false [(0, 1, 0, 1), (1, 1, 4, 64), (2, 2, 64, 4096), (4, 2, 500, 5000), (6, 2, 10, 1000)] ||
  (upTo 32).any fun a =>
    let b := 16 + 16 * a
    let k := fld m b 1
    if k = 0 then (upTo 16).any fun i => decide (mget m (b + i) ≠ 0)
    else decide (2 < k) || decide (sfld m (b + 4) 2 ≤ sfld m (b + 2) 2) || infinite m b [8, 12] ||
      (decide (k = 2) && (fLt (ffld m (b + 8)) (fOf 1000) || fLt (fOf 10000) (ffld m (b + 8)) ||
        fLt (ffld m (b + 12)) (fOf (1 / 100)) || fLt (fOf 100) (ffld m (b + 12))))

/-- A field node record (R356, R358, R113). -/
def SiteCfg.fieldBad (c : SiteCfg) (n : Nat) (m : Mem) : Bool :=
  let b := fld m 4 1
  let bound := c.nodes.any fun e => fieldKind (nKind e.2) && decide (nBind e.2 = n)
  outside m 0 false [(0, 1, 1, 7), (5, 1, 0, 100), (6, 2, 250, 5000), (8, 2, 0, 4064)] || noneOr m 4 15 ||
  decide (b = n / 32 ∨ (fld m 0 1 = 2 ∧ b = 0xFF)) || (bound && decide (fld m 5 1 = 0)) ||
  (decide (b ≠ 0xFF) && c.fields.any fun e =>
    decide (e.1 ≠ n ∧ e.1 % 32 = n % 32 ∧ (e.1 / 32 = b ∨ fld e.2 4 1 = b)))

/-! ## Rules between blocks (R178, R201, R226, R275) -/

/-- Slots that a configuration names in V_SLOT, I_SLOT and MATCH_SLOT, with the DEST each must carry. -/
def State.namedSlots (s : State) : List (Nat × Nat × Bool) :=
  ((upTo 16).filter s.outFitted).flatMap (fun o => [(s.outFld o 8 1, 0x1000 + o, true), (s.outFld o 9 1, 0x1000 + o, true)]) ++
  ((upTo 8).filter s.podFitted).map fun p => (s.podFld p 5 1, 0x2000 + p, false)

/-- A rule between blocks is broken; `v` is the state under the configuration. -/
def State.crossBad (v : State) : Bool :=
  let c := v.ep.cfg
  let outs := (upTo 16).filter v.outFitted
  let pods := (upTo 8).filter v.podFitted
  let named := v.namedSlots
  let conns := outs.filterMap fun o => if v.outFld o 1 1 < 16 then some (v.outFld o 1 1) else none
  !decide (named.map (·.1)).Nodup ||
  named.any (fun e => decide (fld (v.blk 3) (16 + 256 * e.1 + 16) 2 ≠ e.2.1) ||
    (e.2.2 && !decide (fld (v.blk 3) (16 + 256 * e.1 + 72) 4 = 0))) ||
  pods.any (fun p =>
    let group := v.podGroup p
    decide (v.podFld p 10 1 ≠ 0xFF ∧ tst (v.podFld p 8 2) (v.podFld p 10 1) = false) ||
    (upTo 16).any (fun o => tst (v.podFld p 8 2) o && !(match v.outNode o with
      | none => false
      | some n => decide (some (nParent (c.node n)) = group))) ||
    (match aget c.fields (v.podFld p 6 2) with
      | none => true
      | some f => decide (15 < fld f 4 1))) ||
  !decide conns.Nodup || (upTo 16).any (fun k => decide (conns.contains k ≠ decide (fld (v.blk 8) (16 + 32 * k) 1 ≠ 0))) ||
  outs.any fun o => decide (fld (v.blk 6) (32 + 32 * o) 1 ≠ 1)

/-- A connector's output node is bidirectional. -/
def State.connBidir (v : State) (k : Nat) : Bool := match (v.outOfConn k).bind v.outNode with
  | none => false
  | some n => nodeBidir (v.ep.cfg.node n)

/-- Some record's values lie outside their ranges (R87: IMAGE_FORMAT). -/
def State.valuesBad (s : State) (c : SiteCfg) : Bool :=
  let v := s.under c
  let b := fun (k : Nat) => tget c.blocks k []
  range0 (b 0) || seatsBad c.seats || range2 (b 2) || range3 (b 3) (b 4) || range4 (b 4) || range5 (b 5) (b 4) ||
  range6 (b 6) || range7 (b 7) || range8 (b 8) || range9 (b 9) (b 8) v.connBidir || range10 (b 10) || range11 (b 11) (b 3) ||
  range12 (b 12) || range13 (b 13) || range14 (b 14) || range15 (b 15) ||
  c.fields.any (fun e => c.fieldBad e.1 e.2) || v.crossBad || c.treeRange

/-! ## rsvd fields and parent references (R77) -/

/-- rsvd fields of each block: (base, stride, entries, offsets and sizes). -/
def rsvdTable (k : Nat) : List (Nat × Nat × Nat × List (Nat × Nat)) := match k with
  | 0 => [(0, 0, 1, [(8, 8)])]
  | 2 => [(0, 0, 1, [(5, 1), (14, 2), (24, 8)])]
  | 3 => [(0, 0, 1, [(1, 15)]), (16, 256, 64, [(5, 1), (18, 2), (69, 3), (76, 44), (252, 4)])]
  | 4 => [(0, 0, 1, [(9, 7)]), (16, 64, 8, [(30, 2), (36, 12)]), (528, 16, 48, [(3, 1), (12, 4)])]
  | 5 => [(0, 0, 1, [(0, 1), (1, 1), (15, 1)]), (16, 32, 16, [(7, 1), (28, 4)]), (528, 16, 8, [(11, 5)])]
  | 6 => [(0, 0, 1, [(6, 2), (12, 20)]), (32, 32, 18, [(21, 3), (30, 2)]), (608, 16, 48, [(12, 4)])]
  | 7 => [(0, 0, 1, [(16, 16)]), (32, 8, 32, [(1, 1), (6, 2)]), (288, 8, 24, [(6, 2)]), (480, 8, 16, [(2, 6)]),
      (608, 32, 4, [(24, 8)]), (736, 16, 64, [(14, 2)])]
  | 8 => [(0, 0, 1, [(8, 8)]), (16, 32, 16, [(24, 8)])]
  | 9 => [(0, 0, 1, [(4, 12)]), (16, 32, 16, [(9, 23)])]
  | 10 => [(0, 0, 1, [(2, 14)]), (16, 16, 16, [(4, 12)])]
  | 11 => [(0, 0, 1, [(4, 12)]), (16, 16, 24, [(11, 5)])]
  | 12 => [(0, 0, 1, [(3, 13)]), (16, 8, 16, [(3, 5)]), (144, 4, 16, [(2, 2)])]
  | 13 => [(0, 0, 1, [(3, 13)]), (16, 16, 32, [(15, 1)])]
  | 14 => [(0, 0, 1, [(86, 10)])]
  | 15 => [(0, 0, 1, [(8, 8)]), (16, 16, 32, [(1, 1), (6, 2)])]
  | _ => []

/-- rsvd high bits of flag bytes of each block: (base, stride, entries, offset, first rsvd bit). -/
def rsvdBits (k : Nat) : List (Nat × Nat × Nat × Nat × Nat) := match k with
  | 3 => [(16, 256, 64, 1, 4)]
  | 4 => [(16, 64, 8, 2, 4), (528, 16, 48, 2, 2)]
  | 5 => [(16, 32, 16, 0, 3), (528, 16, 8, 4, 2)]
  | 6 => [(0, 0, 1, 3, 3), (32, 32, 18, 1, 2)]
  | 7 => [(480, 8, 16, 1, 4), (608, 32, 4, 0, 2), (736, 16, 64, 7, 6), (1760, 8, 128, 6, 4)]
  | 8 => [(16, 32, 16, 1, 1)]
  | 9 => [(16, 32, 16, 0, 4), (16, 32, 16, 1, 2), (16, 32, 16, 3, 5)]
  | 11 => [(16, 16, 24, 3, 2)]
  | 12 => [(0, 0, 1, 1, 3), (0, 0, 1, 2, 3)]
  | 13 => [(0, 0, 1, 2, 3), (16, 16, 32, 5, 4), (16, 16, 32, 14, 4)]
  | _ => []

/-- A LAW 2 slot entry has a nonzero byte of COEF behind its NSEC sections (R200). -/
def coefRest (m : Mem) (i : Nat) : Bool :=
  let b := 16 + 256 * i
  decide (fld m b 1 = 2) && (upTo (132 - 20 * min 4 (fld m (b + 2) 1))).any fun j =>
    decide (mget m (b + 120 + 20 * min 4 (fld m (b + 2) 1) + j) ≠ 0)

/-- A block has a nonzero rsvd field. -/
def blockRsvd (k : Nat) (m : Mem) : Bool :=
  (decide (k = 3) && (upTo 64).any (coefRest m)) ||
  (rsvdTable k).any (fun r => (upTo r.2.2.1).any fun i => rsvdSet m (r.1 + r.2.1 * i) r.2.2.2) ||
  (rsvdBits k).any fun r => (upTo r.2.2.1).any fun i => highBits m (r.1 + r.2.1 * i + r.2.2.2.1) r.2.2.2.2

/-- Some record carries a nonzero rsvd field, or a field node serves no node; one that names an absent root is left to the
tree checks (R119). -/
def SiteCfg.recordsBad (c : SiteCfg) : Bool :=
  (upTo 16).any (fun k => blockRsvd k (tget c.blocks k [])) || c.nodes.any (fun e => nodeRsvd e.2) ||
  c.fields.any fun e => rsvdSet e.2 0 [(1, 1), (10, 22), (32 + fld e.2 8 2, fieldLen e.2 - 32 - fld e.2 8 2)] ||
    (decide (fld e.2 2 2 ≠ 0) && (aget c.nodes (fld e.2 2 2)).isNone)

/-- A configuration is not canonical: a nonzero rsvd field or a parent reference to no node (R77). -/
def SiteCfg.canonicalBad (c : SiteCfg) : Bool :=
  c.recordsBad || c.nodes.any (fun e => decide (e.1 ≠ 0) && (aget c.nodes (nParent e.2)).isNone)

/-! ## Reading an image (R75, R76) -/

/-- Memory of a byte list. -/
def memOf (bs : List Byte) : Mem := ((upTo bs.length).zip bs).filter fun e => decide (e.2 ≠ 0)

/-- A record: kind, index, body. -/
abbrev Rec := Nat × Nat × List Byte

/-- The records of a byte list, at most `fuel`; none where their structure is wrong. -/
def readRecs (fuel : Nat) (bs : List Byte) : Option (List Rec) :=
  match fuel with
  | 0 => if bs = [] then some [] else none
  | k + 1 =>
    if bs = [] then some []
    else if bs.length < 8 then none
    else
      let kind := leNat (bs.take 2)
      let n := leNat ((bs.drop 4).take 4)
      if kind < 1 ∨ 3 < kind ∨ n % 4 ≠ 0 ∨ bs.length < 8 + n then none
      else (readRecs k (bs.drop (8 + n))).map fun r => (kind, leNat ((bs.drop 2).take 2), (bs.drop 8).take n) :: r

/-- Consecutive records whose kinds do not fall and whose indices ascend within a kind. -/
def recsInOrder : List Rec → Bool
  | a :: b :: r => (decide (a.1 < b.1) || decide (a.1 = b.1 ∧ a.2.1 < b.2.1)) && recsInOrder (b :: r)
  | _ => true

/-- The configuration of records: a later record of one kind and index wins. -/
def cfgOf (serial : Word) (uid : BitVec 64) (minFw : Word) (rs : List Rec) : SiteCfg :=
  let c := rs.foldl (fun (c : SiteCfg) r =>
    if r.1 = 1 then { c with blocks := tset c.blocks r.2.1 (memOf r.2.2) }
    else if r.1 = 2 then { c with nodes := tset c.nodes r.2.1 (memOf r.2.2) }
    else { c with fields := tset c.fields r.2.1 (memOf r.2.2) }) { serial := serial, uid := uid, minFw := minFw }
  match rs.find? fun r => decide (r.1 = 1 ∧ r.2.1 = 1) with
  | none => c
  | some r => { c with seats := Config.seatsOf r.2.2, seatsLen := r.2.2.length }

/-- BODYLEN of a record is that of its kind, and its index one of Table 2-3 (R35, R76, R101). -/
def recLenOk (r : Rec) : Bool :=
  if r.1 = 1 then decide (15 < r.2.1 ∨ r.2.1 = 1 ∨ r.2.2.length = SiteCfg.blockLen {} r.2.1)
  else if r.1 = 2 then decide (r.2.1 ≤ 1023 ∧ r.2.2.length = 88)
  else decide (r.2.1 ≤ 511 ∧ 32 ≤ r.2.2.length ∧ r.2.2.length ≤ 4096 ∧ r.2.2.length = fieldLen (memOf (r.2.2.take 32)))

/-- An image as it was read: its configuration, records, root and the parts that its signature covers. -/
structure Image where
  cfg : SiteCfg
  recs : List Rec
  root : Digest
  signed : List Byte
  key : List Byte
  signature : List Byte
  rsvd : Bool
deriving DecidableEq, Repr

/-- Reads the image in a slot; none where its magic, format, length, counts or record structure are wrong. -/
def readImage (m : Mem) : Option Image :=
  let f := fld m
  let len := f 8 4
  if f 0 4 ≠ 0x524D4E55 ∨ f 4 2 ≠ 1 ∨ len % 4 ≠ 0 ∨ 1048576 < len ∨ len < 128 + 3732 ∨ f 28 2 ≠ 16 ∨ f 30 2 < 1 ∨
      1024 < f 30 2 ∨ 512 < f 32 2 then none
  else
    let bs := mbytes m 0 len
    match readRecs (16 + f 30 2 + f 32 2) ((bs.take (len - 3732)).drop 128) with
    | none => none
    | some rs =>
      let n := fun (k : Nat) => (rs.filter fun r => decide (r.1 = k)).length
      if n 1 ≠ 16 ∨ n 2 ≠ f 30 2 ∨ n 3 ≠ f 32 2 ∨ rs.all recLenOk = false then none
      else some {
        cfg := cfgOf (BitVec.ofNat 32 (f 12 4)) (BitVec.ofNat 64 (f 16 8)) (BitVec.ofNat 32 (f 24 4)) rs
        recs := rs
        root := BitVec.ofNat 256 (f 36 32)
        signed := bs.take (len - 2420)
        key := (bs.drop (len - 3732)).take 1312
        signature := bs.drop (len - 2420)
        rsvd := rsvdSet m 0 [(6, 2), (24, 2), (34, 2), (68, 60)] }

/-- A block is missing, and another stands twice or has no place (R77). -/
def Image.blockMissing (i : Image) : Bool :=
  (upTo 16).any fun k => (i.cfg.blocks.any fun e => decide (e.1 = k)) = false

/-- An image breaks the canonical order of R77. -/
def Image.disordered (i : Image) : Bool := i.rsvd || !recsInOrder i.recs || i.blockMissing || i.cfg.canonicalBad

/-- A canonical image of a configuration as CONFIG_EXPORT writes it: header and records (R75 to R77), without the owner's
key and the signature, which LENGTH counts (log entry 93). -/
def SiteCfg.imageBytes (c : SiteCfg) (root : Digest) : List Byte :=
  let recs := c.units.flatMap fun u => c.record u.1 u.2
  let len := 128 + recs.length + 3732
  leBytes 0x524D4E55 4 ++ leBytes 1 2 ++ leBytes 0 2 ++ leBytes len 4 ++ leBytes c.serial.toNat 4 ++ leBytes c.uid.toNat 8 ++
  leBytes c.minFw.toNat 4 ++ leBytes 16 2 ++ leBytes c.nodes.length 2 ++ leBytes c.fields.length 2 ++ leBytes 0 2 ++
  digestBytes root ++ leBytes 0 60 ++ recs

end Sys2Proof.Machine
end

