-- ==== Sys2Proof/Machine/Field.lean ====
section
/-! DEFINITION. The field bus (chapter 14): error confinement, duplicate identifiers, heartbeats and standing, reports, the
messages of an epoch, host frames, and the commands of Table 14-11. -/

namespace Sys2Proof.Machine

/-! ## Digests as reported (R86) -/

/-- Reported own digest of a unit; 32 zero bytes where it has not reported. -/
def State.reportedOf (s : State) (kind i : Nat) : Digest := (aget s.ep.reported (kind, i)).getD 0

/-- Intended own digest of a unit. -/
def State.intendedOf (s : State) (kind i : Nat) : Digest := (aget s.ep.intended (kind, i)).getD 0

/-- BT_DIGEST follows the reported digests. -/
def refreshRoot (s : State) : State := { s with boot := { s.boot with digest := s.ep.cfg.rootOf s.reportedOf } }

/-- Journals a unit once its digests have differed for longer than one heartbeat, 100 ms (R86, note 5). -/
def judgeDigest (kind i : Nat) (s : State) : State :=
  if s.reportedOf kind i = s.intendedOf kind i then { s with ep := { s.ep with differ := adel s.ep.differ (kind, i) } }
  else match aget s.ep.differ (kind, i) with
    | none => { s with ep := { s.ep with differ := aset s.ep.differ (kind, i) (s.now, false) } }
    | some (t, done) =>
      if done ∨ s.now ≤ t + 100000 then s
      else
        let h := if kind = 1 then 0 else if kind = 2 then handle 3 i else handle 11 i
        ({ s with ep := { s.ep with differ := aset s.ep.differ (kind, i) (t, true) } }.note 5 h
          [BitVec.ofNat 8 (if kind = 1 then i else 0xFF)])

/-- A unit reports its digest. -/
def setReported (kind i : Nat) (d : Digest) (s : State) : State :=
  judgeDigest kind i (refreshRoot { s with ep := { s.ep with reported := aset s.ep.reported (kind, i) d } })

/-! ## Ports (R347 to R350) -/

/-- The port has a frame of its own on the bus or waiting for it: the bus is not idle (R349; log entry 33). -/
def State.portBusy (s : State) (p : Nat) : Bool :=
  decide ((s.port p).profile ≠ []) || (upTo 4).any fun b => (tget (s.port p).tx b none).isSome

/-- Ends the host frame in a buffer: the buffer is free, the command completes with a status. -/
def endHostFrame (p b status : Nat) (r : Res) (s : State) : State :=
  let s := s.setPort p { s.port p with tx := tset (s.port p).tx b none }
  overL ((s.liveOn 0x0B03 (handle 10 p)).filter fun l => decide (l.keep = [(b : Int)])) (fun l t => t.finish l status r) s

/-- Ends the host frames of a port that meet a test. -/
def endHostFrames (p : Nat) (f : TxFrame → Bool) (status : Nat) (r : Res) (s : State) : State :=
  overL (upTo 4) (fun b t => match tget (t.port p).tx b none with
    | none => t
    | some x => if f x.frame then endHostFrame p b status r t else t) s

/-- Bus-offs of a port within 60 s (R347). -/
def State.recentOffs (s : State) (p : Nat) : List Nat :=
  (s.port p).busOffs.filter fun t => decide (s.windowTime < t + 60000000)

/-- Error state of the standard: bus-off above 255, error-passive above 127. -/
def errorState (tx rx : Nat) : Nat := if 255 < tx then 3 else if 127 < tx ∨ 127 < rx then 2 else 1

/-- The reset of a port starts (R349). -/
def portReset (p : Nat) (s : State) : State :=
  let s := endHostFrames p (fun _ => true) 0x0604 0 s
  s.setPort p { s.port p with txErrors := 0, rxErrors := 0, resetting := true, profile := [] }

/-- RESETs of a port that wait for the end of a frame commit (R349, R56). -/
def commitPortResets (p : Nat) (s : State) : State :=
  overL ((s.liveOn 0x0104 (handle 10 p)).filter fun l => !l.committed)
    (fun l t => commitLive l (fun u => portReset p (u.commit l.order)) t) s

/-! ## Standing of field nodes (R361) -/

/-- The tree node bound to a field node. -/
def State.boundTo (s : State) (n : Nat) : Option Nat :=
  (s.ep.cfg.nodes.find? fun e => fieldKind (nKind e.2) && decide (nBind e.2 = n)).map (·.1)

/-- Blocks computed ahead are discarded where the node is bound (Table 5-3). -/
def drainBound (n : Nat) (s : State) : State := if (s.boundTo n).isSome then s.drain else s

/-- A field node is retired (R361). -/
def retireNode (n count : Nat) (s : State) : State :=
  let s := s.setFnode n { s.fnode n with state := 3 }
  (s.retire (handle 11 n) 0x04B1).report 11 0x08B3 (handle 11 n) (res [(0, 2, n), (2, 1, count)])

/-- A field node becomes absent (R361): 1 heartbeat timeout, 2 port retired, 3 duplicate identifier. A configuration transfer
that is neither answered nor timed out stays in progress (R94). -/
def nodeGone (n cause : Nat) (s : State) : State :=
  let v := s.fnode n
  if v.state = 0 ∨ v.state = 3 then s
  else
    let t := s.windowTime
    let times := v.absTimes.filter (fun x => decide (t < x + 600000000)) ++ [t]
    let s := s.setFnode n { v with
      state := 0, absences := bump32 v.absences, absTimes := times, single := none, heardA := false,
      heardB := false }
    let s := s.event 11 0x04B1 (res [(0, 2, n), (2, 1, cause)])
    let s := endInjectionTo (fun d => decide (d / 4096 = 4 ∧ d % 512 = n)) 3 s
    let s := overL (s.podsOfNode n) (fun p u => matrixUnknown p 0x04B1 u) (drainBound n s)
    if fld (s.blk 10) 0 1 ≤ times.length then retireNode n times.length s else s

/-- A field node becomes present (R361); a switch node's pods have every pole pair commanded open (R181, R191). -/
def nodePresent (n : Nat) (s : State) : State :=
  let v := s.fnode n
  if v.state = 1 then s
  else
    let s := s.setFnode n { v with state := 1, seen := true, behind := false, transfer := none, single := none, retries := 0 }
    let s := s.event 11 0x00B0 (res [(0, 2, n), (2, 1, bit v.seen)])
    overL ((s.podsOfNode n).filter fun p => decide ((s.mtx p).step = 0) && ((s.mtx p).unknown || !(s.mtx p).verified))
      openAll s

/-- Sends a field node its record: STAGE_DATA in chunks of 48 bytes, then STAGE_END (R364); `all` false: STAGE_END alone. -/
def sendRecord (n : Nat) (c : SiteCfg) (all : Bool) (s : State) : State :=
  let data := c.record 3 n
  let a := n % 32
  let s := if all then overL (upTo ((data.length + 47) / 48)) (fun k t =>
      t.sendFrame (t.nodePorts n) 5 0x20 a 0
        (leBytes (48 * k) 4 ++ ((data.drop (48 * k)).take 48 ++ List.replicate 48 0).take 48) 16 false) s else s
  s.sendFrame (s.nodePorts n) 5 0x21 a 0 (leBytes data.length 4 ++ digestBytes (c.own 3 n)) 16 false

/-- COMMIT (Table 14-7): 1 announce, 2 withdraw, 3 single commit. -/
def sendCommit (ports : List Nat) (dst op : Nat) (epoch : Word) (tick : Nat) (s : State) : State :=
  s.sendFrame ports 2 9 dst 0
    (BitVec.ofNat 8 op :: leBytes 0 3 ++ leBytes epoch.toNat 4 ++ leBytes tick 8 ++ leBytes 0 4) 3 false

/-- A quarantined node whose digest differs is sent its configuration again (R94). -/
def sendAgain (n : Nat) (s : State) : State :=
  let v := s.fnode n
  if s.ep.phase ≠ 0 ∨ (v.transfer.isSome ∧ s.past v.transfer (s.stageTmo (v.transfer.getD 0)) = false) then s
  else
    let k := v.retries + 1
    let s := s.setFnode n { v with transfer := some s.now, retries := k }
    let s := if k = 1 ∨ k % 100 = 0 then s.note 6 (handle 11 n) (0 :: leBytes k 4) else s
    sendRecord n s.ep.cfg true s

/-- A quarantined node with the intended digest is committed alone (R94, R364). -/
def singleCommit (n : Nat) (s : State) : State :=
  let waits := match (s.fnode n).single with
    | none => false
    | some t => decide (s.clk.tai ≤ t)
  if s.clk.timeValid = false ∨ waits = true then s
  else
    let tick := ceilTo 100000 (s.clk.tai + 50000)
    sendCommit (s.nodePorts n) (n % 32) 3 s.ep.number tick (s.setFnode n { s.fnode n with single := some tick })

/-- The node is quarantined, or stays so (R94). -/
def quarantine (n : Nat) (same : Bool) (s : State) : State :=
  let was := (s.fnode n).state
  let s := s.setFnode n { s.fnode n with state := 2, behind := false }
  let s := if was = 2 then s else drainBound n s
  if same then singleCommit n s else sendAgain n s

/-! ## Frames received (R354, R355, R357) -/

/-- A profile frame of `n` bytes is counted; a wrong CHECK discards it and is counted too (R357, R453). -/
def countFrame (p : Nat) (ident : Word) (n : Nat) (checkOk : Bool) (s : State) : State :=
  let s := countHeard p ident n s
  if checkOk then s
  else (s.setPort p { s.port p with mismatches := bump32 (s.port p).mismatches }).checkFault 10 (ident.toNat % 536870912)

/-- HB_NODE that Table 3-4 takes as sent before the tick. -/
def State.beforeTick (s : State) (n : Nat) (hb : NodeBeat) : Bool :=
  match s.ep.lastTick, aget s.ep.before n with
  | some t, some d =>
    decide (s.clk.tai ≤ t + 100000 ∧ hb.digest = d ∧ hb.epoch = (s.ep.number - 1).setWidth 16)
  | _, _ => false

/-- HB_NODE is judged (R361, R94): against the staged configuration where it carries the announced epoch (Table 3-4). -/
def judgeBeat (n : Nat) (hb : NodeBeat) (s : State) : State :=
  let early := decide (s.ep.phase = 3 ∧ hb.epoch = (s.ep.number + 1).setWidth 16)
  let want := if early then s.ep.staged.own 3 n else s.intendedOf 3 n
  let same := decide (hb.digest = want)
  if same ∧ (early ∨ hb.epoch = s.ep.number.setWidth 16) then nodePresent n s else quarantine n same s

/-- A node is heard on one of its ports (R345). -/
def FNode.heard (v : FNode) (n port : Nat) : FNode :=
  if port = n / 32 then { v with heardA := true } else { v with heardB := true }

/-- What a new HB_NODE records of its node (R361, R86). -/
def beatSeen (n : Nat) (hb : NodeBeat) (s : State) : State :=
  setReported 3 n hb.digest (s.setFnode n { (s.fnode n).heard n hb.port with
    beatSeq := some hb.seq, lastBeat := s.now, epoch := hb.epoch, digest := some hb.digest })

/-- HB_NODE (R357, R361): of a retired node only what NODE_STATUS shows of it is renewed. -/
def execHbNode (n : Nat) (hb : NodeBeat) (s : State) : Out :=
  if s.carries hb.port n = false then .next s
  else
    let s := countFrame hb.port (nodeIdent 3 0x11 (n % 32)) 48 hb.checkOk s
    let v := s.fnode n
    if hb.checkOk = false ∨ v.duplicate then .next s
    else if v.beatSeq = some hb.seq then .next (s.setFnode n (v.heard n hb.port))
    else
      let s := beatSeen n hb s
      if v.state = 3 ∨ s.beforeTick n hb then .next s
      else .next (judgeBeat n hb { s with ep := { s.ep with before := adel s.ep.before n } })

/-- NODE_ABSENT (R361): HB_TIMEOUT has passed without an accepted HB_NODE. -/
def execNodeAbsent (n : Nat) (s : State) : Out :=
  if (aget s.ep.cfg.fields n).isSome ∧ s.after (s.fnode n).lastBeat (1000 * fld (s.fbody n) 6 2) then .next (nodeGone n 1 (afterSnapshot s))
  else .next s

/-- REPORT (R362): to firmware through Q44 to Q47, and as the bound node's request to Q32. -/
def execNodeReport (n : Nat) (r : NodeReport) (s : State) : Out :=
  if s.carries r.port n = false then .next s
  else
    let s := countFrame r.port (nodeIdent 3 0x12 (n % 32)) 48 r.checkOk s
    let v := s.fnode n
    if r.checkOk = false ∨ v.state = 3 ∨ v.duplicate ∨ v.reportSeq = some r.seq then .next s
    else
      let s := afterSnapshot s
      let s := s.setFnode n { s.fnode n with reportSeq := some r.seq, report := some r, reportTime := s.now }
      .next (s.via (44 + r.port / 4) [(n : Int)] fun s => match s.boundTo n with
        | none => s
        | some t => postRequest t r.demand r.offer (min r.firm r.offer) s)

/-! ## HB_CTRL and the messages of an epoch (R360, R364) -/

/-- Sends HB_CTRL on every profile port. -/
def sendBeat (s : State) : State :=
  let tick := if s.ep.phase = 3 then s.ep.tick.getD 0 else 0
  let s := s.sendFrame s.profilePorts 3 0x10 0x3F 0 (leBytes s.time 8 ++ leBytes tick 8 ++ leBytes (bit s.clk.timeValid) 4) 3 false
  { s with field := { s.field with beat := some s.now } }

/-- HB_CTRL_SEND (R360): at each multiple of 100 ms of valid site time, else at the release of PD9 and 100 ms after the last. -/
def execHbCtrlSend (s : State) : Out :=
  if s.power.domains.getLsbD 9 = false ∨ s.field.beat = some s.now then .next s
  else if (if s.clk.timeValid then s.clk.tai % 100000 = 0 else s.field.beat = none ∨ s.past s.field.beat 100000) then .next (sendBeat s)
  else .next s

/-- Nodes with an answer to the stage: 0 silent, 1 confirmed, 2 disagreeing. -/
def State.stageCount (s : State) (k : Nat) : Nat := (s.ep.answers.filter fun e => decide (e.2 = k)).length

/-- RESULT of EPOCH_STAGE: a node that has not answered is silent once the stage is complete (R88), and not yet counted
before (R89). -/
def State.stageRes (s : State) : Res :=
  res [(0, 4, (s.ep.number + 1).toNat), (4, 2, s.stageCount 1), (6, 2, s.stageCount 2),
    (8, 2, if s.ep.phase = 2 then s.stageCount 0 else 0), (10, 6, s.ep.stagedRoot.toNat % 281474976710656)]

/-- The stage completes (R88). -/
def stageDone (s : State) : State :=
  let s : State := { s with ep := { s.ep with phase := 2 } }
  overL ((s.liveOf 0x0301).filter (·.committed)) (fun l t => t.finish l 0 t.stageRes) s

/-- The port runs the profile, is up and reaches the node, which the running or the staged configuration holds (R356, R88). -/
def State.reachesNode (s : State) (p n : Nat) : Bool :=
  ((aget s.ep.cfg.fields n).isSome || (aget s.ep.staged.fields n).isSome) && (s.nodePorts n).contains p && s.portUp p &&
  decide (s.portMode p = 1)

/-- A node answers the stage, or a transfer of R94 (R364, R88). -/
def takeResult (n result : Nat) (digest : Digest) (s : State) : State :=
  let s := s.setFnode n { s.fnode n with transfer := none }
  if s.ep.phase = 1 ∧ aget s.ep.answers n = some 0 then
    let ok := decide (result = 0 ∧ digest = s.ep.staged.own 3 n)
    let s : State := { s with ep := { s.ep with answers := aset s.ep.answers n (if ok then 1 else 2) } }
    if s.stageCount 0 = 0 then stageDone s else s
  else s

/-- STAGE_RESULT (R357, R364): a repeated SEQ is discarded, on either port. -/
def execStageResult (n result : Nat) (digest : Digest) (s : State) (h : FieldHead := ⟨0, 0, true⟩) : Out :=
  if s.reachesNode h.port n = false then .next s
  else
    let s := countFrame h.port (nodeIdent 5 0x22 (n % 32)) 48 h.checkOk s
    let v := s.fnode n
    if h.checkOk = false ∨ v.duplicate ∨ v.resultSeq = some h.seq then .next s
    else .next (takeResult n result digest (s.setFnode n { v with resultSeq := some h.seq }))

/-- COMMIT_ACK (R357, R364): one that comes after the tick is discarded (Table 14-10). -/
def execCommitAck (n op : Nat) (newEpoch : Word) (s : State) (h : FieldHead := ⟨0, 0, true⟩) : Out :=
  if s.reachesNode h.port n = false then .next s
  else
    let s := countFrame h.port (nodeIdent 2 0x0A (n % 32)) 20 h.checkOk s
    let v := s.fnode n
    if h.checkOk = false ∨ v.duplicate ∨ v.ackSeq = some h.seq then .next s
    else
      let s := s.setFnode n { v with ackSeq := some h.seq }
      if s.ep.phase = 3 ∧ op = 1 ∧ newEpoch = s.ep.number + 1 ∧ aget s.ep.answers n = some 1 ∧ ¬ s.ep.acked.contains n then
        .next { s with ep := { s.ep with acked := s.ep.acked ++ [n] } }
      else .next s

/-- COMMIT with OP 1 to every confirmed node that has not acknowledged (R364). -/
def sendAnnounce (s : State) : State :=
  let s : State := { s with ep := { s.ep with announceAt := s.now } }
  let left := (s.ep.answers.filter fun e => decide (e.2 = 1 ∧ ¬ s.ep.acked.contains e.1)).map (·.1)
  overL left (fun n t => sendCommit (t.nodePorts n) (n % 32) 1 (t.ep.number + 1) (t.ep.tick.getD 0) t) s

/-- COMMIT_ANNOUNCE_RESEND (R364): 10 ms after the last announcement. -/
def execCommitAnnounceResend (s : State) : Out :=
  if s.ep.phase = 3 ∧ s.after s.ep.announceAt 10000 then .next (sendAnnounce s) else .next s

/-! ## Errors (R347, R348, R354) -/

/-- A port is retired (R348). -/
def portRetire (p : Nat) (s : State) : State :=
  let s := s.setPort p { s.port p with state := 5, resetting := false }
  let s := (s.retire (handle 10 p) 0x08B0).report 11 0x08B1 (handle 10 p) (res [(0, 1, p)])
  let s := s.finishAll 0x0104 (handle 10 p) 0x0303 0
  let lost := (s.ep.cfg.fields.map (·.1)).filter fun n =>
    (s.nodePorts n).contains p && (s.nodePorts n).all fun x => decide ((s.port x).state = 5)
  losePort p (overL lost (fun n t => nodeGone n 2 t) s)

/-- A port goes bus-off (R347). -/
def busOff (p : Nat) (s : State) : State :=
  let offs := s.recentOffs p ++ [s.windowTime]
  let r := res [(0, 1, p), (1, 1, offs.length)]
  let s := (s.setPort p { s.port p with state := 3, offAt := s.now, busOffs := offs, profile := [] }).event 11 0x08B0 r
  let s := endHostFrames p (fun _ => true) 0x08B0 r s
  if 4 ≤ offs.length then portRetire p s else commitPortResets p s

/-- The third consecutive error of an identifier after arbitration (R354). -/
def duplicate (p : Nat) (i : Word) (own : Bool) (s : State) : State :=
  let r := res [(0, 1, p), (1, 1, if own then 1 else 2), (4, 4, i.toNat)]
  let v := s.port p
  let s := s.setPort p { v with
    errRun := adel v.errRun i, quiet := aset v.quiet i (s.now, 0), dupIdent := i, dupTime := s.time,
    dupCount := bump32 v.dupCount, profile := v.profile.filter fun f => decide (bareIdent f.ident ≠ i) }
  let s := s.report 11 0x08B2 (handle 10 p) r
  let s := endHostFrames p (fun f => decide (bareIdent f.ident = i)) 0x08B2 r s
  match if isProfile i ∧ identSrc i < 32 ∧ s.portMode p = 1 then s.nodeAt p (identSrc i) else none with
  | none => s
  | some n => nodeGone n 3 (s.setFnode n { s.fnode n with duplicate := true })

/-- CAN_BUS_ERROR (R347, R354). -/
def execCanBusError (p : Nat) (e : CanError) (s : State) : Out :=
  if s.portHears p = false then .next s
  else
    let v := s.port p
    let st := if v.state = 4 then 4 else errorState e.txErrors e.rxErrors
    let i := bareIdent e.ident
    let k := if e.afterArbitration then (aget v.errRun i).getD 0 + 1 else 0
    let s := s.setPort p { v with
      txErrors := e.txErrors, rxErrors := e.rxErrors, errors := bump32 v.errors, state := if st = 3 then v.state else st,
      errRun := if k = 0 then v.errRun else aset v.errRun i k }
    let s := if k = 3 then duplicate p i e.own s else s
    .next (if st = 3 then busOff p s else commitPortResets p s)

/-- 128 occurrences of 11 recessive bits at the nominal rate, µs (R347, Table 14-1). -/
def State.busOffTime (s : State) (p : Nat) : Nat := 1408 * (8 / 2 ^ fld (s.blk 10) (16 + 16 * p + 1) 1)

/-- BUS_OFF_RECOVERED (R347): both counters are 0 after the recessive sequence, which lasts 1,408 nominal bits or more. -/
def execBusOffRecovered (p : Nat) (s : State) : Out :=
  let v := s.port p
  if v.state = 3 ∧ v.resetting = false ∧ s.after v.offAt (s.busOffTime p) then .next (s.setPort p { v with state := 1, txErrors := 0, rxErrors := 0 }) else .next s

/-- PORT_REJOIN (R349): the reset's command completes. -/
def execPortRejoin (p : Nat) (s : State) : Out :=
  let v := s.port p
  if v.resetting = false ∨ v.state = 5 then .next s
  else
    let s := s.setPort p { v with
      resetting := false, state := if s.portMode p = 0 then 0 else if s.portMode p = 3 then 4 else 1 }
    .next (overL ((s.liveOn 0x0104 (handle 10 p)).filter (·.committed)) (fun l t => t.finish l 0 0) s)

/-- DUPLICATE_QUIET_END (R354). -/
def execDuplicateQuietEnd (p : Nat) (ident : Word) (s : State) : Out :=
  let i := bareIdent ident
  match aget (s.port p).quiet i with
  | none => .next s
  | some (t, _) =>
    if s.after t 10000000 then
      let s := s.setPort p { s.port p with quiet := adel (s.port p).quiet i }
      match if isProfile i then s.nodeAt p (identSrc i) else none with
      | none => .next s
      | some n => .next (s.setFnode n { s.fnode n with duplicate := false })
    else .next s

/-! ## Host frames (R350 to R353, R367, R368) -/

/-- A frame was sent: counters, and the fall of the transmit error counter by one. -/
def frameSent (p : Nat) (f : TxFrame) (s : State) : State :=
  let v := s.port p
  let tx := v.txErrors - 1
  goodFrame p f.ident (loadBus p f.ident f.payload.length
    (s.setPort p { v with sent := bump32 v.sent, txErrors := tx, state := errorState tx v.rxErrors }))

/-- What a frame's arbitration compares, as one number: the 11-bit base, then the extended flag, then the other 18 bits. -/
def arbKey (w : Word) : Nat :=
  let v := w.toNat % 536870912
  if w.getLsbD 29 then v / 262144 * 524288 + 262144 + v % 262144 else v % 2048 * 524288

/-- The frame that wins arbitration: the lowest identifier, the first listed of equals (R353). -/
def winner : List (Nat × TxFrame) → Option (Nat × TxFrame)
  | [] => none
  | f :: r => match winner r with
    | none => some f
    | some g => if arbKey g.2.ident < arbKey f.2.ident then some g else some f

/-- The frames pending on a port since a moment or before: those in the host's buffers 0 to 3, and the port's own under 4. -/
def State.pendingAt (s : State) (p t : Nat) : List (Nat × TxFrame) :=
  let host := (upTo 4).filterMap fun b => (tget (s.port p).tx b none).map fun x => (b, x.frame)
  (host ++ (s.port p).profile.map fun f => (4, f)).filter fun e => decide (e.2.since ≤ t)

/-- A request may end so: sent within its retry limit, or dropped once that limit is used (R350). -/
def TxFrame.mayEnd (f : TxFrame) (sent : Bool) (retrans : Nat) : Bool :=
  if sent then decide (f.retry = 255 ∨ retrans ≤ f.retry) else decide (f.retry ≠ 255 ∧ retrans = f.retry)

/-- The list without its first entry equal to `f`. -/
def dropFirst (f : TxFrame) : List TxFrame → List TxFrame
  | [] => []
  | g :: r => if g = f then r else g :: dropFirst f r

/-- The port's frame that ended leaves: a host's completes its command with the retransmissions and the site time at SOF. -/
def frameEnds (p b : Nat) (f : TxFrame) (sent : Bool) (retrans age : Nat) (s : State) : State :=
  let s := s.setPort p { s.port p with retrans := min ((s.port p).retrans + retrans) 4294967295 }
  let s := if sent then frameSent p f s else s
  if b < 4 then endHostFrame p b (if sent then 0 else 0x04B0)
    (res [(0, 1, retrans), (8, 8, if sent then ((s.time - age : Nat) : Int) else 0)]) s
  else s.setPort p { s.port p with profile := dropFirst f (s.port p).profile }

/-- CAN_TRANSMIT_DONE (R350, R353): the frame whose SOF came `age` µs ago is the one that won arbitration then. Buffers 0 to
3 are the host's, 4 the port's own. -/
def execCanTransmitDone (p buffer : Nat) (sent : Bool) (retrans : Nat) (s : State) (age : Nat := 0) : Out :=
  if s.portUp p = false ∨ 16 ≤ p ∨ s.now < age then .next s
  else match winner (s.pendingAt p (s.now - age)) with
    | none => .next s
    | some (b, f) =>
      if b ≠ min buffer 4 ∨ f.mayEnd sent retrans = false then .next s
      else .next (commitPortResets p (frameEnds p b f sent retrans age s))

/-- The frame enters a receive object: the shadow while the main buffer is held (R352). -/
def storeFrame (o : RxObj) (f : CanFrame) : RxObj × Bool :=
  if o.heldSince.isSome then
    ({ o with shadow := some f, replaced := if o.shadow.isSome then o.replaced + 1 else o.replaced }, o.shadow.isSome)
  else ({ o with main := some f }, false)

/-- Payload lengths of a profile kind (Table 14-6); none for a kind that the table lacks. -/
def kindLength (kind n : Nat) : Bool :=
  if 48 ≤ kind then decide (12 ≤ n)
  else match kind with
    | 0x01 => decide (n = 20)
    | 0x02 => decide (n = 32)
    | 0x08 => decide (n = 64)
    | 0x09 => decide (n = 32)
    | 0x0A => decide (n = 20)
    | 0x10 => decide (n = 32)
    | 0x11 => decide (n = 48)
    | 0x12 => decide (n = 48)
    | 0x18 => decide (n = 20)
    | 0x20 => decide (n = 64)
    | 0x21 => decide (n = 48)
    | 0x22 => decide (n = 48)
    | 0x23 => decide (n = 12)
    | _ => false

/-- An extended CAN FD frame on a port that runs the profile breaks R355 (log entry 126). -/
def State.malformed (s : State) (p : Nat) (f : CanFrame) : Bool :=
  decide (s.portMode p = 1) && f.ident.getLsbD 29 && !f.ident.getLsbD 31 &&
  !(isProfile f.ident && kindLength (identKind f.ident) f.data.length)

/-- The lowest enabled receive object whose identifier and mask match a frame (R352). -/
def State.rxMatch (s : State) (p : Nat) (f : CanFrame) : Option Nat :=
  (upTo 16).find? fun k =>
    let o := tget (s.port p).rx k {}
    o.enable && decide ((f.ident ^^^ o.ident) &&& o.mask = 0)

/-- HOST_FRAME_RECEIVE (R352): the lowest enabled object that matches takes the frame, and firmware hears of it through Q44 to
Q47. A retired port only counts it. A remote frame is ignored and counted, an option refused (R344, R7, note 11); a frame that
breaks the profile's layout is discarded and counted (R355). -/
def execHostFrameReceive (p : Nat) (f : CanFrame) (s : State) : Out :=
  if 16 ≤ p then .next s
  else if (s.port p).state = 5 then .next (s.setPort p { s.port p with received := bump32 (s.port p).received })
  else if s.portHears p = false then .next s
  else
    let s := countHeard p f.ident (if f.remote then 0 else f.data.length) s
    if f.remote then
      .next ((s.setPort p { s.port p with ignored := bump32 (s.port p).ignored }).note 11 (handle 10 p) [5])
    else if s.malformed p f then .next (s.setPort p { s.port p with discarded := bump32 (s.port p).discarded })
    else match s.rxMatch p f with
    | none => .next s
    | some k =>
      let o := tget (s.port p).rx k {}
      let x := storeFrame o f
      let v := s.port p
      let s := s.setPort p { v with rx := tset v.rx k x.1, shadows := if x.2 then bump32 v.shadows else v.shadows }
      .next (s.via (44 + p / 4) [(p : Int), (k : Int)] fun s => if o.event then
        s.event 11 0x00B1 (res [(0, 1, p), (1, 1, k), (2, 1, f.data.length), (4, 4, f.ident.toNat)]) else s)

/-- The reader releases the main buffer: a shadow becomes the main buffer (R352). -/
def RxObj.release (o : RxObj) : RxObj :=
  { o with heldSince := none, main := if o.shadow.isSome then o.shadow else o.main, shadow := none }

/-- RX_HOLD_EXPIRE (R368). -/
def execRxHoldExpire (p object : Nat) (s : State) : Out :=
  let v := s.port p
  let o := tget v.rx object {}
  if s.past o.heldSince 10000 then .next (s.setPort p { v with rx := tset v.rx object o.release }) else .next s

/-! ## The opcodes of Table 14-11 -/

/-- Field nodes present on a port. -/
def State.presentOn (s : State) (p : Nat) : Nat :=
  (s.ep.cfg.fields.filter fun e => (s.nodePorts e.1).contains p && decide ((s.fnode e.1).state = 1)).length

/-- Load of a port over the last second, 0.1 %: the durations of the frames sent and received (R365; log entry 34). -/
def State.portLoad (s : State) (p : Nat) : Nat :=
  min 1000 ((((s.port p).load.filter fun e => decide (s.now < e.1 + 1000000)).foldl (fun a e => a + e.2) 0) / 1000000)

/-- PORT_STATUS. -/
def portStatusOf (q : Req) (s : State) : Reply :=
  let v := s.port q.idx
  reads s [(0, 1, v.state), (1, 1, min v.txErrors 255), (2, 1, min v.rxErrors 255), (3, 1, min (s.recentOffs q.idx).length 255),
    (4, 4, v.sent), (8, 4, v.received), (12, 2, s.portLoad q.idx), (14, 2, s.presentOn q.idx)]
def execPortStatus (c : Cmd) (s : State) : Out := host (line 0x0B00 .R [10] 0 0) c portStatusOf s

/-- PORT_COUNTERS. -/
def portCountersOf (q : Req) (s : State) : Reply :=
  let v := s.port q.idx
  let r := res [(0, 4, v.errors), (4, 4, v.mismatches), (8, 4, v.retrans), (12, 4, v.shadows)]
  .done 0 r (if tst (q.w 0) 0 then s.setPort q.idx { v with errors := 0, mismatches := 0, retrans := 0, shadows := 0 } else s)
def execPortCounters (c : Cmd) (s : State) : Out := host (line 0x0B01 .R [10] 0 1) c portCountersOf s

/-- NODE_STATUS: a node that a tick left behind while it was absent is quarantined (R91); of a node never heard, [4–7] is the
uptime (log entry 119). -/
def nodeStatusOf (q : Req) (s : State) : Reply :=
  let v := s.fnode q.idx
  reads s [(0, 1, if v.quarantined then 2 else v.state), (1, 1, bit v.heardA + 2 * bit v.heardB + 4 * bit v.duplicate), (2, 2, v.epoch.toNat),
    (4, 4, min ((s.now - v.lastBeat) / 1000) 4294967295), (8, 4, v.absences),
    (12, 4, (match v.digest with
      | none => 0
      | some d => d.toNat % 4294967296 : Nat))]
def execNodeStatus (c : Cmd) (s : State) : Out := host (line 0x0B02 .R [11] 0 0) c nodeStatusOf s

/-- A CAN FD payload length. -/
def canLength (n : Nat) : Bool := decide (n ≤ 8 ∨ n = 12 ∨ n = 16 ∨ n = 20 ∨ n = 24 ∨ n = 32 ∨ n = 48 ∨ n = 64)

/-- FRAME_SEND's identifier and length are refused (R367). -/
def State.frameBad (s : State) (w : Word) (n : Nat) : Bool :=
  !canLength n || (w.getLsbD 31 && decide (8 < n)) || (!w.getLsbD 29 && decide (2048 ≤ w.toNat % 536870912)) ||
  (isProfile w && !(decide (48 ≤ identKind w) && decide (identSrc w = 0x3E))) ||
  (upTo 64).any fun k => decide (s.scFld k 0 1 ≠ 0 ∧ s.scFld k 4 4 % 1073741824 = (bareIdent w).toNat)

/-- FRAME_SEND (R350, R351, R354, R367): by way of Q48 to Q51, committed once the frame is in a transmit buffer. -/
def frameSendOf (q : Req) (s : State) : Reply :=
  let p := q.idx
  let w := q.word 0
  let n := q.w 1 % 128
  let retry := q.w 1 / 256 % 256
  let v := s.port p
  if s.frameBad w n then rej 0x0108 s
  else if v.state = 5 then rej 0x0303 s
  else if v.state = 0 ∨ s.portMode p = 0 ∨ s.portMode p = 3 ∨ (s.portMode p = 2 ∧ w.getLsbD 31 = false) then rej 0x0301 s
  else if (aget v.quiet (bareIdent w)).isSome then
    .done 0x08B2 (res [(0, 1, p), (1, 1, 1), (4, 4, (bareIdent w).toNat)]) s
  else match (upTo 4).find? fun b => (tget v.tx b none).isNone with
    | none => rej 0x05B0 s
    | some b =>
      let data := (((q.params.drop 2).flatMap wordBytes) ++ List.replicate 64 0).take n
      let limit := if retry = 0 then fld (s.blk 10) (16 + 16 * p + 3) 1 else retry
      viaReply (48 + p / 4) [(p : Int), (w.toNat : Int)] (fun t => .live true [(b : Int)]
        (t.setPort p { v with tx := tset v.tx b (some ⟨⟨w, data, limit, t.now⟩, q.seat, q.tag, 0⟩) })) s
def execFrameSend (c : Cmd) (s : State) : Out := host (line 0x0B03 .A [10] 2 18) c frameSendOf s

/-- RX_OBJECT_SET. -/
def rxObjectSetOf (q : Req) (s : State) : Reply :=
  let v := s.port q.idx
  if 15 < q.w 0 then rej 0x0108 s
  else if v.state = 5 then rej 0x0303 s
  else .done 0 0 (s.setPort q.idx { v with
    rx := tset v.rx (q.w 0) { ident := q.word 1, mask := q.word 2, enable := tst (q.w 3) 0, event := tst (q.w 3) 1 } })
def execRxObjectSet (c : Cmd) (s : State) : Out := host (line 0x0B04 .A [10] 4 4) c rxObjectSetOf s

/-- RX_OBJECT_READ (R368): a read at offset 0 holds the main buffer until a read covers the frame's last byte. -/
def rxObjectReadOf (q : Req) (s : State) : Reply :=
  let v := s.port q.idx
  let o := tget v.rx (q.w 0) {}
  let off := q.w 1
  if 15 < q.w 0 ∨ 56 < off ∨ off % 8 ≠ 0 then rej 0x0108 s
  else if off ≠ 0 ∧ o.heldSince = none then rej 0x0301 s
  else match o.main with
    | none => .done 0 0 s
    | some f =>
      let r := res [(0, 4, f.ident.toNat), (4, 1, f.data.length), (5, 1, bit o.shadow.isSome + 2 * bit (decide (0 < o.replaced))),
        (8, 8, leNat ((f.data.drop off).take 8))]
      let o := { o with replaced := 0, heldSince := if off = 0 then some s.now else o.heldSince }
      .done 0 r (s.setPort q.idx { v with rx := tset v.rx (q.w 0) (if f.data.length ≤ off + 8 then o.release else o) })
def execRxObjectRead (c : Cmd) (s : State) : Out := host (line 0x0B05 .R [10] 2 2) c rxObjectReadOf s

/-- DUPLICATE_READ. -/
def duplicateReadOf (q : Req) (s : State) : Reply :=
  let v := s.port q.idx
  reads s [(0, 4, v.dupIdent.toNat), (4, 8, v.dupTime), (12, 4, v.dupCount)]
def execDuplicateRead (c : Cmd) (s : State) : Out := host (line 0x0B06 .R [10] 0 0) c duplicateReadOf s

end Sys2Proof.Machine
end

