-- ==== Sys2Proof/Machine/Epoch.lean ====
section
/-! DEFINITION. Configuration and epochs (chapter 03): site time, the stage, the commit and its tick, digests, the seat reset
that a tick can force (R64), and the commands of Table 3-6. -/

namespace Sys2Proof.Machine

/-! ## Site time (R81, R82, R93) -/

/-- SOURCE of the site-time block. -/
def State.timeSource (s : State) : Nat := s.cfgD 0 0 1 0

/-- The forms of connectors whose MODE an announcement concerns are selected again (R247). -/
def reformConns (s : State) : State := overL (upTo 16) applyForm s

/-- An announced commit is withdrawn: the stage stays staged (R93, R57, R364). -/
def withdrawCommit (s : State) : State :=
  if s.ep.phase ≠ 3 then s
  else
    let s := sendCommit s.profilePorts 0x3F 2 (s.ep.number + 1) (s.ep.tick.getD 0) s
    reformConns { s with
      ep := { s.ep with phase := 2, tick := none, acked := [] }
      cal := { s.cal with withdrawn := [] } }

/-- The count of site time is set. A step beyond 1 ms stretches Caldera's period again to whole multiples (R83; log entry
35). -/
def setTai (t : Nat) (s : State) : State :=
  let t := wrap64 t
  let far := decide (s.clk.tai + 1000 < t ∨ t + 1000 < s.clk.tai)
  if far ∧ s.cal.aligned then
    let u := unalignPeriod s
    alignPeriod { u with clk := { u.clk with tai := t } }
  else { s with clk := { s.clk with tai := t } }

/-- Site time becomes valid: periods align, a gap whose bound waited gets it (R121, R292). -/
def timeValidNow (s : State) : State :=
  if s.clk.timeValid then s
  else
    let s : State := { s with clk := { s.clk with
      timeValid := true, firstValid := match s.clk.firstValid with
        | some t => some t
        | none => some s.clk.uptime } }
    gapResolve (if s.calOn then alignPeriod s else s)

/-- Site time becomes invalid: an announced commit is withdrawn (R81, R93). -/
def timeInvalidNow (s : State) : State :=
  let s := unalignPeriod s
  let s : State := { s with clk := { s.clk with timeValid := false, syncs := 0, ptpPort := none, ppsSeconds := none } }
  if s.ep.phase = 3 then
    overL (s.liveOf 0x0302) (fun l t => if l.committed then t else t.finish l 0x0311 0) (withdrawCommit s)
  else s

/-- Ports that SOURCE admits, the preferred one first (log entry 36). -/
def State.ptpPorts (s : State) : List Nat := match s.timeSource with
  | 1 => [0]
  | 2 => [1]
  | 3 => [0, 1]
  | _ => []

/-- An Announce stands for as long as the standard's receipt timeout of three intervals of 2 s (log entry 36). -/
def announceTime : Nat := 6000000

/-- Lexicographic order of two datasets. -/
def datasetLess : List Nat → List Nat → Bool
  | a :: p, b :: q => decide (a < b) || (decide (a = b) && datasetLess p q)
  | _, _ => false

/-- The first transmitter is the better by the standard's dataset comparison: the dataset of its grandmaster, then the steps
removed, then the identity of the sender (log entry 36). -/
def masterLess (a b : (Nat × Nat) × List Nat × Nat × Nat) : Bool :=
  datasetLess (a.2.1 ++ [a.2.2.1, a.1.2]) (b.2.1 ++ [b.2.2.1, b.1.2])

/-- The best of a list of transmitters. -/
def bestMaster : List ((Nat × Nat) × List Nat × Nat × Nat) → Option ((Nat × Nat) × List Nat × Nat × Nat)
  | [] => none
  | a :: r => match bestMaster r with
    | none => some a
    | some b => if masterLess b a then some b else some a

/-- The source selected among the transmitters whose Announce stands: the best of the first admitted port that has one (R80,
R81). -/
def State.ptpMaster (s : State) : Option (Nat × Nat) :=
  (s.ptpPorts.findSome? fun p => bestMaster (s.clk.masters.filter fun m =>
    decide (m.1.1 = p ∧ s.now < m.2.2.2 + announceTime))).map (·.1)

/-- A Sync of the selected source: site time follows it, and is valid after 16 in a row within LOCK_NS. -/
def ptpSync (port : Nat) (offset : Int) (tai : Nat) (s : State) : State :=
  let k := if s.clk.ptpPort = some port then s.clk.syncs else 0
  let n := if offset.natAbs ≤ fld (s.blk 0) 2 2 then min (k + 1) 16 else 0
  let s := setTai tai { s with clk := { s.clk with ptpPort := some port, syncs := n, sourceHeard := s.now } }
  if n = 16 then timeValidNow s else s

/-- An Announce is held, and the count of Syncs starts again where it changes the source. -/
def ptpAnnounce (port sender : Nat) (dataset : List Nat) (steps : Nat) (s : State) : State :=
  let old := s.ptpMaster
  let s : State := { s with clk := { s.clk with masters := aset s.clk.masters (port, sender) (dataset, steps, s.now) } }
  if s.ptpMaster = old then s else { s with clk := { s.clk with syncs := 0 } }

/-- PTP_MESSAGE (R81). A request for another option is refused as the standard provides, and journalled (R7, note 11). -/
def execPtpMessage (m : PtpMsg) (s : State) : Out :=
  if s.power.domains.getLsbD 10 = false ∨ ¬ s.ptpPorts.contains m.port ∨ m.domain ≠ fld (s.blk 0) 1 1 then .next s
  else match m.body with
    | .announce d n => .next (ptpAnnounce m.port m.sender d n s)
    | .sync offset tai => if s.ptpMaster = some (m.port, m.sender) then .next (ptpSync m.port offset tai s) else .next s
    | .option code => .next (s.note 11 (handle 17 m.port) (4 :: leBytes code.toNat 2))

/-- HOLDOVER_EXPIRE (R81, R82). -/
def execHoldoverExpire (s : State) : Out :=
  if s.clk.timeValid ∧ s.after s.clk.sourceHeard (1000 * s.cfgD 0 4 4 300000) then .next (timeInvalidNow s) else .next s

/-- The whole second of site time nearest a time, µs. -/
def nearestSecond (t : Nat) : Nat := (t + 500000) / 1000000 * 1000000

/-- An edge that a TIME_SET labels. -/
def ppsLabelled (sec : Nat) (s : State) : State :=
  timeValidNow (setTai (sec * 1000000) { s with clk := { s.clk with ppsSeconds := none, sourceHeard := s.now } })

/-- An edge that no TIME_SET labels: site time takes the nearest whole second, if that lies within 1 ms. -/
def ppsRound (s : State) : State :=
  if s.clk.tai + 1000 < nearestSecond s.clk.tai ∨ nearestSecond s.clk.tai + 1000 < s.clk.tai then
    { s with clk := { s.clk with ppsIgnored := s.clk.ppsIgnored + 1 } }
  else { s with clk := { s.clk with tai := wrap64 (nearestSecond s.clk.tai), sourceHeard := s.now } }

/-- PPS_IN_EDGE (R82). -/
def execPpsInEdge (s : State) : Out :=
  if s.timeSource ≠ 4 then .next s
  else match s.clk.ppsSeconds with
    | some sec => .next (ppsLabelled sec s)
    | none => .next (if s.clk.timeValid then ppsRound s else s)

/-- TIME_SET. -/
def timeSetOf (q : Req) (s : State) : Reply :=
  if s.timeSource ≠ 4 then rej 0x0301 s else .done 0 0 { s with clk := { s.clk with ppsSeconds := some (q.w2 0) } }
def execTimeSet (c : Cmd) (s : State) : Out := host (line 0x0307 .C [0] 2 2) c timeSetOf s

/-! ## Digests (R84 to R86) -/

/-- The configuration that the local units read back: the loop engine's block with the working sets (R73). -/
def State.readback (s : State) : SiteCfg :=
  let head := (s.blk 3).filter fun e => decide (e.1 < 16)
  let sets := (upTo 64).flatMap fun k => (s.slot k).working.map fun e => (16 + 256 * k + e.1, e.2)
  { s.ep.cfg with blocks := tset s.ep.cfg.blocks 3 (head ++ sets) }

/-- The units that the controller itself reads back: blocks and local tree nodes. -/
def State.localUnits (s : State) : List (Nat × Nat) := s.ep.cfg.units.filter fun u => decide (u.1 ≠ 3)

/-- DIGEST_READBACK (R86): the local units report, and every unit is judged, field nodes that report no more too. -/
def execDigestReadback (s : State) : Out :=
  if s.calOn = false then .next s
  else
    let c := s.readback
    let now := s.localUnits.map fun u => (u, c.own u.1 u.2)
    let s := refreshRoot { s with ep := { s.ep with reported := now ++ s.ep.reported.filter fun e => decide (e.1.1 = 3) } }
    .next (overL s.ep.cfg.units (fun u t => judgeDigest u.1 u.2 t) s)

/-- A digest that DIGEST_READ names: none where its parameters name no unit. -/
def State.digestOf (s : State) (cls i which : Nat) (intended own : Bool) : Option Digest :=
  let f := if intended then s.intendedOf else s.reportedOf
  let c := s.ep.cfg
  if cls = 0 then
    (if which = 0 then some (if own then c.ownDevice else c.rootOf f)
     else if which ≤ 16 then some (f 1 (which - 1)) else none)
  else if cls = 3 then some (if own then f 2 i else c.group f 17 i)
  else some (f 3 i)

/-- DIGEST_READ. -/
def digestReadOf (q : Req) (s : State) : Reply :=
  let o := q.w 1
  match s.digestOf (hClass q.hnd) q.idx (q.w 0) (tst o 1) (tst o 2) with
  | none => rej 0x0108 s
  | some d => .done 0 ((d >>> (if tst o 0 then 128 else 0)).setWidth 128) s
def execDigestRead (c : Cmd) (s : State) : Out := host (line 0x0305 .R [0, 3, 11] 0 2) c digestReadOf s

/-! ## Stage (R87 to R89) -/

/-- Drops what is staging or staged: field nodes are told, an EPOCH_STAGE that has not completed does so now (R89). -/
def dropStage (s : State) : State :=
  if s.ep.phase ≠ 1 ∧ s.ep.phase ≠ 2 then s
  else
    let s := s.sendFrame s.profilePorts 5 0x23 0x3F 0 [] 3 false
    let r := s.stageRes
    let s := overL ((s.liveOf 0x0301).filter (·.committed)) (fun l t => t.finish l 0x0315 r) s
    { s with ep := { s.ep with
      phase := 0, staged := {}, stagedEdits := [], stagedRoot := 0, answers := [],
      overlay := s.ep.overlay.map fun x => (x.1, false) } }

/-- IMAGE_WRITE (R89, R96). -/
def imageWriteOf (q : Req) (s : State) : Reply :=
  let (off, data) := match q.buf with
    | some b => (q.w 4, b.data)
    | none => (q.w 0, (q.params.drop 1).flatMap wordBytes)
  if 1048576 < off + data.length then rej 0x0510 s
  else if s.ep.phase = 3 then rej 0x0310 s
  else if s.gated then rej 0x0313 s
  else
    let t := dropStage s
    .done 0 (res [(0, 4, data.length)]) { t with ep := { t.ep with slot := mputs t.ep.slot off data } }
def execImageWrite (c : Cmd) (s : State) : Out :=
  host { line 0x0300 .C [0] 1 192 with loB := 5, hiB := 5, bufIn := true } c imageWriteOf s

/-- The last checks of a stage: values, tree (R118), and the seal (R79). -/
def State.stageFault (s : State) (c : SiteCfg) : Option (Nat × Res) :=
  match s.treeFault c with
  | some (n, reason) => some (0x0120, res [(0, 2, n), (2, 1, reason)])
  | none => none

/-- The seal refuses a configuration (R79, R293). -/
def State.sealRefuses (s : State) (c : SiteCfg) : Bool := match s.metro.sealed with
  | none => false
  | some (l, _) => decide (s.boot.grade = 1) && decide (legalSet (tget c.blocks 6 []) ≠ l)

/-- What EPOCH_STAGE finds wrong with an image, in the order of R87; values are checked where all blocks are present. -/
def State.imageFault (s : State) (i : Image) : Option (Nat × Res) :=
  let c := i.cfg
  if i.blockMissing = false ∧ s.valuesBad c then some (0x0110, 0)
  else if ¬ (s.trust.owner = some (Config.sha3 i.key)) ∨
      Config.mldsaVerify i.key (Config.sha3 i.signed) i.signature = false then some (0x0710, 0)
  else if s.ep.loaded ∧ c.serial.toNat ≤ s.ep.cfg.serial.toNat then some (0x0711, 0)
  else if (c.uid ≠ 0 ∧ c.uid ≠ s.boot.uid) ∨ s.boot.fwVersion.toNat / 65536 < c.minFw.toNat / 65536 then some (0x0712, 0)
  else if i.disordered then some (0x0111, 0)
  else match s.stageFault c with
    | some f => some f
    | none => if c.rootOf c.own ≠ i.root then some (0x0112, 0) else if s.sealRefuses c then some (0x0901, 0) else none

/-- What EPOCH_STAGE finds wrong with the running configuration plus the overlay (R87); a parent that names no node, or a
missing root, is for the tree checks to report (R119). -/
def State.overlayFault (s : State) (c : SiteCfg) : Option (Nat × Res) :=
  if s.ep.loaded = false ∨ c.recordsBad then some (0x0111, 0)
  else if s.valuesBad c then some (0x0110, 0)
  else match s.stageFault c with
    | some f => some f
    | none => if s.sealRefuses c then some (0x0901, 0) else none

/-- The status of a stage whose configuration is refused; METRO_SEALED is journalled (R5, R79). -/
def stageRefused (f : Nat × Res) (s : State) : Reply := .done f.1 f.2 (s.jotSealed f.1 0x0301 (handle 0 0))

/-- The commit point of a stage: local units loaded, field nodes sent their configuration (R87, R88, R364). -/
def beginStage (c : SiteCfg) (image : Bool) (s : State) : State :=
  let s := dropStage s
  let fields := c.fields.map (·.1)
  let s : State := { s with ep := { s.ep with
    phase := 1, staged := c, stagedImage := image, stagedEdits := if image then [] else s.ep.overlay.map (·.1),
    overlay := s.ep.overlay.map fun x => (x.1, !image),
    stagedRoot := c.rootOf c.own, answers := fields.map fun n => (n, 0), stageSince := s.now } }
  overL fields (fun n t =>
    sendRecord n c (decide ((t.fnode n).digest ≠ some (c.own 3 n))) (t.setFnode n { t.fnode n with transfer := none })) s

/-- EPOCH_STAGE. Where a local unit's shadow reports another digest, nothing remains staged (R87). -/
def epochStageOf (q : Req) (s : State) : Reply :=
  let go := fun (c : SiteCfg) (image : Bool) =>
    if q.shadowFault then rej 0x0312 (dropStage s) else
    let s := beginStage c image s
    if s.ep.answers = [] then
      let s : State := { s with ep := { s.ep with phase := 2 } }
      Reply.done 0 s.stageRes s
    else .live true [] s
  if 1 < q.w 0 then rej 0x0108 s
  else if s.ep.phase = 3 then rej 0x0310 s
  else if s.power.state = 2 then rej 0x0301 s
  else if q.w 0 = 1 then
    match s.overlayFault s.overlaid with
    | some f => stageRefused f s
    | none => go s.overlaid false
  else match readImage s.ep.slot with
    | none => rej 0x0110 s
    | some i => match s.imageFault i with
      | some f => stageRefused f s
      | none => go i.cfg true
def execEpochStage (c : Cmd) (s : State) : Out := host (line 0x0301 .C [0] 1 1) c epochStageOf s

/-- STAGE_TIMEOUT (R88): the nodes that have not answered are silent. -/
def execStageTimeout (s : State) : Out :=
  if s.ep.phase = 1 ∧ s.after s.ep.stageSince (s.stageTmo s.ep.stageSince) then .next (stageDone s) else .next s

/-- EPOCH_DISCARD. -/
def epochDiscardOf (_ : Req) (s : State) : Reply :=
  if s.ep.phase = 3 then rej 0x0310 s else if s.ep.phase = 0 then rej 0x0001 s else .done 0 0 (dropStage s)
def execEpochDiscard (c : Cmd) (s : State) : Out := host (line 0x0303 .C [0] 0 0) c epochDiscardOf s

/-- EPOCH_STATUS. -/
def epochStatusOf (_ : Req) (s : State) : Reply :=
  let n := (s.ep.cfg.fields.filter fun e => (s.fnode e.1).quarantined).length
  reads s [(0, 4, s.ep.number.toNat), (4, 1, s.ep.phase), (6, 2, n), (8, 8, (s.ep.tick.getD 0 : Nat))]
def execEpochStatus (c : Cmd) (s : State) : Out := host (line 0x0304 .R [0] 0 0) c epochStatusOf s

/-- CONFIG_EXPORT (R42): the running configuration, from a start offset. -/
def configExportOf (q : Req) (s : State) : Reply :=
  if s.ep.loaded = false then rej 0x0301 s
  else
    let all := s.ep.cfg.imageBytes s.ep.root
    let room := match q.buf with
      | none => 0
      | some b => b.len
    let part := (all.drop (q.w 4)).take room
    if all.length < q.w 4 then rej 0x0108 s
    else match writeBuf q part s with
      | .error st => rej st s
      | .ok t => .done 0 (res [(0, 4, part.length), (4, 4, all.length)]) t
def execConfigExport (c : Cmd) (s : State) : Out := host (line 0x0306 .R [0] 5 5) c configExportOf s

/-! ## Commit (R90) -/

/-- Nodes that an epoch removes, rebinds or moves, and every node below one (R115). -/
def SiteCfg.withdrawn (old new : SiteCfg) : List Nat :=
  let hit := fun (n : Nat) => match aget old.nodes n, aget new.nodes n with
    | some a, some b => decide (nKind a ≠ nKind b ∨ nBind a ≠ nBind b ∨ nParent a ≠ nParent b)
    | some _, none => true
    | _, _ => false
  (old.nodes.map (·.1)).filter fun n => (old.path 16 n).any hit

/-- A multi-step action is in progress on a unit that the staged epoch changes (R90), or a link keeps a connector whose
MODE changes (R247). -/
def State.commitBusy (s : State) : Bool :=
  let changes := fun (k : Nat) => decide (tget s.ep.staged.blocks k [] ≠ s.blk k)
  ((upTo 8).any (fun p => decide ((s.mtx p).step ≠ 0)) && (changes 4 || changes 5)) ||
  (s.trust.keys.any (fun e => decide (e.2.state = 3)) && changes 12) ||
  (upTo 16).any fun c =>
    decide (fld (tget s.ep.staged.blocks 8 []) (16 + 32 * c) 1 ≠ s.cnMode c) &&
    decide ((s.conn c).link ≠ 0 ∧ (s.conn c).link ≠ 1 ∧ (s.conn c).link ≠ 7)

/-- The tick is announced (R90, R91, R115, R364). -/
def announce (tick : Nat) (s : State) : State :=
  let s : State := { s with
    ep := { s.ep with phase := 3, tick := some tick, acked := [] }
    cal := { s.cal with withdrawn := s.ep.cfg.withdrawn s.ep.staged } }
  reformConns (sendAnnounce s)

/-- EPOCH_COMMIT: live until its mark is written; its commit point is the tick. -/
def epochCommitOf (q : Req) (s : State) : Reply :=
  let t := q.w2 0
  if s.boot.provisioning then
    (if s.ep.phase = 3 then rej 0x0310 s else if s.ep.phase ≠ 2 then rej 0x0314 s
     else if tst (q.w 2) 0 = false ∧ s.stageCount 1 ≠ s.ep.answers.length then rej 0x0312 s
     else .live false [] (announce s.clk.tai s))
  else if s.clk.timeValid = false then rej 0x0311 s
  else if s.ep.phase ≠ 2 ∧ s.ep.phase ≠ 3 then rej 0x0314 s
  else if t < s.clk.tai + 300000 ∨ s.clk.tai + 3600000000 < t then rej 0x0108 s
  else if tst (q.w 2) 0 = false ∧ s.stageCount 1 ≠ s.ep.answers.length then rej 0x0312 s
  else if s.ep.phase = 3 ∨ s.commitBusy then rej 0x0310 s
  else .live false [] (announce (ceilTo s.periodUs t) s)
def execEpochCommit (c : Cmd) (s : State) : Out := host (line 0x0302 .C [0] 2 3) c epochCommitOf s

/-! ## Seat reset (R64) -/

/-- Undoes what an uncommitted command keeps in its unit while it waits (R54). -/
def undoLive (l : Live) (s : State) : State :=
  match l.opcode.toNat with
  | 0x0302 => withdrawCommit s
  | 0x0A01 => s.setChan (hIndex l.handle) { s.chan (hIndex l.handle) with waiting := none }
  | 0x0907 => { s with sup := { s.sup with exitDue := false } }
  | _ => s

/-- The command counts as committed: an EPOCH_COMMIT from its announcement (R93). -/
def Live.counts (l : Live) : Bool := l.committed || decide (l.opcode.toNat = 0x0302)

/-- The commit point of a waiting command falls due at this moment: an EPOCH_COMMIT at its tick, SNAPSHOT_SAVE and
SNAPSHOT_RESTORE at the period boundary (R58). -/
def commitDue (l : Live) (s : State) : Bool :=
  (decide (l.opcode.toNat = 0x0302) && s.tickDue) ||
  (decide (l.opcode.toNat = 0x0411 ∨ l.opcode.toNat = 0x0412) && s.boundaryDue)

/-- Seat reset (R64); `how` as note 1 gives it: 1 SW_CTRL.SEAT_RESET, 2 RESET scope 3, 0 an epoch. A command whose commit
point falls due now commits (R58). -/
def resetSeat (n how : Nat) (s : State) : State :=
  let mine := s.hostIf.live.filter fun l => decide (l.seat = n)
  let stays := fun (l : Live) => l.counts || commitDue l s
  let s := overL (mine.filter fun l => !stays l) undoLive s
  let s : State := { s with hostIf := { s.hostIf with
    live := (s.hostIf.live.filter fun l => decide (l.seat ≠ n) || stays l).map fun l =>
      if l.seat = n then { l with discard := true } else l } }
  let s := s.setSeat n { s.seat n with
    state := 0, groups := 0, eventQueue := none, dropped := 0,
    rings := (s.seat n).rings.map fun e => (e.1, ({ slots := e.2.slots, stalls := e.2.stalls } : Ring)) }
  let s := s.note 1 (handle 1 n) [BitVec.ofNat 8 how]
  s.settleAll

/-! ## The tick (R91) -/

/-- The configuration of an object, as bytes. -/
def SiteCfg.objBytes (c : SiteCfg) (h : Word) : List Byte :=
  let b := fun (k off n : Nat) => mbytes (tget c.blocks k []) off n
  let i := hIndex h
  match hClass h with
  | 3 => c.body 2 i
  | 4 => b 5 (16 + 32 * i) 32 ++ b 7 (480 + 8 * i) 8
  | 5 => b 5 (528 + 16 * i) 16 ++ b 4 (16 + 64 * i) 64
  | 6 => b 4 (528 + 16 * i) 16
  | 7 => b 3 (16 + 256 * i) 256
  | 8 => b 6 (32 + 32 * i) 32
  | 9 => b 8 (16 + 32 * i) 32 ++ b 9 (16 + 32 * i) 32
  | 10 => b 10 (16 + 16 * i) 16
  | 11 => c.body 3 i
  | 12 => b 11 (16 + 16 * i) 16
  | 14 => b 7 (1760 + 8 * i) 8
  | 15 => b 13 (16 + 16 * i) 16
  | _ => []

/-- An epoch changes an object's configuration. -/
def objChanged (old new : SiteCfg) (h : Word) : Bool := decide (old.objBytes h ≠ new.objBytes h)

/-- Estimators of a tree node at a tick (R483). -/
def carryNode (old new : SiteCfg) (n : Nat) (s : State) : State :=
  match aget old.nodes n, aget new.nodes n with
  | some a, some b =>
    let v := s.node n
    let moved := (upTo 5).filter fun k => decide (nodeSensor a k ≠ nodeSensor b k)
    let v := if nTherm a then v else { v with tEst := none }
    let v := if nWindow a ∧ fld a 40 4 = fld b 40 4 then v else { v with slices := [], sliceMs := 0, metered := 0 }
    let v := { v with sensors := v.sensors.filter fun e => decide (¬ moved.contains e.1) }
    let v := if v.sensors.any fun e => decide (e.2.state = 4) then v else { v with capHeld := none }
    let gone := moved.map fun k => handleSub 3 n (k + 1)
    let s := s.setNode n v
    { s with jnl := { s.jnl with retired := s.jnl.retired.filter fun h => decide (¬ gone.contains h) } }
  | _, _ => { s with cal := { s.cal with nodes := s.cal.nodes.filter fun e => decide (e.1 ≠ n) } }

/-- Curtailments on removed nodes are dropped and journalled (R115, note 7). -/
def dropCurtails (new : SiteCfg) (s : State) : State :=
  let gone := s.cal.curtails.filter fun e => (aget new.nodes e.1).isNone
  overL gone (fun e t => t.note 7 (handle 3 e.1) (BitVec.ofNat 8 e.2.1 :: leBytes e.2.2.1 4))
    { s with cal := { s.cal with curtails := s.cal.curtails.filter fun e => (aget new.nodes e.1).isSome } }

/-- Caldera at a tick: nothing of the old epoch is held (R91, R22). -/
def carryCaldera (old new : SiteCfg) (s : State) : State :=
  let s := supersede s
  let s : State := { s with cal := { s.cal with solved := none, drained := true, withdrawn := [] } }
  let s := dropCurtails new s
  overL ((old.nodes ++ new.nodes).map (·.1)).dedup (carryNode old new) s

/-- Loop slots whose entry changes take it at their next sample boundary, at once where none was loaded (R212, R220). -/
def carrySlots (old new : SiteCfg) (s : State) : State :=
  overL (upTo 64) (fun k t =>
    if objChanged old new (handle 7 k) = false then t
    else if tget old.blocks 3 [] = [] then slotEnable k (t.setSlot k { t.slot k with working := t.slotEntry k })
    else endInjectionOn k 6 (t.setSlot k { t.slot k with
      entryDue := true, conf := some (((t.slot k).conf).getD (old.slotEntry k)) })) s

/-- State of a port that starts in its MODE. -/
def State.portFresh (s : State) (p : Nat) : Nat := if s.portMode p = 0 then 0 else if s.portMode p = 3 then 4 else 1

/-- Field-bus ports take their MODE. -/
def carryPorts (old new : SiteCfg) (s : State) : State :=
  let mode := fun (c : SiteCfg) (p : Nat) => fld (tget c.blocks 10 []) (16 + 16 * p) 1
  overL (upTo 16) (fun p t =>
    if mode old p = mode new p ∨ (t.port p).state = 5 then t
    else t.setPort p { t.port p with state := t.portFresh p, txErrors := 0, rxErrors := 0, resetting := false }) s

/-- A channel's new source commands it from the tick: the slot that drives it, the heater line, or no one until LS_SET (Table
15-7; log entry 135). -/
def newSource (k : Nat) (s : State) : State :=
  let slots := (upTo 64).filter fun j => decide (s.slFld j 16 2 = 0x3000 + k)
  if s.lsSrc k = 2 then heaterTo s.power.heater k s
  else if s.lsSrc k = 1 ∧ slots ≠ [] then overL slots postSlot s
  else lsCommand k 0 s

/-- Load switch channels take their entry: one that is on and changes LOAD or MODE is switched off and on (Table 15-7). -/
def carryLoads (old new : SiteCfg) (s : State) : State :=
  let f := fun (c : SiteCfg) (k off : Nat) => fld (tget c.blocks 11 []) (16 + 16 * k + off) 1
  overL (upTo 24) (fun k t =>
    let t := if f old k 2 = f new k 2 then t else newSource k (t.finishAll 0x0A01 (handle 12 k) 0x0304 0)
    if f old k 0 = f new k 0 ∧ f old k 1 = f new k 1 then (if objChanged old new (handle 12 k) then lsApply k t else t)
    else if lsOn (t.chan k) then lsApply k (lsOff k 0 t)
    else lsApply k t) s

/-- Open records of points whose L fields change are marked CAL_CHANGED (R296). -/
def carryPoints (old new : SiteCfg) (s : State) : State :=
  let m := tget new.blocks 6 []
  let o := tget old.blocks 6 []
  let differs := fun (l : List Nat) => l.any fun b => legalByte b && decide (mget m b ≠ mget o b)
  if s.boot.grade ≠ 2 then s
  else overL (upTo 18) (fun p t =>
    if differs ((upTo 32).map fun i => 32 + 32 * p + i) ∨
        (t.ptChans p).any (fun c => differs ((upTo 16).map fun i => 608 + 16 * c + i)) then markRecord p 0x200 t else t) s

/-- Owners that the image changes (R60). -/
def carryOwners (old new : SiteCfg) (s : State) : State :=
  let own := fun (c : SiteCfg) (h : Word) => (c.seats.seats.find? fun e => decide (h ∈ e.2.owns)).map (·.1)
  let all := ((old.seats.seats ++ new.seats.seats).flatMap fun e => e.2.owns).dedup
  overL (all.filter fun h => decide (own old h ≠ own new h)) (fun h t =>
    { t with hostIf := { t.hostIf with owners := match own new h with
      | none => adel t.hostIf.owners h
      | some n => aset t.hostIf.owners h n } }) s

/-- Commands that wait on an object whose configuration changes complete with EPOCH_CHANGED (R56); coefficient writes do so
at their slot's boundary (R212). -/
def carryLive (old new : SiteCfg) (s : State) : State :=
  let hit := s.hostIf.live.filter fun l =>
    !l.committed && decide (l.ended = none) && objChanged old new l.handle && decide (l.opcode.toNat ≠ 0x0703)
  overL hit (fun l t => (undoLive l t).finish l 0x0304 0) s

/-- Seats whose role, transport or queues change are reset (R91). -/
def carrySeats (old new : SiteCfg) (was : Nat → Option SeatCfg) (s : State) : State :=
  let key := fun (d : Option SeatCfg) => d.map fun x => (x.role, x.transport, x.port, x.mac, x.queues)
  if old.seats = new.seats ∧ (upTo 8).all (fun n => decide (key (was n) = key (s.seatDef n))) then s
  else overL ((upTo 8).filter fun n => decide (key (was n) ≠ key (s.seatDef n))) (fun n t => resetSeat n 0 t) s

/-- Every unit takes the configuration in force, having run under `old` (R91, R247, R296, R411, R483). -/
def carry (old : SiteCfg) (was : Nat → Option SeatCfg) (s : State) : State :=
  let new := s.ep.cfg
  let s := carryLive old new (carryCaldera old new s)
  let s := carryPoints old new (carrySlots old new s)
  let s := carryLoads old new (carryPorts old new s)
  let s := overL (upTo 16) (fun c t =>
    if fld (tget old.blocks 8 []) (16 + 32 * c) 1 = t.cnMode c then applyForm c t else linkStart c t) s
  let s := overL (upTo 32) (fun r t => if objChanged old new (handle 15 r) then t.setRule r {} else t) s
  let s := updateHeater s
  let s := if tst (fld (tget old.blocks 13 []) 2 1) 0 ∧ tst (fld (s.blk 13) 2 1) 0 = false then leaveIdle s else s
  let s := judge (logIn 10 [1, (s.ep.number.toNat : Int)] s)
  carrySeats old new was (carryOwners old new s)

/-- At the first load of the clocks and thermal block after power-on, REF is checked against the source in use (R426). -/
def refCheck (s : State) : State :=
  if fld (s.blk 15) 0 1 = bit s.clk.refclk then s
  else s.event 1 0x08E1 (res [(1, 1, 1), (4, 8, if s.clk.timeValid then s.clk.tai else 0)])

/-- The multiplier's lock window and count follow block 15 (R427, R431; log entry 120). -/
def lockParams (s : State) : State :=
  { s with clk := { s.clk with lockWin := fld (s.blk 15) 1 1, lockN := fld (s.blk 15) 2 2 } }

/-- The tick (R91): the staged configuration is in force, the number rises by one, disagreeing and silent nodes are
quarantined. -/
def tickNow (s : State) : State :=
  let old := s.ep.cfg
  let was := s.seatDef
  let e := s.ep
  let fresh := e.answers.filter fun a => decide (a.2 = 1)
  let n := fresh.length
  let s := overL ((s.liveOf 0x0302).filter fun l => !l.committed) (fun l t =>
    (t.commit l.order).setKeep l.order [((e.number + 1).toNat : Int), (n : Int), ((e.answers.length - n : Nat) : Int)]) s
  let s : State := { s with
    ep := { e with
      number := e.number + 1, cfg := e.staged, loaded := true,
      overlay := if e.stagedImage then [] else e.overlay.filter fun x => !x.2, phase := 0, staged := {},
      stagedEdits := [], stagedRoot := 0, answers := [], tick := none, acked := [], markDue := true, lastTick := some s.clk.tai,
      mram := e.mram.map fun m => (m.1, m.2.1 ++ (if e.stagedImage then e.overlay.map (·.1) else e.stagedEdits), m.2.2),
      intended := e.staged.digests, root := e.stagedRoot,
      reported := e.reported.filter fun r => decide (r.1 ∈ e.staged.units),
      before := e.acked.map fun n => (n, s.intendedOf 3 n)
      timers := if e.loaded ∧ tget e.staged.blocks 14 [] ≠ s.blk 14 then e.timers ++ [(s.now, s.blk 14)] else e.timers }
    boot := { s.boot with
      epoch := e.number + 1, provisioning := false,
      failCode := if s.boot.provisioning then 0 else s.boot.failCode, stage := if s.boot.provisioning then 4 else s.boot.stage } }
  let s := overL e.answers (fun a t =>
    if a.2 = 1 then t
    else if (t.fnode a.1).state = 1 then t.setFnode a.1 { t.fnode a.1 with state := 2 }
    else if (t.fnode a.1).state = 0 then t.setFnode a.1 { t.fnode a.1 with behind := true }
    else t) s
  let s := if e.loaded then s else refCheck s
  refreshRoot (carry old was (lockParams s))

/-- EPOCH_TICK. -/
def execEpochTick (s : State) : Out := if s.ep.phase = 3 ∧ s.tickDue then .next (tickNow s) else .next s

/-- The committed mark stands in MRAM: every EPOCH_COMMIT whose tick has passed completes with its own epoch number and counts
(R92, R95). -/
def markWritten (s : State) : State :=
  let s : State := { s with ep := { s.ep with markDue := false, mram := some (s.ep.cfg, [], s.ep.number) } }
  overL ((s.liveOf 0x0302).filter (·.committed)) (fun l t =>
    t.finish l 0 (res [(0, 4, l.keep.getD 0 0), (4, 2, l.keep.getD 1 0), (6, 2, l.keep.getD 2 0)])) s

/-- EPOCH_MARK_WRITE (R92), through Q62. -/
def execEpochMarkWrite (s : State) : Out :=
  if s.ep.markDue = false ∨ s.gated then .next s else .next (s.via 62 [(s.ep.number.toNat : Int)] markWritten)

end Sys2Proof.Machine
end

