-- ==== Sys2Proof/Machine/Seats.lean ====
section
/-! DEFINITION. The system, seat and diagnostics commands of Table 2-6 except RESET, the seat window and its transports
(R65 to R70), and the timers of the command interface (R41, R49, R55, R63). -/

namespace Sys2Proof.Machine

/-- The host interface is out of reset (R70). -/
def State.hostUp (s : State) : Bool := s.power.domains.getLsbD 10

/-! ## System commands -/

/-- NOP. -/
def nopOf (q : Req) (s : State) : Reply := .done 0 (resBytes (((upTo 4).map q.word).flatMap wordBytes)) s
def execNop (c : Cmd) (s : State) : Out := host { line 0x0100 .R [0] 0 12 with loB := 4 } c nopOf s

/-- Mask of the seats in a state. -/
def State.seatsIn (s : State) (st : Nat) : Nat := maskOf (s.seatList.filter fun n => decide ((s.seat n).state = st))

/-- GET_INFO. -/
def getInfoOf (_ : Req) (s : State) : Reply :=
  reads s [(0, 4, s.btId.toNat), (4, 4, s.boot.fwVersion.toNat), (8, 4, s.ep.number.toNat), (12, 2, s.seatsIn 1),
    (14, 2, s.seatsIn 2)]
def execGetInfo (c : Cmd) (s : State) : Out := host (line 0x0101 .R [0] 0 0) c getInfoOf s

/-- GET_TIME. RESULT [8] names the configured source whether or not it is heard or valid (log entry 91). -/
def getTimeOf (_ : Req) (s : State) : Reply :=
  let src := if s.timeSource = 4 then 2 else if 1 ≤ s.timeSource ∧ s.timeSource ≤ 3 then 1 else 0
  reads s [(0, 8, s.time), (8, 1, src), (9, 1, bit s.clk.timeValid)]
def execGetTime (c : Cmd) (s : State) : Out := host (line 0x0102 .R [0] 0 0) c getTimeOf s

/-- GET_HEALTH. -/
def getHealthOf (_ : Req) (s : State) : Reply :=
  reads s [(0, 2, s.power.domains.toNat), (2, 2, s.clk.dieTemp), (4, 2, s.jnl.retired.length), (6, 2, s.jnl.contexts.length),
    (8, 1, s.sup.mode), (9, 1, s.power.state)]
def execGetHealth (c : Cmd) (s : State) : Out := host (line 0x0103 .R [0] 0 0) c getHealthOf s

/-! ## Seat commands -/

/-- SEAT_OPEN (R61). -/
def seatOpenOf (q : Req) (s : State) : Reply :=
  let r := res [(0, 1, q.seat), (1, 1, s.role q.seat), (2, 2, 256)]
  if q.w 0 ≠ 1 then rej 0x0108 s
  else if (s.seat q.seat).state = 1 then .done 1 r s
  else .done 0 r (s.setSeat q.seat { s.seat q.seat with state := 1, hbTime := s.now })
def execSeatOpen (c : Cmd) (s : State) : Out := host { line 0x0200 .R [1] 1 1 with ownSeat := true } c seatOpenOf s

/-- SEAT_CLOSE: commits once the seat's earlier commands have completed. -/
def seatCloseOf (_ : Req) (s : State) : Reply := .live false [] s
def execSeatClose (c : Cmd) (s : State) : Out := host { line 0x0201 .R [1] 0 0 with ownSeat := true } c seatCloseOf s

/-- SEAT_QUERY. -/
def seatQueryOf (q : Req) (s : State) : Reply :=
  let v := s.seat q.idx
  reads s [(0, 1, s.role q.idx), (1, 1, v.state), (2, 2, s.inFlight q.idx), (4, 4, v.absences)]
def execSeatQuery (c : Cmd) (s : State) : Out := host (line 0x0202 .R [1] 0 0) c seatQueryOf s

/-- The unread completion of a tag of a seat: its command has completed and the tag is still live (R52). -/
def State.unreadOf (s : State) (n : Nat) (tag : Word) : Option Completion :=
  ((upTo 4).flatMap fun k => (s.ring n k).posted).find? fun c => decide (c.tag = tag)

/-- ABORT (R57). A command whose packets are not complete has not committed; one whose completion the host has not read is
too late to abort (R52, Table 2-8; log entry 92); one whose commit point falls due now commits (R58). -/
def abortOf (q : Req) (s : State) : Reply :=
  let won := fun (opcode : Nat) (t : State) => Reply.done 0 (res [(0, 2, 0x0601), (2, 2, opcode)]) t
  match s.hostIf.live.find? fun l => decide (l.seat = q.idx ∧ l.tag = q.word 0 ∧ l.ended = none) with
  | some l =>
    if l.opcode.toNat = 0x0203 then rej 0x0108 s
    else if l.committed ∨ commitDue l s then .live false [(l.order : Int)] s
    else won l.opcode.toNat ((undoLive l s).finish l 0x0601 0)
  | none =>
    match (upTo 4).find? fun k => ((s.ring q.idx k).cont.map (·.tag)) = some (q.word 0) with
    | some k => won (((s.ring q.idx k).cont.map (·.opcode.toNat)).getD 0) (endCont q.idx k 0x0601 s)
    | none =>
      if q.idx = q.seat ∧ q.word 0 = q.tag then rej 0x0108 s
      else match s.unreadOf q.idx (q.word 0) with
        | none => rej 0x0603 s
        | some c =>
          if c.opecho.toNat = 0x0203 then rej 0x0108 s
          else .done 0x0602 (res [(0, 2, c.status.toNat), (2, 2, c.opecho.toNat)]) s
def execAbortCmd (c : Cmd) (s : State) : Out :=
  host { line 0x0203 .R [1] 1 1 with ownOk := fun q t => decide (t.role q.seat = 0 ∨ q.idx = q.seat) } c abortOf s

/-- EVENT_SUBSCRIBE (R37). -/
def eventSubscribeOf (q : Req) (s : State) : Reply :=
  match s.queueDef q.seat (q.w 2) with
  | none => rej 0x0108 s
  | some d =>
    if d.kind ≠ 2 then rej 0x0108 s
    else .done 0 0 (s.setSeat q.seat { s.seat q.seat with groups := BitVec.ofNat 64 (q.w2 0), eventQueue := some (q.w 2) })
def execEventSubscribe (c : Cmd) (s : State) : Out :=
  host { line 0x0204 .R [1] 3 3 with ownSeat := true } c eventSubscribeOf s

/-- OBJECT_REASSIGN (R60): commits once the owner's committed commands on the object have completed. -/
def objectReassignOf (q : Req) (s : State) : Reply :=
  if q.w 0 = 0xFF ∨ (q.w 0 < 8 ∧ (s.seatDef (q.w 0)).isSome) then .live false [] s else rej 0x0108 s
def execObjectReassign (c : Cmd) (s : State) : Out := host (line 0x0205 .C (upTo 18) 1 1) c objectReassignOf s

/-- Handles that a seat owns, ascending. -/
def State.owned (s : State) (n : Nat) : List Nat :=
  ((s.hostIf.owners.filter fun e => decide (e.2 = n)).map fun e => e.1.toNat).mergeSort

/-- OBJECT_LIST. -/
def objectListOf (q : Req) (s : State) : Reply :=
  let l := s.owned q.idx
  let e := fun (k : Nat) => (((l.drop (q.w 0)).getD k 0 : Nat) : Int)
  reads s [(0, 4, e 0), (4, 4, e 1), (8, 4, e 2), (12, 4, l.length)]
def execObjectList (c : Cmd) (s : State) : Out := host (line 0x0206 .R [1] 1 1) c objectListOf s

/-! ## Diagnostics -/

/-- Seat and index within the seat of a host queue. -/
def State.whose (s : State) (n : Nat) : Option (Nat × Nat) :=
  (s.seatList.flatMap fun a => (upTo 4).map fun k => (a, k)).find? fun e =>
    decide ((s.queueDef e.1 e.2).map (·.qnum) = some n ∧ (s.queueDef e.1 e.2).map (·.kind) ≠ some 0)

/-- Base-2 logarithm, rounded down. -/
def log2 (n : Nat) : Nat := ((upTo 16).filter fun k => decide (2 ^ k ≤ n)).length - 1

/-- QUEUE_STATUS. -/
def queueStatusOf (q : Req) (s : State) : Reply :=
  if 32 ≤ q.idx then
    let v := s.iq q.idx
    reads s [(0, 2, v.head.toNat), (2, 2, v.tail.toNat), (4, 2, s.credits q.idx), (6, 1, log2 (s.iqDepth q.idx)),
      (7, 1, bit v.stalled), (8, 4, v.stalls), (12, 2, v.refused), (14, 2, sat 16 v.discards)]
  else match s.whose q.idx with
    | none => reads s []
    | some (n, k) =>
      let r := s.ring n k
      reads s [(0, 2, r.head.toNat), (2, 2, r.tail.toNat), (4, 2, s.qcred n k),
        (6, 1, ((s.queueDef n k).map (·.depthLog2)).getD 0), (7, 1, bit r.stalled), (8, 4, r.stalls)]
def execQueueStatus (c : Cmd) (s : State) : Out := host (line 0x1000 .R [2] 0 0) c queueStatusOf s

/-- COUNTER_READ. -/
def counterReadOf (q : Req) (s : State) : Reply := if 25 < q.w 0 then rej 0x0108 s else reads s [(0, 8, s.counter (q.w 0))]
def execCounterRead (c : Cmd) (s : State) : Out := host (line 0x1001 .R [0] 1 1) c counterReadOf s

/-- COUNTER_CLEAR. -/
def counterClearOf (q : Req) (s : State) : Reply :=
  if 25 < q.w 0 then rej 0x0108 s else .done 0 (res [(0, 8, s.counter (q.w 0))]) (s.setCounter (q.w 0) 0)
def execCounterClear (c : Cmd) (s : State) : Out := host (line 0x1002 .C [0] 1 1) c counterClearOf s

/-- SRAM_STATUS. -/
def sramStatusOf (_ : Req) (s : State) : Reply :=
  reads s [(0, 4, s.hostIf.sramCorrected), (4, 4, s.hostIf.sramUncorrectable), (8, 4, s.hostIf.sramAddress.toNat)]
def execSramStatus (c : Cmd) (s : State) : Out := host (line 0x1003 .R [0] 0 0) c sramStatusOf s

/-! ## The seat window (R62, R64, R46, R47, R69, R70) -/

/-- SW_CTRL.SEAT_RESET. -/
def seatResetReg (n : Nat) (s : State) : State := if (s.seatDef n).isSome then resetSeat n 1 s else s

/-- SW_HEARTBEAT: a changed value is a heartbeat. -/
def heartbeatReg (n : Nat) (v : Word) (s : State) : State :=
  if (s.seat n).heartbeat = v then s else s.setSeat n { s.seat n with heartbeat := v, hbTime := s.now }

/-- SW_INT_STATUS: the bits written as 1 clear. -/
def intClearReg (n : Nat) (v : Word) (s : State) : State :=
  s.setSeat n { s.seat n with intStatus := (s.seat n).intStatus &&& ~~~(v.setWidth 9) }

/-- An ignored doorbell (R47). -/
def overrunBell (n : Nat) (s : State) : State := (s.setInt n flagOverrun).setCounter (8 + n) (s.counter (8 + n) + 1)

/-- SW_QDB (R46, R47): TAIL of a command queue, HEAD of a completion queue. -/
def doorbellReg (n k : Nat) (index : Half) (s : State) : State :=
  match s.queueDef n k with
  | none => s
  | some d =>
    let r := s.ring n k
    let used := (r.tail - r.head).toNat
    let at' := (index - r.head).toNat
    if d.kind = 1 then
      (if 2 ^ d.depthLog2 < at' ∨ at' < used then overrunBell n s
       else if at' = used then s
       else
        let s : State := { s with hostIf := { s.hostIf with bell := s.hostIf.bell + 1 } }
        s.setRing n k { r with tail := index, bells := r.bells ++ [(index, s.hostIf.bell)] })
    else if d.kind = 2 then
      (if used < at' then overrunBell n s
       else if at' = 0 then s
       else s.setRing n k { r with head := index, posted := r.posted.drop at', since := s.now, stalled := false })
    else s

/-- A register without behaviour of its own: SW_INT_MASK, or a word of a command queue's ring slots (R66). -/
def plainReg (n off : Nat) (v : Word) (s : State) : State :=
  if off = 0x14 then s.setSeat n { s.seat n with intMask := v.setWidth 9 }
  else if off < 0x100000 ∨ 0x200000 ≤ off ∨ off % 4 ≠ 0 then s
  else
    let k := (off - 0x100000) / 0x40000
    let w := off % 0x40000 / 4
    match s.queueDef n k with
    | none => s
    | some d =>
      if d.kind = 1 ∧ w < 16 * 2 ^ d.depthLog2 then s.setRing n k { s.ring n k with slots := aset (s.ring n k).slots w v }
      else s

/-- A write of a seat's register window (R66, R67, R69, R70). -/
def writeReg (n off : Nat) (v : Word) (s : State) : State :=
  if off = 8 then (if v.getLsbD 0 then seatResetReg n s else s)
  else if off = 0x0C then heartbeatReg n v s
  else if off = 0x10 then intClearReg n v s
  else if 0x40 ≤ off ∧ off < 0xC0 ∧ off % 0x20 = 4 then doorbellReg n ((off - 0x40) / 0x20) (v.setWidth 16) s
  else plainReg n off v s

/-- Reads one register of a seat's window; BT_RESET_CAUSE clears when read. -/
def readMore (n off : Nat) (s : State) : State :=
  let s : State := { s with hostIf := { s.hostIf with lastReads := s.hostIf.lastReads ++ [s.readReg n off] } }
  if off = 0x1010 then { s with boot := { s.boot with resetCause := 0 } } else s

/-- A read of `count` registers of a seat's window from an offset: the words go back to the host (R66 to R68). -/
def readRegs (n off count : Nat) (s : State) : State :=
  overL (upTo count) (fun k t => readMore n (off + 4 * k) t) { s with hostIf := { s.hostIf with lastReads := [] } }

/-- SEAT_RESET (R64). -/
def execSeatReset (n : Nat) (s : State) : Out := if s.hostUp then .next (seatResetReg n s) else .next s

/-- HEARTBEAT_WRITE (R62). -/
def execHeartbeatWrite (n : Nat) (v : Word) (s : State) : Out := if s.hostUp then .next (heartbeatReg n v s) else .next s

/-- DOORBELL (R46, R47). -/
def execDoorbell (n k : Nat) (index : Half) (s : State) : Out :=
  if s.hostUp then .next (doorbellReg n k index s) else .next s

/-- INT_STATUS_CLEAR (R69). -/
def execIntStatusClear (n : Nat) (v : Word) (s : State) : Out := if s.hostUp then .next (intClearReg n v s) else .next s

/-- RESET_CAUSE_READ (R70). -/
def execResetCauseRead (n : Nat) (s : State) : Out := if s.hostUp then .next (readRegs n 0x1010 1 s) else .next s

/-- REGISTER_WRITE (R69). -/
def execRegisterWrite (n off : Nat) (v : Word) (s : State) : Out := if s.hostUp then .next (plainReg n off v s) else .next s

/-- SGMII_SEAT_FRAME (R67). A frame with another version, with more than 16 packets, or of an unknown kind is dropped and
counted nowhere (log entry 53). -/
def execSgmiiSeatFrame (f : SeatFrame) (s : State) : Out :=
  if s.hostUp = false then .next s
  else
    let bound := match s.seatDef f.seat with
      | none => false
      | some d => decide (d.transport = 1 ∧ d.port = f.port ∧ d.mac = f.mac)
    if bound = false then .next (s.setCounter 24 (s.counter 24 + 1))
    else if f.version ≠ 1 then .next s
    else
      let n := f.seat
      let words := f.words.take f.count
      let depth := 2 ^ ((s.queueDef n f.queue).map (·.depthLog2)).getD 0
      .next (match f.kind.toNat with
        | 1 => if 16 < f.count then s else
            overL ((f.words.take (16 * f.count)).zipIdx) (fun e t =>
              plainReg n (0x100000 + f.queue * 0x40000 + ((f.first.toNat + e.2 / 16) % depth * 16 + e.2 % 16) * 4) e.1 t) s
        | 2 => doorbellReg n f.queue f.first s
        | 4 => readRegs n (4 * f.first.toNat) f.count s
        | 5 => overL words.zipIdx (fun e t => writeReg n (4 * (f.first.toNat + e.2)) e.1 t) s
        | _ => s)

/-- The frames that carry the unread completions of a seat's queues, from HEAD (R67). -/
def State.unreadFrames (s : State) (n : Nat) : List CqFrame :=
  (upTo 4).flatMap fun k => cqFrames k (s.ring n k).head (s.ring n k).posted

/-- COMPLETION_RESEND (R67). -/
def execCompletionResend (n : Nat) (s : State) : Out :=
  if s.hostUp ∧ s.unreadFrames n ≠ [] then .next (s.transmit n (s.unreadFrames n)) else .next s

/-- SPI_BAD_OPCODE (R68): byte 0 of a transaction other than 1 to 4. -/
def execSpiBadOpcode (_port : Nat) (byte0 : Byte) (s : State) : Out :=
  if s.hostUp ∧ (byte0 = 0 ∨ 4 < byte0.toNat) then .next (s.setCounter 25 (s.counter 25 + 1)) else .next s

/-! ## Timers of the command interface -/

/-- The next packet of the partial command is not doorbelled: no packet waits, or a fenced packet of another command, which
stays in its ring (R41, R50; log entry 89). -/
def State.nextAway (s : State) (n k : Nat) : Bool :=
  let r := s.ring n k
  decide (r.head = r.tail) ||
  match s.queueDef n k with
  | none => false
  | some d =>
    let w := fun (i : Nat) => r.slotWord (r.head.toNat % 2 ^ d.depthLog2) i
    (w 0).getLsbD 18 && !r.continues ((w 0).toNat % 65536) (w 1) (w 2)

/-- CONT_TIMEOUT (R41): the next packet was not doorbelled in time. -/
def execContTimeout (n k : Nat) (s : State) : Out :=
  match (s.ring n k).cont with
  | none => .next s
  | some w =>
    if s.nextAway n k ∧ s.boot.coreReset = false ∧ s.after w.since (s.contWait w.since) then
      .next (endCont n k 0x0402 s)
    else .next s

/-- EXEC_TIMEOUT (R55). An announced EPOCH_COMMIT stays announced (R93); a command whose commit point falls due now commits
(R58). -/
def execExecTimeout (n : Nat) (tag : Word) (s : State) : Out :=
  match s.hostIf.live.find? fun l => decide (l.seat = n ∧ l.tag = tag ∧ l.ended = none) with
  | none => .next s
  | some l =>
    match l.deadline with
    | none => .next s
    | some d =>
      if s.now < d then .next s
      else if l.committed ∨ (l.opcode.toNat = 0x0302 ∧ commitDue l s) then .next (s.finish l 0x0401 (res [(0, 1, 1)]))
      else if commitDue l s then .next s
      else .next ((if l.opcode.toNat = 0x0302 then s else undoLive l s).finish l 0x0401 0)

/-- A seat's heartbeat timeout, µs (R62). -/
def State.hbLimit (s : State) (n : Nat) : Nat := 1000 * ((s.seatDef n).map (·.hbTimeout)).getD 1000

/-- A seat counts as absent: its absence is counted and announced to the ADMIN seats, and journalled (R63). -/
def seatGone (n : Nat) (s : State) : State :=
  let k := min ((s.seat n).absences + 1) 65535
  let s := (s.setSeat n { s.seat n with state := 2, absences := k }).setInt n flagAbsent
  let r := res [(0, 1, n), (1, 1, s.role n), (4, 4, k)]
  (s.eventTo (fun a => decide (s.role a = 0)) 2 0x0305 r).jotRes 0x0305 (handle 1 n) r

/-- The commands of an absent seat that have not committed complete with SEAT_ABSENT, those still in its rings as they are
dequeued (R63). -/
def seatEnds (n : Nat) (s : State) : State :=
  let mine := s.hostIf.live.filter fun l => decide (l.seat = n ∧ l.ended = none) && !l.counts && !commitDue l s
  let s := overL mine (fun l t => (undoLive l t).endOne l 0x0305 0) s
  (overL (upTo 4) (fun q t =>
    if (t.queueDef n q).map (·.kind) = some 1 ∧ (t.ring n q).head ≠ (t.ring n q).tail then
      t.setRing n q { t.ring n q with absentTo := some (t.ring n q).tail }
    else endCont n q 0x0305 t) s).settleAll

/-- SEAT_ABSENT (R63). -/
def execSeatAbsent (n : Nat) (s : State) : Out :=
  if (s.seat n).state ≠ 1 ∨ s.after (s.seat n).hbTime (s.hbLimit n) = false then .next s
  else .next (seatEnds n (seatGone n s))

/-- CQ_STALL (R49). -/
def execCqStall (n k : Nat) (s : State) : Out :=
  match s.queueDef n k with
  | none => .next s
  | some d =>
    let r := s.ring n k
    if d.kind = 2 ∧ r.posted ≠ [] ∧ r.stalled = false ∧ s.after r.since (s.cqStall r.since) then
      .next (((s.setRing n k { r with stalled := true, stalls := bump32 r.stalls }).setInt n flagStall).note 4 (handle 2 d.qnum)
        [BitVec.ofNat 8 n])
    else .next s

/-- EVENTS_LOST (R48). -/
def execEventsLost (n : Nat) (s : State) : Out := .next (s.flushLost n)

/-! ## Opcodes that do not exist (R43) -/

/-- The opcode is in a table of the spec. -/
def opcodeUsed (o : Nat) : Bool :=
  let k := o % 256
  match o / 256 with
  | 0x01 => decide (k ≤ 4)
  | 0x02 | 0x05 | 0x0B | 0x0E => decide (k ≤ 6)
  | 0x03 | 0x06 | 0x07 => decide (k ≤ 7)
  | 0x04 => decide (k ≤ 8 ∨ (0x10 ≤ k ∧ k ≤ 0x14))
  | 0x08 => decide (k ≤ 0x0B)
  | 0x09 => decide (k ≤ 0x0A)
  | 0x0A | 0x0F => decide (k ≤ 5)
  | 0x0C => decide (k ≤ 5 ∨ (0x10 ≤ k ∧ k ≤ 0x16))
  | 0x0D => decide (k ≤ 0x12)
  | 0x10 => decide (k ≤ 3 ∨ (0x10 ≤ k ∧ k ≤ 0x14))
  | _ => false

/-- BAD_OPCODE (R43, R53). -/
def execBadOpcode (opcode : Half) (c : Cmd) (s : State) : Out :=
  if opcodeUsed opcode.toNat then .next s
  else host { line opcode.toNat .R [0] 0 192 with known := false } c (fun _ t => rej 0x0102 t) s

end Sys2Proof.Machine
end

