-- ==== Sys2Proof/Machine/Trust.lean ====
section
/-! DEFINITION. Keys, identity and firmware trust (chapter 16): slots, levels and policies, stale keys, slot records, the
random source, attestation, the certificate store, the site owner key, firmware images, and the commands of Table 16-14. -/

namespace Sys2Proof.Machine

/-! ## Keys (R389 to R395) -/

/-- Bytes of a TYPE's stored value (Table 16-1). -/
def keyBytes (type : Nat) : Nat := if type = 3 then 66 else if type = 4 then 57 else 32

/-- Bytes of a signature by a TYPE: ML-DSA-44 by FIPS 204, ECDSA as r then s (R287), Ed448 by RFC 8032. -/
def sigBytes (type : Nat) : Nat := if type = 1 then 2420 else if type = 2 then 64 else if type = 3 then 132 else 114

/-- A USE bit admits a type in a general slot (Table 16-2). -/
def useAdmits (type bitNo : Nat) : Bool :=
  match bitNo with
  | 0 => decide (type = 1 ∨ type = 2)
  | 2 => decide (1 ≤ type ∧ type ≤ 4)
  | 3 => decide (2 ≤ type ∧ type ≤ 4)
  | 4 | 5 => decide (type = 5)
  | 6 => decide (type = 5 ∨ type = 6)
  | _ => false

/-- Every USE bit set admits the type. -/
def useOk (type : Nat) (use : Byte) : Bool := (upTo 8).all fun b => !use.getLsbD b || useAdmits type b

/-- A key of level 1 or 2 is persistent (R390). -/
def KeySlot.persistent (v : KeySlot) : Bool := decide (v.level = 1 ∨ v.level = 2)

/-- Clears a key's cell and copies; while MRAM writes are forbidden the slot stays reserved until they can be cleared
(R392, R395). -/
def freeKey (k : Nat) (s : State) : State :=
  let v := s.key k
  if s.gated ∧ v.persistent then
    s.setKey k { v with state := 2, value := [], refs := 0, freeing := false, clearDue := true, staleSince := none }
  else s.setKey k {}

/-- Clears the copies that waited for permission to write (R395). -/
def clearDueKeys (s : State) : State :=
  if s.gated then s else overL (s.trust.keys.filter fun e => e.2.clearDue) (fun e t => t.setKey e.1 {}) s

/-- Keys that have become stale: a parent that is stale or gone, or of another generation (R392). -/
def State.newlyStale (s : State) : List Nat :=
  (s.trust.keys.filter fun e =>
    decide (2 ≤ e.1 ∧ e.2.state = 1 ∧ 0 < e.2.parent) &&
    (let p := s.key e.2.parent
     decide (p.state = 0 ∨ p.state = 2 ∨ (p.state = 1 ∧ p.gen ≠ e.2.pgen)))).map (·.1)

/-- One level of descendants becomes stale. -/
def staleLevel (s : State) : State :=
  overL s.newlyStale (fun k t => t.setKey k { t.key k with state := 2, staleSince := some t.now }) s

/-- Marks every descendant that has become stale, at any depth, and frees those without a reference; answers how many. -/
def markStale (s : State) : Nat × State :=
  let t := staleLevel (staleLevel (staleLevel s))
  let new := (t.trust.keys.filter fun e => decide (e.2.state = 2 ∧ (s.key e.1).state ≠ 2)).map (·.1)
  (new.length, overL new (fun k u => if (u.key k).refs = 0 then freeKey k u else u) t)

/-- What a use of a key meets first in the table of R391: the USE bit, and the issuing seat where the use asks for it. -/
def State.useRefused (s : State) (k bitNo : Nat) (seat : Option Nat) : Option Nat :=
  let v := s.key k
  if k = 0 then some 0x0704
  else if v.state = 0 then some 0x0701
  else if v.state = 2 then some 0x0703
  else if v.use.getLsbD bitNo = false then some 0x0702
  else match seat with
    | none => none
    | some n => if v.seats.getLsbD n then none else some 0x0702

/-- A use of the slot waits for the reload of PD11 (R389). -/
def State.keyLoading (s : State) (k : Nat) : Bool := decide ((s.key k).state = 3)

/-- Draws random bytes (R405). -/
def draw (n : Nat) (s : State) : List Byte × State :=
  let f := s.fresh
  (leBytes f.1 n, { f.2 with trust := { f.2.trust with draws := f.2.trust.draws + 1 } })

/-- A cell's value goes under a new mask, unless random output has stopped (R389, R405). -/
def remask (k : Nat) (s : State) : State :=
  if s.trust.rngFault ≠ 0 ∨ (s.key k).value = [] then s
  else
    let m := draw 66 s
    let s : State := { m.2 with trust := { m.2.trust with masks := m.2.trust.masks + 1 } }
    s.setKey k { s.key k with mask := leNat m.1, maskAt := s.now }

/-- PD11 powers up: the permutation of the cells and the key of their tags are drawn afresh (R389). -/
def powerCells (s : State) : State :=
  let a := draw 32 s
  let b := draw 32 a.2
  { b.2 with trust := { b.2.trust with scramble := leNat a.1, tagKey := leNat b.1 } }

/-- The wrap key of a slot's value (R393). -/
def State.wrapKey (s : State) (k parent pgen : Nat) : Nat :=
  Config.kmac (if parent = 0 then Config.root else (s.key parent).value) (leBytes k 1 ++ leBytes pgen 4) "GSL WRAP" 32

/-- The copy in force: the valid one of the higher WGEN, and whether it is copy B (R394). -/
def KeySlot.inForce (v : KeySlot) : Option (KeyCopy × Bool) :=
  match v.copyA.filter (·.whole), v.copyB.filter (·.whole) with
  | none, none => none
  | some a, none => some (a, false)
  | none, some b => some (b, true)
  | some a, some b => if a.wgen < b.wgen then some (b, true) else some (a, false)

/-- The read-back of a write that was tried twice (R394): whether MRAM took it is not the device's to say, a free value. -/
def readBack (s : State) : Bool × State :=
  let f := s.fresh
  (decide (f.1 % 2 = 0), f.2)

/-- Writes a persistent key's record to the copy that is not in force and reads it back; answers whether it is valid. -/
def writeRecord (k : Nat) (v : KeySlot) (s : State) : Bool × State :=
  let old := s.key k
  let wgen := ((old.inForce.map fun c => c.1.wgen).getD 0 + 1) % 4294967296
  let copy : KeyCopy :=
    { type := v.type, level := v.level, parent := v.parent, use := v.use, seats := v.seats, gen := v.gen, pgen := v.pgen,
      wgen := wgen, wrapped := Config.wrap (s.wrapKey k v.parent v.pgen) v.value, whole := true }
  let r := readBack s
  let toB := old.inForce.any fun c => !c.2
  let put := fun (x : KeySlot) (c : KeyCopy) =>
    if toB then { x with copyA := old.copyA, copyB := some c } else { x with copyA := some c, copyB := old.copyB }
  if r.1 then (true, r.2.setKey k (put v copy)) else (false, r.2.setKey k (put old { copy with whole := false }))

/-- A persistent write meets an announced epoch that changes block 12 (Table 16-13). -/
def State.trustBusy (s : State) : Bool :=
  decide (s.ep.phase = 3 ∧ tget s.ep.staged.blocks 12 [] ≠ s.blk 12)

/-- Work of the crypto engine for a command, which reaches it on Q60 (Tables 1-2 and 1-5). -/
def engine (q : Req) (f : State → Reply) (s : State) : Reply := viaReply 60 [(q.opcode : Int), (q.idx : Int)] f s

/-- A write to MRAM for a command, which reaches the writer on Q62. -/
def mramWrite (q : Req) (f : State → Reply) (s : State) : Reply := viaReply 62 [(q.opcode : Int), (q.idx : Int)] f s

/-- Writes a key: the record of a persistent one, by the MRAM writer, the cell of a volatile one; then what became stale
through it. -/
def storeKey (q : Req) (v : KeySlot) (s : State) (f : State → Nat → Reply) : Reply :=
  let k := q.idx
  let stored := fun (t : State) => let m := markStale (remask k t); f m.2 m.1
  if v.persistent then
    mramWrite q (fun t => let w := writeRecord k v t; if w.1 then stored w.2 else rej 0x08D2 w.2) s
  else stored (s.setKey k v)

/-- What stands against writing a key: EPOCH_BUSY, RANDOM_FAULT where a value is drawn, WRITE_GATED. -/
def State.writeRefused (s : State) (persistent drawn : Bool) : Option Nat :=
  if persistent ∧ s.trustBusy then some 0x0310
  else if drawn ∧ s.trust.rngFault ≠ 0 then some 0x08D3
  else if persistent ∧ s.gated then some 0x0313
  else none

/-- A rejection of a key command; RANDOM_FAULT carries the health test. -/
def keyRej (st : Nat) (s : State) : Reply := .done st (if st = 0x08D3 then res [(0, 1, s.trust.rngFault)] else 0) s

/-- A command on a slot that reloads waits for it (R389). It keeps whether it has a buffer, and whether its bus fails. -/
def keyWait (q : Req) (s : State) : Reply :=
  .live false [((bit q.buf.isSome : Nat) : Int), ((bit (q.buf.any (·.fails)) : Nat) : Int)] s

/-- What the definition of a new key (word 0) meets: its type, its slot, its uses, its parent (R390, R407). -/
def State.newKeyRefused (s : State) (k type parent : Nat) (use : Byte) : Option Nat :=
  let v := s.key k
  let p := s.key parent
  if k < 2 ∨ type = 0 ∨ 6 < type then some 0x0108
  else if use.getLsbD 7 then some 0x0104
  else if v.state ≠ 0 ∨ v.clearDue then some 0x0707
  else if useOk type use = false then some 0x0704
  else if parent = 0 then none
  else if p.state = 0 then some 0x0701
  else if p.state = 2 then some 0x0703
  else if p.use.getLsbD 6 = false ∨ 3 ≤ p.level then some 0x0705
  else none

/-- The key that word 0 defines, with a value and a generation. -/
def State.newKey (s : State) (type parent gen : Nat) (use seats : Byte) (value : List Byte) (old : KeySlot) : KeySlot :=
  { old with
    state := 1, type := type, level := if parent = 0 then 1 else (s.key parent).level + 1, parent := parent, use := use,
    seats := seats, gen := gen, pgen := if parent = 0 then 0 else (s.key parent).gen, value := value, refs := 0,
    freeing := false, staleSince := none, clearDue := false }

/-- Writes a new key; the GEN of a new key is the spec's to leave open, a free value. -/
def makeKey (q : Req) (value : List Byte) (s : State) : Reply :=
  let w := q.w 0
  let g := s.fresh
  let v := g.2.newKey (w % 256) (w / 256 % 256) (g.1 % 4294967296) (BitVec.ofNat 8 (w / 65536)) (BitVec.ofNat 8 (w / 16777216))
    value (g.2.key q.idx)
  storeKey q v g.2 fun t _ => .done 0 (res [(0, 4, v.gen)]) t

/-- KEY_GENERATE. -/
def keyGenerateOf (q : Req) (s : State) : Reply :=
  let w := q.w 0
  let parent := w / 256 % 256
  if q.idx < 2 then rej 0x0108 s
  else if s.keyLoading q.idx ∨ s.keyLoading parent then keyWait q s
  else match s.newKeyRefused q.idx (w % 256) parent (BitVec.ofNat 8 (w / 65536)) with
    | some st => rej st s
    | none =>
      match s.writeRefused (decide (parent = 0 ∨ (s.key parent).level < 2)) true with
      | some st => keyRej st s
      | none => engine q (fun t => let d := draw (keyBytes (w % 256)) t; makeKey q d.1 d.2) s
def execKeyGenerate (c : Cmd) (s : State) : Out := host (line 0x0D01 .K [13] 1 1) c keyGenerateOf s

/-- Opens an imported key with AES-256-GCM under its transport slot, with BT_UID and the slot number as additional data, and
writes it. -/
def importKey (q : Req) (s : State) : Reply :=
  let n := keyBytes (q.w 0 % 256)
  let s := remask (q.w 1) s
  match Config.gcmOpen (s.key (q.w 1)).value (((q.params.drop 2).take 3).flatMap wordBytes)
      (leBytes s.boot.uid.toNat 8 ++ leBytes q.idx 1) (((q.params.drop 5).flatMap wordBytes).take (n + 16)) with
  | none => rej 0x0706 s
  | some v => if v.length ≠ n then rej 0x0706 s else makeKey q v s

/-- KEY_IMPORT. -/
def keyImportOf (q : Req) (s : State) : Reply :=
  let w := q.w 0
  let parent := w / 256 % 256
  let tr := q.w 1
  if q.idx < 2 ∨ 255 < tr then rej 0x0108 s
  else if s.keyLoading q.idx ∨ s.keyLoading parent ∨ s.keyLoading tr then keyWait q s
  else match s.newKeyRefused q.idx (w % 256) parent (BitVec.ofNat 8 (w / 65536)) with
    | some st => rej st s
    | none =>
      match s.useRefused tr 6 none with
      | some st => rej st s
      | none =>
        if (s.key tr).type ≠ 6 then rej 0x0704 s
        else match s.writeRefused (decide (parent = 0 ∨ (s.key parent).level < 2)) false with
          | some st => rej st s
          | none => engine q (importKey q) s
def execKeyImport (c : Cmd) (s : State) : Out := host (line 0x0D02 .K [13] 17 26) c keyImportOf s

/-- What KEY_UPDATE and KEY_INVALIDATE meet first. -/
def State.changeRefused (s : State) (k : Nat) (drawn : Bool) : Option Nat :=
  if k < 2 then some 0x0108
  else if (s.key k).state = 0 then some 0x0701
  else if (s.key k).state = 2 then some 0x0703
  else s.writeRefused (s.key k).persistent drawn

/-- Raises a key's generation, and makes its descendants stale (R392). -/
def raiseGen (q : Req) (value : List Byte) (s : State) : Reply :=
  let v := s.key q.idx
  let g := (v.gen + 1) % 4294967296
  storeKey q { v with gen := g, value := value } s fun t n => .done 0 (res [(0, 4, g), (4, 2, n)]) t

/-- KEY_UPDATE. -/
def keyUpdateOf (q : Req) (s : State) : Reply :=
  if q.idx < 2 then rej 0x0108 s
  else if s.keyLoading q.idx then keyWait q s
  else match s.changeRefused q.idx true with
    | some st => keyRej st s
    | none => engine q (fun t => let d := draw (keyBytes (t.key q.idx).type) t; raiseGen q d.1 d.2) s
def execKeyUpdate (c : Cmd) (s : State) : Out := host (line 0x0D03 .K [13] 0 0) c keyUpdateOf s

/-- KEY_INVALIDATE. -/
def keyInvalidateOf (q : Req) (s : State) : Reply :=
  if q.idx < 2 then rej 0x0108 s
  else if s.keyLoading q.idx then keyWait q s
  else match s.changeRefused q.idx false with
    | some st => rej st s
    | none => engine q (fun t => raiseGen q (t.key q.idx).value t) s
def execKeyInvalidate (c : Cmd) (s : State) : Out := host (line 0x0D04 .K [13] 0 0) c keyInvalidateOf s

/-- The key is freed once its references drain; its descendants are stale (R392). -/
def destroyKey (q : Req) (s : State) : Reply :=
  let k := q.idx
  let v := s.key k
  let s := if v.refs = 0 then freeKey k s
    else s.setKey k { v with state := 2, freeing := true, staleSince := some (v.staleSince.getD s.now) }
  let m := markStale s
  .done 0 (res [(0, 2, m.1)]) m.2

/-- KEY_DESTROY. -/
def keyDestroyOf (q : Req) (s : State) : Reply :=
  let k := q.idx
  let v := s.key k
  if k < 2 then rej 0x0108 s
  else if s.keyLoading k then keyWait q s
  else if v.state = 0 then rej 0x0701 s
  else match s.writeRefused v.persistent false with
    | some st => rej st s
    | none => engine q (fun t => if v.persistent then mramWrite q (destroyKey q) t else destroyKey q t) s
def execKeyDestroy (c : Cmd) (s : State) : Out := host (line 0x0D05 .K [13] 0 0) c keyDestroyOf s

/-- KEY_STATUS. Slot 0 is the root. -/
def keyStatusOf (q : Req) (s : State) : Reply :=
  let v := s.key q.idx
  if q.idx = 0 then reads s [(0, 1, bit s.trust.root)]
  else
    reads s [(0, 1, v.state), (1, 1, v.type), (2, 1, v.level), (3, 1, v.parent), (4, 1, v.use.toNat), (5, 1, v.seats.toNat),
      (6, 1, bit v.persistent + 2 * bit (v.copyA.any (·.whole)) + 4 * bit (v.copyB.any (·.whole))), (7, 1, v.refs),
      (8, 4, v.gen), (12, 4, v.pgen)]
def execKeyStatus (c : Cmd) (s : State) : Out := host (line 0x0D00 .R [13] 0 0) c keyStatusOf s

/-- The engine's answer with a public key: into the buffer, or 16 bytes of it. -/
def publicOut (q : Req) (key : List Byte) (s : State) : Reply :=
  let s := remask q.idx s
  if q.buf.isSome then
    match writeBuf q key s with
    | .error st => rej st s
    | .ok t => .done 0 (res [(0, 4, key.length)]) t
  else .done 0 (resBytes ((key.drop (q.w 0)).take 16)) s

/-- KEY_PUBLIC_READ. -/
def keyPublicReadOf (q : Req) (s : State) : Reply :=
  let v := s.key q.idx
  if s.keyLoading q.idx then keyWait q s
  else if q.idx = 0 then rej 0x0704 s
  else if v.state = 0 then rej 0x0701 s
  else if 4 < v.type then rej 0x0704 s
  else
    let key := Config.publicKey v.type v.value
    if q.buf = none ∧ (q.w 0 % 16 ≠ 0 ∨ key.length < q.w 0) then rej 0x0108 s else engine q (publicOut q key) s
def execKeyPublicRead (c : Cmd) (s : State) : Out :=
  host { line 0x0D06 .R [13] 1 1 with loB := 4, hiB := 4 } c keyPublicReadOf s

/-- A use of a key is admitted: a reference is held until the operation is done, and the command keeps its outcome. -/
def admitUse (k : Nat) (outcome : List Byte) (s : State) : Reply :=
  .live true (outcome.map fun b => (b.toNat : Int)) (s.setKey k { s.key k with refs := (s.key k).refs + 1 })

/-- KEY_SIGN. The signature is a free value: its schemes draw random values. -/
def keySignOf (q : Req) (s : State) : Reply :=
  let v := s.key q.idx
  if s.keyLoading q.idx then keyWait q s
  else match s.useRefused q.idx 2 (some q.seat) with
    | some st => rej st s
    | none =>
      match q.buf with
      | none => rej 0x0108 s
      | some b =>
        if b.len < sigBytes v.type then rej 0x0530 s
        else if b.fails then rej 0x0801 s
        else if v.type = 1 ∧ s.trust.rngFault ≠ 0 then keyRej 0x08D3 s
        else engine q (fun t => let d := draw (sigBytes v.type) t; admitUse q.idx d.1 d.2) s
def execKeySign (c : Cmd) (s : State) : Out := host (line 0x0D07 .A [13] 12 12) c keySignOf s

/-- KEY_KMAC. -/
def keyKmacOf (q : Req) (s : State) : Reply :=
  let v := s.key q.idx
  if s.keyLoading q.idx then keyWait q s
  else if 40 < q.w 0 then rej 0x0108 s
  else match s.useRefused q.idx 4 (some q.seat) with
    | some st => rej st s
    | none =>
      let data := (((upTo 10).map fun i => q.word (i + 1)).flatMap wordBytes).take (q.w 0)
      engine q (admitUse q.idx (leBytes (Config.kmac v.value data "GSL-9648 HOST" 16) 16)) s
def execKeyKmac (c : Cmd) (s : State) : Out := host (line 0x0D08 .A [13] 1 11) c keyKmacOf s

/-- Delivers the result of a key operation to its command. -/
def deliverKey (l : Live) (s : State) : State :=
  let bytes := l.keep.map fun x => BitVec.ofInt 8 x
  if l.opcode.toNat = 0x0D07 then
    let addr := (l.params.getD 0 0).toNat + (l.params.getD 1 0).toNat * 4294967296
    let s : State := { s with hostIf := { s.hostIf with dma := aset s.hostIf.dma addr bytes } }
    s.finish l 0 (res [(0, 4, bytes.length)])
  else s.finish l 0 (resBytes bytes)

/-- The command that waits for the oldest operation on a slot. -/
def State.keyLive (s : State) (k : Nat) : Option Live :=
  s.hostIf.live.find? fun l =>
    decide ((l.opcode.toNat = 0x0D07 ∨ l.opcode.toNat = 0x0D08) ∧ l.handle = handle 13 k ∧ l.committed = true ∧ l.ended = none) &&
    !s.trust.results.any fun r => decide (r.1 = l.order)

/-- The engine posts a result to firmware on Q61 and holds it where it has no credit (Table 1-2). -/
def postResult (l : Live) (s : State) : State :=
  s.viaOr 61 [(l.order : Int)] (deliverKey l) fun t =>
    { t with trust := { t.trust with results := t.trust.results ++ [(l.order, t.now)] } }

/-- KEY_OPERATION_DONE (R389, R391, R392): the mask is replaced, the reference drops, and the result goes to firmware. -/
def execKeyOperationDone (k : Nat) (s : State) : Out :=
  let v := s.key k
  if v.refs = 0 then .next s
  else
    let s := remask k (s.setKey k { v with refs := v.refs - 1 })
    let s := if v.refs = 1 ∧ v.state = 2 then freeKey k s else s
    match s.keyLive k with
    | none => .next s
    | some l => .next (postResult l s)

/-- The results that the engine still holds when firmware runs again (R406). -/
def deliverResults (s : State) : State :=
  let r := s.trust.results
  overL r (fun e t => match t.hostIf.live.find? fun l => decide (l.order = e.1) with
    | none => t
    | some l => postResult l t) { s with trust := { s.trust with results := [] } }

/-- CRYPTO_RESULT_DISCARD (Table 1-2, R406): a command whose result is discarded ends as after its execution timeout. -/
def execCryptoResultDiscard (s : State) : Out :=
  match s.trust.results with
  | [] => .next s
  | (o, t) :: r =>
    if s.after t 1000000 = false then .next s
    else
      let s : State := { s with trust := { s.trust with results := r } }
      match s.hostIf.live.find? fun l => decide (l.order = o) with
      | none => .next s
      | some l => .next (s.finish l 0x0401 (res [(0, 1, 1)]))

/-- STALE_KEY_FREE (R392): 5 s after a key became stale. -/
def execStaleKeyFree (k : Nat) (s : State) : Out :=
  if (s.key k).state = 2 ∧ s.past (s.key k).staleSince 5000000 then .next (freeKey k s) else .next s

/-! ## Attestation (R403, R404) -/

/-- ATTEST_CHALLENGE. -/
def attestChallengeOf (q : Req) (s : State) : Reply :=
  let k := fld (s.blk 12) 0 1
  if k = 0xFF ∨ s.ep.loaded = false then rej 0x0701 s
  else if s.keyLoading k then keyWait q s
  else match s.useRefused k 5 (some q.seat) with
    | some st => rej st s
    | none =>
      let data := ((upTo 4).map q.word).flatMap wordBytes ++ leBytes s.boot.uid.toNat 8 ++ leBytes s.boot.digest.toNat 32 ++
        leBytes s.boot.fwVersion.toNat 4 ++ leBytes s.ep.number.toNat 4
      engine q (fun s => .done 0 (BitVec.ofNat 128 (Config.kmac (s.key k).value data "GSL-9648 ATTEST" 16)) (remask k s)) s
def execAttestChallenge (c : Cmd) (s : State) : Out := host (line 0x0D09 .R [0] 4 4) c attestChallengeOf s

/-- Digest of the public key in a slot; zeros where it holds none. -/
def State.pubDigest (s : State) (k : Nat) : Digest :=
  if (s.key k).state = 0 then 0 else Config.sha3 (Config.publicKey (s.key k).type (s.key k).value)

/-- The running image is on trial (R399). -/
def State.onTrial (s : State) : Bool := s.trust.trial && decide (s.trust.preferred = s.boot.image)

/-- The attestation report body (Table 16-12). -/
def State.attestBody (s : State) (nonce : List Byte) : List Byte :=
  let f := s.running
  let flags := bit s.clk.timeValid + 2 * bit s.metro.sealed.isSome + 4 * bit s.trust.owner.isSome + 8 * bit s.onTrial
  leBytes 0x52545441 4 ++ leBytes 1 2 ++ leBytes s.boot.grade 1 ++ leBytes s.boot.rollback 1 ++ leBytes s.boot.uid.toNat 8 ++
  nonce ++ leBytes (if s.clk.timeValid then s.clk.tai else 0) 8 ++ leBytes s.boot.fwVersion.toNat 4 ++ leBytes f.svn 1 ++
  leBytes s.boot.image 1 ++ leBytes 0 2 ++ leBytes f.digest.toNat 32 ++ leBytes f.legal.toNat 32 ++
  leBytes s.boot.digest.toNat 32 ++ leBytes s.ep.number.toNat 4 ++ leBytes flags 4 ++
  leBytes (s.pubDigest (fld (s.blk 6) 4 1)).toNat 32 ++ leBytes (s.pubDigest (fld (s.blk 6) 5 1)).toNat 32 ++ leBytes 0 24

/-- The report with the identity key's signature, a free value, goes into the buffer. -/
def attestOut (q : Req) (s : State) : Reply :=
  let d := draw 2420 (remask 1 s)
  match writeBuf q (s.attestBody (((upTo 8).map fun i => q.word (i + 4)).flatMap wordBytes) ++ d.1) d.2 with
  | .error st => rej st s
  | .ok t => .done 0 (res [(0, 4, 2676)]) t

/-- ATTEST_REPORT. -/
def attestReportOf (q : Req) (s : State) : Reply :=
  if s.keyLoading 1 then keyWait q s
  else match s.useRefused 1 1 none with
  | some st => rej st s
  | none =>
    if s.trust.rngFault ≠ 0 then keyRej 0x08D3 s
    else engine q (attestOut q) s
def execAttestReport (c : Cmd) (s : State) : Out := host (line 0x0D0A .R [0] 12 12) c attestReportOf s

/-! ## Loss and reload of PD11 (R389, R394) -/

/-- PD11 is switched off: every cell clears; stale keys are freed. -/
def loseCells (s : State) : State :=
  overL s.trust.keys (fun e t =>
    if e.2.state = 0 then t
    else if e.2.state = 2 then freeKey e.1 t
    else t.setKey e.1 { t.key e.1 with state := 3, value := [], refs := 0 }) s

/-- A slot without a valid copy is empty (R394). -/
def keyLost (k : Nat) (s : State) : State := (s.setKey k {}).event 13 0x08D4 (res [(0, 1, k)])

/-- Loads a slot from its copy in force: the identity key from its seed, a volatile slot not at all. -/
def loadKey (k : Nat) (s : State) : State :=
  let v := s.key k
  if k = 1 then remask 1 (s.setKey 1 { v with state := 1, value := Config.identitySeed })
  else if v.copyA.isNone ∧ v.copyB.isNone then s.setKey k {}
  else
    let torn := ([v.copyA, v.copyB].filter fun c => c.any fun x => !x.whole).length
    let s := overL (upTo torn) (fun _ t => t.checkFault 6 k) s
    match v.inForce with
    | none => keyLost k s
    | some (c, _) => remask k (s.setKey k { v with
        state := 1, type := c.type, level := c.level, parent := c.parent, use := c.use, seats := c.seats, gen := c.gen,
        pgen := c.pgen, value := (Config.unwrap (s.wrapKey k c.parent c.pgen) c.wrapped).getD [] })

/-- Meaning of a key command that waited for the reload. -/
def keyMeaning (opcode : Nat) : Req → State → Reply :=
  match opcode with
  | 0x0D01 => keyGenerateOf
  | 0x0D02 => keyImportOf
  | 0x0D03 => keyUpdateOf
  | 0x0D04 => keyInvalidateOf
  | 0x0D05 => keyDestroyOf
  | 0x0D06 => keyPublicReadOf
  | 0x0D07 => keySignOf
  | 0x0D08 => keyKmacOf
  | 0x0D09 => attestChallengeOf
  | _ => attestReportOf

/-- Runs a key command that waited. -/
def rerunKey (l : Live) (s : State) : State :=
  commitLive l (fun s =>
    let w := fun (i : Nat) => (l.params.getD i 0).toNat
    let buf : Option Buf :=
      if l.keep.head? = some 1 then some ⟨w 0 + w 1 * 4294967296, w 2, [], decide (l.keep[1]? = some 1)⟩ else none
    match keyMeaning l.opcode.toNat
      { seat := l.seat, queue := l.queue, tag := l.tag, opcode := l.opcode.toNat, hnd := l.handle, flags := 0,
        params := l.params, order := l.order, buf := buf } s with
    | .done st r t => t.finish l st r
    | .live committed keep t => (if committed then t.commit l.order else t).setKeep l.order keep) s

/-- KEY_RELOAD (R389): the parents of a level are loaded before their children; what waited then runs. -/
def reloadKeys (s : State) : State :=
  let all := (s.trust.keys.filter fun e => decide (e.2.state = 3)).map (·.1)
  let gone := all.filter fun k => decide (k ≠ 1) && (s.key k).copyA.isNone && (s.key k).copyB.isNone
  let under : Nat → Nat := fun k => match (s.key k).inForce with
    | none => 1
    | some c => c.1.level
  let s := overL ((all.filter fun k => decide (under k ≠ 2)) ++ all.filter fun k => decide (under k = 2)) loadKey s
  let s := (markStale s).2
  let s := if gone = [] then s else s.note 17 (handle 0 0) (0 :: leBytes gone.length 2)
  overL (s.hostIf.live.filter fun l =>
    decide (0x0D01 ≤ l.opcode.toNat ∧ l.opcode.toNat ≤ 0x0D0A ∧ l.committed = false ∧ l.ended = none ∧ l.keep ≠ [])) rerunKey s

/-- KEY_RELOAD. -/
def execKeyReload (s : State) : Out :=
  if s.trust.root ∧ s.power.domains.getLsbD 11 ∧ s.trust.keys.any (fun e => decide (e.2.state = 3)) then .next (reloadKeys s)
  else .next s

/-- KEY_MASK_REFRESH (R389): a new mask 1 ms after the last, unless random output has stopped; a tag that fails is a cell
fault. -/
def execKeyMaskRefresh (k : Nat) (tagOk : Bool) (s : State) : Out :=
  let v := s.key k
  if s.power.domains.getLsbD 11 = false ∨ v.value = [] then .next s
  else if tagOk then .next (if s.after v.maskAt 1000 then remask k s else s)
  else
    let fault := fun (how : Nat) (t : State) => t.event 13 0x08D1 (res [(0, 1, k), (1, 1, how)])
    if k = 1 ∨ v.inForce.isSome then .next (fault 1 (loadKey k s))
    else if v.persistent then .next (markStale (keyLost k (fault 2 s))).2
    else .next (fault 2 (s.setKey k {}))

/-! ## The random source (R405) -/

/-- DRBG_RESEED: `health` is 0, or the health test that failed. -/
def execDrbgReseed (health : Nat) (s : State) : Out :=
  if s.power.domains.getLsbD 11 = false ∨ health = 0 ∨ 2 < health ∨ s.trust.rngFault ≠ 0 then .next s
  else .next (({ s with trust := { s.trust with rngFault := health } } : State).event 13 0x08D3 (res [(0, 1, health)]))

/-- RANDOM_RESUME: 1,024 consecutive passing samples. -/
def execRandomResume (s : State) : Out := .next { s with trust := { s.trust with rngFault := 0 } }

/-- RANDOM. -/
def randomOf (q : Req) (s : State) : Reply :=
  if s.trust.rngFault ≠ 0 then keyRej 0x08D3 s
  else engine q (fun t => let d := draw 16 t; .done 0 (resBytes d.1) d.2) s
def execRandomCmd (c : Cmd) (s : State) : Out := host (line 0x0D12 .R [0] 0 0) c randomOf s

/-! ## Certificates and the site owner (R400, R401) -/

/-- CERT_WRITE. -/
def certWriteOf (q : Req) (s : State) : Reply :=
  match q.buf with
  | none => rej 0x0108 s
  | some b =>
    let der := b.data.take (q.w 5)
    if 31 < q.w 4 ∨ 2048 < q.w 5 ∨ b.data.length < q.w 5 then rej 0x0108 s
    else if q.w 5 ≠ 0 ∧ Config.certParses der = false then rej 0x01D0 s
    else if s.gated then rej 0x0313 s
    else mramWrite q (fun s =>
      let r := readBack s
      if r.1 = false then rej 0x08D2 r.2
      else .done 0 0 { r.2 with trust := { r.2.trust with
        certs := if q.w 5 = 0 then adel r.2.trust.certs (q.w 4) else aset r.2.trust.certs (q.w 4) der } }) s
def execCertWrite (c : Cmd) (s : State) : Out := host { line 0x0D0B .K [0] 6 6 with bufIn := true } c certWriteOf s

/-- CERT_READ: bytes beyond the certificate read 0. -/
def certReadOf (q : Req) (s : State) : Reply :=
  let der := if q.w 0 = 0xFF then s.trust.factory else (aget s.trust.certs (q.w 0)).getD []
  if (31 < q.w 0 ∧ q.w 0 ≠ 0xFF) ∨ q.w 1 % 16 ≠ 0 ∨ der.length < q.w 1 then rej 0x0108 s
  else .done 0 (resBytes ((der.drop (q.w 1)).take 16)) s
def execCertRead (c : Cmd) (s : State) : Out := host (line 0x0D0C .R [0] 2 2) c certReadOf s

/-- OWNER_KEY_SET. -/
def ownerKeySetOf (q : Req) (s : State) : Reply :=
  let hash := ((upTo 8).map fun i => q.word (i + 4)).flatMap wordBytes
  let signed := match s.trust.owner, q.buf with
    | none, _ => true
    | some _, none => false
    | some o, some b =>
      Config.mldsaVerify (Config.ownerKey o) (Config.sha3 (hash ++ leBytes s.boot.uid.toNat 8)) (b.data.take 2420)
  if signed = false then rej 0x070A s
  else if s.gated then rej 0x0313 s
  else mramWrite q (fun s =>
    let r := readBack s
    if r.1 = false then rej 0x08D2 r.2
    else .done 0 0 { r.2 with trust := { r.2.trust with owner := some (BitVec.ofNat 256 (leNat hash)) } }) s
def execOwnerKeySet (c : Cmd) (s : State) : Out := host { line 0x0D0D .K [0] 12 12 with bufIn := true } c ownerKeySetOf s

/-! ## Firmware images (R396 to R399) -/

/-- What the verification of a slot's flash finds: a status, or its header's SVN, version, legal digest and signed digest. -/
def verifyImage (m : Mem) (rollback : Nat) : Except Nat (Nat × Word × Digest × Digest) :=
  let len := fld m 12 4
  let formed := decide (fld m 0 4 = 0x504C4F53 ∧ fld m 4 2 = 1 ∧ fld m 7 1 = 0 ∧ fld m 48 16 = 0 ∧ len % 4 = 0 ∧
    len ≤ 8388608 ∧ 64 + 1312 + 2420 ≤ len)
  let key := mbytes m (len - 3732) 1312
  let d := Config.sha3 (mbytes m 0 (len - 2420))
  if formed = false ∨ Config.sha3 key ≠ Config.firmwareKeyHash ∨
      Config.mldsaVerify key d (mbytes m (len - 2420) 2420) = false then .error 0x0708
  else if fld m 6 1 < rollback then .error 0x0709
  else .ok (fld m 6 1, BitVec.ofNat 32 (fld m 8 4), BitVec.ofNat 256 (fld m 16 32), d)

/-- FW_WRITE: into the slot that does not run, or on the recovery seat into the slot that word 5 names (R398, R399). -/
def fwWriteOf (q : Req) (s : State) : Reply :=
  let (off, opt, data) := match q.buf with
    | some b => (q.w 4, q.w 5, b.data)
    | none => (q.w 0, q.w 1, (q.params.drop 2).flatMap wordBytes)
  let slot := if s.boot.recovery then bit (tst opt 1) else 1 - s.boot.image
  if 3 < opt ∨ (tst opt 1 ∧ s.boot.recovery = false) ∨ off % 4 ≠ 0 ∨ 8388608 < off + data.length then rej 0x0108 s
  else if s.boot.recovery = false ∧ s.onTrial then rej 0x0301 s
  else
    let v := s.fw slot
    let s := s.setFw slot { v with flash := mputs v.flash off data, valid := false }
    if tst opt 0 = false then .done 0 (res [(0, 4, data.length)]) s
    else match verifyImage (s.fw slot).flash s.boot.rollback with
      | .error st => rej st s
      | .ok (svn, version, legal, digest) =>
        .done 0 (res [(0, 4, data.length)]) (s.setFw slot { s.fw slot with
          valid := true, svn := svn, version := version, legal := legal, digest := digest })
def execFwWrite (c : Cmd) (s : State) : Out :=
  host { line 0x0D0E .K [0] 2 192 with loB := 6, hiB := 6, bufIn := true } c fwWriteOf s

/-- FW_ACTIVATE: the slot is preferred and on trial, with its boot state cleared. -/
def fwActivateOf (q : Req) (s : State) : Reply :=
  if 1 < q.w 0 then rej 0x0108 s
  else if (s.fw (q.w 0)).valid = false then rej 0x0301 s
  else if s.gated then rej 0x0313 s
  else mramWrite q (fun s =>
    let s := s.setFw (q.w 0) { s.fw (q.w 0) with attempts := 0, failed := false }
    .done 0 0 { s with trust := { s.trust with preferred := q.w 0, trial := true } }) s
def execFwActivate (c : Cmd) (s : State) : Out := host (line 0x0D0F .K [0] 1 1) c fwActivateOf s

/-- FW_CONFIRM: blows fuses until the counter equals the running image's SVN. -/
def fwConfirmOf (_ : Req) (s : State) : Reply :=
  if s.onTrial = false ∨ s.boot.stage ≠ 4 then .done 1 (res [(0, 1, s.boot.rollback)]) s
  else if s.gated then rej 0x0313 s
  else
    let n := max s.boot.rollback s.running.svn
    .done 0 (res [(0, 1, n)]) { s with boot := { s.boot with rollback := n }, trust := { s.trust with trial := false } }
def execFwConfirm (c : Cmd) (s : State) : Out := host (line 0x0D10 .K [0] 0 0) c fwConfirmOf s

/-- FW_STATUS. -/
def fwStatusOf (_ : Req) (s : State) : Reply :=
  let a := s.fw 0
  let b := s.fw 1
  reads s [(0, 1, s.boot.image), (1, 1, s.trust.preferred),
    (2, 1, bit a.valid + 2 * bit b.valid + 4 * bit s.onTrial + 8 * bit a.failed + 16 * bit b.failed), (3, 1, s.running.attempts),
    (4, 4, a.version.toNat), (8, 4, b.version.toNat), (12, 1, a.svn), (13, 1, b.svn), (14, 1, s.boot.rollback)]
def execFwStatus (c : Cmd) (s : State) : Out := host (line 0x0D11 .R [0] 0 0) c fwStatusOf s

end Sys2Proof.Machine
end

