-- ==== Sys2Proof/Machine/Journal.lean ====
section
/-! DEFINITION. Faults, retirement and the Tephra journal (chapter 19): the journal ring with its chain hashes, the
retirement map, recovery contexts, and the commands of Table 19-9. -/

namespace Sys2Proof.Machine

/-! ## The ring (R454 to R458) -/

/-- An entry's 32 bytes as it stands in its slot (Table 19-6). -/
def JEntry.bytes (e : JEntry) (seq : Nat) : List Byte :=
  let body := leBytes seq 6 ++ leBytes e.code.toNat 2 ++ leBytes e.time 8 ++ leBytes e.obj.toNat 4 ++ leBytes e.flags.toNat 2 ++
    (e.data ++ List.replicate 6 0).take 6
  let offset := seq / 63 % 128 * 2048 + seq % 63 * 32
  body ++ leBytes (crc (Nat.xor offset (seq % 4294967296)) body) 4

/-- The bytes of the slot of a sequence. -/
def State.slotBytes (s : State) (seq : Nat) : List Byte :=
  match aget s.jnl.ring seq with
  | none => leBytes (Config.tornSlot seq) 32
  | some e => e.bytes seq

/-- The hash of the block before the first one the part wrote (R456). -/
def State.firstHash (s : State) : Digest :=
  Config.sha3 ([0x54, 0x45, 0x50, 0x48, 0x52, 0x41] ++ leBytes s.boot.uid.toNat 8)

/-- Chain hash of a complete block. -/
def State.chainHash (s : State) (b : Nat) : Digest :=
  Config.sha3 (leBytes (if b = 0 then s.firstHash else (aget s.jnl.hashes (b - 1)).getD 0).toNat 32 ++
    (upTo 63).flatMap fun i => s.slotBytes (b * 63 + i))

/-- Before a block is overwritten: its hash goes to ANCHOR; JOURNAL_WRAP where it holds an entry above the mark. -/
def wrapBlock (b : Nat) (s : State) : State :=
  let first := b * 63
  let s : State := { s with jnl := { s.jnl with
    anchorHash := (aget s.jnl.hashes b).getD 0, anchorSeq := first + 63, hashes := s.jnl.hashes.filter fun h => decide (b < h.1) } }
  if s.jnl.ack.any fun a => decide (first + 62 ≤ a) then s
  else s.event 14 0x00C0 (res [(0, 6, first), (6, 6, (s.jnl.ack.getD 0 : Nat))])

/-- Tephra's write of one slot: an entry, or none where its read-back failed twice. -/
def writeSlot (e : Option JEntry) (s : State) : State :=
  let seq := s.jnl.nextSeq
  let s := if seq % 63 = 0 ∧ 8064 ≤ seq then wrapBlock (seq / 63 - 128) s else s
  let kept := s.jnl.ring.filter fun x => decide (seq < x.1 + 8064)
  let s : State := { s with jnl := { s.jnl with
    nextSeq := seq + 1, ring := match e with
      | none => kept
      | some e => (seq, e) :: kept } }
  if seq % 63 = 62 then { s with jnl := { s.jnl with hashes := s.jnl.hashes ++ [(seq / 63, s.chainHash (seq / 63))] } } else s

/-- The writer's part of one entry: the oldest buffered one, preceded by the count of entries lost since the last write. -/
def writeEntry (verified : Bool) (s : State) : State :=
  let lost : List JEntry :=
    if s.jnl.lostNew = 0 then []
    else [{ code := 0x00C1, time := s.time, obj := handle 0 0, flags := BitVec.ofNat 16 (bit (!s.clk.timeValid)),
            data := 16 :: 0 :: leBytes (sat 32 s.jnl.lostNew) 4 }]
  match lost ++ s.jnl.buffer with
  | [] => s
  | e :: _ =>
    let seq := s.jnl.nextSeq
    if verified = false then
      (writeSlot none s).event 14 0x08C0
        (res [(0, 6, seq), (8, 4, (Config.journalBase + seq / 63 % 128 * 2048 + seq % 63 * 32 : Nat))])
    else
      let t := writeSlot (some e) s
      { t with jnl := if s.jnl.lostNew = 0 then { t.jnl with buffer := t.jnl.buffer.drop 1 }
        else { t.jnl with lostNew := t.jnl.lostNew - s.jnl.lostNew } }

/-- JOURNAL_ENTRY_WRITE (R457): Tephra's entry goes to the MRAM writer by Q62. -/
def execJournalEntryWrite (verified : Bool) (s : State) : Out :=
  if s.gated ∨ s.power.domains.getLsbD 4 = false ∨ (s.jnl.buffer = [] ∧ s.jnl.lostNew = 0) then .next s
  else .next (s.via 62 [0x13, (s.jnl.nextSeq : Int)] (writeEntry verified))

/-- Head SEQ; 0 before the first entry. -/
def State.headSeq (s : State) : Nat := s.jnl.nextSeq - 1

/-- Oldest SEQ held. -/
def State.oldestSeq (s : State) : Nat := s.jnl.nextSeq - 8064

/-- Entries that wait become DEFERRED when writes are forbidden (R457). -/
def deferEntries (s : State) : State :=
  { s with jnl := { s.jnl with buffer := s.jnl.buffer.map fun e => { e with flags := e.flags ||| 2 } } }

/-- JOURNAL_STATUS. -/
def journalStatusOf (q : Req) (s : State) : Reply :=
  let j := s.jnl
  match q.w 0 with
  | 0 => reads s [(0, 6, s.headSeq), (6, 6, s.oldestSeq), (12, 2, j.buffer.length), (14, 2, sat 16 j.lost)]
  | 1 => .done 0 (j.anchorHash.setWidth 128) s
  | 2 => .done 0 ((j.anchorHash >>> 128).setWidth 128) s
  | 3 => reads s [(0, 6, (j.ack.getD 0 : Nat)), (6, 6, j.anchorSeq)]
  | _ => rej 0x0108 s
def execJournalStatus (c : Cmd) (s : State) : Out := host (line 0x0E00 .R [0] 1 1) c journalStatusOf s

/-- The newest sequence that stands in a slot of a block of the ring, where there is one. -/
def State.seqAt (s : State) (block slot : Nat) : Option Nat :=
  let p := block * 63 + slot
  let n := s.jnl.nextSeq
  if n ≤ p then none else some (p + (n - 1 - p) / 8064 * 8064)

/-- A block of the ring as it stands: 63 slots and the chain hash. -/
def State.blockBytes (s : State) (block : Nat) : List Byte :=
  ((upTo 63).flatMap fun i => match s.seqAt block i with
    | none => leBytes (Config.tornSlot (block * 63 + i)) 32
    | some q => s.slotBytes q) ++
  (match s.seqAt block 62 with
    | none => leBytes (Config.tornSlot (8064 + block)) 32
    | some q => leBytes ((aget s.jnl.hashes (q / 63)).getD 0).toNat 32)

/-- JOURNAL_READ. -/
def journalReadOf (q : Req) (s : State) : Reply :=
  match q.buf with
  | none =>
    let seq := q.w2 0
    if s.jnl.nextSeq ≤ seq ∨ seq < s.oldestSeq then rej 0x0108 s
    else .done 0 (resBytes ((s.slotBytes seq).drop (if tst (q.w 2) 0 then 16 else 0))) s
  | some _ =>
    if 127 < q.w 4 ∨ q.w 5 = 0 ∨ 128 < q.w 5 then rej 0x0108 s
    else
      let data := (upTo (q.w 5)).flatMap fun i => s.blockBytes ((q.w 4 + i) % 128)
      match writeBuf q data s with
      | .error st => rej st s
      | .ok t => .done 0 (res [(0, 4, data.length), (4, 6, ((s.seqAt (q.w 4) 0).getD 0 : Nat))]) t
def execJournalRead (c : Cmd) (s : State) : Out :=
  host { line 0x0E01 .R [0] 2 3 with loB := 6, hiB := 6 } c journalReadOf s

/-- JOURNAL_ACK. -/
def journalAckOf (q : Req) (s : State) : Reply :=
  if s.jnl.nextSeq ≤ q.w2 0 then rej 0x0108 s
  else .done 0 (res [(0, 6, (s.jnl.ack.getD 0 : Nat))]) { s with jnl := { s.jnl with ack := some (q.w2 0) } }
def execJournalAck (c : Cmd) (s : State) : Out := host (line 0x0E02 .C [0] 2 2) c journalAckOf s

/-! ## Retirement (R447, R448) -/

/-- RETIRE_MAP_WRITE: the map takes the retirements in force, once writes are permitted; firmware's write by Q62. -/
def execRetireMapWrite (s : State) : Out :=
  if s.gated ∨ s.power.domains.getLsbD 4 = false then .next s
  else .next (s.via 62 [0x14] fun s => { s with jnl := { s.jnl with mapSaved := s.jnl.retired } })

/-- RETIRE_LIST. -/
def retireListOf (q : Req) (s : State) : Reply :=
  let l := s.jnl.retired.drop (q.w 0)
  let e := fun (k : Nat) => (((l.getD k 0).toNat : Nat) : Int)
  reads s [(0, 4, e 0), (4, 4, e 1), (8, 4, e 2), (12, 4, s.jnl.retired.length)]
def execRetireList (c : Cmd) (s : State) : Out := host (line 0x0E03 .R [0] 1 1) c retireListOf s

/-- The subject that word 0 names is one of the handle's class (Table 19-8). -/
def subjectOk (cls sub : Nat) : Bool :=
  match cls with
  | 0 => decide (0x20 ≤ sub ∧ sub ≤ 0x23)
  | 3 => decide (1 ≤ sub ∧ sub ≤ 5)
  | 5 => decide (sub = 0 ∨ (0x10 ≤ sub ∧ sub < 0x20))
  | _ => decide (sub = 0)

/-- Fault count of a retired unit, by the counter of its own kind (Table 19-3). -/
def State.unitCount (s : State) (cls i sub : Nat) : Nat :=
  match cls with
  | 0 => tget s.sup.voteOuts (sub - 0x20) 0
  | 4 => (s.output i).retries
  | 5 => if sub = 0 then s.faultCount (handle 5 i) else tget (s.mtx i).openFails (sub - 0x10) 0
  | 10 => (s.recentOffs i).length
  | 11 => (s.fnode i).absTimes.length
  | 12 => s.lsRecent i
  | _ => s.faultCount (handleSub cls i sub)

/-- The cause of a retirement can still be observed (R448). -/
def State.faultPresent (s : State) (cls i sub : Nat) : Bool :=
  match cls with
  | 4 => s.outClosed i
  | 5 => if sub = 0 then !s.tripGone i else (s.mtx i).closed.getLsbD (sub - 0x10)
  | 10 => decide (256 ≤ (s.port i).txErrors)
  | _ => false

/-- A unit whose retirement is cleared resumes (R448). -/
def resume (cls i sub : Nat) (s : State) : State :=
  match cls with
  | 0 =>
    let x := sub - 0x20
    spareDomain (s.setSup { s.sup with voteOuts := tset s.sup.voteOuts x 0, parked := s.sup.parked.filter (· ≠ x) ++ [x] })
  | 3 =>
    let v := s.node i
    let k := sub - 1
    let sensors := tset v.sensors k { tget v.sensors k {} with state := 1, faultSince := none, missing := 0 }
    s.setNode i { v with
      sensors := sensors, capHeld := if sensors.any fun e => decide (e.2.state = 4) then v.capHeld else none }
  | 4 => (markIdle s).setOutput i { s.output i with
      state := 0, retries := 0, openedAt := none, fromRegulate := false, welded := none }
  | 5 =>
    if sub = 0 then s.setPod i { s.pod i with state := 0, sources := [] }
    else s.setMtx i { s.mtx i with openFails := tset (s.mtx i).openFails (sub - 0x10) 0 }
  | 6 => s.setPhase i { s.phase i with state := 0, blankRun := 0, level := 32 }
  | 9 => linkStart i s
  | 10 => s.setPort i { s.port i with state := s.portFresh i, busOffs := [], txErrors := 0, rxErrors := 0 }
  | 11 => s.setFnode i { s.fnode i with state := 0, absTimes := [] }
  | 12 => lsApply i (s.setChan i { s.chan i with state := 0, cause := 0, latches := [], backoff := none })
  | _ => s

/-- RETIRE_CLEAR: its commit point is the verified write of the map. -/
def retireClearOf (q : Req) (s : State) : Reply :=
  let cls := hClass q.hnd
  let sub := q.w 0
  let h := handleSub cls q.idx sub
  if subjectOk cls sub = false then rej 0x0108 s
  else if s.isRetired h = false then rej 0x03C0 s
  else if s.gated then rej 0x0313 s
  else if s.faultPresent cls q.idx sub then rej 0x03C1 s
  else
    let n := s.unitCount cls q.idx sub
    let left := s.jnl.retired.filter (· ≠ h)
    let s : State := ({ s with jnl := { s.jnl with retired := left, mapSaved := left, causes := adel s.jnl.causes h } } : State)
    .done 0 (res [(0, 2, sat 16 n)]) (resume cls q.idx sub ((s.clearFaults h).freeContext h))
def execRetireClear (c : Cmd) (s : State) : Out :=
  host (line 0x0E04 .C [0, 3, 4, 5, 6, 9, 10, 11, 12] 1 1) c retireClearOf s

/-! ## Recovery contexts (R449, R450) -/

/-- RECOVERY_CONTEXT_TAKEN: the oldest waiting fault takes a freed context, and its backoff starts. -/
def execRecoveryContextTaken (s : State) : Out :=
  match s.jnl.waiting with
  | [] => .next s
  | (h, status) :: r =>
    if 8 ≤ s.jnl.contexts.length then .next s
    else
      let i := hIndex h
      let n := if hClass h = 4 then (s.output i).retries + 1 else s.faultCount h
      let s : State := { s with jnl := { s.jnl with waiting := r, contexts := s.jnl.contexts ++ [⟨h, status, 1, n, none⟩] } }
      .next (match hClass h with
        | 4 =>
          let x := s.output i
          match x.openedAt with
          | none => contactsSettled i s
          | some _ => contactsSettled i (s.setOutput i { x with openedAt := none })
        | 9 => linkStartBackoff i s
        | 12 => lsStartBackoff i s
        | _ => s)

/-- RECOVERY_STATUS. -/
def recoveryStatusOf (q : Req) (s : State) : Reply :=
  if 7 < q.w 0 then rej 0x0108 s
  else
    let waiting : Nat × Nat × Int := (12, 2, (s.jnl.waiting.length : Int))
    match s.jnl.contexts[q.w 0]? with
    | none => reads s [waiting]
    | some c => reads s [(0, 1, c.phase), (1, 1, c.attempt), (2, 2, c.status), (4, 4, c.unit.toNat),
        (8, 4, (((c.due.getD s.now - s.now) / 1000 : Nat) : Int)), waiting]
def execRecoveryStatus (c : Cmd) (s : State) : Out := host (line 0x0E05 .R [0] 1 1) c recoveryStatusOf s

/-! ## The check-value unit (R453) -/

/-- CHECK_COUNTERS. -/
def checkCountersOf (q : Req) (s : State) : Reply :=
  let k := q.w 0
  if k = 0 ∨ 11 < k then rej 0x0108 s
  else
    let v := tget s.jnl.checks k (0, 0, none)
    .done 0 (res [(0, 8, v.1), (8, 8, v.2.1)])
      (if tst (q.w 1) 0 then { s with jnl := { s.jnl with checks := tset s.jnl.checks k (0, v.2.1, v.2.2) } } else s)
def execCheckCounters (c : Cmd) (s : State) : Out := host (line 0x0E06 .R [0] 1 2) c checkCountersOf s

end Sys2Proof.Machine
end

