-- ==== Sys2Proof/Machine/Fumarole.lean ====
section
/-! DEFINITION. Fumarole and the power states (chapter 17): rules, the heater line, the buffer, IDLE, STANDBY and DORMANT,
waking, and the commands of Table 17-9. -/

namespace Sys2Proof.Machine

/-! ## Rules (R412, R413) -/

/-- Signed field of a rule entry. -/
def State.ruInt (s : State) (r off n : Nat) : Int := sfld (s.blk 13) (16 + 16 * r + off) n
/-- FLAGS of the block's header (Table 17-2): 0 AUTO_IDLE, 1 DORMANT_AC_OK, 2 WAKEN_EN. -/
def State.fumFlag (s : State) (b : Nat) : Bool := tst (fld (s.blk 13) 2 1) b

/-- CMP on a value, with the hysteresis of a result that is already true. -/
def State.compare (s : State) (r : Nat) (was : Bool) (v : Int) : Bool :=
  let a := s.ruInt r 8 2
  let b := s.ruInt r 10 2
  let h : Int := if was then (s.ruFld r 12 2 : Int) else 0
  match s.ruFld r 4 1 with
  | 1 => if was then decide (a - h ≤ v) else decide (a < v)
  | 2 => if was then decide (v ≤ a + h) else decide (v < a)
  | 3 => decide (a - h ≤ v ∧ v ≤ b + h)
  | 4 => if was then decide (v ≤ a + h ∨ b - h ≤ v) else decide (v < a ∨ b < v)
  | 5 => decide (v = a)
  | _ => false

/-- Middle value of a list. -/
def median (l : List Int) : Int := (l.mergeSort).getD (l.length / 2) 0

/-- One sample through the filter (Table 17-3): the filtered value, if there is one yet, and the new result. A debounce count
is of samples in a row that would change the result; a median has no value before its window is full; the IIR takes its
first sample whole. -/
def filterSample (r c : Nat) (raw : Int) (s : State) : Option Int × Bool × Rule :=
  let v := s.rule r
  let was := tget v.result c false
  let f := s.ruFld r 3 1
  let k := f % 64
  match f / 64 with
  | 1 =>
    let want := s.compare r was raw
    let n : Int := if want = was then 0 else tget v.stable c 0 + 1
    if (k : Int) ≤ n then (some raw, want, { v with stable := tset v.stable c 0 })
    else (some raw, was, { v with stable := tset v.stable c n })
  | 2 =>
    let h := (raw :: tget v.history c []).take k
    let v := { v with history := tset v.history c h }
    if h.length < k then (none, was, v) else (some (median h), s.compare r was (median h), v)
  | 3 =>
    let y : Int := match aget v.iir c with
      | none => 256 * raw
      | some y => y + (256 * raw - y) / 2 ^ k
    (some (y / 256), s.compare r was (y / 256), { v with iir := tset v.iir c y })
  | _ => (some raw, s.compare r was raw, v)

/-! ## Waking (R420) -/

/-- Domains of RUN (Table 17-1). -/
def runMask : BitVec 12 := 0xFFB

/-- Domains that a domain depends on (R410). -/
def domainNeeds (d : Nat) : List Nat :=
  match d with
  | 4 => [0]
  | 1 | 7 | 8 | 9 | 10 | 11 => [4]
  | 3 => [4, 11]
  | 5 | 6 => [1, 4]
  | _ => []

/-- A mask with the dependencies of its domains. -/
def closure (m : BitVec 12) : BitVec 12 :=
  let add := fun (m : BitVec 12) => (upTo 12).foldl (fun a d =>
    if a.getLsbD d then a ||| BitVec.ofNat 12 (maskOf (domainNeeds d)) else a) m
  add (add (add m))

/-- Starts a wake, or merges its mask into one that runs; a rule takes precedence over a wake time, and the lower slot over
the higher, of the same AON cycle (Table 17-8). -/
def startWake (cause rule : Nat) (value : Int) (mask : BitVec 12) (s : State) : State :=
  let p := s.power
  if s.boot.shutdown then s
  else if p.state = 4 then
    let first := decide (p.since = s.now ∧ cause = 1 ∧ (p.cause = 3 ∨ (p.cause = 1 ∧ rule < p.wakeRule)))
    let p := if first then { p with
        cause := 1, wakeRule := rule, wakeValue := value, log := match p.log with
          | [] => []
          | e :: l => { e with cause := 1, rule := rule, value := value } :: l } else p
    { s with power := { p with wakeMask := p.wakeMask ||| mask } }
  else if p.state = 2 ∨ p.state = 3 then
    { s with
      power := { p with
        state := 4, since := s.now, leftState := p.state, cause := cause, wakes := bump32 p.wakes, wakeRule := rule,
        wakeValue := value, wakeMask := mask, wakeAt := none,
        log := (⟨cause, rule, value, s.time, (s.now - p.since) / 1000000⟩ :: p.log).take 16 }
      clk := { s.clk with multOn := true } }
  else s

/-- WAKE_N (R420): low for 100 µs while WAKEN_EN is set. -/
def execWakeN (s : State) (held : Nat := 0) : Out := .next (if s.fumFlag 2 ∧ 100 ≤ held then startWake 2 0 0 runMask s else s)

/-- WAKE_TIME (R420): reached in site time, or in AON time while site time is invalid. -/
def execWakeTime (s : State) : Out :=
  match s.power.wakeAt with
  | none => .next s
  | some (t, u) => .next (if (if s.clk.timeValid then t ≤ s.clk.tai else u ≤ s.now) then startWake 3 0 0 0 s else s)

/-! ## Samples (R413, R414) -/

/-- Puts an edge into Fumarole's buffer (R415). -/
def fumBuffer (e : FumEntry) (s : State) : State :=
  if s.power.buffer.length < 64 then { s with power := { s.power with buffer := s.power.buffer ++ [e] } }
  else { s with power := { s.power with bufLost := s.power.bufLost + 1, bufLostNew := s.power.bufLostNew + 1 } }

/-- RESULT of FUMAROLE_EVENT (Table 17-10). -/
def fumRes (e : FumEntry) : Res := res [(0, 1, e.rule), (1, 1, bit e.rising), (2, 1, e.conn), (4, 2, e.value)]

/-- The actions of an edge of a rule (R414): EVENT goes through Q63; where firmware does not take it Fumarole journals the edge
itself (Table 1-2), but while PD3 is off it is dropped. -/
def ruleEdge (e : FumEntry) (s : State) : State :=
  let r := e.rule
  let s := if e.rising then
      s.setRule r { s.rule r with conn := e.conn, firings := bump32 (s.rule r).firings, lastFire := s.now } else s
  let s := if s.action r 2 then fumBuffer e s else s
  let s := if s.action r 3 then s.viaOr 63 [(r : Int), (bit e.rising : Nat), (e.conn : Int), e.value]
      (fun t => t.event 15 0x00F1 (fumRes e))
      (fun t => if t.action r 2 ∨ t.power.domains.getLsbD 3 = false then t else fumBuffer e t) else s
  if e.rising ∧ s.action r 0 then startWake 1 r e.value (BitVec.ofNat 12 (s.ruFld r 6 2)) s else s

/-- The connector that a sample names: with IDX 0xFF any connector with MODE not 0, each by itself. -/
def State.sampleConn (s : State) (r conn : Nat) : Option Nat :=
  if s.ruFld r 0 1 = 1 ∨ s.ruFld r 0 1 = 2 then
    if s.ruFld r 1 1 = 0xFF then (if conn < 16 ∧ s.cnMode conn ≠ 0 then some conn else none) else some (s.ruFld r 1 1)
  else some 0

/-- Sample interval of a RATE code, µs (Table 17-3). -/
def rateUs (rate : Nat) : Nat := 100 * 10 ^ rate

/-- A sample of the rule on the connector is due (Table 17-3). -/
def State.sampleDue (s : State) (r c : Nat) : Bool := match aget (s.rule r).sampled c with
  | none => true
  | some t => s.after t (rateUs (s.ruFld r 2 1))

/-- RULE_SAMPLE (R413). A rule that is not armed forgets its result; its first value once armed counts as an edge. -/
def execRuleSample (r conn : Nat) (raw : Int) (s : State) : Out :=
  if 32 ≤ r ∨ s.ruFld r 0 1 = 0 then .next s
  else if s.armed r = false then
    .next (updateHeater (forgetRule r s))
  else match s.sampleConn r conn with
    | none => .next s
    | some c =>
      let was := tget (s.rule r).result c false
      let f := filterSample r c raw s
      let v := { f.2.2 with raw := raw, sampled := tset f.2.2.sampled c s.now }
      .next (if s.sampleDue r c = false then s else match f.1 with
        | none => s.setRule r v
        | some y =>
          let s := s.setRule r { v with
            filtered := y, result := tset v.result c f.2.1, evaluated := tset v.evaluated c true }
          updateHeater (if f.2.1 = was then s else ruleEdge ⟨r, f.2.1, c, y, s.now⟩ s))

/-! ## The buffer (R415) -/

/-- The journal entry of a buffered edge: TIME is its AON time, in site time where that is valid. -/
def State.fumJournal (s : State) (e : FumEntry) : JEntry :=
  { code := 0x00F1, time := if s.clk.timeValid then s.clk.tai - (s.now - e.time) else e.time, obj := handle 15 e.rule,
    flags := BitVec.ofNat 16 (8 + 2 * bit s.gated + bit (!s.clk.timeValid)), data := (Res.bytes (fumRes e)).take 6 }

/-- Drains the oldest entry into the journal, with the count of entries lost; it waits while the journal's buffer is full. -/
def drainOne (s : State) : State :=
  match s.power.buffer with
  | [] => s
  | e :: l =>
    if 256 ≤ s.jnl.buffer.length then s
    else
      let lost := s.power.bufLostNew
      let s : State := { s with
        power := { s.power with buffer := l, bufLostNew := 0 }
        jnl := { s.jnl with buffer := s.jnl.buffer ++ [s.fumJournal e] } }
      if lost = 0 then s else s.note 16 (handle 0 0) (1 :: leBytes (sat 32 lost) 4)

/-- Drains the whole buffer. -/
def drainAll (s : State) : State := overL (upTo 64) (fun _ t => drainOne t) s

/-- FUMAROLE_BUFFER_DRAIN: whenever PD4 is on. -/
def execFumaroleBufferDrain (s : State) : Out := .next (if s.power.domains.getLsbD 4 then drainAll s else s)

/-! ## IDLE (R411) -/

/-- Every output is IDLE or RETIRED. -/
def State.outsIdle (s : State) : Bool := (upTo 16).all fun o => decide ((s.output o).state = 0 ∨ (s.output o).state = 6)

/-- A reassignment is in progress. -/
def State.reassigning (s : State) : Bool := (upTo 8).any fun p => decide ((s.mtx p).step ≠ 0)

/-- IDLE_ENTRY: AUTO_IDLE, and IDLE_DELAY seconds since the last output became IDLE or RETIRED and since RUN was entered. -/
def execIdleEntry (s : State) : Out :=
  let d := 1000000 * fld (s.blk 13) 0 2
  if s.power.state = 0 ∧ s.ep.loaded ∧ s.fumFlag 0 ∧ s.outsIdle ∧ s.reassigning = false ∧ s.geyser.running = false ∧
      s.after s.power.idleSince d ∧ s.after s.power.since d then .next (updateHeater (powerTo 1 4 0 s))
  else .next s

/-! ## What a power cycle leaves -/

/-- The island after its domain was switched off: start-up state, and no supervision left on the outputs (R313, R417); PD4 keeps
the channels' vote-outs (R447). -/
def islandOff (s : State) : State :=
  let s := s.flushAll [34, 40, 43]
  { s with
    sup := { voteOuts := s.sup.voteOuts }
    isl := {}
    power := { s.power with domains := s.power.domains &&& 0xFF9 }
    outputs := tmap (fun _ (x : Output) => { x with
      grant := 0, older := [], outside := none, invalidSince := none, limits := none, lowered := none,
      limitSince := none, safe := 0, fixed := [], hold := none, imdSince := none, imdPassed := false, safeOpened := false }) s.outputs }

/-- Pods and phases after PD5 and PD6 were switched off; retired ones stay retired. -/
def arrayOff (s : State) : State :=
  let s := s.flushAll [39]
  { s with
    pods := tmap (fun _ (x : Pod) => if x.state = 4 then { state := 4 } else {}) s.pods
    phases := tmap (fun _ (x : Phase) => if x.state = 5 then { state := 5 } else {}) s.phases }

/-- Units retired in the retirement map show it (R447). -/
def reapply (s : State) : State :=
  overL s.jnl.retired (fun h t =>
    let i := hIndex h
    match hClass h with
    | 3 =>
      let k := hSub h
      if k = 0 then t.setNode i { t.node i with retired := true }
      else t.setNode i { t.node i with sensors := tset (t.node i).sensors (k - 1) { tget (t.node i).sensors (k - 1) {} with state := 4 } }
    | 4 => t.setOutput i { t.output i with state := 6 }
    | 5 => if hSub h = 0 then t.setPod i { t.pod i with state := 4 } else t
    | 6 => t.setPhase i { t.phase i with state := 5 }
    | 9 => t.setConn i { t.conn i with link := 7, form := 2 }
    | 10 => t.setPort i { t.port i with state := 5 }
    | 11 => t.setFnode i { t.fnode i with state := 3 }
    | 12 => t.setChan i { t.chan i with state := 5 }
    | _ => t) s

/-- Everything outside PD0 after a power cycle or system reset: MRAM, OTP and flash stay, and with them the running image,
the overlay, keys, records, the journal and the retirement map, with the caps that its sensors hold (R142, R437); the load
switch die keeps its channels (R382). -/
def coldReset (s : State) : State :=
  let s := { s with
    boot := { s.boot with
      failCode := 0, stage := 0, image := 0, fwVersion := 0, digest := 0, epoch := 0, provisioning := false, recovery := false,
      coreReset := true, systemReset := false }
    clk := { s.clk with syncs := 0, ptpPort := none, ppsSeconds := none, firstValid := none, locked := false }
    hostIf := { dma := s.hostIf.dma, frames := s.hostIf.frames, lastReads := s.hostIf.lastReads,
                unread := (upTo 8).map fun n => (n, (upTo 4).flatMap fun k => (s.ring n k).posted) }
    ep := { cfg := s.ep.cfg, overlay := s.ep.overlay, slot := s.ep.slot, mram := s.ep.mram, mramFault := s.ep.mramFault }
    cal := { nodes := (s.cal.nodes.filter fun e => e.2.capHeld.isSome).map fun e => (e.1, { capHeld := e.2.capHeld }) }
    phases := []
    pods := []
    matrix := []
    outputs := []
    slots := []
    geyser := {}
    conns := []
    sessions := []
    sup := {}
    isl := {}
    field := {}
    trust := { s.trust with rngFault := 0, results := [], staleRaised := false }
    jnl := { ring := s.jnl.ring, nextSeq := s.jnl.nextSeq, hashes := s.jnl.hashes, anchorHash := s.jnl.anchorHash,
             anchorSeq := s.jnl.anchorSeq, ack := s.jnl.ack, retired := s.jnl.mapSaved, mapSaved := s.jnl.mapSaved,
             causes := s.jnl.causes.filter fun c => s.jnl.mapSaved.contains c.1 } }
  reapply (loseCells s)

/-! ## Entering STANDBY and DORMANT (R416, R417) -/

/-- Each condition of Table 17-5 holds against the entry to a state. -/
def State.sleepConditions (s : State) (target : Nat) : List Bool :=
  [!s.outsIdle,
   (upTo 16).any fun c => decide ((s.conn c).link = 2 ∨ (s.conn c).link = 3 ∨ (s.conn c).link = 4),
   s.ep.cfg.nodes.any fun e =>
     decide ((s.node e.1).demand ≠ 0 ∨ (s.node e.1).presented ≠ 0 ∨ (aget s.cal.inForce.grants e.1).getD 0 ≠ 0),
   s.reassigning || s.sup.promotion.isSome || s.sup.proof || s.isl.maintenance,
   decide (s.ep.phase = 1 ∨ s.ep.phase = 3),
   (upTo 32).any fun r => s.armed r && s.action r 0 && s.ruleTrue r,
   decide (target = 3) && (s.metro.records.any (fun r => decide (r.stage = 1)) ||
     ((upTo 18).any (fun p => decide (s.ptFld p 0 1 = 2)) && !s.fumFlag 1))]

/-- The condition of Table 17-5 that refuses an entry; from STANDBY the first five hold trivially. -/
def State.sleepRefused (s : State) (target : Nat) : Option Nat :=
  ((s.sleepConditions target).zipIdx.find? fun e => e.1 && decide (s.power.state ≠ 2 ∨ 5 ≤ e.2)).map fun e => e.2 + 1

/-- Step 1: load switch channels outside the keep mask are switched off, but for those with SRC 2. -/
def keepChannels (keep : BitVec 24) (s : State) : State :=
  overL ((upTo 24).filter fun c => !keep.getLsbD c && decide (s.lsSrc c ≠ 2)) (fun c t => lsCommand c 0 t) s

/-- The journal's buffer and the retirement map are written before PD4 is switched off. -/
def flushJournal (s : State) : State :=
  if s.gated then s
  else
    let s := if s.jnl.lostNew = 0 then s else
      writeSlot (some { code := 0x00C1, time := s.time, obj := handle 0 0, flags := BitVec.ofNat 16 (bit (!s.clk.timeValid)),
                        data := 16 :: 0 :: leBytes (sat 32 s.jnl.lostNew) 4 }) s
    let s := overL s.jnl.buffer (fun e t => writeSlot (some e) t) s
    { s with jnl := { s.jnl with buffer := [], lostNew := 0, mapSaved := s.jnl.retired } }

/-- POWER_STATE_SET (R416, R417). Steps 1 to 3 of the entry; the completion is posted before step 4. -/
def powerStateSetOf (q : Req) (s : State) : Reply :=
  let p := s.power
  let target := q.w 0
  if p.state = 4 ∨ p.state = 5 then rej 0x0301 s
  else if target = 0 then
    (if p.state = 2 then .done 0 (res [(0, 8, s.time)]) (startWake 0 0 0 0 s) else rej 1 s)
  else if target ≠ 2 ∧ target ≠ 3 then rej 0x0108 s
  else if target = p.state then rej 1 s
  else if s.gated then rej 0x0313 s
  else match s.sleepRefused target with
    | some n => .done 0x03F0 (res [(0, 1, n)]) s
    | none =>
      let keep := BitVec.ofNat 24 (q.w 1)
      let t := q.w2 2
      let u := if s.clk.timeValid then s.now + (t - s.clk.tai) else t
      let at' := s.time
      let s := keepChannels keep s
      let s := drainAll (if target = 3 then orderlySave s else s)
      .done 0 (res [(0, 8, at')]) { s with power := { s.power with
        state := 5, leftState := target, keep := keep, wakeAt := if t = 0 then none else some (t, u) } }

/-- Step 4, where the command began an entry: the domains are switched off in reverse dependency order (R410). -/
def finishEntry (old : Nat) (s : State) : State :=
  if s.power.state ≠ 5 ∨ old = 5 then s
  else if s.power.leftState = 2 then
    let s := arrayOff (islandOff s)
    let s : State := { s with power := { s.power with state := old, domains := 0xE99 } }
    updateHeater (powerTo 2 0 0 (overL (upTo 16) linkStart s))
  else
    let s := coldReset (flushJournal (s.flushAll ((upTo 32).map (· + 32))))
    updateHeater (forgetRules { s with
      clk := { s.clk with multOn := false }
      ep := { s.ep with loaded := false }
      power := { s.power with state := 3, since := s.now, domains := 1, dormantAt := some s.time } })

def execPowerStateSet (c : Cmd) (s : State) : Out :=
  .next (finishEntry s.power.state (hostStep (line 0x0F01 .C [0] 1 4) c powerStateSetOf s))

/-! ## The wake's domains (R410, R420) -/

/-- The domain can be released now: clocks run, its dependencies are on, and the wake mask's domains come first. -/
def State.releasable (s : State) (d : Nat) : Bool :=
  let on := s.power.domains
  let first := closure s.power.wakeMask
  decide (s.power.state = 4) && !s.boot.shutdown && s.clk.locked && runMask.getLsbD d && !on.getLsbD d &&
  (domainNeeds d).all (fun k => on.getLsbD k) &&
  (decide (d = 4) || first.getLsbD d || decide (first &&& on = first))

/-- What the release of a domain starts. -/
def onRelease (d : Nat) (s : State) : State :=
  let cold := decide (s.power.leftState = 3)
  match d with
  | 4 =>
    if cold = false then s
    else
      let s : State := { s with
        cal := { s.cal with periodEnd := s.now, nextPeriod := 0 }
        clk := { s.clk with firstValid := if s.clk.timeValid then some s.now else none } }
      let s := s.jot 0x00C2 (handle 0 0) (leBytes s.headSeq 6)
      match s.power.dormantAt with
      | none => s
      | some t => ({ s with power := { s.power with dormantAt := none } } : State).note 15 (handle 0 0)
          (0 :: leBytes (sat 32 ((s.time - t) / 1000000)) 4)
  | 1 => { s with sup := { s.sup with frameAt := s.now } }
  | 7 =>
    let s : State := { s with metro := { s.metro with sampleAt := 6 * s.now + 625 } }
    if cold then metroRestart s else s
  | 8 => if cold then s else overL (upTo 16) linkStart s
  | 11 => powerCells s
  | _ => s

/-- DOMAIN_RELEASED (R420): with the last domain the device is in RUN. -/
def execDomainReleased (d : Nat) (s : State) : Out :=
  if s.releasable d = false then .next s
  else
    let s := onRelease d { s with power := { s.power with domains := s.power.domains ||| BitVec.ofNat 12 (2 ^ d) } }
    .next (if s.power.domains &&& runMask = runMask then updateHeater (powerTo 0 s.power.cause s.power.wakeRule s) else s)

/-! ## The other commands of Table 17-9 -/

/-- POWER_STATUS. -/
def powerStatusOf (_ : Req) (s : State) : Reply :=
  let p := s.power
  reads s [(0, 1, p.state), (1, 1, p.cause), (2, 2, p.domains.toNat), (4, 4, sat 32 ((s.now - p.since) / 1000)), (8, 4, p.wakes),
    (12, 2, sat 16 p.bufLost)]
def execPowerStatus (c : Cmd) (s : State) : Out := host (line 0x0F00 .R [0] 0 0) c powerStatusOf s

/-- RULE_STATUS. -/
def ruleStatusOf (q : Req) (s : State) : Reply :=
  let r := q.idx
  let v := s.rule r
  .done 0 (res [(0, 1, bit (s.armed r) + 2 * bit (s.ruleTrue r) + 4 * bit s.power.heater), (1, 1, v.conn), (2, 2, v.raw),
      (4, 2, v.filtered), (8, 4, v.firings), (12, 4, if v.firings = 0 then 0 else sat 32 ((s.now - v.lastFire) / 1000))])
    (if tst (q.w 0) 0 then s.setRule r { v with firings := 0 } else s)
def execRuleStatus (c : Cmd) (s : State) : Out := host (line 0x0F02 .R [15] 0 1) c ruleStatusOf s

/-- RULE_CONFIG_SET. -/
def ruleConfigSetOf (q : Req) (s : State) : Reply := configSet 13 0 524 q s
def execRuleConfigSet (c : Cmd) (s : State) : Out := host (line 0x0F03 .C [0] 3 12) c ruleConfigSetOf s

/-- HEATER_FORCE. -/
def heaterForceOf (q : Req) (s : State) : Reply :=
  if s.lsSrc q.idx ≠ 2 then rej 0x0301 s
  else if 2 < q.w 0 ∨ (q.w 0 ≠ 0 ∧ (q.w 1 = 0 ∨ 86400 < q.w 1)) then rej 0x0108 s
  else .done 0 (res [(0, 1, s.power.force)])
    (updateHeater { s with power := { s.power with force := q.w 0, forceEnd := s.now + 1000000 * q.w 1 } })
def execHeaterForce (c : Cmd) (s : State) : Out := host (line 0x0F04 .A [12] 1 2) c heaterForceOf s

/-- HEATER_FORCE_END (R414). -/
def execHeaterForceEnd (s : State) : Out :=
  if s.power.force ≠ 0 ∧ s.power.forceEnd ≤ s.now then .next (updateHeater { s with power := { s.power with force := 0 } }) else .next s

/-- WAKE_LOG_READ. -/
def wakeLogReadOf (q : Req) (s : State) : Reply :=
  if 15 < q.w 0 then rej 0x0108 s
  else match s.power.log[q.w 0]? with
    | none => reads s []
    | some e => reads s [(0, 1, e.cause), (1, 1, e.rule), (2, 2, e.value), (4, 8, e.time), (12, 4, e.asleep)]
def execWakeLogRead (c : Cmd) (s : State) : Out := host (line 0x0F05 .R [0] 1 1) c wakeLogReadOf s

end Sys2Proof.Machine
end

