-- ==== Sys2Proof/Machine/Thermal.lean ====
section
/-! DEFINITION. The general-purpose ADC and compare triggers (R162, R432), the die diode and its thresholds (R433 to R436),
stalls of the internal queues (R24). -/

namespace Sys2Proof.Machine

/-! ## The ADC (R432) -/

/-- Field of an AIN entry (Table 18-3). -/
def State.ainFld (s : State) (c off n : Nat) : Nat := fld (s.blk 15) (16 + 16 * c + off) n

/-- Temperature of a conversion, 0.1 °C, of a channel with KIND 1 or 2; v in V. -/
def State.ainTemp (s : State) (c : Nat) (v : Rat) : Int :=
  let p1 := fVal (ffld (s.blk 15) (16 + 16 * c + 8))
  let p2 := fVal (ffld (s.blk 15) (16 + 16 * c + 12))
  let t : Rat :=
    if s.ainFld c 0 1 = 1 then p1 * v + p2
    else 1 / (1 / (29815 / 100) + ratLn (p2 * v / (18 / 10 - v)) / p1) - 27315 / 100
  rneInt (t * 10)

/-- A conversion of a channel: 16 bits over 0 to 1.8 V, short or open within 18 mV of an end, out of range outside T_LO to
T_HI; it is the bus voltage of the outputs whose divider stands on the channel. -/
def convert (c code : Nat) (period : Option Nat) (s : State) : State :=
  let v : Rat := (code : Rat) * 18 / 655360
  let kind := s.ainFld c 0 1
  let t := s.ainTemp c v
  let standing :=
    if v < 18 / 1000 then 2
    else if 1782 / 1000 < v then 3
    else if kind = 0 then 1
    else if t < sfld (s.blk 15) (16 + 16 * c + 2) 2 ∨ sfld (s.blk 15) (16 + 16 * c + 4) 2 < t then 4
    else 1
  let old := s.ainCh c
  let s := s.setAin c { old with
    code := code, standing := standing, temp := if standing = 1 ∧ kind ≠ 0 then t else old.temp, time := s.now, podPeriod := period }
  overL (s.localOuts.filter fun o => decide (s.outFld o 6 1 = c)) (fun o t =>
    trackMatch o (t.setOutput o { t.output o with busV := Config.busVolts o code })) s

/-- AIN_CONVERSION. -/
def execAinConversion (c code : Nat) (s : State) : Out :=
  if c < 32 ∧ code < 65536 then .next (convert c code none (afterSnapshot s)) else .next s

/-- The counter stands at a compare entry's position, POS of the PERIOD last loaded, within one count (R162). -/
def State.atCompare (s : State) (p entry counter : Nat) : Bool :=
  decide (((counter : Int) - ((s.paFld p (48 + 4 * entry) 2 * (s.pod p).period / 65536 : Nat) : Int)).natAbs ≤ 1)

/-- COMPARE_TRIGGER (R162, Table 6-6): an entry of a running pod fires at its position every DIV periods; kind 4 is an extra
pulse of SYNC_OUT; a pulse to a block that is off has no effect on the state. -/
def execCompareTrigger (p entry code : Nat) (s : State) (counter : Nat := 0) : Out :=
  let v := s.pod p
  let target := s.paFld p (50 + 4 * entry) 1
  let again := match aget v.cmpCount entry with
    | none => true
    | some n => decide (v.periods < n ∨ n + s.paFld p (51 + 4 * entry) 1 ≤ v.periods)
  if 4 ≤ entry ∨ v.state ≠ 1 ∨ target / 32 = 0 ∨ again = false ∨ s.atCompare p entry counter = false then .next s
  else
    let s := advance p (max v.counter counter) (s.setPod p { v with cmpCount := tset v.cmpCount entry v.periods })
    .next (match target / 32 with
      | 1 => if code < 65536 then convert (target % 32) code (some v.periods) s else s
      | 2 => if s.power.domains.getLsbD 7 then meteringStrobe s else s
      | 3 => s.captureOn 4 p
      | 4 => if fld (s.blk 4) 4 1 = 0xFF then s else { s with syncOut := true }
      | _ => s)

/-! ## Die temperature (Table 18-4) -/

/-- A sample stands beyond threshold `k`. -/
def tempBeyond (k : Nat) (t : Int) : Bool :=
  match k with
  | 0 => decide (t < -400)
  | 1 | 2 => decide (1150 < t)
  | 3 => decide (1180 < t)
  | 4 => decide (1200 < t)
  | 5 => decide (1350 < t)
  | 6 => decide (t < -380)
  | _ => decide (1130 < t)

/-- A sample stands back past the clearing level of threshold `k`; the gate-entry saves arm again on the other side. -/
def tempBack (k : Nat) (t : Int) : Bool :=
  match k with
  | 0 => decide (-370 ≤ t)
  | 1 => decide (t ≤ 1100)
  | 2 => decide (t ≤ 1120)
  | 3 => decide (t ≤ 1130)
  | 4 => decide (t ≤ 1150)
  | 5 => false
  | 6 => decide (-380 ≤ t)
  | _ => decide (t ≤ 1130)

/-- DIE_TEMP for thresholds 0 to 4 (Table 18-9). -/
def tempReport (k : Nat) (entered : Bool) (s : State) : State :=
  s.report 1 0x00E0 (handle 0 0) (res [(0, 1, k + 1), (1, 1, bit entered), (2, 2, s.clk.dieTemp)])

/-- Shutdown (R436): every gate off, VOTER_SAFE; the domains go off 20 ms later with the safety outputs, at once where the
island is off. -/
def shutDown (s : State) : State :=
  let s : State := { s with boot := { s.boot with shutdown := true } }
  if s.power.domains.getLsbD 1 then enterVoterSafe 6 (overL (upTo 8) (fun p t => if t.podFitted p then tripPod p 6 0 t else t) s)
  else
    let s := if s.power.domains = 1 then s else coldReset s
    updateHeater { s with power := { s.power with domains := 1 }, clk := { s.clk with multOn := false } }

/-- A threshold is entered. -/
def tempEnter (k : Nat) (s : State) : State :=
  let s : State := { s with clk := { s.clk with inForce := s.clk.inForce ++ [k], beyond := tset s.clk.beyond k 0 } }
  match k with
  | 0 | 2 => tempReport k true (deferEntries s)
  | 1 | 3 => tempReport k true s
  | 4 => tempReport k true (if s.calOn then s.drain else s)
  | 5 => shutDown s
  | _ => if s.metOn then writeSave 3 s else s

/-- A threshold is left; what waited for permission to write follows once no gate is in force. -/
def tempLeave (k : Nat) (s : State) : State :=
  let s : State := { s with clk := { s.clk with inForce := s.clk.inForce.filter (· ≠ k), beyond := tset s.clk.beyond k 0 } }
  let s := if k < 5 then tempReport k false s else s
  if (k = 0 ∨ k = 2) ∧ s.gated = false then clearDueKeys (noteSkipped s) else s

/-- One valid sample against one threshold: three in a row enter or leave it; during a diode fault they only count. -/
def tempJudge (fault first : Bool) (t : Int) (k : Nat) (s : State) : State :=
  let on := s.clk.inForce.contains k
  let move := if on then tempBack k t else tempBeyond k t
  if first ∧ (k = 6 ∨ k = 7) ∧ tempBeyond k t then { s with clk := { s.clk with inForce := s.clk.inForce ++ [k] } }
  else
    let n := if move then tget s.clk.beyond k 0 + 1 else 0
    let s : State := { s with clk := { s.clk with beyond := tset s.clk.beyond k n } }
    if n < 3 ∨ fault then s else if on then tempLeave k s else tempEnter k s

/-- A diode fault (R435): the die counts as 125.0 °C. -/
def diodeFault (how : Nat) (s : State) : State :=
  let s : State := { s with clk := { s.clk with validRun := 0, beyond := [] } }
  if s.clk.diodeFault then s
  else
    let s : State := { s with clk := { s.clk with diodeFault := true, dieTemp := 1250 } }
    let s := s.event 1 0x08E0 (res [(0, 1, how)])
    overL ([1, 2, 3, 4].filter fun k => !s.clk.inForce.contains k) tempEnter s

/-- DIE_TEMP_SAMPLE (R433, R435): a conversion in 0.1 °C, none for a missing one. -/
def execDieTempSample (temp : Option Int) (s : State) : Out :=
  let s := afterSnapshot s
  match temp with
  | none =>
    let n := s.clk.missing + 1
    let s : State := { s with clk := { s.clk with missing := n, validRun := 0 } }
    .next (if n < 3 then s else diodeFault 2 s)
  | some t =>
    let first := !s.clk.sampled
    let s : State := { s with clk := { s.clk with missing := 0, sampled := true } }
    if t < -600 ∨ 1600 < t then .next (diodeFault 1 s)
    else
      let n := s.clk.validRun + 1
      let fault := s.clk.diodeFault && decide (n < 3)
      let s : State := { s with clk := { s.clk with
        validRun := if s.clk.diodeFault ∧ n < 3 then n else 0, diodeFault := fault, dieTemp := if fault then 1250 else t } }
      .next (overL (upTo 8) (tempJudge fault first t) s)

/-! ## Stalls (R24, Table 1-2) -/

/-- Stall timeout of an internal queue, µs (Table 19-1). -/
def State.stallTime (s : State) (q : Nat) : Nat :=
  if q < 39 then 3 * s.periodUs else if q = 39 then 100 else if q = 40 then 1000 else s.fwStall (s.iq q).since

/-- Queues whose consumer takes an entry in the step that posts it: an entry that stays unconsumed shows only by the stall
itself (log entry 104). -/
def atOnce (q : Nat) : Bool := decide ((35 ≤ q ∧ q ≤ 38) ∨ (40 ≤ q ∧ q ≤ 51) ∨ (56 ≤ q ∧ q ≤ 63))

/-- A live command is a request that the queue carries: close requests on Q43, frames on Q48 to Q51, keys on Q60. -/
def onQueue (q : Nat) (l : Live) : Bool :=
  let op := l.opcode.toNat
  l.ended.isNone && !l.committed &&
  (if q = 43 then decide (op = 0x0501)
   else if 48 ≤ q ∧ q ≤ 51 then decide (op = 0x0B03 ∧ hIndex l.handle / 4 = q - 48)
   else decide (q = 60 ∧ op / 256 = 0x0D))

/-- QUEUE_STALL: the event's RESULT is left open (a free value); requests of the queues that carry them end with a timeout,
samples and frames for firmware are dropped. The next entry that the consumer takes ends the stall. -/
def execQueueStall (q : Nat) (s : State) : Out :=
  let v := s.iq q
  if q < 32 ∨ 64 ≤ q ∨ s.serves q = false ∨ (v.entries = [] ∧ atOnce q = false) ∨ v.stalled ∨
      s.after v.since (s.stallTime q) = false then .next s
  else
    let was := s
    let f := s.fresh
    let s := (f.2.setIq q { v with stalled := true, stalls := bump32 v.stalls }).event 1 0x0403 (BitVec.ofNat 128 f.1)
    let s := s.jot 0x0403 (handle 2 q) ([BitVec.ofNat 8 q, 0] ++ leBytes (s.iqDepth q) 2)
    let drops := decide (q = 41 ∨ q = 43 ∨ (48 ≤ q ∧ q ≤ 51) ∨ (56 ≤ q ∧ q ≤ 60))
    let w := s.iq q
    let s := if drops then s.setIq q { w with
        entries := [], head := w.tail, expectSeq := w.nextSeq,
        discards := w.discards + (if q = 41 then w.entries.length else 0) } else s
    let s := overL (s.hostIf.live.filter (onQueue q)) (fun l t => (undoLive l t).finish l 0x0401 0) s
    .next (stallOver was s)

end Sys2Proof.Machine
end

