-- ==== Sys2Proof/Machine/Resets.lean ====
section
/-! DEFINITION. Clocks, boot and reset (R245, R387, R396 to R398, R426 to R430, R437 to R440, R465): power-on, system, core
and port resets, the selection of the firmware image, the load of the site image, clock faults, and RESET. -/

namespace Sys2Proof.Machine

/-- A bit of BT_RESET_CAUSE is set: 0 PORST, 1 SYSTEM, 2 CORE, 3 CORE_WDT, 4 CLOCK_LOSS, 5 BROWNOUT. -/
def setCause (b : Nat) (s : State) : State :=
  { s with boot := { s.boot with resetCause := s.boot.resetCause ||| BitVec.ofNat 6 (2 ^ b) } }

/-! ## The firmware image (R396, R397) -/

/-- Slots that BOOTSEL admits. -/
def State.slotsAllowed (s : State) : List Nat := match s.boot.bootsel.toNat with
  | 1 => [0]
  | 2 => [1]
  | _ => [0, 1]

/-- Slots that may run. -/
def State.candidates (s : State) : List Nat :=
  s.slotsAllowed.filter fun k => (s.fw k).valid && decide (s.boot.rollback ≤ (s.fw k).svn) && !(s.fw k).failed

/-- The slot that runs: the preferred one, else by SVN, then by version, then A. -/
def State.chosen (s : State) (cand : List Nat) : Nat :=
  if cand.contains s.trust.preferred then s.trust.preferred
  else match cand with
    | [k] => k
    | _ =>
      let a := s.fw 0
      let b := s.fw 1
      if a.svn < b.svn ∨ (a.svn = b.svn ∧ a.version.toNat < b.version.toNat) then 1 else 0

/-- The boot ROM's selection (R397): each round may mark one slot failed. STAGE 2 where an image runs, 0xF where none does. -/
def bootSelect (fuel : Nat) (s : State) : State :=
  match fuel with
  | 0 => s
  | n + 1 =>
    match s.candidates with
    | [] =>
      { s with boot := { s.boot with
        stage := 15, failCode := if s.slotsAllowed.any fun k => (s.fw k).valid then 2 else 1 } }
    | cand =>
      let k := s.chosen cand
      let v := s.fw k
      let run := fun (t : State) => { t with boot := { t.boot with stage := 2, failCode := 0, image := k, fwVersion := v.version } }
      if s.gated then run (s.note 18 (handle 0 0) [BitVec.ofNat 8 k])
      else if 4 ≤ v.attempts + 1 then bootSelect n (s.setFw k { v with attempts := v.attempts + 1, failed := true })
      else run (s.setFw k { v with attempts := v.attempts + 1 })

/-- The legally relevant module of the running firmware against the seal, at every start of a GSL-9648-M (R295). -/
def legalCheck (s : State) : State :=
  let d := (s.fw s.boot.image).legal
  let differs := decide (s.boot.grade = 1) && (s.metro.sealed.any fun x => decide (x.2 ≠ d))
  let s : State := { s with metro := { s.metro with mismatch := differs } }
  if differs then s.report 8 0x0911 (handle 0 0) (d.setWidth 128) else s

/-- Firmware is ready: STAGE 4 clears the attempts of its slot (R397). -/
def firmwareReady (s : State) : State :=
  let k := s.boot.image
  let s := s.setFw k { s.fw k with attempts := 0 }
  legalCheck { s with boot := { s.boot with coreReset := false, stage := if s.boot.provisioning then 15 else 4 } }

/-! ## The site image (R74, R97) -/

/-- Loads the running image and the overlay from MRAM, with the changes of a tick whose mark was never written back in the
overlay (R92); without an image, or where its check fails, the provisioning seat opens. `power`: after a power-on reset, when
the load switch die takes its configuration anew. -/
def siteLoad (power : Bool) (s : State) : State :=
  match if s.ep.mramFault = 0 then s.ep.mram else none with
  | none => lsAllOff { s with
      ep := { s.ep with loaded := false, cfg := {} }
      boot := { s.boot with stage := 15, failCode := if s.ep.mramFault = 4 then 4 else 3, provisioning := true } }
  | some (c, edits, n) =>
    let rules := s.power.rules
    let ls := s.ls
    let s : State := { s with
      ep := { s.ep with
        cfg := c, loaded := true, overlay := (edits ++ s.ep.overlay.map (·.1)).map fun e => (e, false), number := n, mram := some (c, [], n), intended := c.digests,
        root := c.rootOf c.own }
      boot := { s.boot with epoch := n } }
    let s := if s.power.leftState = 3 ∧ power = false then s else metroRestart s
    let s := if power then refCheck s else s
    let s := carry {} (fun k => aget c.seats.seats k) s
    let s := if power then s else { s with power := { s.power with rules := rules }, ls := ls }
    let s := if s.clk.timeValid then alignPeriod s else s
    driveHeater (refreshRoot (reapply (lockParams s)))

/-! ## Boot -/

/-- What runs once the domains are on: the key cells are drawn, Tephra restarts, an image is selected and started, the site
image is loaded. With BOOTSEL 3 the recovery seat opens instead (R398). -/
def bootRun (power : Bool) (s : State) : State :=
  let s := powerCells s
  let s := s.jot 0x00C2 (handle 0 0) (leBytes s.headSeq 6)
  if s.boot.bootsel = 3 then lsAllOff { s with boot := { s.boot with recovery := true, coreReset := false } }
  else
    let s := bootSelect 3 s
    if s.boot.stage = 15 then s else firmwareReady (siteLoad power s)

/-- The clocks have locked: domains on, periods start, and the device boots. A system reset counts as the power-up that reopens
SNAPSHOT_RESTORE (R139; log entry 108). -/
def bootUp (power : Bool) (s : State) : State :=
  bootRun power { s with
    boot := { s.boot with systemReset := false }
    clk := { s.clk with multOn := true, locked := true, firstValid := if s.clk.timeValid then some s.now else none }
    power := { s.power with state := 0, since := s.now, domains := runMask, leftState := 0 }
    cal := { s.cal with periodEnd := s.now, nextPeriod := 0 }
    sup := { s.sup with frameAt := s.now }
    metro := { s.metro with sampleAt := 6 * s.now + 625 } }

/-- PD0 is reset with everything else (Table 18-5): the root, site time, Fumarole and its buffer go. -/
def powerLoss (cause : BitVec 6) (s : State) : State :=
  let s := lsReset (coldReset s)
  let still := fun (_ : Nat) (x : LsChan) => { x with
    window := none, pausedAt := none, onTime := 0, burstOff := none, latches := [], backoff := none, thermals := [], lhinLow := none }
  { s with
    clk := { dieTemp := s.clk.dieTemp }
    power := {}
    ain := []
    boot := { s.boot with resetCause := cause, shutdown := false, porst := false, halted := false }
    ls := { s.ls with chans := tmap still s.ls.chans, okSince := none, linkLost := none }
    trust := { s.trust with root := false } }

/-- Connectors whose front end fails its power-up self-test retire at once (R246). -/
def frontEndTest (ok : BitVec 16) (s : State) : State :=
  overL ((upTo 16).filter fun c => decide (s.cnMode c ≠ 0) && !ok.getLsbD c && !s.isRetired (handle 9 c)) (fun c t =>
    judge (linkRetire c 0x0871 (t.report 12 0x0871 (handle 9 c) (res [(0, 1, c), (1, 1, 3), (2, 1, 1)])))) s

/-- A reference is present when PORST_N is released: REFCLK edges at its frequency, or the crystal (R426). -/
def refFound (b : BootInputs) : Bool := decide (200 ≤ b.refclkEdges ∧ b.refclkEdges ≤ 300) || b.crystalOk

/-- The power-on reset up to the sampling of the pins and the selection of the reference (R387, R426). -/
def porSample (b : BootInputs) (s : State) : State :=
  let s := powerLoss (if b.brownout then 0x21 else 1) s
  { s with
    ep := { s.ep with mramFault := b.siteImage }
    boot := { s.boot with bootsel := b.bootsel, pcieLink := b.pcieLink }
    clk := { s.clk with
      refclk := decide (200 ≤ b.refclkEdges ∧ b.refclkEdges ≤ 300), refPresent := refFound b, aonRc := !refFound b,
      multOn := refFound b } }

/-- Order of a save slot among the complete ones; 0 where it holds none. -/
def saveOrder (v : Option Save) : Nat := match v with
  | none => 0
  | some x => if x.complete then x.generation + 1 else 0

/-- The newest metrology save fails its check, so that the other slot counts (Table 19-5). -/
def spoilSave (s : State) : State :=
  let m := s.metro
  let spoil := fun (v : Option Save) => v.map fun x => { x with complete := false }
  { s with metro :=
    if saveOrder m.saveB ≤ saveOrder m.saveA then { m with saveA := spoil m.saveA } else { m with saveB := spoil m.saveB } }

/-- Structures in MRAM that the boot finds with a wrong check are counted and reported (R453): the other copy of each serves
(R292, R387, R447). -/
def mramFaults (bad : BitVec 12) (s : State) : State :=
  overL ([5, 6, 8].filter fun k => bad.getLsbD k) (fun k t => t.checkFault k 0) s

/-- The root is regenerated, and the identity key waits for its seed (R387, R389). -/
def rootUp (s : State) : State :=
  let s : State := { s with trust := { s.trust with root := true } }
  s.setKey 1 { s.key 1 with state := 3, type := 1, level := 1, parent := 0, use := 2 }

/-- The boot after a power-on reset: structures whose check fails, the device's boot, the front ends' self-test (R246, R453,
Table 19-5). -/
def porBoot (b : BootInputs) (s : State) : State :=
  mramFaults b.mramBad (frontEndTest b.frontEnds (bootUp true (if b.mramBad.getLsbD 5 then spoilSave s else s)))

/-- POWER_ON_RESET (R387, R426, R437): PORST_N is released. The root is regenerated, the reference selected and the device
boots; without a reference it stays in reset on the RC oscillator. -/
def execPowerOnReset (b : BootInputs) (s : State) : Out :=
  let s := porSample b s
  if b.pufOk = false then
    .next (lsAllOff { s with
      boot := { s.boot with stage := 15, failCode := 5 }
      power := { s.power with state := 0, domains := if refFound b then runMask else 1 }
      clk := { s.clk with locked := refFound b } })
  else
    let s := rootUp s
    if refFound b = false then .next { s with boot := { s.boot with systemReset := true } }
    else
      let s := porBoot b s
      .next (if 600 < b.pufCorrected then s.report 13 0x08D0 (handle 0 0) (res [(0, 2, b.pufCorrected)]) else s)

/-- PORST_N_ASSERTED (R166, R437): gates and SOUT low at once, without a save. -/
def execPorstNAsserted (s : State) : Out :=
  let s := powerLoss 1 s
  .next { s with boot := { s.boot with porst := true } }

/-- Falling threshold of a rail, mV (Table 20-3): 0 VDD_AON, 1 VDD_SAFE, 2 VDD, 3 VDD_SD, 4 VDDH, 5 VDDA, 6 VDD_MRAM, 7 VDDIO,
8 VDD_LD. -/
def railFalling (rail : Nat) : Nat :=
  if rail ≤ 2 then 720 else if rail = 3 then 810 else if rail ≤ 6 then 1620 else if rail ≤ 8 then 2900 else 0

/-- SUPPLY_BROWNOUT (R465): a power-on reset that POWER_ON_RESET ends. -/
def execSupplyBrownout (rail millivolts : Nat) (s : State) : Out :=
  if millivolts < railFalling rail then .next (powerLoss 0x20 s) else .next s

/-! ## Clock faults (R427 to R430) -/

/-- What a detector measured is a fault (Table 18-1, R427). -/
def State.clockBad (s : State) (clock a b : Nat) : Bool :=
  if clock = 0 then decide (a < 200 ∨ 300 < a)
  else if clock = 1 then s.clk.locked && decide (4 * s.clk.lockWin < a ∧ 4 ≤ b)
  else decide (100 < b) || (decide (clock = 4 ∨ clock = 5) && decide (20 ≤ a))

/-- CLOCK_MONITOR_FAULT (Table 18-1): the clocks as CLOCK_FAULT numbers them. A clock that its power state stops has no
monitor to fail. -/
def execClockMonitorFault (clock : Nat) (s : State) (a b : Nat := 0) : Out :=
  let on := s.power.domains
  let runs := clock = 0 ∨ (clock ≤ 9 ∧ on.getLsbD 4 = true ∧
    (clock = 4 → s.power.state ≠ 1 ∧ (on.getLsbD 5 = true ∨ on.getLsbD 6 = true)) ∧ (clock = 5 → on.getLsbD 1 = true) ∧
    (clock = 6 → on.getLsbD 8 = true))
  if s.boot.porst ∨ s.boot.systemReset ∨ s.boot.shutdown ∨ ¬ runs ∨ s.clockBad clock a b = false then .next s
  else
    let at' := if s.clk.timeValid then some s.clk.tai else none
    let s := if clock = 0 then
        timeInvalidNow { s with clk := { s.clk with aonRc := true, refPresent := false, locked := false } }
      else if clock = 1 then { s with clk := { s.clk with locked := false } } else s
    if on.getLsbD 4 = false then .next s
    else
      let s : State := { s with clk :=
        if s.clk.faultClock.isSome then s.clk
        else { s.clk with faultClock := some clock, faultSince := s.now, faultTime := at' } }
      let s := if clock = 0 ∨ clock = 1 ∨ clock = 4 then
          overL ((upTo 8).filter fun p => s.podFitted p) (fun p t => tripPod p 5 0 t) s else s
      .next (if on.getLsbD 1 then enterVoterSafe 5 s else s)

/-- CLOCK_FAULT_RESET (R430): every SOUT is off; a system reset without a save, held until MULTIPLIER_LOCK. -/
def execClockFaultReset (s : State) : Out :=
  if s.clk.faultClock = none ∨ s.boot.systemReset ∨ s.after s.clk.faultSince 20000 = false then .next s
  else
    let s := lsReset (coldReset (setCause 4 s))
    .next { s with
      boot := { s.boot with systemReset := true }
      clk := { s.clk with multOn := true }
      power := { s.power with domains := 1 } }

/-- MULTIPLIER_LOCK (R427): the phase error, ps, has stayed inside LOCK_WIN for LOCK_N cycles; the derived clocks run; a
system reset that waited for it ends. -/
def execMultiplierLock (s : State) (error cycles : Nat := 0) : Out :=
  if s.clk.lockWin < error ∨ cycles < s.clk.lockN ∨ s.clk.multOn = false ∨ s.clk.refPresent = false ∨ s.clk.locked ∨ s.boot.porst ∨ s.boot.shutdown then .next s
  else
    let s : State := { s with clk := { s.clk with locked := true } }
    if s.boot.systemReset = false then .next s
    else match s.clk.faultClock with
      | none => .next (bootUp true s)
      | some k =>
        let t := s.clk.faultTime
        let s := bootUp false { s with clk := { s.clk with faultClock := none, faultTime := none } }
        .next (s.report 1 0x08E1 (handle 0 0) (res [(0, 1, k), (4, 8, (t.getD 0 : Nat))]))

/-- REFERENCE_RETURN (R426, R429): AON leaves the RC oscillator; a crystal that comes late after power-on starts the
multiplier. -/
def execReferenceReturn (s : State) : Out :=
  if s.clk.refPresent ∨ s.boot.porst then .next s
  else .next { s with clk := { s.clk with
    refPresent := true, aonRc := false, multOn := s.clk.multOn || s.boot.systemReset } }

/-! ## VOTER_SAFE's end of the gates (R306, R436) -/

/-- Marks an output's emergency open as done, and opens its contactors if they are commanded closed. -/
def dropOutput (o : Nat) (s : State) : State :=
  let s := s.setOutput o { s.output o with safeOpened := true }
  contactsSettled o (if (s.output o).commanded then commandOpen o s else s)

/-- Every safety output goes off. -/
def soutDrop (s : State) : State :=
  let s := overL (upTo 32) (fun k t => soutSet k false t) (s.setSup { s.sup with dropped := true })
  overL s.localOuts dropOutput s

/-- VOTER_SAFE_SOUT_DROP: twenty milliseconds after the entry; at shutdown PD1 to PD11 go off with it. -/
def execVoterSafeSoutDrop (s : State) : Out :=
  let v := s.sup
  if v.mode = 3 ∧ v.dropped = false ∧ s.after v.safeSince 20000 then
    let s := soutDrop s
    if s.boot.shutdown then
      let s := coldReset s
      .next (updateHeater { s with clk := { s.clk with multOn := false }, power := { s.power with domains := 1 } })
    else .next s
  else .next s

/-! ## Core reset (R439, R440) -/

/-- Firmware's inbound queues. -/
def firmwareQueues : List Nat := [41, 42, 44, 45, 46, 47, 52, 53, 54, 55, 61, 63]

/-- The cores enter reset: uncommitted commands end, firmware's queues are flushed, t_hold starts, the boot ROM selects the
image. -/
def coreReset (cause : Nat) (s : State) : State :=
  let s := setCause cause s
  if s.boot.coreReset then s
  else
    let s : State := { s with boot := { s.boot with coreReset := true } }
    let s := overL (s.hostIf.live.filter fun l => decide (l.ended = none) && !l.counts)
      (fun l t => (undoLive l t).endOne l 0x0604 0) s
    let s := s.flushAll firmwareQueues
    let s := overL (s.localOuts.filter fun o => decide ((s.output o).state ≠ 0 ∧ (s.output o).state ≠ 6)) (fun o t =>
      t.setOutput o { t.output o with hold := some t.now }) s
    let s := overL (upTo 18) (fun p t => markRecord p 0x20 t) s
    if s.boot.recovery then { s with boot := { s.boot with coreReset := false } } else bootSelect 3 s

/-- CORE_WATCHDOG (R439): paused while the debug port halts the cores. -/
def execCoreWatchdog (s : State) : Out :=
  .next (if s.power.domains.getLsbD 3 ∧ s.boot.recovery = false ∧ s.boot.systemReset = false ∧ s.boot.halted = false then
    coreReset 3 s else s)

/-- Posts the completions that waited for firmware (R439). -/
def postEnded (s : State) : State :=
  overL (s.hostIf.live.filter fun l => l.ended.isSome) (fun l t =>
    let e := l.ended.getD (0, 0)
    let t : State := { t with hostIf := { t.hostIf with live := t.hostIf.live.filter fun m => decide (m.order ≠ l.order) } }
    if l.discard then t else t.answerAt l.seat l.queue l.tag l.opcode.toNat e.1 e.2 (l.commitTime.getD t.time)) s

/-- Firmware takes the outputs and links back: CTRL 2 is re-owned through Q43, CTRL 1 stops with its session, links restart
(R245, R440). A t_hold that has run out wins over the re-own (Table 18-8). -/
def reown (s : State) : State :=
  let s := overL s.localOuts (fun o t =>
    let x := t.output o
    if x.state = 0 ∨ x.state = 6 then t
    else if t.past x.hold (1000 * fld (t.blk 15) 4 2) then
      judge (addFixed [o] 7 (t.setOutput o { x with hold := none }))
    else if t.outCtrl o = 2 then t.via 43 [(o : Int)] fun u => u.setOutput o { u.output o with hold := none }
    else if t.outCtrl o = 1 then outputStop o t
    else t) s
  let s := overL (upTo 16) (fun c t => sessionEnd c 9 t) s
  overL ((upTo 16).filter fun c => decide ((s.conn c).link = 3 ∨ (s.conn c).link = 4)) (fun c t => linkTo c 5 9 t) s

/-- FIRMWARE_START (R440): after a core reset, or after the wake from DORMANT. The pilots take the forms that their links call
for (R228), and firmware takes the events that the island kept (Table 1-2). -/
def execFirmwareStart (s : State) : Out :=
  if s.boot.coreReset = false ∨ s.power.domains &&& runMask ≠ runMask ∨ s.boot.porst ∨ s.boot.systemReset ∨
      s.trust.root = false then .next s
  else if s.boot.stage = 0 then
    let s := bootSelect 3 s
    .next (if s.boot.stage = 15 then s else firmwareReady (siteLoad false s))
  else if s.boot.stage ≠ 2 then .next s
  else
    let s := postEnded (firmwareReady s)
    let s := overL s.seatList (fun n t => overL (upTo 4) (fun k u => endCont n k 0x0604 u) t) s
    .next (overL (upTo 16) applyForm (deliverKept (reown (deliverResults s)).settleAll))

/-! ## RESET (R45, R437, R438) -/

/-- The handle's class is one of the scope's. -/
def resetHandle (q : Req) (_ : State) : Bool :=
  let c := hClass q.hnd
  match q.w 0 with
  | 1 | 2 => decide (c = 0)
  | 3 => decide (c = 1)
  | 4 => decide (c = 9 ∨ c = 10 ∨ c = 16 ∨ c = 17)
  | _ => true

/-- RESET; scopes 1 and 2 start once their completion is posted. -/
def resetOf (q : Req) (s : State) : Reply :=
  let i := q.idx
  match q.w 0 with
  | 1 =>
    if s.outsIdle = false then rej 0x0301 s
    else .done 0 0 { (if s.metOn then orderlySave s else s) with boot := { s.boot with systemReset := true } }
  | 2 => .done 0 0 { s with boot := { s.boot with coreReset := true } }
  | 3 => if i = q.seat then rej 0x0108 s else .done 0 0 (resetSeat i 2 s)
  | 4 =>
    match hClass q.hnd with
    | 9 =>
      let k := (s.conn i).link
      if k = 7 then rej 0x0303 s
      else if (k = 2 ∨ k = 3 ∨ k = 4 ∨ k = 5) ∧ s.restState i = 2 then .live true [] (connReset i s)
      else .done 0 0 (connReset i s)
    | 10 =>
      if (s.port i).state = 5 then rej 0x0303 s
      else if (s.port i).state = 0 then rej 0x0301 s
      else if s.portBusy i then .live false [] s
      else .live true [] (portReset i s)
    | _ => .done 0 0 s
  | _ => rej 0x0108 s

/-- What follows the completion of RESET: a system reset boots again at once with the pins sampled at power-on. -/
def afterReset (was s : State) : State :=
  if was.boot.systemReset = false ∧ s.boot.systemReset then bootUp false (lsReset (coldReset (setCause 1 s)))
  else if was.boot.coreReset = false ∧ s.boot.coreReset then coreReset 2 { s with boot := { s.boot with coreReset := false } }
  else s

def execResetCmd (c : Cmd) (s : State) : Out :=
  .next (afterReset s (hostStep { line 0x0104 .A [0, 1, 9, 10, 16, 17] 1 1 with
    handleOk := resetHandle, permOk := fun q t => decide (t.role q.seat = 0 ∨ q.w 0 = 0 ∨ 3 < q.w 0) } c resetOf s))

end Sys2Proof.Machine
end

