-- ==== Sys2Proof/Machine/Dispatch.lean ====
section
/-! DEFINITION. The dispatch of a command to its meaning, one arm per constructor of Instr. -/

namespace Sys2Proof.Machine

def exec (i : Instr) (s : State) : Host.Outcome State Fault Refusal :=
  match i with
  | .nop c => Sys2Proof.Machine.execNop c s
  | .getInfo c => Sys2Proof.Machine.execGetInfo c s
  | .getTime c => Sys2Proof.Machine.execGetTime c s
  | .getHealth c => Sys2Proof.Machine.execGetHealth c s
  | .resetCmd c => Sys2Proof.Machine.execResetCmd c s
  | .seatOpen c => Sys2Proof.Machine.execSeatOpen c s
  | .seatClose c => Sys2Proof.Machine.execSeatClose c s
  | .seatQuery c => Sys2Proof.Machine.execSeatQuery c s
  | .abortCmd c => Sys2Proof.Machine.execAbortCmd c s
  | .eventSubscribe c => Sys2Proof.Machine.execEventSubscribe c s
  | .objectReassign c => Sys2Proof.Machine.execObjectReassign c s
  | .objectList c => Sys2Proof.Machine.execObjectList c s
  | .queueStatus c => Sys2Proof.Machine.execQueueStatus c s
  | .counterRead c => Sys2Proof.Machine.execCounterRead c s
  | .counterClear c => Sys2Proof.Machine.execCounterClear c s
  | .sramStatus c => Sys2Proof.Machine.execSramStatus c s
  | .imageWrite c => Sys2Proof.Machine.execImageWrite c s
  | .epochStage c => Sys2Proof.Machine.execEpochStage c s
  | .epochCommit c => Sys2Proof.Machine.execEpochCommit c s
  | .epochDiscard c => Sys2Proof.Machine.execEpochDiscard c s
  | .epochStatus c => Sys2Proof.Machine.execEpochStatus c s
  | .digestRead c => Sys2Proof.Machine.execDigestRead c s
  | .configExport c => Sys2Proof.Machine.execConfigExport c s
  | .timeSet c => Sys2Proof.Machine.execTimeSet c s
  | .nodeRead c => Sys2Proof.Machine.execNodeRead c s
  | .nodeState c => Sys2Proof.Machine.execNodeState c s
  | .nodeAdd c => Sys2Proof.Machine.execNodeAdd c s
  | .nodeRemove c => Sys2Proof.Machine.execNodeRemove c s
  | .nodeSet c => Sys2Proof.Machine.execNodeSet c s
  | .nodeMove c => Sys2Proof.Machine.execNodeMove c s
  | .treeCheck c => Sys2Proof.Machine.execTreeCheck c s
  | .treeList c => Sys2Proof.Machine.execTreeList c s
  | .nodeCurtail c => Sys2Proof.Machine.execNodeCurtail c s
  | .allocStatus c => Sys2Proof.Machine.execAllocStatus c s
  | .snapshotSave c => Sys2Proof.Machine.execSnapshotSave c s
  | .snapshotRestore c => Sys2Proof.Machine.execSnapshotRestore c s
  | .sensorState c => Sys2Proof.Machine.execSensorState c s
  | .windowRead c => Sys2Proof.Machine.execWindowRead c s
  | .outputStatus c => Sys2Proof.Machine.execOutputStatus c s
  | .outputStart c => Sys2Proof.Machine.execOutputStart c s
  | .outputSet c => Sys2Proof.Machine.execOutputSet c s
  | .outputStop c => Sys2Proof.Machine.execOutputStop c s
  | .podAssign c => Sys2Proof.Machine.execPodAssign c s
  | .matrixStatus c => Sys2Proof.Machine.execMatrixStatus c s
  | .outputCounters c => Sys2Proof.Machine.execOutputCounters c s
  | .podStatus c => Sys2Proof.Machine.execPodStatus c s
  | .phaseStatus c => Sys2Proof.Machine.execPhaseStatus c s
  | .podEnable c => Sys2Proof.Machine.execPodEnable c s
  | .podDisable c => Sys2Proof.Machine.execPodDisable c s
  | .podShadow c => Sys2Proof.Machine.execPodShadow c s
  | .tripClear c => Sys2Proof.Machine.execTripClear c s
  | .pwmHaltEnable c => Sys2Proof.Machine.execPwmHaltEnable c s
  | .podCounters c => Sys2Proof.Machine.execPodCounters c s
  | .loopStatus c => Sys2Proof.Machine.execLoopStatus c s
  | .loopMode c => Sys2Proof.Machine.execLoopMode c s
  | .loopSetpoint c => Sys2Proof.Machine.execLoopSetpoint c s
  | .loopCoefWrite c => Sys2Proof.Machine.execLoopCoefWrite c s
  | .loopCoefRead c => Sys2Proof.Machine.execLoopCoefRead c s
  | .loopRevert c => Sys2Proof.Machine.execLoopRevert c s
  | .loopConfigSet c => Sys2Proof.Machine.execLoopConfigSet c s
  | .loopCounters c => Sys2Proof.Machine.execLoopCounters c s
  | .geyserInject c => Sys2Proof.Machine.execGeyserInject c s
  | .geyserArm c => Sys2Proof.Machine.execGeyserArm c s
  | .geyserStatus c => Sys2Proof.Machine.execGeyserStatus c s
  | .geyserRead c => Sys2Proof.Machine.execGeyserRead c s
  | .geyserStop c => Sys2Proof.Machine.execGeyserStop c s
  | .connStatus c => Sys2Proof.Machine.execConnStatus c s
  | .connPilot c => Sys2Proof.Machine.execConnPilot c s
  | .linkCounters c => Sys2Proof.Machine.execLinkCounters c s
  | .tonemapRefresh c => Sys2Proof.Machine.execTonemapRefresh c s
  | .slacRead c => Sys2Proof.Machine.execSlacRead c s
  | .noiseRead c => Sys2Proof.Machine.execNoiseRead c s
  | .sessionStatus c => Sys2Proof.Machine.execSessionStatus c s
  | .sessionAnswer c => Sys2Proof.Machine.execSessionAnswer c s
  | .sessionTariff c => Sys2Proof.Machine.execSessionTariff c s
  | .questionRead c => Sys2Proof.Machine.execQuestionRead c s
  | .sessionStop c => Sys2Proof.Machine.execSessionStop c s
  | .sessionLimit c => Sys2Proof.Machine.execSessionLimit c s
  | .sessionCounters c => Sys2Proof.Machine.execSessionCounters c s
  | .metroStatus c => Sys2Proof.Machine.execMetroStatus c s
  | .metroRead c => Sys2Proof.Machine.execMetroRead c s
  | .metroReadReset c => Sys2Proof.Machine.execMetroReadReset c s
  | .metroCaptureRead c => Sys2Proof.Machine.execMetroCaptureRead c s
  | .meterRecordList c => Sys2Proof.Machine.execMeterRecordList c s
  | .meterRecordRead c => Sys2Proof.Machine.execMeterRecordRead c s
  | .meterRecordAck c => Sys2Proof.Machine.execMeterRecordAck c s
  | .metroConfigSet c => Sys2Proof.Machine.execMetroConfigSet c s
  | .metroSeal c => Sys2Proof.Machine.execMetroSeal c s
  | .metroSaveStatus c => Sys2Proof.Machine.execMetroSaveStatus c s
  | .metroGapRead c => Sys2Proof.Machine.execMetroGapRead c s
  | .metroStrobeRead c => Sys2Proof.Machine.execMetroStrobeRead c s
  | .safetyStatus c => Sys2Proof.Machine.execSafetyStatus c s
  | .functionStatus c => Sys2Proof.Machine.execFunctionStatus c s
  | .ioStatus c => Sys2Proof.Machine.execIoStatus c s
  | .safeAck c => Sys2Proof.Machine.execSafeAck c s
  | .safeStateRequest c => Sys2Proof.Machine.execSafeStateRequest c s
  | .safeRelease c => Sys2Proof.Machine.execSafeRelease c s
  | .maintEnter c => Sys2Proof.Machine.execMaintEnter c s
  | .maintExit c => Sys2Proof.Machine.execMaintExit c s
  | .proofTest c => Sys2Proof.Machine.execProofTest c s
  | .axisStatus c => Sys2Proof.Machine.execAxisStatus c s
  | .safeConnStatus c => Sys2Proof.Machine.execSafeConnStatus c s
  | .lsStatus c => Sys2Proof.Machine.execLsStatus c s
  | .lsSet c => Sys2Proof.Machine.execLsSet c s
  | .lsClear c => Sys2Proof.Machine.execLsClear c s
  | .lsCurrents c => Sys2Proof.Machine.execLsCurrents c s
  | .lsCounters c => Sys2Proof.Machine.execLsCounters c s
  | .lsConfigSet c => Sys2Proof.Machine.execLsConfigSet c s
  | .portStatus c => Sys2Proof.Machine.execPortStatus c s
  | .portCounters c => Sys2Proof.Machine.execPortCounters c s
  | .nodeStatus c => Sys2Proof.Machine.execNodeStatus c s
  | .frameSend c => Sys2Proof.Machine.execFrameSend c s
  | .rxObjectSet c => Sys2Proof.Machine.execRxObjectSet c s
  | .rxObjectRead c => Sys2Proof.Machine.execRxObjectRead c s
  | .duplicateRead c => Sys2Proof.Machine.execDuplicateRead c s
  | .keyStatus c => Sys2Proof.Machine.execKeyStatus c s
  | .keyGenerate c => Sys2Proof.Machine.execKeyGenerate c s
  | .keyImport c => Sys2Proof.Machine.execKeyImport c s
  | .keyUpdate c => Sys2Proof.Machine.execKeyUpdate c s
  | .keyInvalidate c => Sys2Proof.Machine.execKeyInvalidate c s
  | .keyDestroy c => Sys2Proof.Machine.execKeyDestroy c s
  | .keyPublicRead c => Sys2Proof.Machine.execKeyPublicRead c s
  | .keySign c => Sys2Proof.Machine.execKeySign c s
  | .keyKmac c => Sys2Proof.Machine.execKeyKmac c s
  | .attestChallenge c => Sys2Proof.Machine.execAttestChallenge c s
  | .attestReport c => Sys2Proof.Machine.execAttestReport c s
  | .certWrite c => Sys2Proof.Machine.execCertWrite c s
  | .certRead c => Sys2Proof.Machine.execCertRead c s
  | .ownerKeySet c => Sys2Proof.Machine.execOwnerKeySet c s
  | .fwWrite c => Sys2Proof.Machine.execFwWrite c s
  | .fwActivate c => Sys2Proof.Machine.execFwActivate c s
  | .fwConfirm c => Sys2Proof.Machine.execFwConfirm c s
  | .fwStatus c => Sys2Proof.Machine.execFwStatus c s
  | .randomCmd c => Sys2Proof.Machine.execRandomCmd c s
  | .journalStatus c => Sys2Proof.Machine.execJournalStatus c s
  | .journalRead c => Sys2Proof.Machine.execJournalRead c s
  | .journalAck c => Sys2Proof.Machine.execJournalAck c s
  | .retireList c => Sys2Proof.Machine.execRetireList c s
  | .retireClear c => Sys2Proof.Machine.execRetireClear c s
  | .recoveryStatus c => Sys2Proof.Machine.execRecoveryStatus c s
  | .checkCounters c => Sys2Proof.Machine.execCheckCounters c s
  | .powerStatus c => Sys2Proof.Machine.execPowerStatus c s
  | .powerStateSet c => Sys2Proof.Machine.execPowerStateSet c s
  | .ruleStatus c => Sys2Proof.Machine.execRuleStatus c s
  | .ruleConfigSet c => Sys2Proof.Machine.execRuleConfigSet c s
  | .heaterForce c => Sys2Proof.Machine.execHeaterForce c s
  | .wakeLogRead c => Sys2Proof.Machine.execWakeLogRead c s
  | .seatReset seat => Sys2Proof.Machine.execSeatReset seat s
  | .heartbeatWrite seat value => Sys2Proof.Machine.execHeartbeatWrite seat value s
  | .doorbell seat queue index => Sys2Proof.Machine.execDoorbell seat queue index s
  | .intStatusClear seat value => Sys2Proof.Machine.execIntStatusClear seat value s
  | .resetCauseRead seat => Sys2Proof.Machine.execResetCauseRead seat s
  | .registerWrite seat offset value => Sys2Proof.Machine.execRegisterWrite seat offset value s
  | .sgmiiSeatFrame frame => Sys2Proof.Machine.execSgmiiSeatFrame frame s
  | .completionResend seat => Sys2Proof.Machine.execCompletionResend seat s
  | .contTimeout seat queue => Sys2Proof.Machine.execContTimeout seat queue s
  | .execTimeout seat tag => Sys2Proof.Machine.execExecTimeout seat tag s
  | .seatAbsent seat => Sys2Proof.Machine.execSeatAbsent seat s
  | .cqStall seat queue => Sys2Proof.Machine.execCqStall seat queue s
  | .eventsLost seat => Sys2Proof.Machine.execEventsLost seat s
  | .queueStall q => Sys2Proof.Machine.execQueueStall q s
  | .ptpMessage m => Sys2Proof.Machine.execPtpMessage m s
  | .holdoverExpire => Sys2Proof.Machine.execHoldoverExpire s
  | .ppsInEdge => Sys2Proof.Machine.execPpsInEdge s
  | .digestReadback => Sys2Proof.Machine.execDigestReadback s
  | .stageTimeout => Sys2Proof.Machine.execStageTimeout s
  | .epochTick => Sys2Proof.Machine.execEpochTick s
  | .epochMarkWrite => Sys2Proof.Machine.execEpochMarkWrite s
  | .periodBoundary => Sys2Proof.Machine.execPeriodBoundary s
  | .grantBlockPublish solve => Sys2Proof.Machine.execGrantBlockPublish solve s
  | .allocOverrun => Sys2Proof.Machine.execAllocOverrun s
  | .curtailExpire node dir => Sys2Proof.Machine.execCurtailExpire node dir s
  | .sensorRetired node sensor => Sys2Proof.Machine.execSensorRetired node sensor s
  | .grantExceeded output => Sys2Proof.Machine.execGrantExceeded output s
  | .reloadPoint pod clocks counter => Sys2Proof.Machine.execReloadPoint pod clocks counter s
  | .q39ReferenceEntry => Sys2Proof.Machine.execQ39ReferenceEntry s
  | .phaseTurnOn phase position => Sys2Proof.Machine.execPhaseTurnOn phase s position
  | .comparatorTurnOff phase sensed onTime => Sys2Proof.Machine.execComparatorTurnOff phase s sensed onTime
  | .maxonEnd phase => Sys2Proof.Machine.execMaxonEnd phase s
  | .blankingEnd phase sensed => Sys2Proof.Machine.execBlankingEnd phase sensed s
  | .podTrip pod source index low clocks => Sys2Proof.Machine.execPodTrip pod source index low s clocks
  | .syncInEdge pod counter spacing => Sys2Proof.Machine.execSyncInEdge pod counter spacing s
  | .syncLost pod => Sys2Proof.Machine.execSyncLost pod s
  | .compareTrigger pod entry code counter => Sys2Proof.Machine.execCompareTrigger pod entry code s counter
  | .phaseShed pod => Sys2Proof.Machine.execPhaseShed pod s
  | .phaseRestore pod => Sys2Proof.Machine.execPhaseRestore pod s
  | .signHoldEnd pod => Sys2Proof.Machine.execSignHoldEnd pod s
  | .podDisableRampEnd pod => Sys2Proof.Machine.execPodDisableRampEnd pod s
  | .debugHalt halt => Sys2Proof.Machine.execDebugHalt halt s
  | .contactorCloseRequest output => Sys2Proof.Machine.execContactorCloseRequest output s
  | .contactorTimeout output => Sys2Proof.Machine.execContactorTimeout output s
  | .softStartDone output => Sys2Proof.Machine.execSoftStartDone output s
  | .outputShort output => Sys2Proof.Machine.execOutputShort output s
  | .stopRampEnd output => Sys2Proof.Machine.execStopRampEnd output s
  | .outputRetry output => Sys2Proof.Machine.execOutputRetry output s
  | .podPoll pod => Sys2Proof.Machine.execPodPoll pod s
  | .podReply r => Sys2Proof.Machine.execPodReply r s
  | .reassignRampOutDone pod => Sys2Proof.Machine.execReassignRampOutDone pod s
  | .swAnswerTimeout pod => Sys2Proof.Machine.execSwAnswerTimeout pod s
  | .matchTimeout pod => Sys2Proof.Machine.execMatchTimeout pod s
  | .reassignRampInDone pod => Sys2Proof.Machine.execReassignRampInDone pod s
  | .slotSample slot codes lost cycles => Sys2Proof.Machine.execSlotSample slot codes lost cycles s
  | .loopFollowing slot => Sys2Proof.Machine.execLoopFollowing slot s
  | .loopMeasLost slot => Sys2Proof.Machine.execLoopMeasLost slot s
  | .geyserDone => Sys2Proof.Machine.execGeyserDone s
  | .pilotChange conn high low held => Sys2Proof.Machine.execPilotChange conn high low s held
  | .proximityWithoutPilot conn ohm held => Sys2Proof.Machine.execProximityWithoutPilot conn ohm s held
  | .vehicleFrame conn f => Sys2Proof.Machine.execVehicleFrame conn f s
  | .slacMessage conn m => Sys2Proof.Machine.execSlacMessage conn m s
  | .slacFailed conn => Sys2Proof.Machine.execSlacFailed conn s
  | .restartFStepEnd conn => Sys2Proof.Machine.execRestartFStepEnd conn s
  | .toneMapRefreshDue conn => Sys2Proof.Machine.execToneMapRefreshDue conn s
  | .linkIdleTimeout conn => Sys2Proof.Machine.execLinkIdleTimeout conn s
  | .relinkTimeout conn => Sys2Proof.Machine.execRelinkTimeout conn s
  | .linkDriverFault conn cause => Sys2Proof.Machine.execLinkDriverFault conn cause s
  | .linkFaultBackoffEnd conn => Sys2Proof.Machine.execLinkFaultBackoffEnd conn s
  | .v2gMessage conn m => Sys2Proof.Machine.execV2gMessage conn m s
  | .reqPeriodExpire conn => Sys2Proof.Machine.execReqPeriodExpire conn s
  | .questionTimeout conn => Sys2Proof.Machine.execQuestionTimeout conn s
  | .vehicleStopTimeout conn => Sys2Proof.Machine.execVehicleStopTimeout conn s
  | .sampleBoundary codes quiet => Sys2Proof.Machine.execSampleBoundary codes quiet s
  | .recordSigned recno => Sys2Proof.Machine.execRecordSigned recno s
  | .periodicSave => Sys2Proof.Machine.execPeriodicSave s
  | .totaliserAnchorWrite => Sys2Proof.Machine.execTotaliserAnchorWrite s
  | .powerFailWarning external held => Sys2Proof.Machine.execPowerFailWarning external s held
  | .powerFailRepeatSave => Sys2Proof.Machine.execPowerFailRepeatSave s
  | .powerFailWithdrawn clear => Sys2Proof.Machine.execPowerFailWithdrawn s clear
  | .safetyFrameBoundary signatures => Sys2Proof.Machine.execSafetyFrameBoundary signatures s
  | .checkpointValid => Sys2Proof.Machine.execCheckpointValid s
  | .voteMismatch channels kind bit cycle halvesDiffer => Sys2Proof.Machine.execVoteMismatch channels kind bit cycle halvesDiffer s
  | .voterSafeSoutDrop => Sys2Proof.Machine.execVoterSafeSoutDrop s
  | .sparePowered => Sys2Proof.Machine.execSparePowered s
  | .spareSelfTestDone pass => Sys2Proof.Machine.execSpareSelfTestDone pass s
  | .spareCheckpointLoaded eccOk => Sys2Proof.Machine.execSpareCheckpointLoaded eccOk s
  | .spareCaughtUp => Sys2Proof.Machine.execSpareCaughtUp s
  | .sparePromoted signatureOk => Sys2Proof.Machine.execSparePromoted signatureOk s
  | .spareFailed => Sys2Proof.Machine.execSpareFailed s
  | .parkedSelfTestDone channel pass => Sys2Proof.Machine.execParkedSelfTestDone channel pass s
  | .safetyStartupTestDone pass => Sys2Proof.Machine.execSafetyStartupTestDone pass s
  | .safetyInputChange input a b held => Sys2Proof.Machine.execSafetyInputChange input a b s held
  | .inputDiscrepancy input => Sys2Proof.Machine.execInputDiscrepancy input s
  | .testPulse sout stillHigh fell => Sys2Proof.Machine.execTestPulse sout stillHigh fell s
  | .vehicleLimitRegister output limits => Sys2Proof.Machine.execVehicleLimitRegister output limits s
  | .vehicleLimit output => Sys2Proof.Machine.execVehicleLimit output s
  | .insulationPassed output => Sys2Proof.Machine.execInsulationPassed output s
  | .encoderEdge axis delta frequency double => Sys2Proof.Machine.execEncoderEdge axis delta frequency double s
  | .safeMessageTransmit conn => Sys2Proof.Machine.execSafeMessageTransmit conn s
  | .safeMessageReceive m => Sys2Proof.Machine.execSafeMessageReceive m s
  | .safeMsgSkewExpire conn => Sys2Proof.Machine.execSafeMsgSkewExpire conn s
  | .safeMsgLost conn => Sys2Proof.Machine.execSafeMsgLost conn s
  | .normalSafeStateEscalate output => Sys2Proof.Machine.execNormalSafeStateEscalate output s
  | .emergencyContactorOpen output => Sys2Proof.Machine.execEmergencyContactorOpen output s
  | .tHoldExpire output => Sys2Proof.Machine.execTHoldExpire output s
  | .hbCtrlSend => Sys2Proof.Machine.execHbCtrlSend s
  | .hbNode node hb => Sys2Proof.Machine.execHbNode node hb s
  | .nodeAbsent node => Sys2Proof.Machine.execNodeAbsent node s
  | .nodeReport node r => Sys2Proof.Machine.execNodeReport node r s
  | .stageResult node result digest h => Sys2Proof.Machine.execStageResult node result digest s h
  | .commitAck node op newEpoch h => Sys2Proof.Machine.execCommitAck node op newEpoch s h
  | .commitAnnounceResend => Sys2Proof.Machine.execCommitAnnounceResend s
  | .canBusError port e => Sys2Proof.Machine.execCanBusError port e s
  | .busOffRecovered port => Sys2Proof.Machine.execBusOffRecovered port s
  | .portRejoin port => Sys2Proof.Machine.execPortRejoin port s
  | .duplicateQuietEnd port ident => Sys2Proof.Machine.execDuplicateQuietEnd port ident s
  | .hostFrameReceive port f => Sys2Proof.Machine.execHostFrameReceive port f s
  | .rxHoldExpire port object => Sys2Proof.Machine.execRxHoldExpire port object s
  | .canTransmitDone port buffer sent retransmissions age => Sys2Proof.Machine.execCanTransmitDone port buffer sent retransmissions s age
  | .lsShort channel vout held => Sys2Proof.Machine.execLsShort channel s vout held
  | .lsOverload channel held => Sys2Proof.Machine.execLsOverload channel s held
  | .lsThermal channel temp => Sys2Proof.Machine.execLsThermal channel temp s
  | .lsThermalRestart channel temp => Sys2Proof.Machine.execLsThermalRestart channel temp s
  | .lsDieOvertemp temp => Sys2Proof.Machine.execLsDieOvertemp temp s
  | .lsOpenLoad channel held => Sys2Proof.Machine.execLsOpenLoad channel s held
  | .lsSupply vls => Sys2Proof.Machine.execLsSupply vls s
  | .inrushWindowEnd channel vout => Sys2Proof.Machine.execInrushWindowEnd channel vout s
  | .vlsDroop vls => Sys2Proof.Machine.execVlsDroop vls s
  | .lsBurstRetry channel => Sys2Proof.Machine.execLsBurstRetry channel s
  | .lsBackoffExpire channel => Sys2Proof.Machine.execLsBackoffExpire channel s
  | .lsLinkLost => Sys2Proof.Machine.execLsLinkLost s
  | .lsLinkRestored => Sys2Proof.Machine.execLsLinkRestored s
  | .lsLimp low => Sys2Proof.Machine.execLsLimp low s
  | .lhinChange k high => Sys2Proof.Machine.execLhinChange k high s
  | .keyMaskRefresh slot tagOk => Sys2Proof.Machine.execKeyMaskRefresh slot tagOk s
  | .keyReload => Sys2Proof.Machine.execKeyReload s
  | .keyOperationDone slot => Sys2Proof.Machine.execKeyOperationDone slot s
  | .staleKeyFree slot => Sys2Proof.Machine.execStaleKeyFree slot s
  | .drbgReseed health => Sys2Proof.Machine.execDrbgReseed health s
  | .randomResume => Sys2Proof.Machine.execRandomResume s
  | .cryptoResultDiscard => Sys2Proof.Machine.execCryptoResultDiscard s
  | .ruleSample rule conn raw => Sys2Proof.Machine.execRuleSample rule conn raw s
  | .wakeN held => Sys2Proof.Machine.execWakeN s held
  | .wakeTime => Sys2Proof.Machine.execWakeTime s
  | .domainReleased domain => Sys2Proof.Machine.execDomainReleased domain s
  | .idleEntry => Sys2Proof.Machine.execIdleEntry s
  | .heaterForceEnd => Sys2Proof.Machine.execHeaterForceEnd s
  | .fumaroleBufferDrain => Sys2Proof.Machine.execFumaroleBufferDrain s
  | .multiplierLock error cycles => Sys2Proof.Machine.execMultiplierLock s error cycles
  | .clockMonitorFault clock a b => Sys2Proof.Machine.execClockMonitorFault clock s a b
  | .clockFaultReset => Sys2Proof.Machine.execClockFaultReset s
  | .ainConversion channel code => Sys2Proof.Machine.execAinConversion channel code s
  | .dieTempSample temp => Sys2Proof.Machine.execDieTempSample temp s
  | .coreWatchdog => Sys2Proof.Machine.execCoreWatchdog s
  | .firmwareStart => Sys2Proof.Machine.execFirmwareStart s
  | .powerOnReset b => Sys2Proof.Machine.execPowerOnReset b s
  | .supplyBrownout rail millivolts => Sys2Proof.Machine.execSupplyBrownout rail millivolts s
  | .journalEntryWrite verified => Sys2Proof.Machine.execJournalEntryWrite verified s
  | .retireMapWrite => Sys2Proof.Machine.execRetireMapWrite s
  | .recoveryContextTaken => Sys2Proof.Machine.execRecoveryContextTaken s
  | .badOpcode opcode c => Sys2Proof.Machine.execBadOpcode opcode c s
  | .spiBadOpcode port byte0 => Sys2Proof.Machine.execSpiBadOpcode port byte0 s
  | .switchTimeout pod => Sys2Proof.Machine.execSwitchTimeout pod s
  | .pilotReadbackFault conn high => Sys2Proof.Machine.execPilotReadbackFault conn high s
  | .soutStuck sout high held => Sys2Proof.Machine.execSoutStuck sout high s held
  | .testPulseMissed input => Sys2Proof.Machine.execTestPulseMissed input s
  | .vehicleLimitLowered output => Sys2Proof.Machine.execVehicleLimitLowered output s
  | .lsBurstEnd channel clear => Sys2Proof.Machine.execLsBurstEnd channel s clear
  | .droopPauseEnd channel => Sys2Proof.Machine.execDroopPauseEnd channel s
  | .referenceReturn => Sys2Proof.Machine.execReferenceReturn s
  | .porstNAsserted => Sys2Proof.Machine.execPorstNAsserted s

end Sys2Proof.Machine
end

