-- ==== Sys2Proof/Safety.lean ====
section
/-! DEFINITION. What counts as a safe step and a sound state, in the terms that the statements use. -/

namespace Sys2Proof.Machine

/-- A step that neither faults nor is refused. -/
def Safe (o : Out) : Prop := ∃ t, o = .next t

/-- A set of domains with PD0, in which every domain has those it depends on (R409, R410). -/
def soundMask (d : BitVec 12) : Bool :=
  d.getLsbD 0 && (upTo 12).all fun k => !d.getLsbD k || (domainNeeds k).all fun n => d.getLsbD n

/-- PD0 is on, and every domain that is on has the domains it depends on (R409, R410). -/
def State.domainsSound (s : State) : Bool := soundMask s.power.domains

/-- Every gate of a phase of a pod that is not in RUN or HALTED is low (R163, R167). -/
def State.gatesSound (s : State) : Bool :=
  (upTo 48).all fun k =>
    decide ((s.pod (podOf k)).state = 1 ∨ (s.pod (podOf k)).state = 3) || (!(s.phase k).gateH && !(s.phase k).gateL)

/-- The byte memories of the part are in their canonical form: the staging slot, and both firmware slots. -/
def State.memoriesSound (s : State) : Bool :=
  Memory.wf s.ep.slot && s.trust.fw.all fun e => Memory.wf e.2.flash

/-- The buffers hold no more than the spec gives them: 256 journal entries (R457), 64 Fumarole entries (R415), eight
recovery contexts (R449), sixteen wakes (R424). -/
def State.buffersSound (s : State) : Bool :=
  decide (s.jnl.buffer.length ≤ 256 ∧ s.power.buffer.length ≤ 64 ∧ s.jnl.contexts.length ≤ 8 ∧ s.power.log.length ≤ 16)

/-! ## What a command or an event does, as the statements say it -/

/-- The packet at the front completes a command: the controller dequeues it, its seat is not draining to an absence, its
check is right (R40), and it is the last of its packets (R41). Answers what the packets give, and the state after. -/
def arrives (i : CmdInfo) (c : Cmd) (s : State) : Option (Given × State) :=
  if ready i.opcode c s && !(s.ring c.seat c.queue).draining && checkRight i.opcode c s && !c.pkt.flags.getLsbD 0 then
    let k : Taken := ⟨false, (s.ring c.seat c.queue).bellOf 0⟩
    let t := dequeue c s
    match (t.ring c.seat c.queue).cont with
    | none => some (pktGiven c.pkt k, t)
    | some w =>
      if (t.ring c.seat c.queue).continues i.opcode c.pkt.tag c.pkt.handle then
        let p := pktGiven c.pkt k
        let t := t.unreserve c.seat c.queue
        some (⟨w.tag, w.handle, w.flags ||| c.pkt.flags, w.params ++ p.params, w.rsvd || p.rsvd, w.badLength || p.badLength,
          ⟨false, w.bell⟩⟩, t.setRing c.seat c.queue { t.ring c.seat c.queue with cont := none })
      else some (pktGiven c.pkt k, endCont c.seat c.queue 0x0106 t)
  else none

/-- The command passes steps 1 to 9 of R53, its state shows no uncorrectable ECC error (Table 2-14) and its buffer is in
order (R42): the request, and the state its meaning starts from. -/
def admitted (i : CmdInfo) (c : Cmd) (s : State) : Option (Req × State) :=
  match arrives i c s with
  | none => none
  | some (g, t) =>
    let q := g.req i c (t.hostIf.order - 1)
    if checks i g q t ≠ none ∨ eccLost c then none
    else
    let t := countEcc c t
    match bufferOf i c q t with
      | .error _ => none
      | .ok b => some ({ q with buf := b }, t)

/-- A host command whose opcode has the table line `i` runs from `s` as the request `q` at the state `t`. -/
def Runs (i : CmdInfo) (c : Cmd) (s : State) (q : Req) (t : State) : Prop := admitted i c s = some (q, t)

/-- One case of a host command: its constructor, its line of the opcode table, the condition of the case on the request
and the state, and what it answers there: status, RESULT and the state it leaves, or that it stays live. -/
structure Case where
  cmd : Cmd → Instr
  info : CmdInfo
  ok : Req → State → Bool
  reply : Req → State → Reply

/-- The case holds of the model: from every state in which the command runs and the condition holds, exec answers the
next state of exactly that reply. -/
def Case.Holds (e : Case) : Prop :=
  ∀ c s q t, Runs e.info c s q t → e.ok q t = true → exec (e.cmd c) s = .next (conclude e.info q t (e.reply q t))

/-- One case of an event of the part's own engines, buses and pins: the command, its condition, the state it leaves. -/
structure Event where
  cmd : Instr
  ok : State → Bool
  after : State → State

/-- The case holds of the model. -/
def Event.Holds (e : Event) : Prop := ∀ s, e.ok s = true → exec e.cmd s = .next (e.after s)

end Sys2Proof.Machine
end

