-- ==== Sys2Proof/Certificates/Slice0/Obligations.lean ====
section
/-! DEFINITION. The statements for the provers. A list of cases gives, for each host command, the conditions on its request
and the state under which it has its effect or is turned away, and what it then answers; a list of events gives the same
for what the part's own engines, buses and pins do. Every statement about a list is about each of its entries, for every
state and every operand. -/

namespace Sys2Proof.Machine

/-- The words of a CONFIG_SET command in the overlay, in place of what it held of those bytes: `block` from `base` plus the
offset of word 0 (R73). -/
def overlayWrite (block base : Nat) (q : Req) (s : State) : State :=
  { s with ep := { s.ep with
    overlay := s.overlayWith (.bytes 1 block (base + q.w 0) (((q.params.drop 2).take (q.w 1)).flatMap wordBytes)) } }

/-- The words that a CONFIG_SET command carries fit its block, whose highest offset is `last`, and the overlay has room
(R73). -/
def overlayFits (block base last : Nat) (q : Req) (s : State) : Bool :=
  decide (q.w 0 % 4 = 0 ∧ 0 < q.w 1 ∧ q.w 1 ≤ 10 ∧ q.w 0 + 4 * q.w 1 ≤ last + 4 ∧ 2 + q.w 1 ≤ q.params.length ∧
    overlaySize (overlayWrite block base q s).ep.overlay ≤ 65536)

/-- Where a command that carries data puts it, and the data: of its host buffer, whose descriptor comes first (R42), or of
its words after the first `k`. -/
def sent (k : Nat) (q : Req) : Nat × List Byte := match q.buf with
  | some b => (q.w 4, b.data)
  | none => (q.w 0, (q.params.drop k).flatMap wordBytes)

/-- The reply of a command that writes bytes into its host buffer before its commit point (R42): its RESULT once they are
written; BUFFER_TOO_SMALL, or DMA_FAULT, and nothing written. -/
def intoBuffer (q : Req) (data : List Byte) (r : Res) (s : State) : Reply := match q.buf with
  | none => .done 0x0108 0 s
  | some b =>
    if b.len < data.length then .done 0x0530 0 s
    else if b.fails then .done 0x0801 0 s
    else .done 0 r { s with hostIf := { s.hostIf with dma := aset s.hostIf.dma b.addr data } }

/-- A transfer by way of an internal queue is posted and delivered at once (R15, R20). -/
def passes (q : Nat) (body : List Int) (s : State) : Bool := (s.hand q body).1.isSome

/-- The state once such a transfer is delivered. -/
def passed (q : Nat) (body : List Int) (s : State) : State := (s.hand q body).2

/-! ### Seats, queues and diagnostics (chapter 02) -/

/-- The system, seat and diagnostics commands where they have their effect, and where they are turned away (Table 2-6,
R37, R57, R60, R61). -/
def seatCases : List Case := [
  ⟨.nop, { line 0x0100 .R [0] 0 12 with loB := 4 }, fun _ _ => true,
    fun q s => .done 0 (resBytes (((upTo 4).map q.word).flatMap wordBytes)) s⟩,
  ⟨.getInfo, line 0x0101 .R [0] 0 0, fun _ _ => true, fun _ s => .done 0
    (res [(0, 4, s.btId.toNat), (4, 4, s.boot.fwVersion.toNat), (8, 4, s.ep.number.toNat), (12, 2, s.seatsIn 1),
      (14, 2, s.seatsIn 2)]) s⟩,
  ⟨.getTime, line 0x0102 .R [0] 0 0, fun _ s => decide (s.timeSource = 4), fun _ s => .done 0
    (res [(0, 8, s.time), (8, 1, 2), (9, 1, bit s.clk.timeValid)]) s⟩,
  ⟨.getTime, line 0x0102 .R [0] 0 0, fun _ s => decide (1 ≤ s.timeSource ∧ s.timeSource ≤ 3), fun _ s => .done 0
    (res [(0, 8, s.time), (8, 1, 1), (9, 1, bit s.clk.timeValid)]) s⟩,
  ⟨.getHealth, line 0x0103 .R [0] 0 0, fun _ _ => true, fun _ s => .done 0
    (res [(0, 2, s.power.domains.toNat), (2, 2, s.clk.dieTemp), (4, 2, s.jnl.retired.length), (6, 2, s.jnl.contexts.length),
      (8, 1, s.sup.mode), (9, 1, s.power.state)]) s⟩,
  ⟨.seatOpen, { line 0x0200 .R [1] 1 1 with ownSeat := true }, fun q s => decide (q.w 0 = 1 ∧ (s.seat q.seat).state ≠ 1),
    fun q s => .done 0 (res [(0, 1, q.seat), (1, 1, s.role q.seat), (2, 2, 256)])
      (s.setSeat q.seat { s.seat q.seat with state := 1, hbTime := s.now })⟩,
  ⟨.seatOpen, { line 0x0200 .R [1] 1 1 with ownSeat := true }, fun q s => decide (q.w 0 = 1 ∧ (s.seat q.seat).state = 1),
    fun q s => .done 1 (res [(0, 1, q.seat), (1, 1, s.role q.seat), (2, 2, 256)]) s⟩,
  ⟨.seatOpen, { line 0x0200 .R [1] 1 1 with ownSeat := true }, fun q _ => decide (q.w 0 ≠ 1), fun _ s => .done 0x0108 0 s⟩,
  ⟨.seatClose, { line 0x0201 .R [1] 0 0 with ownSeat := true }, fun _ _ => true, fun _ s => .live false [] s⟩,
  ⟨.seatQuery, line 0x0202 .R [1] 0 0, fun _ _ => true, fun q s => .done 0
    (res [(0, 1, s.role q.idx), (1, 1, (s.seat q.idx).state), (2, 2, s.inFlight q.idx), (4, 4, (s.seat q.idx).absences)]) s⟩,
  ⟨.abortCmd, { line 0x0203 .R [1] 1 1 with ownOk := fun q t => decide (t.role q.seat = 0 ∨ q.idx = q.seat) },
    fun q s => decide (s.hostIf.live.find? (fun l => decide (l.seat = q.idx ∧ l.tag = q.word 0 ∧ l.ended = none)) = none ∧
      (upTo 4).find? (fun k => ((s.ring q.idx k).cont.map (·.tag)) = some (q.word 0)) = none ∧
      ¬ (q.idx = q.seat ∧ q.word 0 = q.tag) ∧ s.unreadOf q.idx (q.word 0) = none), fun _ s => .done 0x0603 0 s⟩,
  ⟨.abortCmd, { line 0x0203 .R [1] 1 1 with ownOk := fun q t => decide (t.role q.seat = 0 ∨ q.idx = q.seat) },
    fun q s => decide (s.hostIf.live.find? (fun l => decide (l.seat = q.idx ∧ l.tag = q.word 0 ∧ l.ended = none)) = none ∧
      (upTo 4).find? (fun k => ((s.ring q.idx k).cont.map (·.tag)) = some (q.word 0)) = none ∧
      ¬ (q.idx = q.seat ∧ q.word 0 = q.tag)) && (match s.unreadOf q.idx (q.word 0) with
        | some c => decide (c.opecho.toNat ≠ 0x0203)
        | none => false),
    fun q s => match s.unreadOf q.idx (q.word 0) with
      | some c => .done 0x0602 (res [(0, 2, c.status.toNat), (2, 2, c.opecho.toNat)]) s
      | none => .done 0 0 s⟩,
  ⟨.abortCmd, { line 0x0203 .R [1] 1 1 with ownOk := fun q t => decide (t.role q.seat = 0 ∨ q.idx = q.seat) },
    fun q s => decide (s.hostIf.live.find? (fun l => decide (l.seat = q.idx ∧ l.tag = q.word 0 ∧ l.ended = none)) = none ∧
      (upTo 4).find? (fun k => ((s.ring q.idx k).cont.map (·.tag)) = some (q.word 0)) = none ∧
      q.idx = q.seat ∧ q.word 0 = q.tag), fun _ s => .done 0x0108 0 s⟩,
  ⟨.abortCmd, { line 0x0203 .R [1] 1 1 with ownOk := fun q t => decide (t.role q.seat = 0 ∨ q.idx = q.seat) },
    fun q s => match s.hostIf.live.find? fun l => decide (l.seat = q.idx ∧ l.tag = q.word 0 ∧ l.ended = none) with
      | some l => !l.committed && decide (l.opcode.toNat = 0x0A01)
      | none => false,
    fun q s => match s.hostIf.live.find? fun l => decide (l.seat = q.idx ∧ l.tag = q.word 0 ∧ l.ended = none) with
      | some l => .done 0 (res [(0, 2, 0x0601), (2, 2, l.opcode.toNat)]) ((undoLive l s).finish l 0x0601 0)
      | none => .done 0 0 s⟩,
  ⟨.abortCmd, { line 0x0203 .R [1] 1 1 with ownOk := fun q t => decide (t.role q.seat = 0 ∨ q.idx = q.seat) },
    fun q s => match s.hostIf.live.find? fun l => decide (l.seat = q.idx ∧ l.tag = q.word 0 ∧ l.ended = none) with
      | some l => l.committed && decide (l.opcode.toNat ≠ 0x0203)
      | none => false,
    fun q s => .live false (match s.hostIf.live.find? fun l => decide (l.seat = q.idx ∧ l.tag = q.word 0 ∧ l.ended = none) with
      | some l => [(l.order : Int)]
      | none => []) s⟩,
  ⟨.eventSubscribe, { line 0x0204 .R [1] 3 3 with ownSeat := true }, fun q s =>
      decide ((s.queueDef q.seat (q.w 2)).map (·.kind) = some 2), fun q s => .done 0 0
    (s.setSeat q.seat { s.seat q.seat with groups := BitVec.ofNat 64 (q.w2 0), eventQueue := some (q.w 2) })⟩,
  ⟨.eventSubscribe, { line 0x0204 .R [1] 3 3 with ownSeat := true }, fun q s =>
      decide ((s.queueDef q.seat (q.w 2)).map (·.kind) ≠ some 2), fun _ s => .done 0x0108 0 s⟩,
  ⟨.objectReassign, line 0x0205 .C (upTo 18) 1 1, fun q s => decide (q.w 0 = 0xFF) ||
      (decide (q.w 0 < 8) && (s.seatDef (q.w 0)).isSome), fun _ s => .live false [] s⟩,
  ⟨.objectReassign, line 0x0205 .C (upTo 18) 1 1, fun q s => decide (q.w 0 ≠ 0xFF ∧ s.seatDef (q.w 0) = none),
    fun _ s => .done 0x0108 0 s⟩,
  ⟨.objectList, line 0x0206 .R [1] 1 1, fun _ _ => true, fun q s => .done 0
    (res [(0, 4, ((((s.owned q.idx).drop (q.w 0)).getD 0 0 : Nat) : Int)), (4, 4,
      ((((s.owned q.idx).drop (q.w 0)).getD 1 0 : Nat) : Int)),
      (8, 4, ((((s.owned q.idx).drop (q.w 0)).getD 2 0 : Nat) : Int)), (12, 4, (s.owned q.idx).length)]) s⟩,
  ⟨.queueStatus, line 0x1000 .R [2] 0 0, fun q _ => decide (32 ≤ q.idx), fun q s => .done 0
    (res [(0, 2, (s.iq q.idx).head.toNat), (2, 2, (s.iq q.idx).tail.toNat), (4, 2, s.credits q.idx),
      (6, 1, log2 (s.iqDepth q.idx)), (7, 1, bit (s.iq q.idx).stalled), (8, 4, (s.iq q.idx).stalls),
      (12, 2, (s.iq q.idx).refused), (14, 2, sat 16 (s.iq q.idx).discards)]) s⟩,
  ⟨.queueStatus, line 0x1000 .R [2] 0 0, fun q s => decide (q.idx < 32) && (s.whose q.idx).isSome, fun q s =>
    let e := (s.whose q.idx).getD (0, 0)
    .done 0 (res [(0, 2, (s.ring e.1 e.2).head.toNat), (2, 2, (s.ring e.1 e.2).tail.toNat), (4, 2, s.qcred e.1 e.2),
      (6, 1, ((s.queueDef e.1 e.2).map (·.depthLog2)).getD 0), (7, 1, bit (s.ring e.1 e.2).stalled),
      (8, 4, (s.ring e.1 e.2).stalls)]) s⟩,
  ⟨.counterRead, line 0x1001 .R [0] 1 1, fun q _ => decide (q.w 0 ≤ 25), fun q s => .done 0 (res [(0, 8, s.counter (q.w 0))]) s⟩,
  ⟨.counterRead, line 0x1001 .R [0] 1 1, fun q _ => decide (25 < q.w 0), fun _ s => .done 0x0108 0 s⟩,
  ⟨.counterClear, line 0x1002 .C [0] 1 1, fun q _ => decide (q.w 0 ≤ 25),
    fun q s => .done 0 (res [(0, 8, s.counter (q.w 0))]) (s.setCounter (q.w 0) 0)⟩,
  ⟨.counterClear, line 0x1002 .C [0] 1 1, fun q _ => decide (25 < q.w 0), fun _ s => .done 0x0108 0 s⟩,
  ⟨.sramStatus, line 0x1003 .R [0] 0 0, fun _ _ => true, fun _ s => .done 0
    (res [(0, 4, s.hostIf.sramCorrected), (4, 4, s.hostIf.sramUncorrectable), (8, 4, s.hostIf.sramAddress.toNat)]) s⟩]

/-- The events of the seat windows, their transports and the timers of the command interface where they have their effect
(R41, R46 to R49, R55, R62 to R64, R66 to R70). -/
noncomputable def seatEvents (n k off : Nat) (v tag : Word) (index : Half) (f : SeatFrame) (b0 : Byte) (d : QueueDef)
    (w : ContCmd) (l : Live) (dl : Nat) : List Event := [
  ⟨.seatReset n, fun s => s.hostUp && (s.seatDef n).isSome, resetSeat n 1⟩,
  ⟨.seatReset n, fun s => decide (s.seatDef n = none), fun s => s⟩,
  ⟨.heartbeatWrite n v, fun s => s.hostUp && decide ((s.seat n).heartbeat ≠ v),
    fun s => s.setSeat n { s.seat n with heartbeat := v, hbTime := s.now }⟩,
  ⟨.heartbeatWrite n v, fun s => decide ((s.seat n).heartbeat = v), fun s => s⟩,
  ⟨.doorbell n k index, fun s => s.hostUp && decide (s.queueDef n k = some d ∧ d.kind = 1 ∧
      ((s.ring n k).tail - (s.ring n k).head).toNat < (index - (s.ring n k).head).toNat ∧
      (index - (s.ring n k).head).toNat ≤ 2 ^ d.depthLog2),
    fun s =>
      let t : State := { s with hostIf := { s.hostIf with bell := s.hostIf.bell + 1 } }
      t.setRing n k { s.ring n k with tail := index, bells := (s.ring n k).bells ++ [(index, t.hostIf.bell)] }⟩,
  ⟨.doorbell n k index, fun s => decide (s.queueDef n k = some d ∧ d.kind = 1 ∧
      (index - (s.ring n k).head).toNat = ((s.ring n k).tail - (s.ring n k).head).toNat ∧
      (index - (s.ring n k).head).toNat ≤ 2 ^ d.depthLog2), fun s => s⟩,
  ⟨.doorbell n k index, fun s => s.hostUp && decide (s.queueDef n k = some d ∧ d.kind = 1 ∧
      2 ^ d.depthLog2 < (index - (s.ring n k).head).toNat),
    fun s => (s.setInt n flagOverrun).setCounter (8 + n) (s.counter (8 + n) + 1)⟩,
  ⟨.doorbell n k index, fun s => s.hostUp && decide (s.queueDef n k = some d ∧ d.kind = 2 ∧
      (index - (s.ring n k).head).toNat ≠ 0 ∧
      (index - (s.ring n k).head).toNat ≤ ((s.ring n k).tail - (s.ring n k).head).toNat),
    fun s => s.setRing n k { s.ring n k with
      head := index, posted := (s.ring n k).posted.drop (index - (s.ring n k).head).toNat, since := s.now, stalled := false }⟩,
  ⟨.doorbell n k index, fun s => decide (s.queueDef n k = none), fun s => s⟩,
  ⟨.intStatusClear n v, fun s => s.hostUp,
    fun s => s.setSeat n { s.seat n with intStatus := (s.seat n).intStatus &&& ~~~(v.setWidth 9) }⟩,
  ⟨.intStatusClear n v, fun s => !s.hostUp, fun s => s⟩,
  ⟨.resetCauseRead n, fun s => s.hostUp, fun s =>
    { s with
      hostIf := { s.hostIf with lastReads := [s.readReg n 0x1010] }
      boot := { s.boot with resetCause := 0 } }⟩,
  ⟨.registerWrite n 0x14 v, fun s => s.hostUp, fun s => s.setSeat n { s.seat n with intMask := v.setWidth 9 }⟩,
  ⟨.registerWrite n off v, fun s => s.hostUp && decide (off < 0x100000 ∧ off ≠ 0x14), fun s => s⟩,
  ⟨.registerWrite n (0x100000 + 0x40000 * k + 4 * off) v, fun s => s.hostUp && decide (k < 4 ∧ off < 0x10000 ∧
      s.queueDef n k = some d ∧ d.kind = 1 ∧ off < 16 * 2 ^ d.depthLog2),
    fun s => s.setRing n k { s.ring n k with slots := aset (s.ring n k).slots off v }⟩,
  ⟨.sgmiiSeatFrame f, fun s => s.hostUp && (match s.seatDef f.seat with
      | none => false
      | some x => decide (x.transport = 1 ∧ x.port = f.port ∧ x.mac = f.mac)) && decide (f.version = 1 ∧ f.kind = 2),
    fun s => doorbellReg f.seat f.queue f.first s⟩,
  ⟨.sgmiiSeatFrame f, fun s => s.hostUp && (match s.seatDef f.seat with
      | none => false
      | some x => decide (x.transport = 1 ∧ x.port = f.port ∧ x.mac = f.mac)) && decide (f.version = 1 ∧ f.kind = 5),
    fun s => overL (f.words.take f.count).zipIdx (fun e t => writeReg f.seat (4 * (f.first.toNat + e.2)) e.1 t) s⟩,
  ⟨.sgmiiSeatFrame f, fun s => s.hostUp && decide (s.seatDef f.seat = none), fun s => s.setCounter 24 (s.counter 24 + 1)⟩,
  ⟨.completionResend n, fun s => s.hostUp && decide ((s.seatDef n).map (·.transport) = some 1 ∧ s.unreadFrames n ≠ []),
    fun s => { s with hostIf := { s.hostIf with frames := aset s.hostIf.frames n (s.unreadFrames n) } }⟩,
  ⟨.completionResend n, fun s => decide (s.unreadFrames n = []), fun s => s⟩,
  ⟨.spiBadOpcode k b0, fun s => s.hostUp && decide (b0 = 0 ∨ 4 < b0.toNat), fun s => s.setCounter 25 (s.counter 25 + 1)⟩,
  ⟨.spiBadOpcode k b0, fun _ => decide (b0 ≠ 0 ∧ b0.toNat ≤ 4), fun s => s⟩,
  ⟨.contTimeout n k, fun s => decide ((s.ring n k).cont = some w) && s.nextAway n k &&
      !s.boot.coreReset && s.after w.since (s.contWait w.since), endCont n k 0x0402⟩,
  ⟨.contTimeout n k, fun s => decide ((s.ring n k).cont = none), fun s => s⟩,
  ⟨.execTimeout n tag, fun s => decide (s.hostIf.live.find? (fun x => decide (x.seat = n ∧ x.tag = tag ∧ x.ended = none)) =
      some l ∧ l.deadline = some dl ∧ dl ≤ s.now) && l.committed,
    fun s => s.finish l 0x0401 (res [(0, 1, 1)])⟩,
  ⟨.execTimeout n tag, fun s => decide (s.hostIf.live.find? (fun x => decide (x.seat = n ∧ x.tag = tag ∧ x.ended = none)) =
      some l ∧ l.deadline = some dl ∧ dl ≤ s.now ∧ l.opcode.toNat ≠ 0x0302) && !l.committed && !commitDue l s,
    fun s => (undoLive l s).finish l 0x0401 0⟩,
  ⟨.execTimeout n tag, fun s => decide (s.hostIf.live.find? (fun x => decide (x.seat = n ∧ x.tag = tag ∧ x.ended = none)) = none),
    fun s => s⟩,
  ⟨.seatAbsent n, fun s => decide ((s.seat n).state = 1) && s.after (s.seat n).hbTime (s.hbLimit n),
    fun s => seatEnds n (seatGone n s)⟩,
  ⟨.seatAbsent n, fun s => decide ((s.seat n).state ≠ 1), fun s => s⟩,
  ⟨.cqStall n k, fun s => decide (s.queueDef n k = some d ∧ d.kind = 2 ∧ (s.ring n k).posted ≠ []) &&
      !(s.ring n k).stalled && s.after (s.ring n k).since (s.cqStall (s.ring n k).since),
    fun s => ((s.setRing n k { s.ring n k with
      stalled := true, stalls := bump32 (s.ring n k).stalls }).setInt n flagStall).note 4 (handle 2 d.qnum) [BitVec.ofNat 8 n]⟩,
  ⟨.cqStall n k, fun s => decide ((s.ring n k).posted = []), fun s => s⟩,
  ⟨.eventsLost n, fun _ => true, fun s => s.flushLost n⟩]

/-! ### Configuration and epochs (chapter 03) -/

/-- The host commands of configuration and epochs where they have their effect, and where they are turned away (Table 3-6,
R87, R89, R90). -/
def epochCases : List Case := [
  ⟨.timeSet, line 0x0307 .C [0] 2 2, fun _ s => decide (s.timeSource = 4),
    fun q s => .done 0 0 { s with clk := { s.clk with ppsSeconds := some (q.w2 0) } }⟩,
  ⟨.timeSet, line 0x0307 .C [0] 2 2, fun _ s => decide (s.timeSource ≠ 4), fun _ s => .done 0x0301 0 s⟩,
  ⟨.digestRead, line 0x0305 .R [0, 3, 11] 0 2, fun q _ => decide (hClass q.hnd = 0 ∧ q.w 0 = 0) && !tst (q.w 1) 0 &&
      !tst (q.w 1) 1 && !tst (q.w 1) 2, fun _ s => .done 0 ((s.ep.cfg.rootOf s.reportedOf).setWidth 128) s⟩,
  ⟨.digestRead, line 0x0305 .R [0, 3, 11] 0 2, fun q _ => decide (hClass q.hnd = 0 ∧ q.w 0 = 0) && tst (q.w 1) 0 &&
      tst (q.w 1) 1 && !tst (q.w 1) 2, fun _ s => .done 0 (((s.ep.cfg.rootOf s.intendedOf) >>> 128).setWidth 128) s⟩,
  ⟨.digestRead, line 0x0305 .R [0, 3, 11] 0 2, fun q _ => decide (hClass q.hnd = 0 ∧ 16 < q.w 0), fun _ s => .done 0x0108 0 s⟩,
  ⟨.imageWrite, { line 0x0300 .C [0] 1 192 with loB := 5, hiB := 5, bufIn := true }, fun q s => decide (
      (sent 1 q).1 + (sent 1 q).2.length ≤ 1048576 ∧ s.ep.phase ≠ 3) && !s.gated, fun q s =>
    let t := dropStage s
    .done 0 (res [(0, 4, (sent 1 q).2.length)])
      { t with ep := { t.ep with slot := mputs t.ep.slot (sent 1 q).1 (sent 1 q).2 } }⟩,
  ⟨.imageWrite, { line 0x0300 .C [0] 1 192 with loB := 5, hiB := 5, bufIn := true }, fun q _ => decide (
      1048576 < (sent 1 q).1 + (sent 1 q).2.length), fun _ s => .done 0x0510 0 s⟩,
  ⟨.imageWrite, { line 0x0300 .C [0] 1 192 with loB := 5, hiB := 5, bufIn := true }, fun q s => decide (
      (sent 1 q).1 + (sent 1 q).2.length ≤ 1048576 ∧ s.ep.phase ≠ 3) && s.gated, fun _ s => .done 0x0313 0 s⟩,
  ⟨.epochStage, line 0x0301 .C [0] 1 1, fun q s => decide (q.w 0 = 1 ∧ s.ep.phase ≠ 3 ∧ s.power.state ≠ 2 ∧
      s.overlayFault s.overlaid = none ∧ (beginStage s.overlaid false s).ep.answers = []) && !q.shadowFault, fun _ s =>
    let t := beginStage s.overlaid false s
    let t : State := { t with ep := { t.ep with phase := 2 } }
    .done 0 t.stageRes t⟩,
  ⟨.epochStage, line 0x0301 .C [0] 1 1, fun q s => decide (q.w 0 = 1 ∧ s.ep.phase ≠ 3 ∧ s.power.state ≠ 2 ∧
      s.overlayFault s.overlaid = none ∧ (beginStage s.overlaid false s).ep.answers ≠ []) && !q.shadowFault,
    fun _ s => .live true [] (beginStage s.overlaid false s)⟩,
  ⟨.epochStage, line 0x0301 .C [0] 1 1, fun q s => decide (q.w 0 = 1 ∧ s.ep.phase ≠ 3 ∧ s.power.state ≠ 2 ∧
      s.overlayFault s.overlaid = none) && q.shadowFault, fun _ s => .done 0x0312 0 (dropStage s)⟩,
  ⟨.epochStage, line 0x0301 .C [0] 1 1, fun q s => decide (q.w 0 = 0 ∧ s.ep.phase ≠ 3 ∧ s.power.state ≠ 2 ∧
      readImage s.ep.slot = none), fun _ s => .done 0x0110 0 s⟩,
  ⟨.epochStage, line 0x0301 .C [0] 1 1, fun q s => decide (q.w 0 ≤ 1 ∧ s.ep.phase = 3), fun _ s => .done 0x0310 0 s⟩,
  ⟨.epochStage, line 0x0301 .C [0] 1 1, fun q _ => decide (1 < q.w 0), fun _ s => .done 0x0108 0 s⟩,
  ⟨.epochCommit, line 0x0302 .C [0] 2 3, fun q s => !s.boot.provisioning && s.clk.timeValid && tst (q.w 2) 0 &&
      decide (s.ep.phase = 2 ∧ s.clk.tai + 300000 ≤ q.w2 0 ∧ q.w2 0 ≤ s.clk.tai + 3600000000) && !s.commitBusy,
    fun q s => .live false [] (announce (ceilTo s.periodUs (q.w2 0)) s)⟩,
  ⟨.epochCommit, line 0x0302 .C [0] 2 3, fun _ s => !s.boot.provisioning && !s.clk.timeValid, fun _ s => .done 0x0311 0 s⟩,
  ⟨.epochCommit, line 0x0302 .C [0] 2 3, fun _ s => !s.boot.provisioning && s.clk.timeValid &&
      decide (s.ep.phase ≠ 2 ∧ s.ep.phase ≠ 3), fun _ s => .done 0x0314 0 s⟩,
  ⟨.epochCommit, line 0x0302 .C [0] 2 3, fun q s => !s.boot.provisioning && s.clk.timeValid &&
      decide (s.ep.phase = 2 ∧ q.w2 0 < s.clk.tai + 300000), fun _ s => .done 0x0108 0 s⟩,
  ⟨.epochCommit, line 0x0302 .C [0] 2 3, fun q s => !s.boot.provisioning && s.clk.timeValid && !tst (q.w 2) 0 &&
      decide (s.ep.phase = 2 ∧ s.clk.tai + 300000 ≤ q.w2 0 ∧ q.w2 0 ≤ s.clk.tai + 3600000000 ∧
        s.stageCount 1 ≠ s.ep.answers.length), fun _ s => .done 0x0312 0 s⟩,
  ⟨.epochDiscard, line 0x0303 .C [0] 0 0, fun _ s => decide (s.ep.phase = 1 ∨ s.ep.phase = 2), fun _ s => .done 0 0 (dropStage s)⟩,
  ⟨.epochDiscard, line 0x0303 .C [0] 0 0, fun _ s => decide (s.ep.phase = 3), fun _ s => .done 0x0310 0 s⟩,
  ⟨.epochDiscard, line 0x0303 .C [0] 0 0, fun _ s => decide (s.ep.phase = 0), fun _ s => .done 0x0001 0 s⟩,
  ⟨.epochStatus, line 0x0304 .R [0] 0 0, fun _ _ => true, fun _ s => .done 0
    (res [(0, 4, s.ep.number.toNat), (4, 1, s.ep.phase),
      (6, 2, (s.ep.cfg.fields.filter fun e => (s.fnode e.1).quarantined).length), (8, 8, (s.ep.tick.getD 0 : Nat))]) s⟩,
  ⟨.configExport, line 0x0306 .R [0] 5 5, fun _ s => !s.ep.loaded, fun _ s => .done 0x0301 0 s⟩,
  ⟨.configExport, line 0x0306 .R [0] 5 5, fun q s => s.ep.loaded &&
      decide (q.w 4 ≤ (s.ep.cfg.imageBytes s.ep.root).length) && (match q.buf with
        | some b => !b.fails
        | none => false), fun q s =>
    let b := q.buf.getD ⟨0, 0, [], false⟩
    let part := ((s.ep.cfg.imageBytes s.ep.root).drop (q.w 4)).take b.len
    .done 0 (res [(0, 4, part.length), (4, 4, (s.ep.cfg.imageBytes s.ep.root).length)])
      { s with hostIf := { s.hostIf with dma := aset s.hostIf.dma b.addr part } }⟩,
  ⟨.configExport, line 0x0306 .R [0] 5 5, fun q s => s.ep.loaded &&
      decide ((s.ep.cfg.imageBytes s.ep.root).length < q.w 4), fun _ s => .done 0x0108 0 s⟩]

/-- The events of site time and of the epochs where they have their effect (R81, R82, R86, R88, R91, R92). -/
noncomputable def epochEvents (p domain sender tai steps sec : Nat) (offset : Int) (dataset : List Nat) (code : Half) : List Event := [
  ⟨.ptpMessage ⟨p, domain, sender, .sync offset tai⟩, fun s => s.power.domains.getLsbD 10 && s.ptpPorts.contains p &&
      decide (domain = fld (s.blk 0) 1 1 ∧ s.ptpMaster = some (p, sender) ∧ offset.natAbs ≤ fld (s.blk 0) 2 2 ∧
        s.clk.ptpPort = some p ∧ 15 ≤ s.clk.syncs),
    fun s => timeValidNow (setTai tai { s with clk := { s.clk with syncs := 16, sourceHeard := s.now } })⟩,
  ⟨.ptpMessage ⟨p, domain, sender, .sync offset tai⟩, fun s => s.power.domains.getLsbD 10 && s.ptpPorts.contains p &&
      decide (domain = fld (s.blk 0) 1 1 ∧ s.ptpMaster = some (p, sender) ∧ fld (s.blk 0) 2 2 < offset.natAbs),
    fun s => setTai tai { s with clk := { s.clk with ptpPort := some p, syncs := 0, sourceHeard := s.now } }⟩,
  ⟨.ptpMessage ⟨p, domain, sender, .announce dataset steps⟩, fun s => s.power.domains.getLsbD 10 && s.ptpPorts.contains p &&
      decide (domain = fld (s.blk 0) 1 1), ptpAnnounce p sender dataset steps⟩,
  ⟨.ptpMessage ⟨p, domain, sender, .option code⟩, fun s => s.power.domains.getLsbD 10 && s.ptpPorts.contains p &&
      decide (domain = fld (s.blk 0) 1 1), fun s => s.note 11 (handle 17 p) (4 :: leBytes code.toNat 2)⟩,
  ⟨.ptpMessage ⟨p, domain, sender, .sync offset tai⟩, fun s => !s.ptpPorts.contains p, fun s => s⟩,
  ⟨.holdoverExpire, fun s => s.clk.timeValid && s.after s.clk.sourceHeard (1000 * s.cfgD 0 4 4 300000), timeInvalidNow⟩,
  ⟨.holdoverExpire, fun s => !s.clk.timeValid, fun s => s⟩,
  ⟨.ppsInEdge, fun s => decide (s.timeSource = 4 ∧ s.clk.ppsSeconds = some sec), fun s =>
    timeValidNow (setTai (sec * 1000000) { s with clk := { s.clk with ppsSeconds := none, sourceHeard := s.now } })⟩,
  ⟨.ppsInEdge, fun s => decide (s.timeSource = 4 ∧ s.clk.ppsSeconds = none ∧ nearestSecond s.clk.tai ≤ s.clk.tai + 1000 ∧
      s.clk.tai ≤ nearestSecond s.clk.tai + 1000) && s.clk.timeValid,
    fun s => { s with clk := { s.clk with tai := wrap64 (nearestSecond s.clk.tai), sourceHeard := s.now } }⟩,
  ⟨.ppsInEdge, fun s => decide (s.timeSource = 4 ∧ s.clk.ppsSeconds = none ∧ s.clk.tai + 1000 < nearestSecond s.clk.tai) &&
      s.clk.timeValid, fun s => { s with clk := { s.clk with ppsIgnored := s.clk.ppsIgnored + 1 } }⟩,
  ⟨.ppsInEdge, fun s => decide (s.timeSource ≠ 4), fun s => s⟩,
  ⟨.digestReadback, fun s => s.calOn, fun s =>
    let t := refreshRoot { s with ep := { s.ep with
      reported := (s.localUnits.map fun u => (u, s.readback.own u.1 u.2)) ++
        s.ep.reported.filter fun e => decide (e.1.1 = 3) } }
    overL t.ep.cfg.units (fun u v => judgeDigest u.1 u.2 v) t⟩,
  ⟨.digestReadback, fun s => !s.calOn, fun s => s⟩,
  ⟨.stageTimeout, fun s => decide (s.ep.phase = 1) && s.after s.ep.stageSince (s.stageTmo s.ep.stageSince), stageDone⟩,
  ⟨.stageTimeout, fun s => decide (s.ep.phase ≠ 1), fun s => s⟩,
  ⟨.epochTick, fun s => decide (s.ep.phase = 3) && s.tickDue, tickNow⟩,
  ⟨.epochTick, fun s => decide (s.ep.phase ≠ 3), fun s => s⟩,
  ⟨.epochMarkWrite, fun s => s.ep.markDue && !s.gated && passes 62 [(s.ep.number.toNat : Int)] s,
    fun s => markWritten (passed 62 [(s.ep.number.toNat : Int)] s)⟩,
  ⟨.epochMarkWrite, fun s => !s.ep.markDue, fun s => s⟩]

/-! ### The power tree and the allocation cycle (chapters 04 and 05) -/

/-- The words that NODE_SET carries, as bytes. -/
def setWords (q : Req) : List Byte := ((q.params.drop 2).take (q.w 1)).flatMap wordBytes

/-- The host commands of the power tree where they have their effect, and where they are turned away (Table 4-5, R73,
R116, R118, R119). -/
def treeCases : List Case := [
  ⟨.nodeRead, { line 0x0400 .R [3] 1 2 with view := fun q => q.w 1 % 2 }, fun q _ => decide (q.w 0 % 4 = 0 ∧ q.w 0 ≤ 84) &&
      !tst (q.w 1) 0, fun q s => .done 0 (resBytes (mbytes (s.ep.cfg.node q.idx) (q.w 0) 16)) s⟩,
  ⟨.nodeRead, { line 0x0400 .R [3] 1 2 with view := fun q => q.w 1 % 2 }, fun q _ => decide (q.w 0 % 4 = 0 ∧ q.w 0 ≤ 84) &&
      tst (q.w 1) 0, fun q s => .done 0 (resBytes (mbytes (s.overlaid.node q.idx) (q.w 0) 16)) s⟩,
  ⟨.nodeRead, { line 0x0400 .R [3] 1 2 with view := fun q => q.w 1 % 2 }, fun q _ => decide (q.w 0 % 4 ≠ 0 ∨ 84 < q.w 0),
    fun _ s => .done 0x0108 0 s⟩,
  ⟨.nodeState, line 0x0401 .R [3] 0 0, fun q s => !nTherm (s.ep.cfg.node q.idx) && !fieldKind (nKind (s.ep.cfg.node q.idx)) &&
      !s.nodeRetired q.idx, fun q s => .done 0
    (res [(0, 1, 0), (1, 1, bit ((s.ep.cfg.path 16 q.idx).tail.any fun a => s.nodeRetired a || s.cal.withdrawn.contains a)
        + 2 * bit (s.nodeDerates q.idx) + 4 * bit false + 8 * bit false
        + 16 * bit ((s.curtailOf q.idx 0).isSome || (s.curtailOf q.idx 1).isSome)),
      (2, 2, nParent (s.ep.cfg.node q.idx)), (4, 4, (s.node q.idx).presented), (8, 4, s.grantOf q.idx), (12, 2, 0x8000),
      (14, 1, s.ep.cfg.level q.idx), (15, 1, (s.node q.idx).cls)]) s⟩,
  ⟨.nodeAdd, { line 0x0402 .C [3] 22 22 with view := fun _ => 2 }, fun q s =>
      !nodeRsvd (mputs [] 0 (q.params.flatMap wordBytes)) && decide (s.overlaid.nodes.length < 1024) &&
      decide (aget s.overlaid.nodes q.idx = none ∧
        ownFault s.overlaid q.idx (mputs [] 0 (q.params.flatMap wordBytes)) = none) &&
      !ownRange q.idx (mputs [] 0 (q.params.flatMap wordBytes)) &&
      decide (overlaySize (s.ep.overlay ++ [(.addNode q.idx (mputs [] 0 (q.params.flatMap wordBytes)), false)]) ≤ 65536),
    fun q s => .done 0 0 { s with ep := { s.ep with
      overlay := s.ep.overlay ++ [(.addNode q.idx (mputs [] 0 (q.params.flatMap wordBytes)), false)] } }⟩,
  ⟨.nodeAdd, { line 0x0402 .C [3] 22 22 with view := fun _ => 2 }, fun q _ =>
      nodeRsvd (mputs [] 0 (q.params.flatMap wordBytes)), fun _ s => .done 0x0104 0 s⟩,
  ⟨.nodeAdd, { line 0x0402 .C [3] 22 22 with view := fun _ => 2 }, fun q s =>
      !nodeRsvd (mputs [] 0 (q.params.flatMap wordBytes)) && decide (1024 ≤ s.overlaid.nodes.length),
    fun _ s => .done 0x0520 0 s⟩,
  ⟨.nodeRemove, { line 0x0403 .C [3] 0 0 with view := fun _ => 1 }, fun q s => decide (s.overlaid.children q.idx = [] ∧
      overlaySize (s.ep.overlay ++ [(.removeNode q.idx, false)]) ≤ 65536),
    fun q s => .done 0 0 { s with ep := { s.ep with overlay := s.ep.overlay ++ [(.removeNode q.idx, false)] } }⟩,
  ⟨.nodeRemove, { line 0x0403 .C [3] 0 0 with view := fun _ => 1 }, fun q s => decide (s.overlaid.children q.idx ≠ []),
    fun _ s => .done 0x0320 0 s⟩,
  ⟨.nodeSet, { line 0x0404 .C [3] 3 12 with view := fun _ => 1 }, fun q s => decide (q.w 0 % 4 = 0 ∧ 4 ≤ q.w 0 ∧
      0 < q.w 1 ∧ q.w 1 ≤ 10 ∧ q.w 0 + 4 * q.w 1 ≤ 88 ∧ 2 + q.w 1 ≤ q.params.length) &&
      !nodeRsvd (mputs (s.overlaid.node q.idx) (q.w 0) (setWords q)) &&
      decide (ownFault s.overlaid q.idx (mputs (s.overlaid.node q.idx) (q.w 0) (setWords q)) = none) &&
      !ownRange q.idx (mputs (s.overlaid.node q.idx) (q.w 0) (setWords q)) &&
      decide (overlaySize (s.overlayWith (.bytes 2 q.idx (q.w 0) (setWords q))) ≤ 65536),
    fun q s => .done 0 0 { s with ep := { s.ep with
      overlay := s.overlayWith (.bytes 2 q.idx (q.w 0) (setWords q)) } }⟩,
  ⟨.nodeSet, { line 0x0404 .C [3] 3 12 with view := fun _ => 1 }, fun q _ => decide (q.w 0 < 4 ∨ q.w 0 % 4 ≠ 0 ∨ q.w 1 = 0),
    fun _ s => .done 0x0108 0 s⟩,
  ⟨.nodeMove, { line 0x0405 .C [3] 1 1 with view := fun _ => 1 }, fun q s => decide (q.w 0 < q.idx ∧ q.w 0 ≤ 1023 ∧
      overlaySize (s.ep.overlay ++ [(.moveNode q.idx (q.w 0), false)]) ≤ 65536),
    fun q s => .done 0 0 { s with ep := { s.ep with overlay := s.ep.overlay ++ [(.moveNode q.idx (q.w 0), false)] } }⟩,
  ⟨.nodeMove, { line 0x0405 .C [3] 1 1 with view := fun _ => 1 }, fun q _ => decide (q.idx ≠ 0 ∧ q.idx ≤ q.w 0 ∧ q.w 0 ≤ 1023),
    fun q s => .done 0x0120 (res [(0, 2, q.idx), (2, 1, 1)]) s⟩,
  ⟨.treeCheck, line 0x0406 .R [0] 0 1, fun q s => !tst (q.w 0) 0 && decide (s.treeFault s.ep.cfg = none), fun _ s => .done 0
    (res [(0, 2, 0xFFFF), (2, 1, 0), (4, 2, (s.ep.cfg.nodes.length : Nat)),
      (6, 1, min 255 (s.ep.cfg.nodes.foldl (fun a e => max a (s.ep.cfg.level e.1)) 0 : Nat))]) s⟩,
  ⟨.treeCheck, line 0x0406 .R [0] 0 1, fun q s => tst (q.w 0) 0 && (s.treeFault s.overlaid).isSome, fun _ s => .done 0
    (res [(0, 2, ((s.treeFault s.overlaid).getD (0, 0)).1), (2, 1, ((s.treeFault s.overlaid).getD (0, 0)).2),
      (4, 2, (s.overlaid.nodes.length : Nat)),
      (6, 1, min 255 (s.overlaid.nodes.foldl (fun a e => max a (s.overlaid.level e.1)) 0 : Nat))]) s⟩,
  ⟨.treeList, line 0x0407 .R [3] 1 1, fun _ _ => true, fun q s => .done 0
    (res ([(14, 2, ((s.ep.cfg.children q.idx).length : Int))] ++
      (upTo (((s.ep.cfg.children q.idx).drop (q.w 0)).take 7).length).map fun k =>
        (2 * k, 2, (((((s.ep.cfg.children q.idx).drop (q.w 0)).take 7).getD k 0 : Nat) : Int)))) s⟩,
  ⟨.nodeCurtail, line 0x0408 .A [3] 1 3, fun q s => decide (q.w 1 ≤ 1 ∧ q.w 0 ≠ 0xFFFFFFFF ∧
      (afterSnapshot s).curtailOf q.idx (q.w 1) = none ∧ (afterSnapshot s).cal.curtails.length < 64 ∧ q.w 2 = 0 ∧
      (afterSnapshot s).grantOf q.idx = 0),
    fun q s => .done 0 (res [(0, 4, 0xFFFFFFFF)]) { afterSnapshot s with cal := { (afterSnapshot s).cal with
      curtails := ((afterSnapshot s).cal.curtails.filter fun c => decide (¬ (c.1 = q.idx ∧ c.2.1 = q.w 1))) ++
        [(q.idx, q.w 1, q.w 0, none)] } }⟩,
  ⟨.nodeCurtail, line 0x0408 .A [3] 1 3, fun q s => decide (q.w 1 ≤ 1 ∧ q.w 0 = 0xFFFFFFFF ∧ (!s.boundaryDue || s.tickDue) = true),
    fun q s => .done 0 (res [(0, 4, (((s.curtailOf q.idx (q.w 1)).getD 0xFFFFFFFF : Nat) : Int))])
      { s with cal := { s.cal with
        curtails := s.cal.curtails.filter fun c => decide (¬ (c.1 = q.idx ∧ c.2.1 = q.w 1)) } }⟩,
  ⟨.nodeCurtail, line 0x0408 .A [3] 1 3, fun q _ => decide (1 < q.w 1), fun _ s => .done 0x0108 0 (afterSnapshot s)⟩,
  ⟨.nodeCurtail, line 0x0408 .A [3] 1 3, fun q s => decide (q.w 1 ≤ 1 ∧ q.w 0 ≠ 0xFFFFFFFF ∧
      (afterSnapshot s).curtailOf q.idx (q.w 1) = none ∧ 64 ≤ (afterSnapshot s).cal.curtails.length),
    fun _ s => .done 0x0501 0 (afterSnapshot s)⟩]

/-- The host commands of the allocation cycle where they have their effect, and where they are turned away (Table 5-10,
R139). -/
def allocCases : List Case := [
  ⟨.allocStatus, line 0x0410 .R [0] 0 1, fun q _ => !tst (q.w 0) 0, fun _ s => .done 0
    (res [(0, 4, s.cal.period), (4, 2, s.cal.lastSolve), (6, 2, s.cal.maxSolve), (8, 4, s.cal.overruns),
      (12, 2, sat 16 s.cal.drains), (14, 1, s.ahead),
      (15, 1, bit s.cal.aligned + 2 * bit s.cal.restored + 4 * bit s.cal.rampOver)]) s⟩,
  ⟨.allocStatus, line 0x0410 .R [0] 0 1, fun q _ => tst (q.w 0) 0, fun _ s => .done 0
    (res [(0, 4, s.cal.period), (4, 2, s.cal.lastSolve), (6, 2, s.cal.maxSolve), (8, 4, s.cal.overruns),
      (12, 2, sat 16 s.cal.drains), (14, 1, s.ahead),
      (15, 1, bit s.cal.aligned + 2 * bit s.cal.restored + 4 * bit s.cal.rampOver)])
    { s with cal := { s.cal with maxSolve := 0, overruns := 0, drains := 0 } }⟩,
  ⟨.snapshotSave, line 0x0411 .R [0] 4 4, fun q _ => decide (q.buf = none), fun _ s => .done 0x0108 0 s⟩,
  ⟨.snapshotSave, line 0x0411 .R [0] 4 4, fun q _ => q.buf.isSome, fun q s =>
    let b := q.buf.getD ⟨0, 0, [], false⟩
    .live false [(b.addr : Int), (b.len : Int), (bit b.fails : Nat)] s⟩,
  ⟨.snapshotRestore, { line 0x0412 .A [3] 4 4 with bufIn := true, handleOk := fun q _ => decide (q.idx = 0) },
    fun q s => q.buf.isSome && s.clk.timeValid && !s.cal.restored && !s.past s.clk.firstValid 300000001 &&
      (snapParse (q.buf.getD ⟨0, 0, [], false⟩).data).isSome && snapCheck (q.buf.getD ⟨0, 0, [], false⟩).data,
    fun q s => .live false ((q.buf.getD ⟨0, 0, [], false⟩).data.map fun x => (x.toNat : Int)) s⟩,
  ⟨.snapshotRestore, { line 0x0412 .A [3] 4 4 with bufIn := true, handleOk := fun q _ => decide (q.idx = 0) },
    fun q s => q.buf.isSome && !s.clk.timeValid, fun _ s => .done 0x0311 0 s⟩,
  ⟨.snapshotRestore, { line 0x0412 .A [3] 4 4 with bufIn := true, handleOk := fun q _ => decide (q.idx = 0) },
    fun q s => q.buf.isSome && s.clk.timeValid && s.cal.restored, fun _ s => .done 0x0330 0 s⟩,
  ⟨.sensorState, line 0x0413 .R [3] 1 1, fun q s => decide (q.w 0 ≤ 4 ∧ nodeSensor (s.ep.cfg.node q.idx) (q.w 0) / 4096 ≠ 0) &&
      nTherm (s.ep.cfg.node q.idx), fun q s => .done 0
    (res [(0, 1, (tget (s.node q.idx).sensors (q.w 0) {}).state),
      (2, 2, (tget (s.node q.idx).sensors (q.w 0) {}).lastValid.floor),
      (4, 2, (tget (s.node q.idx).sensors (q.w 0) {}).value.floor),
      (6, 4, ((s.now - (tget (s.node q.idx).sensors (q.w 0) {}).lastTime) / 1000 : Nat)),
      (10, 4, (worstRate (s.ep.cfg.node q.idx)).floor)]) s⟩,
  ⟨.sensorState, line 0x0413 .R [3] 1 1, fun q s => decide (q.w 0 ≤ 4) && !nTherm (s.ep.cfg.node q.idx),
      fun _ s => .done 0x0301 0 s⟩,
  ⟨.sensorState, line 0x0413 .R [3] 1 1, fun q _ => decide (4 < q.w 0), fun _ s => .done 0x0108 0 s⟩,
  ⟨.windowRead, line 0x0414 .R [3] 0 0, fun q s => nWindow (s.ep.cfg.node q.idx), fun q s => .done 0
    (res [(0, 8, (s.eWin q.idx).floor), (8, 4, (s.node q.idx).winCap), (12, 4, (windowAvg (s.ep.cfg.node q.idx)).floor)]) s⟩,
  ⟨.windowRead, line 0x0414 .R [3] 0 0, fun q s => !nWindow (s.ep.cfg.node q.idx), fun _ s => .done 0x0301 0 s⟩]

/-- The events of the allocation cycle where they have their effect (R16, R116, R121, R136, R142, R143). -/
noncomputable def allocEvents (solveTime n k dir o cap : Nat) (b : Block) : List Event := [
  ⟨.periodBoundary, fun s => !s.boundaryDue || s.tickDue, fun s => s⟩,
  ⟨.periodBoundary, fun s => s.boundaryDue && !s.tickDue && !s.cal.aligned && decide (s.cal.solved = none), fun s =>
    let t : State := { s with cal := { s.cal with
      period := s.cal.nextPeriod, nextPeriod := s.cal.nextPeriod + 1, periodEnd := s.cal.periodEnd + s.periodUs } }
    let t := applyHeld 3 (dropGrants s.cal.nextPeriod t)
    planPods (alignPeriod (snapCommit (Sys2Proof.Machine.solve (overL t.localOuts regulate t))))⟩,
  ⟨.periodBoundary, fun s => s.boundaryDue && !s.tickDue && s.cal.aligned && decide (s.cal.solved = none), fun s =>
    let e := ceilTo s.periodUs (s.cal.periodEnd + s.periodUs)
    let t : State := { s with cal := { s.cal with
      period := e / s.periodUs - 1, nextPeriod := e / s.periodUs - 1 + 1, periodEnd := e } }
    let t := applyHeld 3 (dropGrants (e / s.periodUs - 1) t)
    planPods (alignPeriod (snapCommit (Sys2Proof.Machine.solve (overL t.localOuts regulate t))))⟩,
  ⟨.grantBlockPublish solveTime, fun s => decide (s.cal.solved = some b) && s.calOn &&
      decide (s.credits 33 ≠ 0 ∧ s.credits 34 ≠ 0), fun s =>
    let t : State := { s with cal := { s.cal with
      solved := none, lastSolve := sat 16 solveTime, maxSolve := max s.cal.maxSolve (sat 16 solveTime) } }
    let u := postBlock b t
    overL (t.ep.cfg.nodes.map (·.1)) windowStep u⟩,
  ⟨.grantBlockPublish solveTime, fun s => decide (s.cal.solved = none) || !s.calOn ||
      decide (s.credits 33 = 0 ∨ s.credits 34 = 0),
    fun s => s⟩,
  ⟨.allocOverrun, fun s => decide (s.lateSolve = some b), fun s => overrun b s.cal.nextPeriod s⟩,
  ⟨.allocOverrun, fun s => decide (s.lateSolve = none), fun s => s⟩,
  ⟨.curtailExpire n dir, fun s => decide (s.cal.curtails.find? (fun c => decide (c.1 = n ∧ c.2.1 = dir)) =
      some (n, dir, cap, some k) ∧ k ≤ s.now),
    fun s => { afterSnapshot s with cal := { (afterSnapshot s).cal with
      curtails := (afterSnapshot s).cal.curtails.filter fun c => decide (¬ (c.1 = n ∧ c.2.1 = dir)) } }⟩,
  ⟨.curtailExpire n dir, fun s => decide (s.cal.curtails.find? (fun c => decide (c.1 = n ∧ c.2.1 = dir)) =
      some (n, dir, cap, some k) ∧ s.now < k), fun s => s⟩,
  ⟨.sensorRetired n k, fun s => decide (k < 5 ∧ nodeSensor (s.ep.cfg.node n) k / 4096 ≠ 0 ∧ (s.node n).capHeld = none ∧
      (tget (s.node n).sensors k {}).state ≠ 4 ∧ (tget (s.node n).sensors k {}).state ≠ 2) && nTherm (s.ep.cfg.node n) &&
      s.past (tget (s.node n).sensors k {}).faultSince s.sensFault,
    fun s =>
      let c := min (fld (s.ep.cfg.node n) 24 4) (s.node n).capShown
      let t := s.setNode n { s.node n with
        capHeld := some c, sensors := tset (s.node n).sensors k { tget (s.node n).sensors k {} with
          state := 4, faultSince := none } }
      ((t.retire (handleSub 3 n (k + 1)) 0x0831).report 4 0x0831 (handleSub 3 n (k + 1)) (res [(0, 2, n), (2, 1, k),
        (4, 2, (tget (s.node n).sensors k {}).lastValid.floor), (6, 4, (c : Int))])).drain⟩,
  ⟨.sensorRetired n k, fun s => !nTherm (s.ep.cfg.node n), fun s => s⟩,
  ⟨.grantExceeded o, fun s => s.outFitted o && decide ((s.output o).safe = 0 ∧ (s.allowance o).2.2.1 < ((s.output o).amps : Rat)) &&
      !(s.output o).fixed.contains 3 && s.past (s.output o).outside (1000 * s.cfgD 2 20 4 20),
    fun s => outputFault o 0x0A30 false (judge (addFixed [o] 3 (s.event 4 0x0A30 (res [(0, 1, o), (4, 4, (s.allowance o).2.2.2),
      (8, 4, (s.output o).amps), (12, 4, (s.allowance o).2.2.1.floor)]))))⟩,
  ⟨.grantExceeded o, fun s => decide ((s.output o).safe ≠ 0), fun s => s⟩]

/-! ### The phase array (chapter 06) -/

/-- The host commands of the phase array where they have their effect, and where they are turned away (Table 6-10, R150,
R164, R167, R173, R175, R176). -/
def phaseCases : List Case := [
  ⟨.podStatus, line 0x0600 .R [5] 0 0, fun _ _ => true, fun q s => .done 0 (res [(0, 1, (s.pod q.idx).state),
    (1, 1, (((upTo 6).filter fun k => (s.activePhases q.idx).contains (6 * q.idx + k)).foldl (fun a k => a + 2 ^ k) 0 : Nat)),
    (2, 1, s.upd q.idx), (3, 1, (s.pod q.idx).lastSource), (4, 2, (s.pod q.idx).period), (6, 4, (s.pod q.idx).maxon),
    (10, 4, (s.pod q.idx).ref), (14, 1, (s.pod q.idx).lastTag), (15, 1, bit (decide (16 ≤ (s.pod q.idx).goodEdges))
      + 2 * bit ((podPhases q.idx).any fun k => decide ((s.phase k).state = 1 ∨ (s.phase k).state = 2))
      + 4 * bit (s.pod q.idx).reverse + 8 * bit (s.pod q.idx).signHold)]) s⟩,
  ⟨.phaseStatus, line 0x0601 .R [6] 0 1, fun q _ => !(q.word 0).getLsbD 0, fun q s => .done 0
    (res [(0, 1, (s.phase q.idx).state), (1, 1, (s.phase q.idx).level), (2, 2, (s.phase q.idx).code),
      (4, 4, (s.phase q.idx).compEnds), (8, 4, (s.phase q.idx).maxonEnds), (12, 4, (s.phase q.idx).blankEnds)]) s⟩,
  ⟨.phaseStatus, line 0x0601 .R [6] 0 1, fun q _ => (q.word 0).getLsbD 0, fun q s => .done 0
    (res [(0, 1, (s.phase q.idx).state), (1, 1, (s.phase q.idx).level), (2, 2, (s.phase q.idx).code),
      (4, 4, (s.phase q.idx).compEnds), (8, 4, (s.phase q.idx).maxonEnds), (12, 4, (s.phase q.idx).blankEnds)])
    (s.setPhase q.idx { s.phase q.idx with compEnds := 0, maxonEnds := 0, blankEnds := 0 })⟩,
  ⟨.podEnable, line 0x0602 .A [5] 0 0, fun q s => s.podFitted q.idx && s.podPower q.idx && decide ((s.pod q.idx).state = 0) &&
      !s.podHeld q.idx && decide (s.power.state ≠ 1) && !s.isl.podStop.getLsbD q.idx,
    fun q s => .done 0 0 (s.setPod q.idx { s.pod q.idx with
      state := 1, period := s.paFld q.idx 0 2, maxon := s.paFld q.idx 4 4, ref := 0, pendP := false, pendM := false,
      pendR := false, ramp := none, signHold := false, reverse := false, below := 0, above := 0, restoreDue := false,
      goodEdges := 0, missing := 0, correction := 0, sinceEdge := 0, edgeSeen := false, syncLost := false, frozen := false,
      counter := s.paFld q.idx 8 2 * s.paFld q.idx 0 2 / 65536, stop := s.paFld q.idx 0 2,
      posPeriod := s.paFld q.idx 0 2 })⟩,
  ⟨.podEnable, line 0x0602 .A [5] 0 0, fun q s => s.podFitted q.idx && s.podPower q.idx && decide ((s.pod q.idx).state = 0) &&
      !s.podHeld q.idx && decide (s.power.state = 1) && !(podRun q.idx (powerTo 0 4 0 s)).isl.podStop.getLsbD q.idx,
    fun q s => .done 0 0 (podRun q.idx (powerTo 0 4 0 s))⟩,
  ⟨.podEnable, line 0x0602 .A [5] 0 0, fun q s => s.podFitted q.idx && decide ((s.pod q.idx).state = 0) && !s.podPower q.idx,
    fun _ s => .done 0x0301 0 s⟩,
  ⟨.podEnable, line 0x0602 .A [5] 0 0, fun q s => decide ((s.pod q.idx).state = 4), fun _ s => .done 0x0303 0 s⟩,
  ⟨.podEnable, line 0x0602 .A [5] 0 0, fun q s => decide ((s.pod q.idx).state = 2 ∨ (s.pod q.idx).state = 3),
    fun _ s => .done 0x0301 0 s⟩,
  ⟨.podEnable, line 0x0602 .A [5] 0 0, fun q s => s.podFitted q.idx && s.podPower q.idx && decide ((s.pod q.idx).state = 1) &&
      !s.podHeld q.idx,
    fun _ s => .done 0x0001 0 s⟩,
  ⟨.podDisable, line 0x0603 .A [5] 0 1, fun q s => decide (q.w 0 = 1 ∧ (s.pod q.idx).state = 1),
    fun q s => .done 0 0 (gatesLow q.idx (s.setPod q.idx { s.pod q.idx with
      state := 0, pendP := false, pendM := false, pendR := false, refDue := none, ramp := none, signHold := false,
      below := 0, above := 0, restoreDue := false, frozen := false }))⟩,
  ⟨.podDisable, line 0x0603 .A [5] 0 1, fun q s => decide (q.w 0 = 0 ∧ (s.pod q.idx).state = 1 ∧ (s.pod q.idx).ramp = none),
    fun q s => .done 0 0 (s.setPod q.idx { s.pod q.idx with ramp := some ((s.pod q.idx).ref, 0) })⟩,
  ⟨.podDisable, line 0x0603 .A [5] 0 1, fun q s => decide (q.w 0 ≤ 1 ∧ (s.pod q.idx).state = 0), fun _ s => .done 0x0001 0 s⟩,
  ⟨.podShadow, line 0x0604 .A [5] 2 5, fun q s => decide (q.word 0 = 4 ∧ (s.pod q.idx).state ≠ 4) && !s.podLooped q.idx &&
      !s.shadowBad q,
    fun q s => .done 0 0 (s.setPod q.idx { s.pod q.idx with shRef := q.i 4, pendR := true, tagR := q.w 1 % 256 })⟩,
  ⟨.podShadow, line 0x0604 .A [5] 2 5, fun q s => decide (q.word 0 = 3 ∧ 1500 ≤ q.w 2 ∧ q.w 2 ≤ 15000 ∧
      s.paFld q.idx 12 2 + s.paFld q.idx 14 2 + q.w 3 ≤ 16 * q.w 2 ∧ (s.pod q.idx).state ≠ 4) && !s.podLooped q.idx,
    fun q s => .done 0 0 (s.setPod q.idx { s.pod q.idx with
      shPeriod := q.w 2, pendP := true, tagP := q.w 1 % 256, shMaxon := q.w 3, pendM := true, tagM := q.w 1 % 256 })⟩,
  ⟨.podShadow, line 0x0604 .A [5] 2 5, fun q _ => decide (q.w 0 = 0 ∨ 7 < q.w 0), fun _ s => .done 0x0108 0 s⟩,
  ⟨.podShadow, line 0x0604 .A [5] 2 5, fun q s => decide (q.word 0 = 4 ∧ (s.pod q.idx).state ≠ 4) && s.podLooped q.idx &&
      !s.shadowBad q,
    fun _ s => .done 0x0301 0 s⟩,
  ⟨.tripClear, line 0x0605 .A [5] 0 0, fun q s => decide ((s.pod q.idx).state = 2) && s.tripGone q.idx,
    fun q s => .done 0 (res [(0, 1, (s.pod q.idx).tripSource)]) (overL (podPhases q.idx) (fun k t =>
      if (t.phase k).state = 4 then t.setPhase k { t.phase k with state := 0, level := 32 } else t)
      (s.setPod q.idx { s.pod q.idx with state := 0, sources := [], tripSource := 0, tripIndex := 0 }))⟩,
  ⟨.tripClear, line 0x0605 .A [5] 0 0, fun q s => decide ((s.pod q.idx).state = 2) && !s.tripGone q.idx,
    fun _ s => .done 0x0341 0 s⟩,
  ⟨.tripClear, line 0x0605 .A [5] 0 0, fun q s => decide ((s.pod q.idx).state = 0 ∨ (s.pod q.idx).state = 1),
    fun _ s => .done 0x0001 0 s⟩,
  ⟨.pwmHaltEnable, line 0x0606 .C [5] 1 1, fun q s => decide (q.w 0 ≤ 1 ∧ (s.mtx q.idx).assigned = none ∧
      (∀ o ∈ (s.mtx q.idx).fed, s.outClosed o = false)) && s.isl.maintenance,
    fun q s => .done 0 0 ((s.setPod q.idx { s.pod q.idx with haltEnable := decide (q.w 0 = 1) }).note 12 (handle 5 q.idx)
      [BitVec.ofNat 8 (q.w 0)])⟩,
  ⟨.pwmHaltEnable, line 0x0606 .C [5] 1 1, fun q s => decide (q.w 0 ≤ 1) && !s.isl.maintenance, fun _ s => .done 0x0301 0 s⟩,
  ⟨.podCounters, line 0x0607 .R [5] 0 1, fun q _ => !(q.word 0).getLsbD 0, fun q s => .done 0
    (res [(0, 4, (s.pod q.idx).splits), (4, 4, (s.pod q.idx).trips), (8, 4, (s.pod q.idx).syncs),
      (12, 4, (s.pod q.idx).clamps)]) s⟩,
  ⟨.podCounters, line 0x0607 .R [5] 0 1, fun q _ => (q.word 0).getLsbD 0, fun q s => .done 0
    (res [(0, 4, (s.pod q.idx).splits), (4, 4, (s.pod q.idx).trips), (8, 4, (s.pod q.idx).syncs),
      (12, 4, (s.pod q.idx).clamps)])
    (s.setPod q.idx { s.pod q.idx with splits := 0, trips := 0, syncs := 0, clamps := 0 })⟩]

/-- The events of the phase array where they have their effect (R151 to R154, R157 to R160, R163, R167 to R172). -/
noncomputable def phaseEvents (k p counter clocks index : Nat) (sensed : Int) (halt : Bool) : List Event := [
  ⟨.phaseTurnOn k counter, fun s => s.phaseRuns k && s.turnsOn k counter &&
      decide ((s.phaseCode k).1 ≤ (s.phFld k 10 2 : Int)),
    fun s => gates k true false ((advance (podOf k) (counter / 16) s).setPhase k
      { (advance (podOf k) (counter / 16) s).phase k with
        on := true, blanking := true, code := (s.phaseCode k).2,
        onAt := ((counter + s.paFld (podOf k) 12 2 : Nat) : Int) })⟩,
  ⟨.phaseTurnOn k counter, fun s => !s.phaseRuns k || !s.turnsOn k counter, fun s => s⟩,
  ⟨.comparatorTurnOff k sensed clocks, fun s => (s.phase k).on && !(s.phase k).blanking && s.reaches k clocks sensed,
    fun s => gates k false true (s.setPhase k { s.phase k with
      on := false, blanking := false, compEnds := bump32 (s.phase k).compEnds, blankRun := 0 })⟩,
  ⟨.comparatorTurnOff k sensed clocks, fun s => (s.phase k).blanking || !s.reaches k clocks sensed, fun s => s⟩,
  ⟨.maxonEnd k, fun s => (s.phase k).on && !(s.pod (podOf k)).frozen,
    fun s => gates k false true (s.setPhase k { s.phase k with
      on := false, blanking := false, maxonEnds := bump32 (s.phase k).maxonEnds, blankRun := 0 })⟩,
  ⟨.blankingEnd k sensed, fun s => (s.phase k).on && (s.phase k).blanking &&
      !s.reaches k (16 * s.paFld (podOf k) 10 2) sensed,
    fun s => s.setPhase k { s.phase k with blanking := false }⟩,
  ⟨.blankingEnd k sensed, fun s => (s.phase k).on && (s.phase k).blanking &&
      s.reaches k (16 * s.paFld (podOf k) 10 2) sensed && decide ((s.phase k).blankRun < 15),
    fun s => gates k false true (s.setPhase k { s.phase k with
      on := false, blanking := false, blankEnds := bump32 (s.phase k).blankEnds, blankRun := (s.phase k).blankRun + 1 })⟩,
  ⟨.podTrip p 1 index true clocks, fun s => s.podPower p && decide (s.paFld p 18 2 ≤ clocks),
      fun s => tripPod p 1 0 (s.setPod p { s.pod p with podTripLow := true })⟩,
  ⟨.podTrip p 1 index true clocks, fun s => decide (clocks < s.paFld p 18 2), fun s => s⟩,
  ⟨.podTrip p 1 index false clocks, fun _ => true, fun s => s.setPod p { s.pod p with podTripLow := false }⟩,
  ⟨.podTrip p 2 index true clocks, fun s => s.podPower p && decide (s.paFld p 18 2 ≤ clocks ∧ index < 4) &&
      tst (fld (s.blk 4) index 1) p,
    fun s => tripPod p 2 index (s.setPod p { s.pod p with gtripLow := (s.pod p).gtripLow.filter (· ≠ index) ++ [index] })⟩,
  ⟨.syncInEdge p counter clocks, fun s => tst (s.paFld p 2 1) 3 && decide ((s.pod p).state = 1) &&
      !(s.pod p).spaced (fld (s.blk 4) 5 1) clocks,
    fun s => s.setPod p { s.pod p with missing := bump32 (s.pod p).missing, goodEdges := 0, sinceEdge := 0 }⟩,
  ⟨.syncInEdge p counter clocks, fun s => tst (s.paFld p 2 1) 3 && decide ((s.pod p).state = 1) &&
      (s.pod p).spaced (fld (s.blk 4) 5 1) clocks &&
      decide (syncError (s.paFld p 8 2 * (s.pod p).period / 65536 + 3) counter (s.pod p).period = 0),
    fun s => s.setPod p { s.pod p with
      goodEdges := min 16 ((s.pod p).goodEdges + 1), missing := 0, correction := 0, syncLost := false, sinceEdge := 0,
      edgeSeen := true }⟩,
  ⟨.syncLost p, fun s => tst (s.paFld p 2 1) 3 && decide ((s.pod p).state = 1 ∧ fld (s.blk 4) 8 1 ≤ (s.pod p).missing) &&
      !(s.pod p).syncLost,
    fun s => (s.setPod p { s.pod p with syncLost := true, goodEdges := 0, correction := 0 }).event 6 0x0842
        (res [(0, 1, p), (4, 4, (s.pod p).missing)])⟩,
  ⟨.phaseShed p, fun s => tst (s.paFld p 2 1) 2 && decide ((s.pod p).state = 1 ∧ s.paFld p 28 2 ≤ (s.pod p).below ∧
      s.paFld p 3 1 < (s.activePhases p).length) && decide ((s.activePhases p).getLast? = some k),
    fun s => (s.setPhase k { s.phase k with state := 1, level := 31 }).setPod p { s.pod p with below := 0 }⟩,
  ⟨.phaseRestore p, fun s => tst (s.paFld p 2 1) 2 && decide ((s.pod p).state = 1 ∧ 1 ≤ (s.pod p).above) &&
      decide ((podPhases p).find? (fun k => decide ((s.phase k).state = 2)) = some k),
    fun s => (s.setPhase k { s.phase k with state := 3, level := 4 }).setPod p { s.pod p with below := 0, above := 0 }⟩,
  ⟨.signHoldEnd p, fun s => (s.pod p).signHold && decide ((s.pod p).holdLeft = 0 ∧ (s.pod p).state = 1),
    fun s => s.setPod p { s.pod p with signHold := false, reverse := decide ((s.pod p).ref < 0) }⟩,
  ⟨.podDisableRampEnd p, fun s => match (s.pod p).ramp with
      | none => false
      | some r => decide (32 ≤ r.2), fun s => podOff p s⟩,
  ⟨.debugHalt halt, fun _ => true, fun s => overL (upTo 8) (haltPod halt) { s with boot := { s.boot with halted := halt } }⟩,
  ⟨.reloadPoint p clocks 0, fun s => decide ((s.pod p).state = 1) && (periodEnd p s).reloads p 0,
    fun s => periodZero p (reload p clocks true (periodEnd p s))⟩,
  ⟨.reloadPoint p clocks 0, fun s => decide ((s.pod p).state = 1) && !(periodEnd p s).reloads p 0,
    fun s => periodZero p (periodEnd p s)⟩,
  ⟨.reloadPoint p clocks counter, fun s => decide ((s.pod p).state = 1 ∧ 0 < counter ∧
      (s.pod p).counter ≤ counter ∧ counter < (s.pod p).stop) && (advance p counter s).reloads p counter,
    fun s => reload p clocks false (advance p counter s)⟩,
  ⟨.reloadPoint p clocks counter, fun s => decide ((s.pod p).state = 1 ∧ 0 < counter ∧
      (s.pod p).counter ≤ counter ∧ counter < (s.pod p).stop) && !(advance p counter s).reloads p counter,
    fun s => advance p counter s⟩,
  ⟨.reloadPoint p clocks counter, fun s => decide ((s.pod p).state ≠ 1), fun s => reload p clocks false s⟩,
  ⟨.q39ReferenceEntry, fun s =>
      decide (((postWaiting s).take 39).1 = some [0, (p : Int), (index : Int), sensed, 0, (clocks : Int)] ∧
        ((postWaiting s).take 39).2.cal.period ≤ clocks),
    fun s => stallOver s (((postWaiting s).take 39).2.setPod p { ((postWaiting s).take 39).2.pod p with
      shRef := sensed, pendR := true, tagR := index })⟩,
  ⟨.q39ReferenceEntry, fun s =>
      decide (((postWaiting s).take 39).1 = some [3, (p : Int), (index : Int), (counter : Int), (k : Int), (clocks : Int)] ∧
        ((postWaiting s).take 39).2.cal.period ≤ clocks),
    fun s => stallOver s (((postWaiting s).take 39).2.setPod p { ((postWaiting s).take 39).2.pod p with
      shPeriod := counter, pendP := true, tagP := index, shMaxon := k, pendM := true, tagM := index })⟩,
  ⟨.q39ReferenceEntry, fun s =>
      decide (((postWaiting s).take 39).1 = some [0, (p : Int), (index : Int), sensed, 0, (clocks : Int)] ∧
        clocks < ((postWaiting s).take 39).2.cal.period),
    fun s => stallOver s ((postWaiting s).take 39).2⟩]

/-! ### Outputs and pods (chapter 07) -/

/-- The host commands of the outputs where they have their effect, and where they are turned away (Table 7-10, R183,
R185, R187, R188, R196). -/
def outputCases : List Case := [
  ⟨.outputStatus, line 0x0500 .R [4] 0 0, fun q s => decide ((s.output q.idx).state = 3) && s.outFitted q.idx,
    fun q s => .done 0 (res [(0, 1, 3), (1, 1, maskOf (s.podsOf q.idx)), (2, 1, (s.output q.idx).retries),
      (3, 1, bit (decide ((s.output q.idx).control = 1)) + 2 * bit (decide ((s.output q.idx).control = 2))
        + 4 * bit (s.outReverse q.idx) + 8 * bit (s.auxPos q.idx) + 16 * bit (s.auxNeg q.idx)),
      (4, 2, (s.output q.idx).volts), (6, 2, (s.output q.idx).busV), (8, 4, (s.output q.idx).amps),
      (12, 4, s.outGrant q.idx)]) s⟩,
  ⟨.outputStart, line 0x0501 .A [4] 2 3, fun q s => outParams q && decide (s.outCtrl q.idx = 2 ∧ (s.output q.idx).state ≠ 6) &&
      decide (s.liveOn 0x0501 q.hnd = []) && decide (s.startRefused q.idx = none) && decide (s.recFree ≠ 0) &&
      s.closeReadyOut q.idx,
    fun q s => .done 0 0 (closeRequest q.idx (startRecord q.idx (outTargets q.idx (q.w 0) (q.i 1) (q.w 2) s)))⟩,
  ⟨.outputStart, line 0x0501 .A [4] 2 3, fun q s => outParams q && decide (s.outCtrl q.idx = 2 ∧ (s.output q.idx).state ≠ 6) &&
      decide (s.liveOn 0x0501 q.hnd = []) && decide (s.startRefused q.idx = none) && decide (s.recFree ≠ 0) &&
      !s.closeReadyOut q.idx, fun _ s => .live false [] s⟩,
  ⟨.outputStart, line 0x0501 .A [4] 2 3, fun q _ => !outParams q, fun _ s => .done 0x0108 0 s⟩,
  ⟨.outputStart, line 0x0501 .A [4] 2 3, fun q s => outParams q && decide (s.outCtrl q.idx = 2 ∧ (s.output q.idx).state = 6),
    fun _ s => .done 0x0303 0 s⟩,
  ⟨.outputStart, line 0x0501 .A [4] 2 3, fun q s => outParams q && decide (s.outCtrl q.idx ≠ 2),
    fun _ s => .done 0x0301 0 s⟩,
  ⟨.outputSet, line 0x0502 .A [4] 2 3, fun q s => outParams q && decide (s.outCtrl q.idx = 2 ∧ (s.output q.idx).state = 3),
    fun q s => .done 0 0 (regulate q.idx (s.setOutput q.idx { s.output q.idx with
      vReq := q.w 0, iReq := q.i 1, vMin := q.w 2 }))⟩,
  ⟨.outputSet, line 0x0502 .A [4] 2 3, fun q s => outParams q && decide ((s.output q.idx).state ≠ 3 ∧ (s.output q.idx).state ≠ 6),
    fun _ s => .done 0x0301 0 s⟩,
  ⟨.outputStop, line 0x0503 .A [4] 0 0, fun q s => decide (s.outCtrl q.idx = 2 ∧ ((s.output q.idx).state = 1 ∨
      (s.output q.idx).state = 2 ∨ (s.output q.idx).state = 3)), fun q s => .done 0 0 (outputStop q.idx s)⟩,
  ⟨.outputStop, line 0x0503 .A [4] 0 0, fun q s => decide (s.outCtrl q.idx = 2 ∧ ((s.output q.idx).state = 0 ∨
      (s.output q.idx).state = 4)), fun _ s => .done 0x0001 0 s⟩,
  ⟨.podAssign, { line 0x0504 .A [5] 1 1 with ownOk := assignOwn }, fun q s => decide (q.w 0 = 0xFF ∧ (s.pod q.idx).state ≠ 4 ∧
      fld (s.blk 5) 14 1 ≠ 1 ∧ (s.mtx q.idx).step = 0 ∧ (s.mtx q.idx).assigned ≠ none) && !s.epochTouchesPods q.idx &&
      !s.podHeld q.idx && !s.pairStuck q.idx, fun q s => .live true [] (startReassign q.idx none s)⟩,
  ⟨.podAssign, { line 0x0504 .A [5] 1 1 with ownOk := assignOwn }, fun q s => decide (q.w 0 = 0xFF ∧ (s.pod q.idx).state ≠ 4 ∧
      fld (s.blk 5) 14 1 ≠ 1 ∧ (s.mtx q.idx).step ≠ 0) && !s.pairStuck q.idx, fun _ s => .done 0x0350 0 s⟩,
  ⟨.podAssign, { line 0x0504 .A [5] 1 1 with ownOk := assignOwn }, fun q s => decide (q.w 0 = 0xFF ∧ (s.pod q.idx).state ≠ 4 ∧
      fld (s.blk 5) 14 1 ≠ 1) && s.pairStuck q.idx, fun _ s => .done 0x0303 0 s⟩,
  ⟨.podAssign, { line 0x0504 .A [5] 1 1 with ownOk := assignOwn }, fun q s => decide (q.w 0 = 0xFF ∧ (s.pod q.idx).state ≠ 4 ∧
      fld (s.blk 5) 14 1 = 1), fun _ s => .done 0x0301 0 s⟩,
  ⟨.podAssign, { line 0x0504 .A [5] 1 1 with ownOk := assignOwn }, fun q s => decide (q.w 0 ≤ 15 ∧ (s.pod q.idx).state ≠ 4 ∧
      fld (s.blk 5) 14 1 ≠ 1) && !tst (s.podFld q.idx 8 2) (q.w 0), fun _ s => .done 0x0351 0 s⟩,
  ⟨.matrixStatus, line 0x0505 .R [5] 0 0, fun q s => !(s.mtx q.idx).unknown, fun q s => .done 0
    (res [(0, 1, ((s.mtx q.idx).assigned.getD 0xFF : Nat)), (1, 1, (s.mtx q.idx).step), (2, 2, (s.mtx q.idx).closed.toNat),
      (4, 2, (s.mtx q.idx).dv), (6, 4, (s.mtx q.idx).current),
      (10, 1, bit (decide ((s.fnode (s.podFld q.idx 6 2)).state = 1)) + 2 * bit (s.mtx q.idx).disagree)]) s⟩,
  ⟨.outputCounters, line 0x0506 .R [4] 0 1, fun q _ => !(q.word 0).getLsbD 0, fun q s => .done 0
    (res [(0, 4, (s.output q.idx).shorts), (4, 4, (s.output q.idx).retryCount), (8, 4, (s.output q.idx).operations),
      (12, 4, (s.output q.idx).podsIn)]) s⟩,
  ⟨.outputCounters, line 0x0506 .R [4] 0 1, fun q _ => (q.word 0).getLsbD 0, fun q s => .done 0
    (res [(0, 4, (s.output q.idx).shorts), (4, 4, (s.output q.idx).retryCount), (8, 4, (s.output q.idx).operations),
      (12, 4, (s.output q.idx).podsIn)])
    (s.setOutput q.idx { s.output q.idx with shorts := 0, retryCount := 0, operations := 0, podsIn := 0 })⟩]

/-- A retry (R193, R446): the output is in CLOSING again, counted, and the trips of its pods whose sources have gone are
cleared. -/
def retried (o : Nat) (s : State) : State :=
  let t := (s.attemptContext (handle 4 o)).setOutput o { s.output o with
    state := 1, openedAt := none, retries := (s.output o).retries + 1, retryCount := bump32 (s.output o).retryCount }
  overL (t.podsOf o) (fun p u => if u.tripGone p then tripClearOf p u else u) t

/-- A reply of port A counts as a frame of its port (R179, R356). -/
def heardA (r : PodReply) (s : State) : State :=
  countHeard (s.podFld r.pod 6 2 / 32) (nodeIdent 1 2 (s.podFld r.pod 6 2 % 32)) 32 s

/-- A reply of port A is kept with the poll of its SEQ, and as the newest of its port (R179). -/
def keptA (r : PodReply) (s : State) : State :=
  s.setMtx r.pod { s.mtx r.pod with
    polls := (s.mtx r.pod).polls.map fun x => if x.seq = r.seq then
        (((s.mtx r.pod).polls.find? fun q => decide (q.seq = r.seq)).map fun q => { q with a := some r }).getD x else x,
    replyA := some (r, s.now), closedA := r.closed, silentA := false }

/-- The events of the outputs and of pod reassignment where they have their effect (R183, R184, R186 to R194). -/
noncomputable def outputEvents (o p k : Nat) (r : PodReply) : List Event := [
  ⟨.contactorCloseRequest o, fun s => s.closeReadyOut o && decide ((s.output o).state = 1) && !(s.output o).commanded,
    fun s => closeRequest o s⟩,
  ⟨.contactorCloseRequest o, fun s => !s.closeReadyOut o, fun s => s⟩,
  ⟨.contactorTimeout o, fun s => match (s.output o).contactWait with
      | none => false
      | some w => s.after w.1 (1000 * s.outFld o 26 2) && w.2 && s.auxPos o && s.auxNeg o,
    fun s => contactsSettled o s⟩,
  ⟨.contactorTimeout o, fun s => match (s.output o).contactWait with
      | none => false
      | some w => s.after w.1 (1000 * s.outFld o 26 2) && !w.2 && !s.auxPos o && !s.auxNeg o,
    fun s => contactsSettled o s⟩,
  ⟨.contactorTimeout o, fun s => match (s.output o).contactWait with
      | none => false
      | some w => s.after w.1 (1000 * s.outFld o 26 2) && w.2 && !s.auxPos o,
    fun s => outputFault o 0x0852 false ((s.event 5 0x0852 (res [(0, 1, o), (1, 1, 0)])).setOutput o
      { (s.event 5 0x0852 (res [(0, 1, o), (1, 1, 0)])).output o with contactWait := none })⟩,
  ⟨.contactorTimeout o, fun s => match (s.output o).contactWait with
      | none => false
      | some w => s.after w.1 (1000 * s.outFld o 26 2) && w.2 && s.auxPos o && !s.auxNeg o,
    fun s => outputFault o 0x0852 false ((s.event 5 0x0852 (res [(0, 1, o), (1, 1, 1)])).setOutput o
      { (s.event 5 0x0852 (res [(0, 1, o), (1, 1, 1)])).output o with contactWait := none })⟩,
  ⟨.contactorTimeout o, fun s => match (s.output o).contactWait with
      | none => false
      | some w => s.after w.1 (1000 * s.outFld o 26 2) && !w.2 && s.auxPos o,
    fun s => outputFault o 0x0851 true ((s.event 5 0x0851 (res [(0, 1, o), (1, 1, 0)])).setOutput o
      { (s.event 5 0x0851 (res [(0, 1, o), (1, 1, 0)])).output o with contactWait := none, welded := some 0 })⟩,
  ⟨.contactorTimeout o, fun s => match (s.output o).contactWait with
      | none => false
      | some w => s.after w.1 (1000 * s.outFld o 26 2) && !w.2 && !s.auxPos o && s.auxNeg o,
    fun s => outputFault o 0x0851 true ((s.event 5 0x0851 (res [(0, 1, o), (1, 1, 1)])).setOutput o
      { (s.event 5 0x0851 (res [(0, 1, o), (1, 1, 1)])).output o with contactWait := none, welded := some 1 })⟩,
  ⟨.softStartDone o, fun s => decide ((s.output o).state = 2) && s.past (s.output o).inBand 1000,
    fun s => regulate o ((s.setOutput o { s.output o with state := 3, inBand := none, shortSince := none }).freeContext
      (handle 4 o))⟩,
  ⟨.outputShort o, fun s => match (s.output o).shortSince with
      | none => false
      | some t => decide ((s.output o).state = 2 ∧ s.shortAt o ≤ s.now ∧ t ≤ s.shortAt o),
    fun s => outputFault o 0x0853 false ((s.setOutput o { s.output o with shorts := bump32 (s.output o).shorts }).event 5 0x0853
      (res [(0, 1, o), (1, 1, (s.output o).retries + 1), (4, 4, (s.output o).volts), (8, 4, (s.output o).amps)]))⟩,
  ⟨.stopRampEnd o, fun s => match (s.output o).stopRamp with
      | none => false
      | some t => decide ((s.output o).state = 4) && s.after t.1 50000,
    fun s => contactsSettled o (tryOpen o (outMeetsReassign o false (outSlotsOff o (outPodsOff o (s.setOutput o { s.output o with
      stopRamp := none, iLim := 0 })))))⟩,
  ⟨.outputRetry o, fun s => (match s.contextOf (handle 4 o) with
      | none => false
      | some c => match c.due with
        | none => false
        | some t => decide ((s.output o).state = 5 ∧ c.phase = 1 ∧ t ≤ s.now)) && decide ((retried o s).outCtrl o ≠ 1) &&
      (retried o s).closeReadyOut o,
    fun s => closeRequest o (retried o s)⟩,
  ⟨.outputRetry o, fun s => (match s.contextOf (handle 4 o) with
      | none => false
      | some c => match c.due with
        | none => false
        | some t => decide ((s.output o).state = 5 ∧ c.phase = 1 ∧ t ≤ s.now)) && decide ((retried o s).outCtrl o ≠ 1) &&
      !(retried o s).closeReadyOut o,
    fun s => retried o s⟩,
  ⟨.podPoll p, fun s => s.podFitted p && decide ((s.mtx p).step = 2) &&
      (s.mtx p).polls.all (fun q => !s.after q.sent (s.swAnswer q.sent)),
    fun s => s.podCmd p 0 ((s.mtx p).old.getD 0)⟩,
  ⟨.podPoll p, fun s => s.podFitted p && decide ((s.mtx p).step = 4) &&
      (s.mtx p).polls.all (fun q => !s.after q.sent (s.swAnswer q.sent)),
    fun s => s.podCmd p 0 ((s.mtx p).target.getD 0)⟩,
  ⟨.podReply r, fun s => !r.portB && !s.carries (s.podFld r.pod 6 2 / 32) (s.podFld r.pod 6 2), fun s => s⟩,
  ⟨.podReply r, fun s => !r.portB && s.carries (s.podFld r.pod 6 2 / 32) (s.podFld r.pod 6 2) &&
      (((heardA r s).mtx r.pod).polls.find? fun q => decide (q.seq = r.seq)).isNone, fun s => heardA r s⟩,
  ⟨.podReply r, fun s => !r.portB && s.carries (s.podFld r.pod 6 2 / 32) (s.podFld r.pod 6 2) &&
      decide (((heardA r s).fnode (s.podFld r.pod 6 2)).state = 1) &&
      (match ((heardA r s).mtx r.pod).polls.find? fun q => decide (q.seq = r.seq) with
        | none => false
        | some q => decide (q.b.map PodReply.closed = some r.closed) && !(heardA r s).after q.sent ((heardA r s).swAnswer q.sent)),
    fun s => match ((heardA r s).mtx r.pod).polls.find? fun q => decide (q.seq = r.seq) with
      | none => s
      | some q => acceptPoll r.pod { q with a := some r } (noteDv r.pod r (keptA r (heardA r s)))⟩,
  ⟨.reassignRampOutDone p, fun s => (s.mtx p).ramping && decide ((s.mtx p).step = 1) &&
      s.after (s.mtx p).stepTime (1000 * fld (s.blk 5) 4 2), fun s => enterStep2 p (podOff p s)⟩,
  ⟨.swAnswerTimeout p, fun s => decide ((s.mtx p).step = 2) && s.after (s.mtx p).stepTime (s.swAnswer (s.mtx p).stepTime) &&
      (s.mtx p).polls.all (fun q => !s.after q.sent (s.swAnswer q.sent)),
    fun s => rejoin p 0x0855 s⟩,
  ⟨.matchTimeout p, fun s => decide ((s.mtx p).step = 4) && s.after (s.mtx p).stepTime (s.matchTmo (s.mtx p).stepTime),
    fun s => endReassign p 0x0452 (unassign p s)⟩,
  ⟨.switchTimeout p, fun s => decide ((s.mtx p).step = 3 ∧ (s.mtx p).assigned = none) &&
      s.after (s.mtx p).stepTime (1000 * s.outFld ((s.mtx p).target.getD 0) 26 2),
    fun s => endReassign p 0x0453 (s.setMtx p { s.mtx p with verified := false, openSent := false })⟩,
  ⟨.switchTimeout p, fun s => decide ((s.mtx p).step = 3 ∧ (s.mtx p).assigned = some k ∧ tget (s.mtx p).openFails k 0 < 2) &&
      s.after (s.mtx p).stepTime (1000 * s.outFld k 26 2),
    fun s => rejoin p 0x0453 (s.setMtx p { s.mtx p with
      openFails := tset (s.mtx p).openFails k (tget (s.mtx p).openFails k 0 + 1) })⟩,
  ⟨.reassignRampInDone p, fun s => decide ((s.mtx p).step = 6) && s.after (s.mtx p).stepTime (1000 * fld (s.blk 5) 6 2),
    fun s => endReassign p (s.mtx p).status s⟩]

/-! ### The loop engine and Geyser (chapter 08) -/

/-- The host commands of the loop engine and of Geyser where they have their effect, and where they are turned away
(Table 8-10, R207, R210, R211, R218 to R221). -/
def loopCases : List Case := [
  ⟨.loopStatus, line 0x0700 .R [7] 0 0, fun _ _ => true, fun q s => .done 0
    (res [(0, 1, (s.slot q.idx).mode), (1, 1, bit (s.slot q.idx).satHi + 2 * bit (s.slot q.idx).satLo
      + 4 * bit (s.slot q.idx).stopped + 8 * bit (s.slot q.idx).following.isSome + 16 * bit (s.slotDiffers q.idx)
      + 32 * bit (s.geyser.running && decide (s.geyser.slot = q.idx))),
      (2, 2, ((s.liveOn 0x0703 q.hnd).length : Nat)), (4, 4, (s.slot q.idx).sp.toNat), (8, 4, (s.slot q.idx).meas.toNat),
      (12, 4, (s.slot q.idx).out.toNat)]) s⟩,
  ⟨.loopMode, line 0x0701 .A [7] 1 3, fun q s => decide (q.w 0 ≤ 2 ∧ s.modeRefused q.idx = none), fun _ s => .live false [] s⟩,
  ⟨.loopMode, line 0x0701 .A [7] 1 3, fun q _ => decide (2 < q.w 0), fun _ s => .done 0x0108 0 s⟩,
  ⟨.loopMode, line 0x0701 .A [7] 1 3, fun q s => decide (q.w 0 ≤ 2 ∧ s.law q.idx = 0), fun _ s => .done 0x0301 0 s⟩,
  ⟨.loopSetpoint, line 0x0702 .A [7] 1 1, fun q s => decide (s.law q.idx ≠ 0 ∧ s.slFld q.idx 14 2 = 0) && !s.sequenced q.idx,
    fun _ s => .live false [] s⟩,
  ⟨.loopSetpoint, line 0x0702 .A [7] 1 1, fun q s => decide (s.law q.idx = 0) || s.sequenced q.idx, fun _ s => .done 0x0301 0 s⟩,
  ⟨.loopCoefWrite, line 0x0703 .A [7] 2 2, fun q s => decide (s.law q.idx ≠ 0 ∧ q.w 0 % 4 = 0 ∧ 20 ≤ q.w 0 ∧ q.w 0 ≤ 60 ∧
      (s.liveOn 0x0703 q.hnd).length < 16) && s.slFlag q.idx 3 && coefOk (s.slot q.idx).working (q.w 0) (q.word 1),
    fun _ s => .live false [] s⟩,
  ⟨.loopCoefWrite, line 0x0703 .A [7] 2 2, fun q s => decide (s.law q.idx ≠ 0) && !s.slFlag q.idx 3, fun _ s => .done 0x0260 0 s⟩,
  ⟨.loopCoefWrite, line 0x0703 .A [7] 2 2, fun q s => decide (s.law q.idx ≠ 0 ∧ q.w 0 % 4 ≠ 0) && s.slFlag q.idx 3,
    fun _ s => .done 0x0108 0 s⟩,
  ⟨.loopCoefRead, line 0x0704 .R [7] 1 2, fun q _ => decide (q.w 0 % 4 = 0 ∧ q.w 0 ≤ 240) && !(q.word 1).getLsbD 0,
    fun q s => .done 0 (resBytes (mbytes (s.slot q.idx).working (q.w 0) 16)) s⟩,
  ⟨.loopCoefRead, line 0x0704 .R [7] 1 2, fun q _ => decide (q.w 0 % 4 = 0 ∧ q.w 0 ≤ 240) && (q.word 1).getLsbD 0,
    fun q s => .done 0 (resBytes (mbytes (s.slotConf q.idx) (q.w 0) 16)) s⟩,
  ⟨.loopCoefRead, line 0x0704 .R [7] 1 2, fun q _ => decide (q.w 0 % 4 ≠ 0 ∨ 240 < q.w 0), fun _ s => .done 0x0108 0 s⟩,
  ⟨.loopRevert, line 0x0705 .A [7] 0 0, fun q s => decide (s.law q.idx ≠ 0), fun _ s => .live false [] s⟩,
  ⟨.loopRevert, line 0x0705 .A [7] 0 0, fun q s => decide (s.law q.idx = 0), fun _ s => .done 0x0301 0 s⟩,
  ⟨.loopConfigSet, line 0x0706 .C [7] 3 12, fun q s => overlayFits 3 (16 + 256 * q.idx) 252 q s,
    fun q s => .done 0 0 (overlayWrite 3 (16 + 256 * q.idx) q s)⟩,
  ⟨.loopCounters, line 0x0707 .R [7] 0 1, fun q _ => !(q.word 0).getLsbD 0, fun q s => .done 0
    (res [(0, 4, (s.slot q.idx).samples), (4, 4, (s.slot q.idx).skips), (8, 4, (s.slot q.idx).satCount),
      (12, 4, (s.slot q.idx).followCount)]) s⟩,
  ⟨.loopCounters, line 0x0707 .R [7] 0 1, fun q _ => (q.word 0).getLsbD 0, fun q s => .done 0
    (res [(0, 4, (s.slot q.idx).samples), (4, 4, (s.slot q.idx).skips), (8, 4, (s.slot q.idx).satCount),
      (12, 4, (s.slot q.idx).followCount)])
    (s.setSlot q.idx { s.slot q.idx with samples := 0, skips := 0, satCount := 0, followCount := 0 })⟩,
  ⟨.geyserInject, line 0x1010 .A [7] 6 6, fun q s => decide (s.law q.idx ≠ 0 ∧ s.geyserMode = 1) && injectParams q s &&
      s.slFlag q.idx 3 && s.isl.maintenance && !s.geyser.running && decide (s.liveOf 0x1010 = []) &&
      injectMode (q.w 0) (s.slot q.idx).mode, fun _ s => .live false [] s⟩,
  ⟨.geyserInject, line 0x1010 .A [7] 6 6, fun q s => decide (s.law q.idx ≠ 0 ∧ s.geyserMode = 0) && injectParams q s,
    fun _ s => .done 0x0260 0 s⟩,
  ⟨.geyserInject, line 0x1010 .A [7] 6 6, fun q s => decide (s.law q.idx = 0), fun _ s => .done 0x0301 0 s⟩,
  ⟨.geyserArm, line 0x1011 .A [0] 6 8, fun q s => decide (s.geyserMode ≠ 0 ∧ s.geyser.capture ≠ 1 ∧ s.geyser.capture ≠ 2 ∧
      armSignals q ≠ [] ∧ s.law (q.w 4 % 64) ≠ 0 ∧ q.w 5 % 16 = 0 ∧ q.w 7 ≤ 255) && (armSignals q).all signalOk,
    fun q s => .done 0 (res [(0, 4, (65536 / (armSignals q).length : Nat))]) { s with geyser := { s.geyser with
      capture := 2, signals := armSignals q, clockSlot := q.w 4 % 64, every := q.w 4 / 256 % 256 + 1, trigger := 0,
      trigArg := q.w 5 / 16 % 8, trigStatus := q.w 5 / 65536, threshold := q.word 6, preTrig := q.w 7, record := [],
      since := 0, trigIndex := 0, after := 0 } }⟩,
  ⟨.geyserArm, line 0x1011 .A [0] 6 8, fun _ s => decide (s.geyserMode = 0), fun _ s => .done 0x0260 0 s⟩,
  ⟨.geyserArm, line 0x1011 .A [0] 6 8, fun _ s => decide (s.geyserMode ≠ 0 ∧ s.geyser.capture = 2), fun _ s => .done 0x0560 0 s⟩,
  ⟨.geyserStatus, line 0x1012 .R [0] 0 0, fun _ _ => true, fun _ s => .done 0
    (res [(0, 1, bit s.geyser.running), (1, 1, s.geyser.slot), (2, 1, s.geyser.capture), (3, 1, (s.geyser.signals.length : Nat)),
      (4, 4, (s.geyser.depth : Nat)), (8, 4, s.geyser.trigIndex), (12, 4, (s.geyser.record.length : Nat))]) s⟩,
  ⟨.geyserRead, { line 0x1013 .R [0] 2 2 with loB := 6, hiB := 6 }, fun q s => decide (q.buf = none ∧ s.geyser.capture = 3 ∧
      q.w 0 < s.geyser.signals.length ∧ q.w 1 < s.geyser.record.length),
    fun q s => .done 0 (resBytes (((s.geyser.record.drop (q.w 1)).map fun x => x.getD (q.w 0) 0).flatMap wordBytes)) s⟩,
  ⟨.geyserRead, { line 0x1013 .R [0] 2 2 with loB := 6, hiB := 6 }, fun q s => q.buf.isSome && decide (s.geyser.capture = 3 ∧
      q.w 4 < s.geyser.signals.length ∧ q.w 5 < s.geyser.record.length), fun q s =>
    let part := (((s.geyser.record.drop (q.w 5)).map fun x => x.getD (q.w 4) 0).flatMap wordBytes).take
      (q.buf.getD ⟨0, 0, [], false⟩).len
    intoBuffer q part (res [(0, 4, part.length)]) s⟩,
  ⟨.geyserRead, { line 0x1013 .R [0] 2 2 with loB := 6, hiB := 6 }, fun _ s => decide (s.geyser.capture ≠ 3),
    fun _ s => .done 0x0301 0 s⟩,
  ⟨.geyserStop, line 0x1014 .A [0] 1 1, fun q s => (q.word 0).getLsbD 0 && s.geyser.running && !(q.word 0).getLsbD 1,
    fun _ s => .done 0 0 (endInjection 1 s)⟩,
  ⟨.geyserStop, line 0x1014 .A [0] 1 1, fun q s => !(q.word 0).getLsbD 0 && (q.word 0).getLsbD 1 && decide (s.geyser.capture = 2),
    fun _ s => .done 0 0 { s with geyser := { s.geyser with capture := 0 } }⟩,
  ⟨.geyserStop, line 0x1014 .A [0] 1 1, fun _ s => !s.geyser.running && decide (s.geyser.capture = 0), fun _ s => .done 0x0001 0 s⟩]

/-- The events of the loop engine and of Geyser where they have their effect (R199, R203 to R214, R220). -/
noncomputable def loopEvents (k : Nat) (codes : List (Nat × Int)) (lost : Bool) (cycles : Nat) : List Event := [
  ⟨.slotSample k codes lost cycles, fun s => !(latchMdat codes s).triggered k cycles, latchMdat codes⟩,
  ⟨.slotSample k codes lost cycles, fun s => (latchMdat codes s).triggered k cycles && decide (cycles < 3000),
    fun s =>
      let t := latchMdat codes s
      t.setSlot k { t.slot k with skips := bump32 (t.slot k).skips, zeros := 0 }⟩,
  ⟨.slotSample k codes lost cycles, fun s => (latchMdat codes s).triggered k cycles && decide (3000 ≤ cycles) &&
      !(latchMdat codes s).waitsTurn k,
    fun s =>
      let t := renew k codes (applyWrite k (applyReverts k (takeEntry k (sampleBegin k (latchMdat codes s)))))
      captureStep k (sampleRun k (t.measLost k lost) cycles (samplePending k (t.measLost k lost) t))⟩,
  ⟨.loopFollowing k, fun s => decide ((s.slot k).mode = 2 ∧ s.slotOut k = none ∧ s.slFld k 68 1 = 0) && !(s.slot k).followed &&
      s.past (s.slot k).following (1000 * s.slFld k 64 4),
    fun s => (s.setSlot k { s.slot k with
      followed := true, followCount := bump32 (s.slot k).followCount, derating := (s.slot k).satHi }).event 7 0x0460
        (res [(0, 1, k), (1, 1, 0), (4, 4, (s.slot k).err.toNat), (8, 4, (s.slot k).sp.toNat)])⟩,
  ⟨.loopFollowing k, fun s => decide ((s.slot k).mode ≠ 2) || (s.slot k).followed, fun s => s⟩,
  ⟨.loopMeasLost k, fun s => decide (s.law k ≠ 0 ∧ s.slFld k 12 2 ≠ 0 ∧ (s.slot k).mode = 2),
    fun s => fallback k (s.report 7 0x0860 (handle 7 k) (res [(0, 1, k), (2, 2, s.slFld k 12 2)]))⟩,
  ⟨.loopMeasLost k, fun s => decide (s.law k = 0 ∨ s.slFld k 12 2 = 0 ∨ (s.slot k).mode = 0 ∨ (s.slot k).mode = 3), fun s => s⟩,
  ⟨.geyserDone, fun s => s.geyser.running && decide (s.geyser.duration ≠ 0) && s.after s.geyser.start (1000 * s.geyser.duration),
    fun s => endInjection 0 s⟩,
  ⟨.geyserDone, fun s => !s.geyser.running, fun s => s⟩]

/-! ### Connector links (chapter 09) -/

/-- The host commands of the connector links where they have their effect, and where they are turned away (Table 9-9,
R236, R249). -/
def linkCases : List Case := [
  ⟨.connStatus, line 0x0C00 .R [9] 0 0, fun _ _ => true, fun q s => .done 0
    (res [(0, 1, (s.conn q.idx).link), (1, 1, (s.conn q.idx).pilot), (2, 1, s.cnMode q.idx), (3, 1, (s.conn q.idx).form),
      (4, 2, (s.conn q.idx).high), (6, 2, (s.conn q.idx).low), (8, 2, (s.conn q.idx).prox), (10, 1, (s.conn q.idx).modulation),
      (11, 1, (s.conn q.idx).atten), (12, 4, ((s.now - (s.conn q.idx).linkTime) / 1000000 : Nat))]) s⟩,
  ⟨.connPilot, line 0x0C01 .A [9] 1 2, fun q s => decide (q.w 0 ≤ 3 ∧ s.outOfConn q.idx = none) && s.isl.maintenance &&
      !s.isRetired q.hnd,
    fun q s => .done 0 (res [(0, 1, (s.conn q.idx).form)]) (applyForm q.idx (s.setConn q.idx { s.conn q.idx with maint := q.w 0 }))⟩,
  ⟨.connPilot, line 0x0C01 .A [9] 1 2, fun q s => decide (q.w 0 = 4 ∧ 30 ≤ q.w 1 ∧ q.w 1 ≤ 970 ∧ s.outOfConn q.idx = none) &&
      s.isl.maintenance && !s.isRetired q.hnd,
    fun q s => .done 0 (res [(0, 1, (s.conn q.idx).form)]) (applyForm q.idx (s.setConn q.idx { s.conn q.idx with
      maint := 4, duty := q.w 1 }))⟩,
  ⟨.connPilot, line 0x0C01 .A [9] 1 2, fun q _ => decide (4 < q.w 0), fun _ s => .done 0x0108 0 s⟩,
  ⟨.connPilot, line 0x0C01 .A [9] 1 2, fun q s => decide (q.w 0 ≤ 3) && !s.isl.maintenance && !s.isRetired q.hnd,
    fun _ s => .done 0x0301 0 s⟩,
  ⟨.connPilot, line 0x0C01 .A [9] 1 2, fun q s => decide (q.w 0 ≤ 3) && s.isRetired q.hnd, fun _ s => .done 0x0303 0 s⟩,
  ⟨.linkCounters, line 0x0C02 .R [9] 0 1, fun q _ => !(q.word 0).getLsbD 0, fun q s => .done 0
    (res [(0, 4, (s.conn q.idx).received), (4, 4, (s.conn q.idx).blanked), (8, 4, (s.conn q.idx).dropped),
      (12, 4, (s.conn q.idx).refreshes)]) s⟩,
  ⟨.linkCounters, line 0x0C02 .R [9] 0 1, fun q _ => (q.word 0).getLsbD 0, fun q s => .done 0
    (res [(0, 4, (s.conn q.idx).received), (4, 4, (s.conn q.idx).blanked), (8, 4, (s.conn q.idx).dropped),
      (12, 4, (s.conn q.idx).refreshes)])
    (s.setConn q.idx { s.conn q.idx with received := 0, blanked := 0, dropped := 0, refreshes := 0 })⟩,
  ⟨.tonemapRefresh, line 0x0C03 .A [9] 0 0, fun q s => decide (s.cnMode q.idx = 1) && s.linked q.idx && !s.isRetired q.hnd,
    fun q s => .done 0 (res [(0, 1, bit (s.conn q.idx).mapsValid)]) (startRefresh q.idx s)⟩,
  ⟨.tonemapRefresh, line 0x0C03 .A [9] 0 0, fun q s => !s.linked q.idx && !s.isRetired q.hnd, fun _ s => .done 0x0301 0 s⟩,
  ⟨.slacRead, line 0x0C04 .R [9] 0 0, fun _ _ => true, fun q s => .done 0
    (res [(0, 1, (s.conn q.idx).outcome), (1, 1, (s.conn q.idx).failures), (2, 2, (s.conn q.idx).answeredMask.toNat),
      (4, 1, (s.conn q.idx).atten), (5, 1, (s.conn q.idx).toggles), (8, 8, (s.conn q.idx).runId.toNat)]) s⟩,
  ⟨.noiseRead, line 0x0C05 .R [9] 0 1, fun q _ => !(q.word 0).getLsbD 0, fun q s => .done 0
    (res [(0, 2, (s.conn q.idx).rms), (2, 2, (fld (s.blk 8) 2 2 * (s.conn q.idx).rms / 16 : Nat)),
      (4, 2, (s.conn q.idx).lastBlank), (6, 2, (s.conn q.idx).maxBlank), (8, 4, (s.conn q.idx).blankFrames),
      (12, 4, ((s.conn q.idx).blankSamples / 1000 : Nat))]) s⟩,
  ⟨.noiseRead, line 0x0C05 .R [9] 0 1, fun q _ => (q.word 0).getLsbD 0, fun q s => .done 0
    (res [(0, 2, (s.conn q.idx).rms), (2, 2, (fld (s.blk 8) 2 2 * (s.conn q.idx).rms / 16 : Nat)),
      (4, 2, (s.conn q.idx).lastBlank), (6, 2, (s.conn q.idx).maxBlank), (8, 4, (s.conn q.idx).blankFrames),
      (12, 4, ((s.conn q.idx).blankSamples / 1000 : Nat))])
    (s.setConn q.idx { s.conn q.idx with maxBlank := 0 })⟩]

/-- The filtered proximity resistance is shown, and logged by the island (R232, R308). -/
def proxLogged (c ohm : Nat) (s : State) : State := logIn 3 [(c : Int), (ohm : Int)] (s.setConn c { s.conn c with prox := ohm })

/-- The events of the connector links where they have their effect (R229 to R232, R236 to R246). -/
noncomputable def linkEvents (c cause ohm atten toggles held : Nat) (high low : Int) (run : BitVec 64) (f : VehFrame) :
    List Event := [
  ⟨.pilotChange c high low held, fun s => s.vehOn && decide (s.pilotRaw c high low ≠ (s.conn c).pilot ∧ s.cnFld c 2 1 ≤ held),
    fun s => judge (pilotActs c (s.pilotRaw c high low) high (pilotChanged c (s.pilotRaw c high low) high low
      (s.setConn c { s.conn c with high := high, low := low })))⟩,
  ⟨.pilotChange c high low held, fun s => s.vehOn && ((decide (s.pilotRaw c high low = (s.conn c).pilot) &&
      !(s.setConn c { s.conn c with high := high, low := low }).pilotStuck c (s.pilotRaw c high low)) ||
      decide (held < s.cnFld c 2 1)),
    fun s => s.setConn c { s.conn c with high := high, low := low }⟩,
  ⟨.pilotReadbackFault c high, fun s => s.vehOn && decide (s.cnMode c ≠ 0 ∧ (s.conn c).form = 2 ∧
      -(s.cnFld c 14 2 : Int) < high) && s.past (s.conn c).highSince 100000,
    fun s => linkFault c 0x0870 (pilotFault c 1 high (s.setConn c { s.conn c with high := high, highSince := none }))⟩,
  ⟨.pilotReadbackFault c high, fun s => decide ((s.conn c).form ≠ 2),
    fun s => s.setConn c { s.conn c with highSince := none }⟩,
  ⟨.proximityWithoutPilot c ohm held, fun s => s.vehOn && tst (s.cnFld c 1 1) 0 && decide (s.cnFld c 2 1 ≤ held) &&
      (proxLogged c ohm s).proxPresent c ohm && decide ((s.conn c).pilot = 0) && (match (s.conn c).proxSince with
        | none => false
        | some t => (proxLogged c ohm s).after t 1000000) && !(s.conn c).proxRaised,
    fun s => pilotFault c 3 (s.conn c).high ((proxLogged c ohm s).setConn c { (proxLogged c ohm s).conn c with
      proxRaised := true })⟩,
  ⟨.proximityWithoutPilot c ohm held, fun s => s.vehOn && tst (s.cnFld c 1 1) 0 && decide (s.cnFld c 2 1 ≤ held) &&
      (proxLogged c ohm s).proxPresent c ohm && decide ((s.conn c).pilot = 0 ∧ (s.conn c).proxSince = none),
    fun s => (proxLogged c ohm s).setConn c { (proxLogged c ohm s).conn c with proxSince := some (proxLogged c ohm s).now }⟩,
  ⟨.vehicleFrame c f, fun s => s.vehOn && decide (s.cnMode c = 2) && !(s.conn c).inReset &&
      decide ((s.conn c).link ≠ 0 ∧ (s.conn c).link ≠ 6 ∧ (s.conn c).link ≠ 7), fun s => frameIn c f s⟩,
  ⟨.vehicleFrame c f, fun s => !s.vehOn || (s.conn c).inReset, fun s => s⟩,
  ⟨.slacMessage c (.param run), fun s => s.vehOn && s.slacOpen c, fun s => stationSends c (s.setConn c { s.conn c with
    runId := run, answered := true, atten := 0, toggles := 0, outcome := 0, lastSlac := 1, slacSince := s.now })⟩,
  ⟨.slacMessage c (.sounds run atten), fun s => s.vehOn && s.slacOpen c && (s.conn c).answered && decide ((s.conn c).runId = run),
    fun s => arbitrate run (s.setConn c { s.conn c with atten := atten, lastSlac := 2 })⟩,
  ⟨.slacMessage c (.validate run toggles), fun s => s.vehOn && s.slacOpen c && (s.conn c).answered &&
      decide ((s.conn c).runId = run ∧ (s.conn c).outcome ≠ 3 ∧ 2 ≤ (s.conn c).lastSlac),
    fun s => stationSends c (s.setConn c { s.conn c with toggles := toggles, lastSlac := 3 })⟩,
  ⟨.slacMessage c (.slacMatch run), fun s => s.vehOn && decide ((s.conn c).runId ≠ run), fun s => s⟩,
  ⟨.slacMessage c (.estimation true), fun s => s.vehOn && decide ((s.conn c).link = 3 ∧ s.cnMode c = 1 ∧
      (s.conn c).mapTime = 0) && !(s.conn c).roboOnly && !(s.conn c).refreshing,
    fun s => s.setConn c { s.conn c with modulation := 4, mapsValid := true, mapTime := s.now + 1, refreshing := false }⟩,
  ⟨.slacMessage c (.slacMatch run), fun s => s.vehOn && s.slacOpen c && (s.conn c).answered &&
      decide ((s.conn c).runId = run ∧ (s.conn c).outcome ≠ 3 ∧ 2 ≤ (s.conn c).lastSlac ∧ s.trust.rngFault = 0 ∧
        s.answered run = [c]),
    fun s => linkUp c (stationSends c (({ s with trust := { s.trust with draws := s.trust.draws + 1 } } : State).setConn c
      { s.conn c with outcome := 1, nmk := true, answered := false, lastSlac := 4 }))⟩,
  ⟨.slacMessage c (.other (run.setWidth 16)), fun s => s.vehOn &&
      decide (s.cnMode c = 1 ∧ (s.conn c).link ≠ 0 ∧ (s.conn c).link ≠ 6 ∧
      (s.conn c).link ≠ 7) && !(s.conn c).inReset,
    fun s => (stationSends c s).note 11 (handle 9 c) (1 :: leBytes (run.setWidth 16).toNat 2)⟩,
  ⟨.slacFailed c, fun s => s.vehOn && decide ((s.conn c).link = 2 ∧ s.cnMode c = 1 ∧ (s.conn c).form = 1 ∧
      (s.conn c).failures < 2),
    fun s => linkTo c 5 5 ((s.fresh.2.setConn c { s.conn c with
      failures := (s.conn c).failures + 1, outcome := 2, answered := false }).event 12 0x0470
        (res [(0, 1, c), (1, 1, ((s.fresh.1 % 256 : Nat) : Int)), (2, 1, ((s.conn c).failures + 1 : Nat))]))⟩,
  ⟨.restartFStepEnd c, fun s => decide ((s.conn c).link = 5) && s.after (s.conn c).linkTime 4000000, fun s => linkTo c 2 5 s⟩,
  ⟨.toneMapRefreshDue c, fun s => s.after (s.conn c).mapTime (1000000 * fld (s.blk 8) 0 2), fun s => startRefresh c s⟩,
  ⟨.linkIdleTimeout c, fun s => decide ((s.conn c).link = 3) && s.after (s.conn c).heard (s.linkIdle (s.conn c).heard),
      fun s => linkTo c 4 5 s⟩,
  ⟨.relinkTimeout c, fun s => decide ((s.conn c).link = 4) && s.after (s.conn c).linkTime (s.relinkT (s.conn c).linkTime),
      fun s => linkTo c 5 5 s⟩,
  ⟨.linkDriverFault c 3, fun s => s.vehOn && !s.isRetired (handle 9 c) && decide (s.cnMode c ≠ 0) &&
      decide (aget s.jnl.counts (handle 9 c) = none),
    fun s => judge (linkRetire c 0x0871 (s.report 12 0x0871 (handle 9 c) (res [(0, 1, c), (1, 1, 3), (2, 1, 1)])))⟩,
  ⟨.linkDriverFault c cause, fun s => s.vehOn && !s.isRetired (handle 9 c) && decide (s.cnMode c ≠ 0 ∧ cause ≠ 3) &&
      decide (aget s.jnl.counts (handle 9 c) = none),
    fun s => linkFault c 0x0871 (s.report 12 0x0871 (handle 9 c) (res [(0, 1, c), (1, 1, cause), (2, 1, 1)]))⟩,
  ⟨.linkFaultBackoffEnd c, fun s => decide ((s.conn c).link = 6) && (match s.contextOf (handle 9 c) with
      | none => false
      | some x => (match x.due with
        | none => false
        | some t => decide (t ≤ s.now))),
    fun s => judge (linkTo c (s.restState c) 5 (s.freeContext (handle 9 c)))⟩]

/-! ### Charging sessions (chapter 10) -/

/-- The host commands of the sessions where they have their effect, and where they are turned away (Table 10-11, R257,
R261, R262, R264, R266). -/
def sessionCases : List Case := [
  ⟨.sessionStatus, line 0x0C10 .R [9] 0 0, fun q s => s.noSession q.idx, fun _ s => .done 0 0 s⟩,
  ⟨.sessionStatus, line 0x0C10 .R [9] 0 0, fun q s => !s.noSession q.idx, fun q s => .done 0
    (res [(0, 1, (s.session q.idx).state), (1, 1, (s.session q.idx).proto), (2, 1, (s.session q.idx).ident),
      (3, 1, bit (s.session q.idx).tls + 2 * bit (s.session q.idx).dynamic + 4 * bit (s.session q.idx).authorised
        + 8 * bit (s.session q.idx).derate + 16 * bit (s.session q.idx).question.isSome),
      (4, 4, (s.session q.idx).posted), (8, 4, (s.session q.idx).iCool),
      (12, 4, ((s.session q.idx).id.toNat % 4294967296 : Nat))]) s⟩,
  ⟨.sessionAnswer, { line 0x0C11 .A [9] 2 3 with ownOk := isAuthSeat, owned := false },
    fun q s => decide (answerRefused q [1, 3] s = none ∧ q.w 1 = 0), fun q s => .done 0 0 (deny q.idx s)⟩,
  ⟨.sessionAnswer, { line 0x0C11 .A [9] 2 3 with ownOk := isAuthSeat, owned := false },
    fun q s => decide (answerRefused q [1, 3] s = none ∧ q.w 1 = 1) && (match (s.session q.idx).question with
      | some x => decide (x.1 = 1)
      | none => false),
    fun q s => .done 0 0 (authorise q.idx (s.setSession q.idx { s.session q.idx with
      authCap := if q.w 2 = 0 then none else some (q.w 2) }))⟩,
  ⟨.sessionAnswer, { line 0x0C11 .A [9] 2 3 with ownOk := isAuthSeat, owned := false },
    fun q s => (s.session q.idx).expired.contains (BitVec.ofNat 16 (q.w 0)) ||
      (s.questionEnded q.idx && decide (BitVec.ofNat 16 (q.w 0) = (s.session q.idx).qid)), fun _ s => .done 0x0480 0 s⟩,
  ⟨.sessionAnswer, { line 0x0C11 .A [9] 2 3 with ownOk := isAuthSeat, owned := false },
    fun q s => !(s.session q.idx).expired.contains (BitVec.ofNat 16 (q.w 0)) &&
      decide ((s.session q.idx).question = none ∧ BitVec.ofNat 16 (q.w 0) = (s.session q.idx).qid), fun _ s => .done 0x0380 0 s⟩,
  ⟨.sessionTariff, { line 0x0C12 .A [9] 5 182 with ownOk := isAuthSeat, owned := false },
    fun q s => decide (answerRefused q [2] s = none) && decide (q.w 1 = 1 ∧ q.params.length = 5 ∧ q.w 2 = 0 ∧ q.w 4 = 0),
    fun q s => .done 0 0 (s.setSession q.idx { s.session q.idx with
      schedules := [[⟨0, q.w 3, 0⟩]], chosen := 0, tariffTime := s.now, question := none })⟩,
  ⟨.sessionTariff, { line 0x0C12 .A [9] 5 182 with ownOk := isAuthSeat, owned := false },
    fun q s => (s.session q.idx).expired.contains (BitVec.ofNat 16 (q.w 0)), fun _ s => .done 0x0480 0 s⟩,
  ⟨.questionRead, line 0x0C13 .R [9] 2 2, fun q s => !s.noSession q.idx && decide (q.w 1 % 16 = 0 ∧ q.w 1 ≤ 112 ∧
      BitVec.ofNat 16 (q.w 0) = (s.session q.idx).qid) && (s.session q.idx).question.isSome,
    fun q s => .done 0 (resBytes ((match (s.session q.idx).question with
      | none => []
      | some x => x.2.2.2).drop (q.w 1))) s⟩,
  ⟨.questionRead, line 0x0C13 .R [9] 2 2, fun q s => s.noSession q.idx, fun _ s => .done 0x0381 0 s⟩,
  ⟨.questionRead, line 0x0C13 .R [9] 2 2, fun q s => !s.noSession q.idx && decide (112 < q.w 1), fun _ s => .done 0x0108 0 s⟩,
  ⟨.sessionStop, line 0x0C14 .A [9] 0 0, fun q s => !s.noSession q.idx,
    fun q s => .done 0 (res [(0, 1, (s.session q.idx).state)]) (sessionSignal q.idx 2 s)⟩,
  ⟨.sessionStop, line 0x0C14 .A [9] 0 0, fun q s => s.noSession q.idx, fun _ s => .done 0x0381 0 s⟩,
  ⟨.sessionLimit, line 0x0C15 .A [9] 1 1, fun q s => !s.noSession q.idx,
    fun q s => .done 0 (res [(0, 4, (((s.session q.idx).hostCap.getD 0xFFFFFFFF : Nat) : Int))])
      (s.setSession q.idx { s.session q.idx with hostCap := if q.w 0 = 0xFFFFFFFF then none else some (q.w 0) })⟩,
  ⟨.sessionLimit, line 0x0C15 .A [9] 1 1, fun q s => s.noSession q.idx, fun _ s => .done 0x0381 0 s⟩,
  ⟨.sessionCounters, line 0x0C16 .R [9] 0 1, fun q _ => !(q.word 0).getLsbD 0, fun q s => .done 0
    (res [(0, 4, (s.session q.idx).nStarted), (4, 4, (s.session q.idx).nAuth), (8, 4, (s.session q.idx).nDenied),
      (12, 4, (s.session q.idx).nTimeout)]) s⟩,
  ⟨.sessionCounters, line 0x0C16 .R [9] 0 1, fun q _ => (q.word 0).getLsbD 0, fun q s => .done 0
    (res [(0, 4, (s.session q.idx).nStarted), (4, 4, (s.session q.idx).nAuth), (8, 4, (s.session q.idx).nDenied),
      (12, 4, (s.session q.idx).nTimeout)])
    (s.setSession q.idx { s.session q.idx with nStarted := 0, nAuth := 0, nDenied := 0, nTimeout := 0 })⟩]

/-- The state once the session service has taken the oldest entry of the connector's queue, Q52 to Q55 (R254). -/
def heardFrom (c : Nat) (s : State) : State := (s.take (52 + c / 4)).2

/-- The session service takes a message of a connector: firmware runs, the link is LINKED, the connector's output has the
session service in control, and the oldest entry of the queue is the frame that the message came in, of the epoch in force,
with no change of the pilot or the link behind it (R22, R254). -/
def v2gRuns (c : Nat) (s : State) : Bool :=
  !s.boot.coreReset && s.linked c && decide (s.connCtrl c = 1 ∧ (s.take (52 + c / 4)).1 = some [(c : Int)]) &&
  ((heardFrom c s).iq (52 + c / 4)).entries.all fun e => !isChange e.body

/-- The events of the sessions where they have their effect (R252 to R263, R266): after a message, the answer goes to the
vehicle. -/
noncomputable def sessionEvents (c voltage current tls suites groups k : Nat) (offers : List (Nat × Nat)) (evccid emaid : List Byte)
    (pnc ok bpt dyn : Bool) (certs : List (List Byte)) (l : EvLimits) (code : Half) : List Event := [
  ⟨.v2gMessage c (.sdp tls suites groups), v2gRuns c, fun s => answerVehicle c (onSdp c tls suites groups (heardFrom c s))⟩,
  ⟨.v2gMessage c (.supportedApp offers), v2gRuns c, fun s => answerVehicle c (onSupportedApp c offers (heardFrom c s))⟩,
  ⟨.v2gMessage c (.supportedApp [(3, k)]), fun s => v2gRuns c s && decide (((heardFrom c s).session c).state = 1 ∧
      ((heardFrom c s).session c).proto = 0) && (heardFrom c s).protoOn c 3,
    fun s => answerVehicle c ((heardFrom c s).setSession c { (heardFrom c s).session c with proto := 3, response := 0 })⟩,
  ⟨.v2gMessage c (.sessionSetup evccid), v2gRuns c, fun s => answerVehicle c (onSetup c evccid (heardFrom c s))⟩,
  ⟨.v2gMessage c (.authorization pnc emaid ok certs), v2gRuns c,
    fun s => answerVehicle c (onAuth c pnc emaid ok certs (heardFrom c s))⟩,
  ⟨.v2gMessage c (.authorization pnc emaid ok certs), fun s => v2gRuns c s && decide (((heardFrom c s).session c).state = 2 ∧
      ((heardFrom c s).session c).question = none) && ((heardFrom c s).session c).authorised,
    fun s => answerVehicle c (sessionTo c 3 ((heardFrom c s).setSession c { (heardFrom c s).session c with response := 0 }))⟩,
  ⟨.v2gMessage c (.serviceSelection bpt dyn), v2gRuns c, fun s => answerVehicle c (onService c bpt dyn (heardFrom c s))⟩,
  ⟨.v2gMessage c (.parameters l), v2gRuns c, fun s => answerVehicle c (onParameters c l (heardFrom c s))⟩,
  ⟨.v2gMessage c (.scheduleSelected k), fun s => v2gRuns c s && decide (((heardFrom c s).session c).state = 3 ∧
      ((heardFrom c s).session c).question = none ∧ k < ((heardFrom c s).session c).schedules.length) &&
      !((heardFrom c s).session c).dynamic,
    fun s => answerVehicle c ((heardFrom c s).setSession c { (heardFrom c s).session c with chosen := k, response := 0 })⟩,
  ⟨.v2gMessage c (.cableCheck), v2gRuns c, fun s => answerVehicle c (onCableCheck c (heardFrom c s))⟩,
  ⟨.v2gMessage c (.cableCheck), fun s => v2gRuns c s && decide (((heardFrom c s).session c).state = 4 ∧
      ((heardFrom c s).session c).stopping = none ∧ ((heardFrom c s).output ((heardFrom c s).connOut c)).state = 3) &&
      ((heardFrom c s).output ((heardFrom c s).connOut c)).imdPassed,
    fun s => answerVehicle c (sessionTo c 5 ((heardFrom c s).setSession c { (heardFrom c s).session c with response := 0 }))⟩,
  ⟨.v2gMessage c (.preCharge voltage current), v2gRuns c,
    fun s => answerVehicle c (onPreCharge c voltage current (heardFrom c s))⟩,
  ⟨.v2gMessage c (.powerDelivery true), fun s => v2gRuns c s && decide (((heardFrom c s).session c).state = 5 ∧
      ((heardFrom c s).session c).stopping = none),
    fun s => answerVehicle c (sessionTo c 6 ((heardFrom c s).setSession c { (heardFrom c s).session c with response := 0 }))⟩,
  ⟨.v2gMessage c (.powerDelivery false), fun s => v2gRuns c s && decide (((heardFrom c s).session c).state = 6),
    fun s => answerVehicle c (vehicleStop c (heardFrom c s))⟩,
  ⟨.v2gMessage c (.chargeLoop current l), v2gRuns c, fun s => answerVehicle c (onChargeLoop c current l (heardFrom c s))⟩,
  ⟨.v2gMessage c (.weldingDetection), fun s => v2gRuns c s && decide (((heardFrom c s).session c).state = 8),
    fun s => answerVehicle c ((heardFrom c s).setSession c { (heardFrom c s).session c with response := 0 })⟩,
  ⟨.v2gMessage c (.sessionStop), v2gRuns c, fun s => answerVehicle c (onSessionStop c (heardFrom c s))⟩,
  ⟨.v2gMessage c (.refusedOption code), v2gRuns c,
    fun s => answerVehicle c (((heardFrom c s).setSession c { (heardFrom c s).session c with response := code.toNat }).note 11
      (handle 9 c) (2 :: leBytes code.toNat 2))⟩,
  ⟨.v2gMessage c (.outOfSequence code), v2gRuns c,
    fun s => answerVehicle c (sessionSignal c 11 ((heardFrom c s).setSession c { (heardFrom c s).session c with
      response := code.toNat }))⟩,
  ⟨.v2gMessage c (.meteringReceipt ok), v2gRuns c,
    fun s => answerVehicle c (respond c 0 ((heardFrom c s).fresh.2.note ((heardFrom c s).fresh.1 % 256) (handle 9 c)
      [BitVec.ofNat 8 (bit ok)]))⟩,
  ⟨.v2gMessage c (.sdp tls suites groups), fun s => !s.linked c || !s.frameWaits c, fun s => s⟩,
  ⟨.reqPeriodExpire c, fun s => !s.boot.coreReset && s.after (s.session c).postTime (1000 * fld (s.blk 9) 0 2) &&
      decide ((s.session c).state = 4 ∨ (s.session c).state = 5 ∨ (s.session c).state = 6) &&
      decide ((coolStep c s).outNode ((coolStep c s).connOut c) = some k),
    fun s => postRequest k ((coolStep c s).sessionRequest c).1 ((coolStep c s).sessionRequest c).2.1
      ((coolStep c s).sessionRequest c).2.2 ((coolStep c s).setSession c { (coolStep c s).session c with
        posted := ((coolStep c s).sessionRequest c).1, postTime := (coolStep c s).now })⟩,
  ⟨.questionTimeout c, fun s => !s.boot.coreReset && s.questionEnded c,
    fun s => deny c (s.setSession c { s.session c with
      expired := (s.session c).qid :: (s.session c).expired, nTimeout := bump32 (s.session c).nTimeout })⟩,
  ⟨.questionTimeout c, fun s => !s.questionEnded c, fun s => s⟩,
  ⟨.vehicleStopTimeout c, fun s => !s.boot.coreReset && decide ((s.session c).state = 4 ∨ (s.session c).state = 5 ∨
      (s.session c).state = 6) && (match (s.session c).stopping with
        | none => false
        | some x => s.after x.2 5000000),
    fun s =>
      let t := sessionTo c 7 (s.setSession c { s.session c with ownStop := true })
      sessionIdle c (outputStop (t.connOut c) t)⟩]

/-! ### Legal metrology (chapter 11) -/

/-- The host commands of metrology where they have their effect, and where they are turned away (Table 11-11, R73, R282,
R283, R293). -/
def meterCases : List Case := [
  ⟨.metroStatus, line 0x0800 .R [8] 0 0, fun q s => decide (s.ptKind q.idx = 0), fun _ s => .done 0 (res []) s⟩,
  ⟨.metroStatus, line 0x0800 .R [8] 0 0, fun q s => decide (s.ptKind q.idx = 1), fun q s => .done 0
    (res [(0, 1, 1), (1, 1, bit (s.point q.idx).faulted
        + 2 * bit (s.metro.records.any fun r => decide (r.point = q.idx ∧ r.stage = 1))
        + 4 * bit ((s.point q.idx).regs.any fun r => r.2.lost) + 8 * bit (s.point q.idx).exporting + 16 * bit (s.ptComp q.idx)),
      (2, 2, sat 16 (s.point q.idx).revInt), (4, 2, ((s.point q.idx).volts * 10).floor), (6, 2, (s.point q.idx).freq),
      (8, 4, rneInt ((s.point q.idx).amps * 1000)), (12, 4, rneInt (s.point q.idx).power)]) s⟩,
  ⟨.metroRead, line 0x0801 .R [8] 1 1, fun q s => decide (q.w 0 < s.regCount q.idx), fun _ s => .live false [] s⟩,
  ⟨.metroRead, line 0x0801 .R [8] 1 1, fun q s => decide (s.regCount q.idx ≤ q.w 0), fun _ s => .done 0x0108 0 s⟩,
  ⟨.metroReadReset, line 0x0802 .A [8] 0 0, fun q s => decide (s.ptKind q.idx ≠ 0 ∧ s.pointRec q.idx = none),
    fun _ s => .live false [] s⟩,
  ⟨.metroReadReset, line 0x0802 .A [8] 0 0, fun q s => decide (s.ptKind q.idx = 0) || (s.pointRec q.idx).isSome,
    fun _ s => .done 0x0301 0 s⟩,
  ⟨.metroCaptureRead, line 0x0803 .R [8] 1 1, fun q s => decide (q.w 0 = 6) && (s.point q.idx).capture.isSome, fun q s => .done 0
    (res [(0, 8, (((s.point q.idx).capture.map (·.time)).getD 0 : Nat)),
      (8, 4, (((s.point q.idx).capture.map (·.reversals)).getD 0 : Nat)),
      (12, 4, (((s.point q.idx).capture.map (·.number)).getD 0 : Nat))]) s⟩,
  ⟨.metroCaptureRead, line 0x0803 .R [8] 1 1, fun q s => decide (q.w 0 < s.regCount q.idx ∧ q.w 0 ≠ 6) &&
      (s.point q.idx).capture.isSome, fun q s => .done 0
    (regRes (((s.point q.idx).capture.map (·.regs)).getD [] |>.getD (q.w 0) {})) s⟩,
  ⟨.metroCaptureRead, line 0x0803 .R [8] 1 1, fun q s => decide (q.w 0 < s.regCount q.idx ∧ (s.point q.idx).capture = none),
    fun _ s => .done 0x0391 0 s⟩,
  ⟨.meterRecordList, line 0x0804 .R [0] 0 0, fun _ _ => true, fun _ s => .done 0
    (res [(0, 4, (((s.metro.records.filter fun r => decide (r.stage = 3)).map (·.recno)).foldl min
        (((s.metro.records.filter fun r => decide (r.stage = 3)).map (·.recno)).headD 0) : Nat)),
      (4, 4, (((s.metro.records.filter fun r => decide (r.stage = 3)).map (·.recno)).foldl max 0 : Nat)),
      (8, 2, ((s.metro.records.filter fun r => decide (r.stage = 3)).map (·.recno)).length), (10, 2, s.recFree)]) s⟩,
  ⟨.meterRecordRead, { line 0x0805 .R [8] 2 2 with loB := 5, hiB := 5 }, fun q s => decide (q.buf = none ∧ q.w 1 % 16 = 0 ∧
      q.w 1 ≤ 2736) && !q.mram && (s.stored (q.w 0) q.idx).isSome, fun q s => .done 0
    (resBytes (match s.stored (q.w 0) q.idx with
      | none => []
      | some r => ((s.recBytes r).drop (q.w 1)).take 16)) s⟩,
  ⟨.meterRecordRead, { line 0x0805 .R [8] 2 2 with loB := 5, hiB := 5 }, fun q s => decide (q.buf = none ∧ q.w 1 % 16 = 0 ∧
      q.w 1 ≤ 2736 ∧ s.stored (q.w 0) q.idx = none) && !q.mram, fun _ s => .done 0x0390 0 s⟩,
  ⟨.meterRecordRead, { line 0x0805 .R [8] 2 2 with loB := 5, hiB := 5 }, fun q s => q.buf.isSome && !q.mram &&
      (s.stored (q.w 4) q.idx).isSome, fun q s =>
    match s.stored (q.w 4) q.idx with
    | none => .done 0x0390 0 s
    | some r => intoBuffer q (s.recBytes r) (res [(0, 4, (s.recBytes r).length), (4, 2, r.flags.toNat)]) s⟩,
  ⟨.meterRecordRead, { line 0x0805 .R [8] 2 2 with loB := 5, hiB := 5 }, fun q s => q.buf.isSome && !q.mram &&
      decide (s.stored (q.w 4) q.idx = none), fun _ s => .done 0x0390 0 s⟩,
  ⟨.meterRecordRead, { line 0x0805 .R [8] 2 2 with loB := 5, hiB := 5 }, fun q s => decide (q.buf = none ∧ q.w 1 % 16 = 0 ∧
      q.w 1 ≤ 2736) && q.mram && ((markDamaged (q.w 0) q.idx s).stored (q.w 0) q.idx).isSome, fun q s => .done 0
    (resBytes (match (markDamaged (q.w 0) q.idx s).stored (q.w 0) q.idx with
      | none => []
      | some r => (((markDamaged (q.w 0) q.idx s).recBytes r).drop (q.w 1)).take 16)) (markDamaged (q.w 0) q.idx s)⟩,
  ⟨.meterRecordAck, line 0x0806 .A [8] 1 1, fun q s => (s.stored (q.w 0) q.idx).isSome, fun q s =>
    let t := recFreed { s with metro := { s.metro with
      records := s.metro.records.filter fun r => decide (¬ (r.recno = q.w 0 ∧ r.point = q.idx ∧ r.stage = 3)) } }
    .done 0 (res [(0, 2, t.recFree)]) t⟩,
  ⟨.meterRecordAck, line 0x0806 .A [8] 1 1, fun q s => decide (s.stored (q.w 0) q.idx = none), fun _ s => .done 0x0390 0 s⟩,
  ⟨.metroConfigSet, line 0x0807 .C [0] 3 12, fun q s => decide (s.boot.grade ≠ 1) && overlayFits 6 0 1372 q s,
    fun q s => .done 0 0 (overlayWrite 6 0 q s)⟩,
  ⟨.metroSeal, line 0x0808 .C [0] 0 0, fun _ s => decide (s.boot.grade = 1 ∧ s.metro.sealed = none ∧ s.ep.phase ≠ 3) &&
      !(s.metro.records.any fun r => decide (r.stage = 1)) && !s.metroPending,
    fun _ s => .done 0 ((Config.sha3 (legalSet (s.blk 6))).setWidth 128)
      { s with metro := { s.metro with sealed := some (legalSet (s.blk 6), s.running.legal) } }⟩,
  ⟨.metroSeal, line 0x0808 .C [0] 0 0, fun _ s => decide (s.boot.grade ≠ 1), fun _ s => .done 0x0301 0 s⟩,
  ⟨.metroSeal, line 0x0808 .C [0] 0 0, fun _ s => decide (s.boot.grade = 1) && s.metro.sealed.isSome,
    fun _ s => .done 0x0901 0 (s.jotSealed 0x0901 0x0808 (handle 0 0))⟩,
  ⟨.metroSaveStatus, line 0x0809 .R [0] 0 0, fun _ s => s.newestSave.isSome, fun _ s => .done 0
    (res [(0, 4, ((s.newestSave.map (·.1.generation)).getD 0 : Nat)), (4, 8, ((s.newestSave.map (·.1.time)).getD 0 : Nat)),
      (12, 1, bit ((s.newestSave.map (·.2)).getD false)), (13, 1, ((s.newestSave.map (·.1.reason)).getD 0 : Nat)),
      (14, 2, sat 16 s.metro.skipped)]) s⟩,
  ⟨.metroSaveStatus, line 0x0809 .R [0] 0 0, fun _ s => decide (s.newestSave = none), fun _ s => .done 0
    (res [(14, 2, sat 16 s.metro.skipped)]) s⟩,
  ⟨.metroGapRead, line 0x080A .R [8] 1 1, fun q s => decide (q.w 0 < (s.point q.idx).gaps.length), fun q s => .done 0
    (res [(0, 8, ((s.point q.idx).gaps.getD (q.w 0) (0, none)).1),
      (8, 8, ((((s.point q.idx).gaps.getD (q.w 0) (0, none)).2.getD 0xFFFFFFFFFFFFFFFF : Nat) : Int))]) s⟩,
  ⟨.metroGapRead, line 0x080A .R [8] 1 1, fun q s => decide ((s.point q.idx).gaps.length ≤ q.w 0),
    fun _ s => .done 0x0108 0 s⟩,
  ⟨.metroStrobeRead, line 0x080B .R [8] 0 0, fun q s => (s.point q.idx).strobe.isSome, fun q s => .done 0
    (res [(0, 8, (((s.point q.idx).strobe.map (·.1)).getD 0 : Nat)),
      (8, 4, (((s.point q.idx).strobe.map (·.2.1)).getD 0 * 100).floor),
      (12, 4, rneInt (((s.point q.idx).strobe.map (·.2.2)).getD 0 * 1000))]) s⟩,
  ⟨.metroStrobeRead, line 0x080B .R [8] 0 0, fun q s => decide ((s.point q.idx).strobe = none), fun _ s => .done 0 (res []) s⟩]

/-- The events of metrology where they have their effect (R276 to R279, R283, R285, R288 to R291, Table 11-9). -/
noncomputable def meterEvents (codes : List Int) (quiet : BitVec 48) (recno since held : Nat) (r : MRecord) (ext : Bool) :
    List Event := [
  ⟨.sampleBoundary codes quiet, fun s => s.boundaryNow,
    fun s =>
      let t := overL s.localOuts measureOut (saveAtBoundary (sampleReads (samplePoints codes quiet (nextBoundary s))))
      let u := overL t.localOuts sequenceOut (stallOver t (samplePosts t))
      if u.serves 40 then judge u else u⟩,
  ⟨.sampleBoundary codes quiet, fun s => !s.boundaryNow, fun s => s⟩,
  ⟨.recordSigned recno, fun s => decide (s.metro.records.find? (fun x => decide (x.recno = recno ∧ x.stage = 2)) = some r) &&
      !tst r.flags.toNat 8 && passes 60 [(recno : Int)] s && passes 61 [(recno : Int)] (passed 60 [(recno : Int)] s) &&
      passes 62 [(recno : Int)] (passed 61 [(recno : Int)] (passed 60 [(recno : Int)] s)) && !s.boot.coreReset &&
      !s.gated && s.keyUsable (fld (s.blk 6) 4 1) &&
      decide (s.trust.rngFault = 0) && !(s.metro.records.any fun x => decide (x.stage = 2 ∧ x.recno < recno)),
    fun s =>
      let u := passed 62 [(recno : Int)] (passed 61 [(recno : Int)] (passed 60 [(recno : Int)] s))
      let t : State := { u.fresh.2 with
        metro := { u.fresh.2.metro with records := u.fresh.2.metro.records.map fun x =>
          if x.recno = r.recno ∧ x.stage = 2 then { x with stage := 3, signature := leBytes u.fresh.1 2420 } else x },
        trust := { u.fresh.2.trust with staleRaised := false } }
      t.report 8 0x0090 (handle 8 r.point) (res [(0, 1, r.point), (1, 1, bit (!tst r.flags.toNat 1)),
        (2, 2, r.flags.toNat), (4, 4, r.recno), (8, 8, r.sessionId.toNat)])⟩,
  ⟨.recordSigned recno, fun s => s.boot.coreReset || s.gated ||
      decide (s.trust.rngFault ≠ 0) || !s.keyUsable (fld (s.blk 6) 4 1), fun s => s⟩,
  ⟨.periodicSave, fun s => s.metOn && s.after s.metro.saveTime (1000 * fld (s.blk 6) 0 2) && decide (s.metro.warning = none),
    fun s => { s with metro := { s.metro with saveTime := s.now, saveDue := some (s.metro.saveDue.getD 0) } }⟩,
  ⟨.periodicSave, fun s => s.metOn && s.after s.metro.saveTime (1000 * fld (s.blk 6) 0 2) && s.metro.warning.isSome,
    fun s => { s with metro := { s.metro with saveTime := s.now } }⟩,
  ⟨.totaliserAnchorWrite, fun s => s.metOn && s.after s.metro.anchorTime 3600000000 && !s.gated, fun s =>
    { s with metro := { s.metro with
      anchorTime := s.now, anchor := (upTo 18).flatMap fun p => (upTo 6).map fun k => ((p, k), s.total p k) } }⟩,
  ⟨.totaliserAnchorWrite, fun s => !s.metOn || !s.after s.metro.anchorTime 3600000000, fun s => s⟩,
  ⟨.powerFailWarning ext held, fun s => s.metOn && tst (fld (s.blk 6) 3 1) (if ext then 0 else 1) && decide (2 ≤ held) &&
      decide (s.metro.warning = none),
    fun s =>
      let t := logIn 1 [1] { s with metro := { s.metro with
        warning := some s.now, warnInput := true, lastFail := s.now, saveDue := some 1 } }
      judge (addFixed t.localOuts 6 t)⟩,
  ⟨.powerFailRepeatSave, fun s => s.metOn && s.metro.warning.isSome && s.after s.metro.lastFail 2000,
    fun s => { s with metro := { s.metro with lastFail := s.now, saveDue := some 1 } }⟩,
  ⟨.powerFailRepeatSave, fun s => decide (s.metro.warning = none), fun s => s⟩,
  ⟨.powerFailWithdrawn held, fun s => decide (s.metro.warning = some since ∧ 10000 ≤ held) && s.after since held, fun s =>
    let t := s.note 14 (handle 0 0) (0 :: leBytes (sat 32 (s.now - since)) 4)
    let t := logIn 1 [0] { t with metro := { t.metro with warning := none, warnInput := false } }
    judge (dropFixed t.localOuts 6 t)⟩,
  ⟨.powerFailWithdrawn held, fun s => decide (s.metro.warning = some since ∧ held < 10000), fun s => s⟩]

/-! ### The safety supervisor and the safety functions (chapters 12 and 13) -/

/-- The host commands of the safety island where they have their effect, and where they are turned away (Table 13-13,
R314, R321, R339, R340, R343). -/
def safetyCases : List Case := [
  ⟨.safetyStatus, line 0x0900 .R [0] 0 0, fun _ s => decide (s.sup.spare = none), fun _ s => .done 0
    (res [(0, 1, s.sup.mode), (1, 1, 0x80), (2, 1, bit s.isl.maintenance),
      (3, 1, maskOf ((upTo 4).filter fun c => s.isRetired (chanHandle c))),
      (4, 2, maskOf (s.localOuts.filter fun o => decide ((s.output o).safe = 1))),
      (6, 2, maskOf (s.localOuts.filter fun o => decide ((s.output o).safe = 2))), (8, 4, s.sup.frame),
      (12, 1, maskOf ((upTo 4).filter fun a => (s.axis a).sto)),
      (13, 1, (((upTo 128).filter fun f => (s.sfn f).demand).length : Nat)),
      (14, 2, (((upTo 64).filter fun k => decide ((s.sconn k).state = 2)).length : Nat))]) s⟩,
  ⟨.functionStatus, line 0x0901 .R [14] 0 0, fun _ _ => true, fun q s => .done 0
    (res [(0, 1, s.fnState q.idx), (1, 1, s.fnFld q.idx 0 1), (4, 4, (s.sfn q.idx).count), (8, 8, (s.sfn q.idx).time)]) s⟩,
  ⟨.ioStatus, line 0x0902 .R [0] 0 1, fun q _ => decide (q.w 0 = 0), fun _ s => .done 0
    (res [(0, 4, maskOf ((upTo 32).filter fun k => (s.sout k).energised)),
      (4, 4, maskOf ((upTo 32).filter fun k => (s.sout k).readback)),
      (8, 4, maskOf ((upTo 32).filter fun k => (s.sout k).faulted))]) s⟩,
  ⟨.ioStatus, line 0x0902 .R [0] 0 1, fun q _ => decide (q.w 0 = 1), fun _ s => .done 0
    (res [(0, 3, maskOf ((upTo 24).filter fun k => (s.sin k).a)), (3, 3, maskOf ((upTo 24).filter fun k => (s.sin k).b)),
      (6, 3, maskOf ((upTo 24).filter fun k => (s.sin k).demand)),
      (9, 3, maskOf ((upTo 24).filter fun k => (s.sin k).latched))]) s⟩,
  ⟨.ioStatus, line 0x0902 .R [0] 0 1, fun q _ => decide (1 < q.w 0), fun _ s => .done 0x0108 0 s⟩,
  ⟨.safeAck, line 0x0903 .S [14] 0 0, fun q s => (s.sfn q.idx).demand && !s.triggerOf q.idx && decide (s.fnFld q.idx 0 1 ≠ 3),
    fun q s =>
      let t := judge (s.setSfn q.idx { s.sfn q.idx with demand := false, trigger := false })
      .done 0 (res [(0, 1, t.fnState q.idx)]) t⟩,
  ⟨.safeAck, line 0x0903 .S [14] 0 0, fun q s => (s.sfn q.idx).demand && s.triggerOf q.idx && decide (s.fnFld q.idx 0 1 ≠ 3),
    fun _ s => .done 0x0A0B 0 s⟩,
  ⟨.safeAck, line 0x0903 .S [14] 0 0, fun q s => !(s.sfn q.idx).demand, fun _ s => .done 0x0001 0 s⟩,
  ⟨.safeStateRequest, line 0x0904 .S [0] 2 3, fun q s => decide (q.w 1 = 1) && maskFits s (q.w 0) (q.w 2),
    fun q s => .done 0 0 (judge { s with isl := { s.isl with
      reqNormal := s.isl.reqNormal ||| BitVec.ofNat 16 (q.w 0), reqAxes := s.isl.reqAxes ||| BitVec.ofNat 4 (q.w 2) } })⟩,
  ⟨.safeStateRequest, line 0x0904 .S [0] 2 3, fun q s => decide (q.w 1 = 2) && maskFits s (q.w 0) (q.w 2),
    fun q s => .done 0 0 (judge { s with isl := { s.isl with
      reqEmergency := s.isl.reqEmergency ||| BitVec.ofNat 16 (q.w 0), reqAxes := s.isl.reqAxes ||| BitVec.ofNat 4 (q.w 2) } })⟩,
  ⟨.safeStateRequest, line 0x0904 .S [0] 2 3, fun q s => !maskFits s (q.w 0) (q.w 2) || decide (q.w 1 = 0),
    fun _ s => .done 0x0108 0 s⟩,
  ⟨.safeRelease, line 0x0905 .S [0] 1 2, fun q s => maskFits s (q.w 0) (q.w 1),
    fun q s => .done 0 0 (judge { s with isl := { s.isl with
      reqNormal := s.isl.reqNormal &&& ~~~(BitVec.ofNat 16 (q.w 0)),
      reqEmergency := s.isl.reqEmergency &&& ~~~(BitVec.ofNat 16 (q.w 0)),
      reqAxes := s.isl.reqAxes &&& ~~~(BitVec.ofNat 4 (q.w 1)) } })⟩,
  ⟨.safeRelease, line 0x0905 .S [0] 1 2, fun q s => !maskFits s (q.w 0) (q.w 1), fun _ s => .done 0x0108 0 s⟩,
  ⟨.maintEnter, line 0x0906 .S [0] 0 0, fun _ s => !s.isl.maintenance &&
      s.localOuts.all (fun o => decide ((s.output o).state = 0 ∨ (s.output o).state = 6)) &&
      decide (24 ≤ fld (s.blk 7) 14 1 ∨ (s.sin (fld (s.blk 7) 14 1)).demand),
    fun _ s => .done 0 0 (logIn 10 [2, 1] { s with isl := { s.isl with maintenance := true } })⟩,
  ⟨.maintEnter, line 0x0906 .S [0] 0 0, fun _ s => s.isl.maintenance, fun _ s => .done 0x0001 0 s⟩,
  ⟨.maintEnter, line 0x0906 .S [0] 0 0, fun _ s => !s.isl.maintenance && s.localOuts.any fun o => decide ((s.output o).state = 3),
    fun _ s => .done 0x0301 0 s⟩,
  ⟨.maintExit, line 0x0907 .S [0] 0 0, fun _ s => s.isl.maintenance && !s.sup.proof, fun _ s => .done 0 0 (leaveMaint s)⟩,
  ⟨.maintExit, line 0x0907 .S [0] 0 0, fun _ s => s.isl.maintenance && s.sup.proof,
    fun _ s => .live false [] { s with sup := { s.sup with exitDue := true } }⟩,
  ⟨.maintExit, line 0x0907 .S [0] 0 0, fun _ s => !s.isl.maintenance, fun _ s => .done 0x0001 0 s⟩,
  ⟨.proofTest, line 0x0908 .S [0] 1 1, fun q s => decide (q.w 0 ≤ 3 ∧ s.sup.mode = 0) && s.isl.maintenance && s.spareReady &&
      s.sup.active.contains (q.w 0),
    fun q s => .live true [] (logIn 10 [3, (q.w 0 : Int)] (startPromotion (q.w 0) 2 { s with sup := { s.sup with
      active := s.sup.active.filter (· ≠ q.w 0), proof := true, proofStage := 0, proofTime := 0 } }))⟩,
  ⟨.proofTest, line 0x0908 .S [0] 1 1, fun q s => decide (q.w 0 ≤ 3) && !s.isl.maintenance, fun _ s => .done 0x0301 0 s⟩,
  ⟨.proofTest, line 0x0908 .S [0] 1 1, fun q _ => decide (3 < q.w 0), fun _ s => .done 0x0108 0 s⟩,
  ⟨.axisStatus, line 0x0909 .R [0] 1 1, fun q s => decide (q.w 0 ≤ 3) && s.axFitted (q.w 0), fun q s => .done 0
    (res [(0, 1, bit (s.axis (q.w 0)).referenced + 2 * bit (s.axis (q.w 0)).sto + 4 * bit s.limitSet),
      (4, 4, (s.axis (q.w 0)).pos), (8, 4, (s.axis (q.w 0)).speed), (12, 4, (s.axis (q.w 0)).plausible)]) s⟩,
  ⟨.axisStatus, line 0x0909 .R [0] 1 1, fun q s => !s.axFitted (q.w 0), fun _ s => .done 0x0108 0 s⟩,
  ⟨.safeConnStatus, line 0x090A .R [0] 1 2, fun q s => decide (q.w 0 ≤ 63 ∧ s.scFld (q.w 0) 0 1 ≠ 0) && !(q.word 1).getLsbD 0,
    fun q s => .done 0 (res [(0, 1, (s.sconn (q.w 0)).state), (2, 2, (((s.sconn (q.w 0)).lastSeq.getD 0).toNat : Int)),
      (4, 4, (s.sconn (q.w 0)).accepted), (8, 4, (s.sconn (q.w 0)).rejected),
      (12, 4, ((s.now - (s.sconn (q.w 0)).lastTime) / 1000 : Nat))]) s⟩,
  ⟨.safeConnStatus, line 0x090A .R [0] 1 2, fun q s => decide (q.w 0 ≤ 63 ∧ s.scFld (q.w 0) 0 1 ≠ 0) && (q.word 1).getLsbD 0,
    fun q s => .done 0 (res [(0, 1, (s.sconn (q.w 0)).state), (2, 2, (((s.sconn (q.w 0)).lastSeq.getD 0).toNat : Int)),
      (4, 4, (s.sconn (q.w 0)).accepted), (8, 4, (s.sconn (q.w 0)).rejected),
      (12, 4, ((s.now - (s.sconn (q.w 0)).lastTime) / 1000 : Nat))])
      (s.setSconn (q.w 0) { s.sconn (q.w 0) with accepted := 0, rejected := 0 })⟩,
  ⟨.safeConnStatus, line 0x090A .R [0] 1 2, fun q _ => decide (63 < q.w 0), fun _ s => .done 0x0108 0 s⟩]

/-- The events of the supervisor where they have their effect (R303 to R314). -/
noncomputable def supervisorEvents (x y kind bitNo cycle : Nat) (channels passes : BitVec 4) (signatures : List Word) :
    List Event := [
  ⟨.safetyFrameBoundary signatures, fun s => !s.frameOver, fun s => s⟩,
  ⟨.safetyFrameBoundary signatures, fun s => s.frameOver && !s.sup.started, fun s => { s with sup := { s.sup with
      frame := (s.sup.frame + 1) % 4294967296, frameAt := s.sup.frameAt + 1000 * ((s.now - s.sup.frameAt) / 1000) } }⟩,
  ⟨.safetyFrameBoundary signatures, fun s => s.frameOver && s.sup.started && decide (s.sup.mode = 0 ∧ signatures = [] ∧
      (s.sup.frame + 1) % 4294967296 % 10 = 0),
    fun s => overL (upTo 4) (fun a t => axisStep a false t) { s with sup := { s.sup with
      frame := (s.sup.frame + 1) % 4294967296, frameAt := s.sup.frameAt + 1000 * ((s.now - s.sup.frameAt) / 1000),
      streaming := some ((s.sup.frame + 1) % 4294967296) } }⟩,
  ⟨.checkpointValid, fun s => decide (s.sup.streaming = some cycle) && s.after s.sup.frameAt 109,
    fun s => { s with sup := { s.sup with
      older := s.sup.checkpoint, checkpoint := cycle, streaming := none,
      log := s.sup.log.filter fun e => decide (s.sup.checkpoint ≤ e.frame) } }⟩,
  ⟨.voteMismatch channels kind bitNo cycle false, fun s => s.sup.started && decide (s.sup.mode = 0 ∧
      (chanList channels).filter (s.sup.active.contains ·) = [x]), fun s => voteOut x kind bitNo cycle s⟩,
  ⟨.voteMismatch channels kind bitNo cycle false, fun s => s.sup.started && decide (s.sup.mode = 0 ∧
      (chanList channels).filter (s.sup.active.contains ·) = [x, y]), fun s => enterVoterSafe 1 s⟩,
  ⟨.voteMismatch channels kind bitNo cycle false, fun s => s.sup.started && decide (s.sup.mode = 2 ∧
      (chanList channels).filter (s.sup.active.contains ·) = [x]), fun s => enterVoterSafe 2 s⟩,
  ⟨.voteMismatch channels kind bitNo cycle true, fun s => s.sup.started && decide (s.sup.mode ≠ 3), fun s => enterVoterSafe 3 s⟩,
  ⟨.voterSafeSoutDrop, fun s => decide (s.sup.mode = 3) && !s.sup.dropped && s.after s.sup.safeSince 20000 &&
      !(soutDrop s).boot.shutdown, fun s => soutDrop s⟩,
  ⟨.sparePowered, fun s => decide (s.sup.promotion = some (3, x, kind, cycle, 0)) && !s.after cycle 11900,
    fun s => { s with sup := { s.sup with promotion := some (3, x, kind, cycle, 1) } }⟩,
  ⟨.spareSelfTestDone true, fun s => decide (s.sup.promotion = some (3, x, kind, cycle, 1)) && !s.after cycle 11900,
    fun s => { s with sup := { s.sup with promotion := some (3, x, kind, cycle, 2) } }⟩,
  ⟨.spareSelfTestDone false, fun s => decide (s.sup.promotion = some (3, x, kind, cycle, 1)) && !s.after cycle 11900,
    fun s => failPromotion 2 s⟩,
  ⟨.spareCheckpointLoaded true, fun s => decide (s.sup.promotion = some (3, x, kind, cycle, 2)) && !s.after cycle 11900,
    fun s => { s with sup := { s.sup with promotion := some (3, x, kind, cycle, 3) } }⟩,
  ⟨.spareCheckpointLoaded false, fun s => decide (s.sup.promotion = some (3, x, kind, cycle, 2)) && !s.after cycle 11900,
    fun s => failPromotion 3 s⟩,
  ⟨.spareCaughtUp, fun s => decide (s.sup.promotion = some (3, x, kind, cycle, 3)) && !s.after cycle 11900,
    fun s => { s with sup := { s.sup with promotion := some (3, x, kind, cycle, 4) } }⟩,
  ⟨.sparePromoted true, fun s => decide (s.sup.promotion = some (3, x, kind, cycle, 4) ∧
      (s.now - s.sup.frameAt) % 1000 = 0) && !s.after cycle 11900 &&
      s.sup.parked.contains x,
    fun s => islandReport 0x0A11 (handle 0 0) (res [(0, 1, 3), (1, 1, x), (2, 1, kind), (4, 4, ((s.now - cycle : Nat) : Int))])
      (spareDomain { s with sup := { s.sup with
        mode := 0, promotion := none, active := s.sup.active ++ [3], proofTime := s.now - cycle, proofStage := 0 } })⟩,
  ⟨.sparePromoted false, fun s => decide (s.sup.promotion = some (3, x, kind, cycle, 4) ∧
      (s.now - s.sup.frameAt) % 1000 = 0) && !s.after cycle 11900,
    fun s => failPromotion 5 s⟩,
  ⟨.spareFailed, fun s => decide (s.sup.promotion = some (3, x, kind, cycle, y)) && s.after cycle 11900,
    fun s => failPromotion 4 s⟩,
  ⟨.parkedSelfTestDone x true, fun s => s.sup.parked.contains x && decide (s.sup.promotion = none ∧ s.sup.mode ≠ 3 ∧
      tget s.sup.voteOuts x 0 < 3) && !s.isRetired (chanHandle x) && !(spareDomain { s with sup := { s.sup with
        parked := s.sup.parked.filter (· ≠ x), spare := some x } }).sup.proof && !s.sup.proof,
    fun s => spareDomain { s with sup := { s.sup with parked := s.sup.parked.filter (· ≠ x), spare := some x } }⟩,
  ⟨.parkedSelfTestDone x false, fun s => s.sup.parked.contains x && decide (s.sup.promotion = none ∧ s.sup.mode ≠ 3) &&
      !s.isRetired (chanHandle x) && !s.sup.proof,
    fun s => spareDomain (retireChannel x 1 { s with sup := { s.sup with parked := s.sup.parked.filter (· ≠ x) } })⟩,
  ⟨.safetyStartupTestDone passes, fun s => s.sup.started || !s.power.domains.getLsbD 1, fun s => s⟩,
  ⟨.safetyStartupTestDone 7, fun s => !s.sup.started && s.power.domains.getLsbD 1 &&
      (upTo 4).all fun k => !s.isRetired (chanHandle k),
    fun s =>
      let t := spareDomain { s with sup := { s.sup with
        started := true, active := [0, 1, 2], mode := 0, parked := [], promotion := none, spare := some 3 } }
      rejudge { t with isl := { t.isl with outRamp := 0, podStop := 0, sto := 0 } }⟩]

/-- A copy of a safe message counts as a frame of the port that it came by (R335, R349). -/
def copyHeard (m : SafeMsg) (s : State) : State :=
  countHeard (s.copyPort m) (BitVec.ofNat 32 (s.scFld m.conn 4 4 % 1073741824)) 24 s

/-- A copy is taken: the channels have started, its connection receives, its port hears it, and neither port is retired
(R335, R336). -/
def copyTaken (m : SafeMsg) (s : State) : Bool :=
  s.sup.started &&
  decide (m.conn < 64 ∧ s.scFld m.conn 0 1 = 1 ∧ (s.port (s.copyPort m)).state ≠ 5) && s.portHears (s.copyPort m) &&
  !(copyHeard m s).connPortRetired m.conn

/-- The events of the safety functions where they have their effect (R323 to R338, R440). -/
noncomputable def safetyEvents (k o a conn held : Nat) (high pa pb : Bool) (fell : Word) (delta : Int) (l l2 : VehLimits)
    (m w : SafeMsg) : List Event := [
  ⟨.safetyInputChange k pa pb held, fun s => !s.sup.started || decide (held < 1000 * s.siFld k 3 1), fun s => s⟩,
  ⟨.safetyInputChange k true true held, fun s => s.sup.started && decide (s.siFld k 0 1 = 1 ∧ 1000 * s.siFld k 3 1 ≤ held),
    fun s => inputMoved k s (logIn 0 [(k : Int), (bit true : Nat), (bit true : Nat)] (s.setSin k { s.sin k with
      a := true, b := true, demand := (s.sin k).latched && !(s.sin k).cleared,
      latched := (s.sin k).latched && !(s.sin k).cleared, cleared := false, differs := none }))⟩,
  ⟨.safetyInputChange k false false held, fun s => s.sup.started && decide (s.siFld k 0 1 = 1 ∧ 1000 * s.siFld k 3 1 ≤ held),
    fun s => inputMoved k s (logIn 0 [(k : Int), (bit false : Nat), (bit false : Nat)] (s.setSin k { s.sin k with
      a := false, b := false, demand := true, cleared := (s.sin k).latched,
      differs := none }))⟩,
  ⟨.inputDiscrepancy k, fun s => decide (s.siFld k 0 1 ≠ 0) && !(s.sin k).latched &&
      s.past (s.sin k).differs (1000 * s.siFld k 4 2),
    fun s => inputMoved k s (latchInput k 1 s)⟩,
  ⟨.testPulseMissed k, fun s => decide (s.siFld k 0 1 ≠ 0) && s.pulsed (s.siFld k 1 1) && !(s.sin k).latched,
    fun s => inputMoved k s (latchInput k 2 s)⟩,
  ⟨.testPulse k high fell, fun s => decide (s.soFld k 0 1 ≠ 1) || !(s.sout k).energised, fun s => s⟩,
  ⟨.testPulse k false 0, fun s => decide (s.soFld k 0 1 = 1) && (s.sout k).energised &&
      s.after (s.sout k).pulseTime (1000 * s.soFld k 4 2) && (upTo 32).all fun j => !s.inPulse j,
    fun s => rejudge ((s.setSout k { s.sout k with pulseTime := s.now, readback := true }).setSout k
      { (s.setSout k { s.sout k with pulseTime := s.now, readback := true }).sout k with readback := true })⟩,
  ⟨.testPulse k true 0, fun s => decide (s.soFld k 0 1 = 1) && (s.sout k).energised &&
      s.after (s.sout k).pulseTime (1000 * s.soFld k 4 2) && (upTo 32).all fun j => !s.inPulse j,
    fun s => rejudge (soutFault k 1 0xFF ((s.setSout k { s.sout k with pulseTime := s.now, readback := false }).setSout k
      { (s.setSout k { s.sout k with pulseTime := s.now, readback := false }).sout k with readback := true }))⟩,
  ⟨.soutStuck k high held, fun s => decide ((s.sout k).energised = high ∨ held < 1000),
      fun s => s.setSout k { s.sout k with readback := high }⟩,
  ⟨.soutStuck k true held, fun s => decide (s.soFld k 0 1 ≠ 0 ∧ 1000 ≤ held) && !(s.sout k).energised,
    fun s => rejudge (soutFault k 1 0xFF (logIn 1 [(k : Int),
      (bit true : Nat)] (s.setSout k { s.sout k with readback := true })))⟩,
  ⟨.soutStuck k false held, fun s => decide (s.soFld k 0 1 ≠ 0 ∧ 1000 ≤ held) &&
      s.after (s.sout k).pulseTime (s.soFld k 2 2 + 1000) && (s.sout k).energised,
    fun s => rejudge (soutFault k 2 0xFF (logIn 1 [(k : Int),
      (bit false : Nat)] (s.setSout k { s.sout k with readback := false })))⟩,
  ⟨.vehicleLimitRegister o l, fun s => (s.take 43).1.isSome &&
      decide (((logIn 9 [(o : Int), (l.vMax : Int), (l.iMax : Int)] (s.take 43).2).output o).limits = none),
    fun s =>
      let t := logIn 9 [(o : Int), (l.vMax : Int), (l.iMax : Int)] (s.take 43).2
      t.setOutput o { t.output o with limits := some l, lowered := none }⟩,
  ⟨.vehicleLimitRegister o l, fun s => (s.take 43).1.isNone, fun s => (s.take 43).2⟩,
  ⟨.vehicleLimitLowered o, fun s => decide ((s.output o).lowered = some (l, conn)) && s.after conn 100000 &&
      decide ((s.output o).limits = some l2),
    fun s => s.setOutput o { s.output o with limits := some l, lowered := none }⟩,
  ⟨.vehicleLimit o, fun s => decide ((s.output o).limitSince = some (k, conn)) && s.after conn (1000 * fld (s.blk 7) 2 2) &&
      !(s.output o).fixed.contains 4,
    fun s => outputFault o 0x0A04 false (judge (addFixed [o] 4 (islandReport 0x0A04 (handle 4 o)
      (res [(0, 1, o), (1, 1, k), (4, 4, (s.output o).volts), (8, 4, (s.output o).amps)]) s)))⟩,
  ⟨.insulationPassed o, fun s => !(s.output o).imdPassed && s.imdGood o &&
      s.past (s.output o).imdSince (1000 * fld (s.blk 7) 12 2),
    fun s => s.via 42 [0, (o : Int)] fun t => t.setOutput o { t.output o with imdPassed := true }⟩,
  ⟨.encoderEdge a delta held high, fun s => s.axFitted a && s.sup.started && !s.limitSet && decide (s.axFld a 20 1 = 0),
    fun s => axisStep a (countError held high) (logIn (4 + a / 2) [(a : Int), delta] (s.setAxis a { s.axis a with
      pos := (s.axis a).pos + delta, recent := (s.axis a).recent ++ [(s.now, delta)],
      against := max 0 ((s.axis a).against + 0) }))⟩,
  ⟨.safeMessageTransmit k, fun s => decide (s.scFld k 0 1 = 2 ∧ s.sup.mode ≠ 3) && s.sup.started &&
      s.after (s.sconn k).txTime (1000 * s.scFld k 8 2), fun s => sendSafe k s⟩,
  ⟨.safeMessageReceive m, fun s => copyTaken m s && decide (((copyHeard m s).sconn m.conn).lastSeq ≠ some m.seq) &&
      ((copyHeard m s).sconn m.conn).waiting.all (fun w => decide (w.1.seq ≠ m.seq)),
    fun s => (copyHeard m s).setSconn m.conn { (copyHeard m s).sconn m.conn with
      waiting := ((copyHeard m s).sconn m.conn).waiting ++ [(m, (copyHeard m s).now)] }⟩,
  ⟨.safeMessageReceive m, fun s => copyTaken m s && decide (((copyHeard m s).sconn m.conn).lastSeq ≠ some m.seq ∧
      ((copyHeard m s).sconn m.conn).waiting = [(w, k)] ∧ w.portB ≠ m.portB ∧ w.seq = m.seq ∧ w.kind = m.kind ∧
      w.data = m.data ∧ w.check = m.check ∧ safeCheck m = m.check.toNat) && seqFits ((copyHeard m s).sconn m.conn) m.seq &&
      !(copyHeard m s).after k (1000 * (copyHeard m s).scFld m.conn 3 1),
    fun s => acceptSafe m.conn m (copyHeard m s)⟩,
  ⟨.safeMessageReceive m, fun s => copyTaken m s && decide (((copyHeard m s).sconn m.conn).lastSeq ≠ some m.seq ∧
      ((copyHeard m s).sconn m.conn).waiting = [(w, k)] ∧ w.portB ≠ m.portB ∧ w.seq = m.seq ∧ w.data ≠ m.data) &&
      !(copyHeard m s).after k (1000 * (copyHeard m s).scFld m.conn 3 1),
    fun s => rejectSafe m.conn m.seq 1 (copyHeard m s)⟩,
  ⟨.safeMessageReceive m, fun s => decide (m.conn < 64 ∧ s.scFld m.conn 0 1 ≠ 1), fun s => s⟩,
  ⟨.safeMsgSkewExpire k, fun s => decide ((s.sconn k).waiting = [(w, conn)]) && s.after conn (1000 * s.scFld k 3 1),
    fun s => rejectSafe k w.seq 4 s⟩,
  ⟨.safeMsgLost k, fun s => decide (s.scFld k 0 1 = 1 ∧ (s.sconn k).state ≠ 2) && s.sup.started &&
      s.after (s.sconn k).lastTime (1000 * s.scFld k 10 2),
    fun s => judge (islandReport 0x0A07 (handle 0 0) (res [(0, 1, k)]) (s.setSconn k { s.sconn k with
      state := 2, confirm := 0, waiting := [] }))⟩,
  ⟨.normalSafeStateEscalate o, fun s => decide ((s.output o).safe = 1) && !s.below2A o && s.after (s.output o).safeSince 60000,
    fun s => escalate o s⟩,
  ⟨.emergencyContactorOpen o, fun s => decide ((s.output o).safe = 2) && !(s.output o).safeOpened &&
      s.after (s.output o).safeSince 20000, fun s => emergencyOpen o s⟩,
  ⟨.tHoldExpire o, fun s => s.past (s.output o).hold (1000 * fld (s.blk 15) 4 2),
    fun s => judge (addFixed [o] 7 (s.setOutput o { s.output o with hold := none }))⟩]

/-! ### The field bus (chapter 14) -/

/-- The host commands of the field bus where they have their effect, and where they are turned away (Table 14-11, R350,
R351, R354, R367, R368). -/
def fieldCases : List Case := [
  ⟨.portStatus, line 0x0B00 .R [10] 0 0, fun _ _ => true, fun q s => .done 0
    (res [(0, 1, (s.port q.idx).state), (1, 1, min (s.port q.idx).txErrors 255),
      (2, 1, min (s.port q.idx).rxErrors 255), (3, 1, min (s.recentOffs q.idx).length 255),
      (4, 4, (s.port q.idx).sent), (8, 4, (s.port q.idx).received), (12, 2, s.portLoad q.idx),
      (14, 2, s.presentOn q.idx)]) s⟩,
  ⟨.portCounters, line 0x0B01 .R [10] 0 1, fun q _ => !tst (q.w 0) 0, fun q s => .done 0
    (res [(0, 4, (s.port q.idx).errors), (4, 4, (s.port q.idx).mismatches), (8, 4, (s.port q.idx).retrans),
      (12, 4, (s.port q.idx).shadows)]) s⟩,
  ⟨.portCounters, line 0x0B01 .R [10] 0 1, fun q _ => tst (q.w 0) 0, fun q s => .done 0
    (res [(0, 4, (s.port q.idx).errors), (4, 4, (s.port q.idx).mismatches), (8, 4, (s.port q.idx).retrans),
      (12, 4, (s.port q.idx).shadows)])
    (s.setPort q.idx { s.port q.idx with errors := 0, mismatches := 0, retrans := 0, shadows := 0 })⟩,
  ⟨.nodeStatus, line 0x0B02 .R [11] 0 0, fun _ _ => true, fun q s => .done 0
    (res [(0, 1, if (s.fnode q.idx).quarantined then 2 else (s.fnode q.idx).state),
      (1, 1, bit (s.fnode q.idx).heardA + 2 * bit (s.fnode q.idx).heardB + 4 * bit (s.fnode q.idx).duplicate),
      (2, 2, (s.fnode q.idx).epoch.toNat), (4, 4, min ((s.now - (s.fnode q.idx).lastBeat) / 1000) 4294967295),
      (8, 4, (s.fnode q.idx).absences), (12, 4, (((s.fnode q.idx).digest.map fun d => d.toNat % 4294967296).getD 0 : Nat))]) s⟩,
  ⟨.frameSend, line 0x0B03 .A [10] 2 18, fun q s => !s.frameBad (q.word 0) (q.w 1 % 128) &&
      decide ((s.port q.idx).state = 1 ∧ s.portMode q.idx = 1 ∧ aget (s.port q.idx).quiet (bareIdent (q.word 0)) = none ∧
        tget (s.port q.idx).tx 0 none = none ∧ q.w 1 / 256 % 256 ≠ 0) &&
      passes (48 + q.idx / 4) [(q.idx : Int), ((q.word 0).toNat : Int)] s,
    fun q s =>
      let t := passed (48 + q.idx / 4) [(q.idx : Int), ((q.word 0).toNat : Int)] s
      let x : TxBuf := ⟨⟨q.word 0, (((q.params.drop 2).flatMap wordBytes) ++ List.replicate 64 0).take (q.w 1 % 128),
        q.w 1 / 256 % 256, t.now⟩, q.seat, q.tag, 0⟩
      .live true [0] (t.setPort q.idx { s.port q.idx with tx := tset (s.port q.idx).tx 0 (some x) })⟩,
  ⟨.frameSend, line 0x0B03 .A [10] 2 18, fun q s => s.frameBad (q.word 0) (q.w 1 % 128), fun _ s => .done 0x0108 0 s⟩,
  ⟨.frameSend, line 0x0B03 .A [10] 2 18, fun q s => !s.frameBad (q.word 0) (q.w 1 % 128) && decide ((s.port q.idx).state = 5),
    fun _ s => .done 0x0303 0 s⟩,
  ⟨.frameSend, line 0x0B03 .A [10] 2 18, fun q s => !s.frameBad (q.word 0) (q.w 1 % 128) &&
      decide ((s.port q.idx).state = 1 ∧ s.portMode q.idx = 1) &&
      (aget (s.port q.idx).quiet (bareIdent (q.word 0))).isSome, fun q s => .done 0x08B2
    (res [(0, 1, q.idx), (1, 1, 1), (4, 4, (bareIdent (q.word 0)).toNat)]) s⟩,
  ⟨.frameSend, line 0x0B03 .A [10] 2 18, fun q s => !s.frameBad (q.word 0) (q.w 1 % 128) &&
      decide ((s.port q.idx).state = 1 ∧ s.portMode q.idx = 1 ∧ aget (s.port q.idx).quiet (bareIdent (q.word 0)) = none) &&
      decide ((upTo 4).find? (fun b => (tget (s.port q.idx).tx b none).isNone) = none), fun _ s => .done 0x05B0 0 s⟩,
  ⟨.rxObjectSet, line 0x0B04 .A [10] 4 4, fun q s => decide (q.w 0 ≤ 15 ∧ (s.port q.idx).state ≠ 5), fun q s => .done 0 0
    (s.setPort q.idx { s.port q.idx with
      rx := tset (s.port q.idx).rx (q.w 0)
        { ident := q.word 1, mask := q.word 2, enable := tst (q.w 3) 0, event := tst (q.w 3) 1 } })⟩,
  ⟨.rxObjectSet, line 0x0B04 .A [10] 4 4, fun q _ => decide (15 < q.w 0), fun _ s => .done 0x0108 0 s⟩,
  ⟨.rxObjectSet, line 0x0B04 .A [10] 4 4, fun q s => decide (q.w 0 ≤ 15 ∧ (s.port q.idx).state = 5), fun _ s => .done 0x0303 0 s⟩,
  ⟨.rxObjectRead, line 0x0B05 .R [10] 2 2, fun q s => decide (q.w 0 ≤ 15 ∧ q.w 1 = 0 ∧
      (tget (s.port q.idx).rx (q.w 0) {}).main = none), fun _ s => .done 0 0 s⟩,
  ⟨.rxObjectRead, line 0x0B05 .R [10] 2 2, fun q s => decide (q.w 0 ≤ 15 ∧ q.w 1 = 0) &&
      (match (tget (s.port q.idx).rx (q.w 0) {}).main with
        | none => false
        | some f => decide (f.data.length ≤ 8)), fun q s =>
    let o := tget (s.port q.idx).rx (q.w 0) {}
    let f := o.main.getD ⟨0, [], false⟩
    .done 0 (res [(0, 4, f.ident.toNat), (4, 1, f.data.length), (5, 1, bit o.shadow.isSome + 2 * bit (decide (0 < o.replaced))),
        (8, 8, leNat (f.data.take 8))])
      (s.setPort q.idx { s.port q.idx with
        rx := tset (s.port q.idx).rx (q.w 0) { o with
          replaced := 0, heldSince := none, main := if o.shadow.isSome then o.shadow else o.main, shadow := none } })⟩,
  ⟨.rxObjectRead, line 0x0B05 .R [10] 2 2, fun q _ => decide (15 < q.w 0 ∨ 56 < q.w 1 ∨ q.w 1 % 8 ≠ 0),
    fun _ s => .done 0x0108 0 s⟩,
  ⟨.rxObjectRead, line 0x0B05 .R [10] 2 2, fun q s => decide (q.w 0 ≤ 15 ∧ q.w 1 = 8 ∧
      (tget (s.port q.idx).rx (q.w 0) {}).heldSince = none), fun _ s => .done 0x0301 0 s⟩,
  ⟨.duplicateRead, line 0x0B06 .R [10] 0 0, fun _ _ => true, fun q s => .done 0
    (res [(0, 4, (s.port q.idx).dupIdent.toNat), (4, 8, (s.port q.idx).dupTime), (12, 4, (s.port q.idx).dupCount)]) s⟩]

/-- What a node's STAGE_RESULT records: the frame, its SEQ, and the end of the transfer (R88, R364). -/
def resultHeard (n : Nat) (h : FieldHead) (s : State) : State :=
  let t := countFrame h.port (nodeIdent 5 0x22 (n % 32)) 48 true s
  let t := t.setFnode n { t.fnode n with resultSeq := some h.seq }
  t.setFnode n { t.fnode n with transfer := none }

/-- A node's STAGE_RESULT answers the stage in progress (R88, R357, R364). -/
def resultCounts (n : Nat) (h : FieldHead) (s : State) : Bool :=
  let t := countFrame h.port (nodeIdent 5 0x22 (n % 32)) 48 true s
  s.reachesNode h.port n && h.checkOk && !(t.fnode n).duplicate &&
  decide ((t.fnode n).resultSeq ≠ some h.seq ∧ (resultHeard n h s).ep.phase = 1 ∧
    aget (resultHeard n h s).ep.answers n = some 0)

/-- What a node's COMMIT_ACK records: the frame and its SEQ (R364). -/
def ackHeard (n : Nat) (h : FieldHead) (s : State) : State :=
  let t := countFrame h.port (nodeIdent 2 0x0A (n % 32)) 20 true s
  t.setFnode n { t.fnode n with ackSeq := some h.seq }

/-- A node's COMMIT_ACK is taken: its port reaches the node, its CHECK is right, and its SEQ is new (R357). -/
def ackNew (n : Nat) (h : FieldHead) (s : State) : Bool :=
  let t := countFrame h.port (nodeIdent 2 0x0A (n % 32)) 20 true s
  s.reachesNode h.port n && h.checkOk && !(t.fnode n).duplicate && decide ((t.fnode n).ackSeq ≠ some h.seq)

/-- A report's node as it is recorded (R362). -/
def reportSeen (n : Nat) (r : NodeReport) (s : State) : State :=
  let t := afterSnapshot (countFrame r.port (nodeIdent 3 0x12 (n % 32)) 48 true s)
  t.setFnode n { t.fnode n with reportSeq := some r.seq, report := some r, reportTime := t.now }

/-- A frame on a port is counted (R354, R356). -/
def frameHeard (p : Nat) (f : CanFrame) (s : State) : State :=
  countHeard p f.ident (if f.remote then 0 else f.data.length) s

/-- The events of the field bus where they have their effect (R88, R345, R347, R349 to R355, R360 to R362, R364, R368). -/
noncomputable def fieldEvents (n p k retrans since age : Nat) (hb : NodeBeat) (r : NodeReport) (digest : Digest) (epoch ident : Word)
    (er : CanError) (f : CanFrame) (x : TxFrame) (h : FieldHead) : List Event := [
  ⟨.hbCtrlSend, fun s => s.power.domains.getLsbD 9 && s.clk.timeValid &&
      decide (s.field.beat ≠ some s.now ∧ s.clk.tai % 100000 = 0),
    sendBeat⟩,
  ⟨.hbCtrlSend, fun s => s.power.domains.getLsbD 9 && !s.clk.timeValid && decide (s.field.beat ≠ some s.now) &&
      (s.field.beat.isNone || s.past s.field.beat 100000), sendBeat⟩,
  ⟨.hbCtrlSend, fun s => !s.power.domains.getLsbD 9, fun s => s⟩,
  ⟨.hbNode n hb, fun s =>
      let t := countFrame hb.port (nodeIdent 3 0x11 (n % 32)) 48 true s
      s.carries hb.port n && hb.checkOk && !(t.fnode n).duplicate &&
        decide ((t.fnode n).beatSeq ≠ some hb.seq ∧ (t.fnode n).state ≠ 3) && !(beatSeen n hb t).beforeTick n hb,
    fun s =>
      let t := beatSeen n hb (countFrame hb.port (nodeIdent 3 0x11 (n % 32)) 48 true s)
      judgeBeat n hb { t with ep := { t.ep with before := adel t.ep.before n } }⟩,
  ⟨.hbNode n hb, fun s => s.carries hb.port n && !hb.checkOk, countFrame hb.port (nodeIdent 3 0x11 (n % 32)) 48 false⟩,
  ⟨.hbNode n hb, fun s => !s.carries hb.port n, fun s => s⟩,
  ⟨.nodeAbsent n, fun s => (aget s.ep.cfg.fields n).isSome && s.after (s.fnode n).lastBeat (1000 * fld (s.fbody n) 6 2),
    fun s => nodeGone n 1 (afterSnapshot s)⟩,
  ⟨.nodeAbsent n, fun s => decide (aget s.ep.cfg.fields n = none), fun s => s⟩,
  ⟨.nodeReport n r, fun s => s.carries r.port n && r.checkOk &&
      decide (((countFrame r.port (nodeIdent 3 0x12 (n % 32)) 48 true s).fnode n).state ≠ 3 ∧
        ((countFrame r.port (nodeIdent 3 0x12 (n % 32)) 48 true s).fnode n).duplicate = false ∧
        ((countFrame r.port (nodeIdent 3 0x12 (n % 32)) 48 true s).fnode n).reportSeq ≠ some r.seq ∧
        (passed (44 + r.port / 4) [(n : Int)] (reportSeen n r s)).boundTo n = some k) &&
      passes (44 + r.port / 4) [(n : Int)] (reportSeen n r s),
    fun s => postRequest k r.demand r.offer (min r.firm r.offer) (passed (44 + r.port / 4) [(n : Int)] (reportSeen n r s))⟩,
  ⟨.nodeReport n r, fun s => s.carries r.port n && !r.checkOk, countFrame r.port (nodeIdent 3 0x12 (n % 32)) 48 false⟩,
  ⟨.stageResult n 0 digest h, resultCounts n h,
    fun s =>
      let t := resultHeard n h s
      let t : State := { t with ep := { t.ep with
        answers := aset t.ep.answers n (if digest = t.ep.staged.own 3 n then 1 else 2) } }
      if t.stageCount 0 = 0 then stageDone t else t⟩,
  ⟨.stageResult n 1 digest h, resultCounts n h,
    fun s =>
      let t := resultHeard n h s
      let t : State := { t with ep := { t.ep with answers := aset t.ep.answers n 2 } }
      if t.stageCount 0 = 0 then stageDone t else t⟩,
  ⟨.stageResult n k digest h, fun s => !s.reachesNode h.port n, fun s => s⟩,
  ⟨.commitAck n 1 epoch h, fun s => ackNew n h s && decide ((ackHeard n h s).ep.phase = 3 ∧
      epoch = (ackHeard n h s).ep.number + 1 ∧ aget (ackHeard n h s).ep.answers n = some 1 ∧
      ¬ (ackHeard n h s).ep.acked.contains n),
    fun s => { ackHeard n h s with ep := { (ackHeard n h s).ep with acked := (ackHeard n h s).ep.acked ++ [n] } }⟩,
  ⟨.commitAck n 1 epoch h, fun s => ackNew n h s && decide ((ackHeard n h s).ep.phase ≠ 3), ackHeard n h⟩,
  ⟨.commitAnnounceResend, fun s => decide (s.ep.phase = 3) && s.after s.ep.announceAt 10000, sendAnnounce⟩,
  ⟨.commitAnnounceResend, fun s => decide (s.ep.phase ≠ 3) || !s.after s.ep.announceAt 10000, fun s => s⟩,
  ⟨.canBusError p er, fun s => s.portHears p && !er.afterArbitration && decide ((s.port p).state ≠ 4 ∧
      errorState er.txErrors er.rxErrors ≠ 3),
    fun s => commitPortResets p (s.setPort p { s.port p with
      txErrors := er.txErrors, rxErrors := er.rxErrors, errors := bump32 (s.port p).errors,
      state := errorState er.txErrors er.rxErrors })⟩,
  ⟨.canBusError p er, fun s => s.portHears p && !er.afterArbitration && decide ((s.port p).state ≠ 4 ∧
      errorState er.txErrors er.rxErrors = 3),
    fun s => busOff p (s.setPort p { s.port p with
      txErrors := er.txErrors, rxErrors := er.rxErrors, errors := bump32 (s.port p).errors })⟩,
  ⟨.busOffRecovered p, fun s => decide ((s.port p).state = 3) && !(s.port p).resetting &&
      s.after (s.port p).offAt (s.busOffTime p),
    fun s => s.setPort p { s.port p with state := 1, txErrors := 0, rxErrors := 0 }⟩,
  ⟨.busOffRecovered p, fun s => decide ((s.port p).state ≠ 3) || !s.after (s.port p).offAt (s.busOffTime p), fun s => s⟩,
  ⟨.portRejoin p, fun s => (s.port p).resetting && decide ((s.port p).state ≠ 5 ∧ s.portMode p = 1),
    fun s =>
      let t := s.setPort p { s.port p with resetting := false, state := 1 }
      overL ((t.liveOn 0x0104 (handle 10 p)).filter (·.committed)) (fun l u => u.finish l 0 0) t⟩,
  ⟨.portRejoin p, fun s => !(s.port p).resetting, fun s => s⟩,
  ⟨.duplicateQuietEnd p ident, fun s => decide (aget (s.port p).quiet (bareIdent ident) = some (since, k)) &&
      s.after since 10000000 && !isProfile (bareIdent ident),
    fun s => s.setPort p { s.port p with quiet := adel (s.port p).quiet (bareIdent ident) }⟩,
  ⟨.duplicateQuietEnd p ident, fun s => decide (aget (s.port p).quiet (bareIdent ident) = some (since, k)) &&
      !s.after since 10000000, fun s => s⟩,
  ⟨.hostFrameReceive p f, fun s => s.portHears p && decide (p < 16 ∧ (s.port p).state ≠ 5 ∧
      (frameHeard p f s).rxMatch p f = some k) && !f.remote && !(frameHeard p f s).malformed p f &&
      !(tget ((frameHeard p f s).port p).rx k {}).event,
    fun s =>
      let t := frameHeard p f s
      let o := storeFrame (tget (t.port p).rx k {}) f
      (t.setPort p { t.port p with
        rx := tset (t.port p).rx k o.1, shadows := if o.2 then bump32 (t.port p).shadows else (t.port p).shadows }).via
          (44 + p / 4) [(p : Int), (k : Int)] id⟩,
  ⟨.hostFrameReceive p f, fun s => s.portHears p && decide (p < 16 ∧ (s.port p).state ≠ 5 ∧
      (frameHeard p f s).rxMatch p f = some k) && !f.remote && !(frameHeard p f s).malformed p f &&
      (tget ((frameHeard p f s).port p).rx k {}).event,
    fun s =>
      let t := frameHeard p f s
      let o := storeFrame (tget (t.port p).rx k {}) f
      (t.setPort p { t.port p with
        rx := tset (t.port p).rx k o.1, shadows := if o.2 then bump32 (t.port p).shadows else (t.port p).shadows }).via
          (44 + p / 4) [(p : Int), (k : Int)] fun u => u.event 11 0x00B1
            (res [(0, 1, p), (1, 1, k), (2, 1, f.data.length), (4, 4, f.ident.toNat)])⟩,
  ⟨.hostFrameReceive p f, fun s => s.portHears p && decide (p < 16 ∧ (s.port p).state ≠ 5) && f.remote,
    fun s => ((frameHeard p f s).setPort p { (frameHeard p f s).port p with
      ignored := bump32 ((frameHeard p f s).port p).ignored }).note 11 (handle 10 p) [5]⟩,
  ⟨.hostFrameReceive p f, fun s => s.portHears p && decide (p < 16 ∧ (s.port p).state ≠ 5) && !f.remote &&
      (frameHeard p f s).malformed p f,
    fun s => (frameHeard p f s).setPort p { (frameHeard p f s).port p with
      discarded := bump32 ((frameHeard p f s).port p).discarded }⟩,
  ⟨.hostFrameReceive p f, fun s => s.portHears p && decide (p < 16 ∧ (s.port p).state ≠ 5 ∧
      (frameHeard p f s).rxMatch p f = none) && !f.remote && !(frameHeard p f s).malformed p f,
    frameHeard p f⟩,
  ⟨.hostFrameReceive p f, fun s => decide (p < 16 ∧ (s.port p).state = 5),
    fun s => s.setPort p { s.port p with received := bump32 (s.port p).received }⟩,
  ⟨.rxHoldExpire p k, fun s => s.past (tget (s.port p).rx k {}).heldSince 10000,
    fun s =>
      let o := tget (s.port p).rx k {}
      let o := { o with heldSince := none, shadow := none, main := if o.shadow.isSome then o.shadow else o.main }
      s.setPort p { s.port p with rx := tset (s.port p).rx k o }⟩,
  ⟨.rxHoldExpire p k, fun s => !s.past (tget (s.port p).rx k {}).heldSince 10000, fun s => s⟩,
  ⟨.canTransmitDone p k true retrans age, fun s => s.portUp p && decide (p < 16 ∧ age ≤ s.now ∧ k < 4 ∧
      winner (s.pendingAt p (s.now - age)) = some (k, x)) && x.mayEnd true retrans,
    fun s =>
      let t := frameSent p x (s.setPort p { s.port p with retrans := min ((s.port p).retrans + retrans) 4294967295 })
      commitPortResets p (endHostFrame p k 0 (res [(0, 1, retrans), (8, 8, ((t.time - age : Nat) : Int))]) t)⟩,
  ⟨.canTransmitDone p k false retrans age, fun s => s.portUp p && decide (p < 16 ∧ age ≤ s.now ∧ k < 4 ∧
      winner (s.pendingAt p (s.now - age)) = some (k, x)) && x.mayEnd false retrans,
    fun s => commitPortResets p (endHostFrame p k 0x04B0 (res [(0, 1, retrans), (8, 8, 0)]) (s.setPort p { s.port p with
      retrans := min ((s.port p).retrans + retrans) 4294967295 }))⟩,
  ⟨.canTransmitDone p 4 true retrans age, fun s => s.portUp p && decide (p < 16 ∧ age ≤ s.now ∧
      winner (s.pendingAt p (s.now - age)) = some (4, x)) && x.mayEnd true retrans,
    fun s =>
      let t := frameSent p x (s.setPort p { s.port p with retrans := min ((s.port p).retrans + retrans) 4294967295 })
      commitPortResets p (t.setPort p { t.port p with profile := dropFirst x (t.port p).profile })⟩,
  ⟨.canTransmitDone p k true retrans age, fun s => !s.portUp p, fun s => s⟩]

/-! ### Load switches (chapter 15) -/

/-- The host commands of the load switches where they have their effect, and where they are turned away (Table 15-8,
R373, R380, R385, R73). -/
def lsCases : List Case := [
  ⟨.lsStatus, line 0x0A00 .R [12] 0 0, fun _ _ => true, fun q s => .done 0 (res [(0, 1, (s.chan q.idx).state),
    (1, 1, (if lsOn (s.chan q.idx) then (s.fresh.1 : Int) % 2 else 0) + 2 * bit (s.lsDuty q.idx).2 +
      4 * bit (s.fresh.2.lsOverride q.idx) + 8 * bit (s.fresh.2.ls.linkLost ≠ none) + 16 * bit (s.chan q.idx).openLoad),
    (2, 2, (s.lsDuty q.idx).1), (4, 2, lsReport (s.chan q.idx) (s.fresh.1 / 2)), (6, 1, (s.fresh.1 / 2048 % 256 : Nat)),
    (7, 1, (s.chan q.idx).cause), (8, 2, s.fresh.2.ls.vls), (10, 2, (s.fresh.1 / 524288 % 65536 : Nat)),
    (12, 2, (s.fresh.2.lsLeft q.idx / 1000 : Nat)), (14, 1, sat 8 (s.fresh.2.lsRecent q.idx))]) s.fresh.2⟩,
  ⟨.lsSet, line 0x0A01 .A [12] 1 1, fun q s => decide (s.lsMode q.idx ≠ 0 ∧ s.lsSrc q.idx = 0 ∧
      q.w 0 ≤ 1000 ∧ (s.lsMode q.idx = 1 → q.w 0 ≤ 1) ∧ (s.chan q.idx).state ≠ 4 ∧ (s.chan q.idx).state ≠ 5 ∧
      s.ls.linkLost = none),
    fun q s => .done 0 (res [(0, 2, (s.chan q.idx).command)])
      (lsApply q.idx (s.setChan q.idx { s.chan q.idx with command := q.w 0, waiting := none }))⟩,
  ⟨.lsSet, line 0x0A01 .A [12] 1 1, fun q s => decide (s.lsMode q.idx ≠ 0 ∧ s.lsSrc q.idx = 0 ∧
      q.w 0 ≤ 1000 ∧ (s.lsMode q.idx = 1 → q.w 0 ≤ 1) ∧ (s.chan q.idx).state ≠ 4 ∧ (s.chan q.idx).state ≠ 5 ∧
      s.ls.linkLost ≠ none),
    fun q s => .live false [(q.w 0 : Int)] s⟩,
  ⟨.lsSet, line 0x0A01 .A [12] 1 1, fun q s => decide (1000 < q.w 0 ∨ s.lsMode q.idx = 1 ∧ 1 < q.w 0),
    fun _ s => .done 0x0108 0 s⟩,
  ⟨.lsSet, line 0x0A01 .A [12] 1 1, fun q s => decide (q.w 0 ≤ 1 ∧ (s.chan q.idx).state = 5),
    fun _ s => .done 0x0303 0 s⟩,
  ⟨.lsSet, line 0x0A01 .A [12] 1 1, fun q s => decide (q.w 0 ≤ 1 ∧ (s.chan q.idx).state = 4 ∧ s.lsMode q.idx ≠ 0 ∧
      s.lsSrc q.idx = 0), fun _ s => .done 0x03A0 0 s⟩,
  ⟨.lsClear, line 0x0A02 .A [12] 0 0, fun q s => decide ((s.chan q.idx).state = 4 ∧ s.ls.linkLost = none),
    fun q s => .done 0 (res [(0, 1, (s.chan q.idx).cause)])
      (lsApply q.idx ((s.setChan q.idx { s.chan q.idx with state := 0, cause := 0, backoff := none }).freeContext
        (handle 12 q.idx)))⟩,
  ⟨.lsClear, line 0x0A02 .A [12] 0 0, fun q s => decide ((s.chan q.idx).state ≠ 4 ∧ (s.chan q.idx).state ≠ 5),
    fun _ s => .done 0x0001 0 s⟩,
  ⟨.lsClear, line 0x0A02 .A [12] 0 0, fun q s => decide ((s.chan q.idx).state = 5), fun _ s => .done 0x0303 0 s⟩,
  ⟨.lsCurrents, line 0x0A03 .R [0] 1 1, fun q _ => decide (q.w 0 ≤ 1), fun q s => .done 0
    (res [(0, 15, ((upTo 12).foldl (fun a i =>
      a + lsReport (s.fresh.2.chan (12 * q.w 0 + i)) (s.fresh.1 / 1024 ^ i) * 2 ^ (10 * i)) 0 : Nat))]) s.fresh.2⟩,
  ⟨.lsCounters, line 0x0A04 .R [12] 0 1, fun q _ => !(q.word 0).getLsbD 0, fun q s => .done 0
    (res [(0, 4, (s.chan q.idx).switchOns), (4, 4, (s.chan q.idx).latchCount), (8, 4, (s.chan q.idx).thermalCount),
      (12, 2, sat 16 (s.chan q.idx).retryCount), (14, 2, sat 16 (s.chan q.idx).pauses)]) s⟩,
  ⟨.lsCounters, line 0x0A04 .R [12] 0 1, fun q _ => (q.word 0).getLsbD 0, fun q s => .done 0
    (res [(0, 4, (s.chan q.idx).switchOns), (4, 4, (s.chan q.idx).latchCount), (8, 4, (s.chan q.idx).thermalCount),
      (12, 2, sat 16 (s.chan q.idx).retryCount), (14, 2, sat 16 (s.chan q.idx).pauses)])
    (s.setChan q.idx { s.chan q.idx with
      switchOns := 0, latchCount := 0, thermalCount := 0, retryCount := 0, pauses := 0 })⟩,
  ⟨.lsConfigSet, line 0x0A05 .C [0] 3 12, fun q s => overlayFits 11 0 396 q s, fun q s => .done 0 0 (overlayWrite 11 0 q s)⟩,
  ⟨.lsConfigSet, line 0x0A05 .C [0] 3 12, fun q _ => decide (q.w 0 % 4 ≠ 0 ∨ 396 < q.w 0), fun _ s => .done 0x0108 0 s⟩]

/-- The events of the load switches where they have their effect (R371 to R383). -/
noncomputable def lsEvents (c k temp vout vls held : Nat) (tc : Int) (low : Bool) : List Event := [
  ⟨.lsShort c vout held, fun s => lsOn (s.chan c) && decide ((s.chan c).state ≠ 2 ∨ s.lsLoad c ≠ 5) &&
      decide (5 * vout < s.ls.vls ∧ 20 ≤ held),
    fun s => lsLatch c 1 0x08A0 (res [(0, 1, c), (1, 1, 1), (4, 2, s.ls.vls)]) (s.setChan c { s.chan c with vout := vout })⟩,
  ⟨.lsOverload c held, fun s => lsOn (s.chan c) && decide (lsHeavy c = false ∧ (s.chan c).state ≠ 2 ∧
      (if s.lsLoad c = 2 then 1000 else 100) ≤ held),
    fun s => lsLatch c 2 0x08A1 (res [(0, 1, c), (1, 1, (s.chan c).burst), (2, 1, 1)]) s⟩,
  ⟨.lsOverload c held, fun s => lsOn (s.chan c) && decide (lsHeavy c = false ∧ (s.chan c).state = 2 ∧ s.lsLoad c = 0 ∧
      100 ≤ held),
    fun s => lsLatch c 2 0x08A1 (res [(0, 1, c), (1, 1, (s.chan c).burst), (2, 1, 1)]) s⟩,
  ⟨.lsOverload c held, fun s => lsHeavy c && lsOn (s.chan c) && decide (1000 ≤ held ∧ (s.chan c).burstEnded = false ∧
      s.now ≤ (s.chan c).onTime + 2000000 ∧ s.lsFld c 10 1 ≤ (s.chan c).burst),
    fun s => lsLatch c 2 0x08A1 (res [(0, 1, c), (1, 1, (s.chan c).burst), (2, 1, 1)]) s⟩,
  ⟨.lsOverload c held, fun s => lsHeavy c && lsOn (s.chan c) && decide ((s.chan c).state = 6 ∧ (s.chan c).burstEnded = false ∧
      (s.chan c).burst < s.lsFld c 10 1 ∧ 1000 ≤ held),
    fun s => (lsRefresh c (s.setChan c { s.chan c with state := 6, burstOff := some s.now })).event 10 0x08A1
      (res [(0, 1, c), (1, 1, (s.chan c).burst)])⟩,
  ⟨.lsThermal c temp, fun s => lsOn (s.chan c) && decide (s.lsFld c 8 1 < temp) &&
      decide (((s.chan c).thermals.filter fun t => decide (s.now < t + 10000000)).length < 15),
    fun s => lsOff c 3 (s.setChan c { s.chan c with
      temp := temp, thermals := ((s.chan c).thermals.filter fun t => decide (s.now < t + 10000000)) ++ [s.now],
      thermalCount := bump32 (s.chan c).thermalCount })⟩,
  ⟨.lsThermal c temp, fun s => lsOn (s.chan c) && decide (s.lsFld c 8 1 < temp) &&
      decide (15 ≤ ((s.chan c).thermals.filter fun t => decide (s.now < t + 10000000)).length),
    fun s => lsLatch c 3 0x08A2 (res [(0, 1, c), (1, 1, temp)]) (s.setChan c { s.chan c with
      temp := temp, thermals := ((s.chan c).thermals.filter fun t => decide (s.now < t + 10000000)) ++ [s.now],
      thermalCount := bump32 (s.chan c).thermalCount })⟩,
  ⟨.lsThermalRestart c temp, fun s => decide ((s.chan c).state = 3 ∧ temp + 10 ≤ s.lsFld c 8 1),
    fun s => lsApply c (s.setChan c { s.chan c with temp := temp, state := 0 })⟩,
  ⟨.lsDieOvertemp tc, fun s => decide (s.ls.overtemp = false ∧ 1500 < tc),
    fun s => (lsAllOff { s with ls := { s.ls with caseTemp := tc, overtemp := true } }).event 10 0x08A4
      (res [(0, 1, 3), (2, 2, s.ls.vls)])⟩,
  ⟨.lsDieOvertemp tc, fun s => decide (s.ls.overtemp ∧ tc ≤ 1400),
    fun s => (lsAll lsApply { s with ls := { s.ls with caseTemp := tc, overtemp := false } }).event 10 0x08A4
      (res [(0, 1, 0), (2, 2, s.ls.vls)])⟩,
  ⟨.lsOpenLoad c held, fun s => tst (s.lsFld c 3 1) 0 && lsOn (s.chan c) && decide ((s.chan c).duty = 1000 ∧ 100000 ≤ held) &&
      !(s.chan c).openLoad,
    fun s => (s.setChan c { s.chan c with openLoad := true, current := 0 }).event 10 0x08A6 (res [(0, 1, c)])⟩,
  ⟨.lsSupply vls, fun s => s.ls.supplyOk && decide (vls < 65),
    fun s => (lsAllOff { s with ls := { s.ls with vls := vls, supplyOk := false, okSince := none } }).event 10 0x08A4
      (res [(0, 1, 1), (2, 2, vls)])⟩,
  ⟨.lsSupply vls, fun s => s.ls.supplyOk && decide (360 < vls),
    fun s => (lsAllOff { s with ls := { s.ls with vls := vls, supplyOk := false, okSince := none } }).event 10 0x08A4
      (res [(0, 1, 2), (2, 2, vls)])⟩,
  ⟨.lsSupply vls, fun s => !s.ls.supplyOk && decide (70 ≤ vls ∧ vls ≤ 350) && s.past s.ls.okSince 1000,
    fun s => (lsAll lsApply { s with ls := { s.ls with vls := vls, supplyOk := true, okSince := none } }).event 10 0x08A4
      (res [(0, 1, 0), (2, 2, vls)])⟩,
  ⟨.inrushWindowEnd c vout, fun s => decide ((s.chan c).state = 2 ∧ s.lsLeft c = 0 ∧ s.lsLoad c ≠ 5 ∧
      (s.setChan c { s.chan c with vout := vout }).lsLoad c ≠ 5), fun s =>
    let t := s.setChan c { s.chan c with vout := vout }
    lsServed c (lsRefresh c (t.setChan c { t.chan c with state := 1, window := none, pausedAt := none }))⟩,
  ⟨.lsBackoffExpire c, fun s => s.power.domains.getLsbD 4 && decide ((s.chan c).backoff = some (k,
      vls) ∧ s.ls.linkLost = none ∧ (s.chan c).state = 4) &&
      s.after k vls && decide (((lsApply c ((s.attemptContext (handle 12 c)).setChan c { s.chan c with
        state := 0, cause := 0, backoff := none })).chan c).state = 2),
    fun s => lsApply c ((s.attemptContext (handle 12 c)).setChan c { s.chan c with state := 0, cause := 0, backoff := none })⟩,
  ⟨.lsBackoffExpire c, fun s => decide ((s.chan c).backoff = none), fun s => s⟩,
  ⟨.lsLinkRestored, fun s => s.power.domains.getLsbD 4 && decide (s.ls.linkLost = some k),
      fun s => lsDeliver (lsResume (lsLinkUp k s))⟩,
  ⟨.lsLinkRestored, fun s => !s.power.domains.getLsbD 4 || decide (s.ls.linkLost = none), fun s => s⟩,
  ⟨.inrushWindowEnd c vout, fun s => decide ((s.chan c).state = 2 ∧ s.lsLeft c = 0 ∧ s.lsLoad c = 5 ∧
      2 * vout ≤ s.ls.vls),
    fun s => lsLatch c 1 0x08A0 (res [(0, 1, c), (1, 1, 2), (4, 2, s.ls.vls)]) (s.setChan c { s.chan c with vout := vout })⟩,
  ⟨.vlsDroop vls, fun _ => true,
    fun s => lsAll (lsDroop (decide (vls < fld (s.blk 11) 2 2)))
      { s with ls := { s.ls with vls := vls, droop := decide (vls < fld (s.blk 11) 2 2) } }⟩,
  ⟨.droopPauseEnd c, fun s => match (s.chan c).pausedAt with
      | none => false
      | some p => decide (2000 ≤ (s.chan c).pauseTotal + (s.now - p)),
    fun s => s.setChan c { s.chan c with pausedAt := none, pauseTotal := 2000 }⟩,
  ⟨.lsBurstRetry c, fun s => decide ((s.chan c).state = 6) && s.past (s.chan c).burstOff 1000,
    fun s => lsRefresh c (s.setChan c { s.chan c with
      burst := (s.chan c).burst + 1, burstOff := none, retryCount := (s.chan c).retryCount + 1, onTime := s.now })⟩,
  ⟨.lsBurstEnd c held, fun s => decide ((s.chan c).state = 6 ∧ (s.chan c).burstOff = none ∧
      s.after (s.chan c).onTime 10000 ∧ 10000 ≤ held),
    fun s => (lsRefresh c (s.setChan c { s.chan c with state := 1, burst := 0, burstEnded := true })).freeContext
      (handle 12 c)⟩,
  ⟨.lsLinkLost, fun s => decide (s.ls.linkLost = none),
    fun s => { lsSuspend s with ls := { (lsSuspend s).ls with linkLost := some (lsSuspend s).now } }⟩,
  ⟨.lsLimp low, fun s => decide (s.ls.limp ≠ low ∧ s.ls.linkLost = none),
    fun s => overL ((upTo 24).filter lsHeavy) lsApply
      (({ s with ls := { s.ls with limp := low } } : State).event 10 0x00A0 (res [(0, 1, bit low), (4, 8, s.time)]))⟩,
  ⟨.lhinChange k true, fun s => decide (k < 8 ∧ s.ls.lhin.getLsbD k = false ∧ s.ls.limp = false),
    fun s => ({ s with ls := { s.ls with lhin := s.ls.lhin ||| BitVec.ofNat 8 (2 ^ k) } } : State).setChan (16 + k)
      { s.chan (16 + k) with lhinLow := none }⟩]

/-! ### Keys, identity and firmware trust (chapter 16) -/

/-- The option word of FW_WRITE in its form with words, and in its form with a buffer (Table 16-14). -/
def fwOption (q : Req) : Nat := match q.buf with
  | none => q.w 1
  | some _ => q.w 5

/-- The crypto engine takes the work of a command at once, by way of Q60 (Tables 1-2 and 1-5). -/
def engineTakes (q : Req) (s : State) : Bool := passes 60 [(q.opcode : Int), (q.idx : Int)] s

/-- The state in which the engine does that work. -/
def engineAt (q : Req) (s : State) : State := passed 60 [(q.opcode : Int), (q.idx : Int)] s

/-- The MRAM writer takes the write of a command at once, by way of Q62. -/
def writerTakes (q : Req) (s : State) : Bool := passes 62 [(q.opcode : Int), (q.idx : Int)] s

/-- The state in which the writer writes. -/
def writerAt (q : Req) (s : State) : State := passed 62 [(q.opcode : Int), (q.idx : Int)] s

/-- The state in which KEY_DESTROY takes effect: a persistent key's record is the MRAM writer's work too. -/
def destroyAt (q : Req) (s : State) : State :=
  if (s.key q.idx).persistent then writerAt q (engineAt q s) else engineAt q s

/-- The host commands of keys, identity and firmware where they have their effect, and where they are turned away (Table
16-14, R389 to R391, R395, R398 to R401, R404, R405). A write to MRAM that reads back wrong is the free value's case. -/
def trustCases : List Case := [
  ⟨.keyGenerate, line 0x0D01 .K [13] 1 1, fun q s => !s.keyLoading q.idx && !s.keyLoading (q.w 0 / 256 % 256) &&
      engineTakes q s &&
      decide (2 ≤ q.idx ∧ s.newKeyRefused q.idx (q.w 0 % 256) (q.w 0 / 256 % 256) (BitVec.ofNat 8 (q.w 0 / 65536)) = none ∧
        s.writeRefused (decide (q.w 0 / 256 % 256 = 0 ∨ (s.key (q.w 0 / 256 % 256)).level < 2)) true = none),
    fun q s => let d := draw (keyBytes (q.w 0 % 256)) (engineAt q s); makeKey q d.1 d.2⟩,
  ⟨.keyGenerate, line 0x0D01 .K [13] 1 1, fun q s => decide (2 ≤ q.idx) &&
      (s.keyLoading q.idx || s.keyLoading (q.w 0 / 256 % 256)), fun q s => keyWait q s⟩,
  ⟨.keyGenerate, line 0x0D01 .K [13] 1 1, fun q s => !s.keyLoading q.idx && !s.keyLoading (q.w 0 / 256 % 256) &&
      decide (2 ≤ q.idx ∧ 1 ≤ q.w 0 % 256 ∧ q.w 0 % 256 ≤ 6 ∧ (s.key q.idx).state ≠ 0) &&
      !(BitVec.ofNat 8 (q.w 0 / 65536)).getLsbD 7, fun _ s => .done 0x0707 0 s⟩,
  ⟨.keyImport, line 0x0D02 .K [13] 17 26, fun q s => !s.keyLoading q.idx && !s.keyLoading (q.w 0 / 256 % 256) &&
      !s.keyLoading (q.w 1) && engineTakes q s && decide (2 ≤ q.idx ∧ q.w 1 ≤ 255 ∧
        s.newKeyRefused q.idx (q.w 0 % 256) (q.w 0 / 256 % 256) (BitVec.ofNat 8 (q.w 0 / 65536)) = none ∧
        s.useRefused (q.w 1) 6 none = none ∧ (s.key (q.w 1)).type = 6 ∧
        s.writeRefused (decide (q.w 0 / 256 % 256 = 0 ∨ (s.key (q.w 0 / 256 % 256)).level < 2)) false = none),
    fun q s =>
      let t := remask (q.w 1) (engineAt q s)
      match Config.gcmOpen (t.key (q.w 1)).value (((q.params.drop 2).take 3).flatMap wordBytes)
        (leBytes t.boot.uid.toNat 8 ++ leBytes q.idx 1)
        (((q.params.drop 5).flatMap wordBytes).take (keyBytes (q.w 0 % 256) + 16)) with
      | none => .done 0x0706 0 t
      | some v => if v.length ≠ keyBytes (q.w 0 % 256) then .done 0x0706 0 t else makeKey q v t⟩,
  ⟨.keyUpdate, line 0x0D03 .K [13] 0 0, fun q s => !s.keyLoading q.idx && engineTakes q s &&
      decide (2 ≤ q.idx ∧ s.changeRefused q.idx true = none),
    fun q s => let d := draw (keyBytes ((engineAt q s).key q.idx).type) (engineAt q s); raiseGen q d.1 d.2⟩,
  ⟨.keyUpdate, line 0x0D03 .K [13] 0 0, fun q s => decide (2 ≤ q.idx ∧ (s.key q.idx).state = 2), fun _ s => .done 0x0703 0 s⟩,
  ⟨.keyInvalidate, line 0x0D04 .K [13] 0 0, fun q s => !s.keyLoading q.idx && engineTakes q s &&
      decide (2 ≤ q.idx ∧ s.changeRefused q.idx false = none),
    fun q s => raiseGen q ((engineAt q s).key q.idx).value (engineAt q s)⟩,
  ⟨.keyInvalidate, line 0x0D04 .K [13] 0 0, fun q s => decide (2 ≤ q.idx ∧ (s.key q.idx).state = 0), fun _ s => .done 0x0701 0 s⟩,
  ⟨.keyDestroy, line 0x0D05 .K [13] 0 0, fun q s => decide (2 ≤ q.idx ∧ (s.key q.idx).state = 1 ∧
      ((destroyAt q s).key q.idx).refs = 0 ∧ s.writeRefused (s.key q.idx).persistent false = none) && engineTakes q s &&
      (!(s.key q.idx).persistent || writerTakes q (engineAt q s)),
    fun q s => .done 0 (res [(0, 2, (markStale (freeKey q.idx (destroyAt q s))).1)])
      (markStale (freeKey q.idx (destroyAt q s))).2⟩,
  ⟨.keyDestroy, line 0x0D05 .K [13] 0 0, fun q s => decide (2 ≤ q.idx ∧ (s.key q.idx).state = 1 ∧
      ((destroyAt q s).key q.idx).refs ≠ 0 ∧ s.writeRefused (s.key q.idx).persistent false = none) && engineTakes q s &&
      (!(s.key q.idx).persistent || writerTakes q (engineAt q s)),
    fun q s =>
      let t := destroyAt q s
      let m := markStale (t.setKey q.idx { t.key q.idx with
        state := 2, freeing := true, staleSince := some ((t.key q.idx).staleSince.getD t.now) })
      .done 0 (res [(0, 2, m.1)]) m.2⟩,
  ⟨.keyStatus, line 0x0D00 .R [13] 0 0, fun q _ => decide (q.idx = 0), fun _ s => .done 0 (res [(0, 1, bit s.trust.root)]) s⟩,
  ⟨.keyStatus, line 0x0D00 .R [13] 0 0, fun q _ => decide (q.idx ≠ 0), fun q s => .done 0
    (res [(0, 1, (s.key q.idx).state), (1, 1, (s.key q.idx).type), (2, 1, (s.key q.idx).level), (3, 1, (s.key q.idx).parent),
      (4, 1, (s.key q.idx).use.toNat), (5, 1, (s.key q.idx).seats.toNat),
      (6, 1, bit (s.key q.idx).persistent + 2 * bit ((s.key q.idx).copyA.any (·.whole))
        + 4 * bit ((s.key q.idx).copyB.any (·.whole))), (7, 1, (s.key q.idx).refs), (8, 4, (s.key q.idx).gen),
      (12, 4, (s.key q.idx).pgen)]) s⟩,
  ⟨.keyPublicRead, { line 0x0D06 .R [13] 1 1 with loB := 4, hiB := 4 }, fun q s => decide (q.idx ≠ 0 ∧ q.buf = none ∧
      (s.key q.idx).state = 1 ∧ (s.key q.idx).type ≤ 4 ∧ q.w 0 % 16 = 0 ∧
      q.w 0 ≤ (Config.publicKey (s.key q.idx).type (s.key q.idx).value).length) && engineTakes q s, fun q s => .done 0
    (resBytes (((Config.publicKey (s.key q.idx).type (s.key q.idx).value).drop (q.w 0)).take 16)) (remask q.idx (engineAt q s))⟩,
  ⟨.keyPublicRead, { line 0x0D06 .R [13] 1 1 with loB := 4, hiB := 4 }, fun q s => decide (q.idx ≠ 0 ∧ q.buf = none ∧
      (s.key q.idx).state = 1 ∧ (s.key q.idx).type ≤ 4 ∧ (q.w 0 % 16 ≠ 0 ∨
      (Config.publicKey (s.key q.idx).type (s.key q.idx).value).length < q.w 0)), fun _ s => .done 0x0108 0 s⟩,
  ⟨.keyPublicRead, { line 0x0D06 .R [13] 1 1 with loB := 4, hiB := 4 }, fun q s => decide (q.idx ≠ 0) && q.buf.isSome &&
      decide ((s.key q.idx).state = 1 ∧ (s.key q.idx).type ≤ 4) && engineTakes q s, fun q s =>
    intoBuffer q (Config.publicKey (s.key q.idx).type (s.key q.idx).value)
      (res [(0, 4, (Config.publicKey (s.key q.idx).type (s.key q.idx).value).length)]) (remask q.idx (engineAt q s))⟩,
  ⟨.keyPublicRead, { line 0x0D06 .R [13] 1 1 with loB := 4, hiB := 4 }, fun q s => decide (q.idx ≠ 0 ∧ (s.key q.idx).state = 1 ∧
      4 < (s.key q.idx).type), fun _ s => .done 0x0704 0 s⟩,
  ⟨.keySign, line 0x0D07 .A [13] 12 12, fun q s => !s.keyLoading q.idx && engineTakes q s && (match q.buf with
        | none => false
        | some b => decide (sigBytes (s.key q.idx).type ≤ b.len) && !b.fails) &&
      decide (s.useRefused q.idx 2 (some q.seat) = none ∧ ((s.key q.idx).type ≠ 1 ∨ s.trust.rngFault = 0)),
    fun q s => let d := draw (sigBytes (s.key q.idx).type) (engineAt q s); admitUse q.idx d.1 d.2⟩,
  ⟨.keySign, line 0x0D07 .A [13] 12 12, fun q s => !s.keyLoading q.idx &&
      decide (s.useRefused q.idx 2 (some q.seat) = some 0x0702),
    fun _ s => .done 0x0702 0 s⟩,
  ⟨.keyKmac, line 0x0D08 .A [13] 1 11, fun q s => !s.keyLoading q.idx && engineTakes q s &&
      decide (q.w 0 ≤ 40 ∧ s.useRefused q.idx 4 (some q.seat) = none),
    fun q s => .live true
      ((leBytes (Config.kmac (s.key q.idx).value ((((upTo 10).map fun i => q.word (i + 1)).flatMap wordBytes).take (q.w 0))
        "GSL-9648 HOST" 16) 16).map fun b => (b.toNat : Int))
      ((engineAt q s).setKey q.idx { (engineAt q s).key q.idx with refs := ((engineAt q s).key q.idx).refs + 1 })⟩,
  ⟨.keyKmac, line 0x0D08 .A [13] 1 11, fun q s => !s.keyLoading q.idx && decide (40 < q.w 0), fun _ s => .done 0x0108 0 s⟩,
  ⟨.attestChallenge, line 0x0D09 .R [0] 4 4, fun q s => s.ep.loaded && !s.keyLoading (fld (s.blk 12) 0 1) && engineTakes q s &&
      decide (fld (s.blk 12) 0 1 ≠ 0xFF ∧ s.useRefused (fld (s.blk 12) 0 1) 5 (some q.seat) = none),
    fun q s => .done 0 (BitVec.ofNat 128 (Config.kmac ((engineAt q s).key (fld (s.blk 12) 0 1)).value
      (((upTo 4).map q.word).flatMap wordBytes ++ leBytes s.boot.uid.toNat 8 ++ leBytes s.boot.digest.toNat 32 ++
        leBytes s.boot.fwVersion.toNat 4 ++ leBytes s.ep.number.toNat 4) "GSL-9648 ATTEST" 16))
        (remask (fld (s.blk 12) 0 1) (engineAt q s))⟩,
  ⟨.attestChallenge, line 0x0D09 .R [0] 4 4, fun _ s => !s.ep.loaded, fun _ s => .done 0x0701 0 s⟩,
  ⟨.attestReport, line 0x0D0A .R [0] 12 12, fun q s => !s.keyLoading 1 && engineTakes q s && (match q.buf with
        | none => false
        | some b => !b.fails && decide (2676 ≤ b.len)) &&
      decide (s.useRefused 1 1 none = none ∧ s.trust.rngFault = 0),
    fun q s =>
      let d := draw 2420 (remask 1 (engineAt q s))
      .done 0 (res [(0, 4, 2676)]) { d.2 with hostIf := { d.2.hostIf with
        dma := aset d.2.hostIf.dma (q.buf.getD ⟨0, 0, [], false⟩).addr
          ((engineAt q s).attestBody (((upTo 8).map fun i => q.word (i + 4)).flatMap wordBytes) ++ d.1) } }⟩,
  ⟨.attestReport, line 0x0D0A .R [0] 12 12, fun _ s => !s.keyLoading 1 && decide (s.useRefused 1 1 none = none ∧
      s.trust.rngFault ≠ 0), fun _ s => .done 0x08D3 (res [(0, 1, s.trust.rngFault)]) s⟩,
  ⟨.randomCmd, line 0x0D12 .R [0] 0 0, fun q s => decide (s.trust.rngFault = 0) && engineTakes q s,
    fun q s => let d := draw 16 (engineAt q s); .done 0 (resBytes d.1) d.2⟩,
  ⟨.randomCmd, line 0x0D12 .R [0] 0 0, fun _ s => decide (s.trust.rngFault ≠ 0),
    fun _ s => .done 0x08D3 (res [(0, 1, s.trust.rngFault)]) s⟩,
  ⟨.certWrite, { line 0x0D0B .K [0] 6 6 with bufIn := true }, fun q s => (match q.buf with
        | none => false
        | some b => decide (q.w 5 ≤ b.data.length)) &&
      decide (q.w 4 ≤ 31 ∧ q.w 5 ≠ 0 ∧ q.w 5 ≤ 2048) && !s.gated && writerTakes q s,
    fun q s =>
      let der := (q.buf.getD ⟨0, 0, [], false⟩).data.take (q.w 5)
      let r := readBack (writerAt q s)
      if Config.certParses der = false then .done 0x01D0 0 s
      else if r.1 = false then .done 0x08D2 0 r.2
      else .done 0 0 { r.2 with trust := { r.2.trust with certs := aset r.2.trust.certs (q.w 4) der } }⟩,
  ⟨.certWrite, { line 0x0D0B .K [0] 6 6 with bufIn := true }, fun q s => (match q.buf with
        | none => false
        | some b => decide (q.w 5 ≤ b.data.length)) &&
      decide (q.w 4 ≤ 31 ∧ q.w 5 ≠ 0 ∧ q.w 5 ≤ 2048) && s.gated,
    fun q s => .done (if Config.certParses ((q.buf.getD ⟨0, 0, [], false⟩).data.take (q.w 5)) = false then 0x01D0
      else 0x0313) 0 s⟩,
  ⟨.certWrite, { line 0x0D0B .K [0] 6 6 with bufIn := true }, fun q s => q.buf.isSome &&
      decide (q.w 4 ≤ 31 ∧ q.w 5 = 0) && !s.gated && writerTakes q s,
    fun q s =>
      let r := readBack (writerAt q s)
      if r.1 = false then .done 0x08D2 0 r.2
      else .done 0 0 { r.2 with trust := { r.2.trust with certs := adel r.2.trust.certs (q.w 4) } }⟩,
  ⟨.certWrite, { line 0x0D0B .K [0] 6 6 with bufIn := true }, fun q _ => decide (31 < q.w 4), fun _ s => .done 0x0108 0 s⟩,
  ⟨.certRead, line 0x0D0C .R [0] 2 2, fun q s => decide (q.w 0 ≤ 31 ∧ q.w 1 % 16 = 0 ∧
      q.w 1 ≤ ((aget s.trust.certs (q.w 0)).getD []).length), fun q s => .done 0
    (resBytes ((((aget s.trust.certs (q.w 0)).getD []).drop (q.w 1)).take 16)) s⟩,
  ⟨.certRead, line 0x0D0C .R [0] 2 2, fun q s => decide (q.w 0 = 0xFF ∧ q.w 1 % 16 = 0 ∧ q.w 1 ≤ s.trust.factory.length),
    fun q s => .done 0 (resBytes ((s.trust.factory.drop (q.w 1)).take 16)) s⟩,
  ⟨.certRead, line 0x0D0C .R [0] 2 2, fun q _ => decide (31 < q.w 0 ∧ q.w 0 ≠ 0xFF), fun _ s => .done 0x0108 0 s⟩,
  ⟨.ownerKeySet, { line 0x0D0D .K [0] 12 12 with bufIn := true }, fun q s => decide (s.trust.owner = none) && !s.gated &&
      writerTakes q s,
    fun q s =>
      let r := readBack (writerAt q s)
      if r.1 = false then .done 0x08D2 0 r.2
      else .done 0 0 { r.2 with trust := { r.2.trust with
        owner := some (BitVec.ofNat 256 (leNat (((upTo 8).map fun i => q.word (i + 4)).flatMap wordBytes))) } }⟩,
  ⟨.ownerKeySet, { line 0x0D0D .K [0] 12 12 with bufIn := true }, fun q s => s.trust.owner.isSome && decide (q.buf = none),
    fun _ s => .done 0x070A 0 s⟩,
  ⟨.ownerKeySet, { line 0x0D0D .K [0] 12 12 with bufIn := true }, fun q s => s.trust.owner.isSome && q.buf.isSome && !s.gated &&
      writerTakes q s,
    fun q s =>
      let challenge := ((upTo 8).map fun i => q.word (i + 4)).flatMap wordBytes
      let r := readBack (writerAt q s)
      if Config.mldsaVerify (Config.ownerKey (s.trust.owner.getD 0)) (Config.sha3 (challenge ++ leBytes s.boot.uid.toNat 8))
        ((q.buf.getD ⟨0, 0, [], false⟩).data.take 2420) = false then .done 0x070A 0 s
      else if r.1 = false then .done 0x08D2 0 r.2
      else .done 0 0 { r.2 with trust := { r.2.trust with owner := some (BitVec.ofNat 256 (leNat challenge)) } }⟩,
  ⟨.fwWrite, { line 0x0D0E .K [0] 2 192 with loB := 6, hiB := 6, bufIn := true }, fun q s => decide (fwOption q = 0 ∧
      (sent 2 q).1 % 4 = 0 ∧ (sent 2 q).1 + (sent 2 q).2.length ≤ 8388608) && !s.boot.recovery && !s.onTrial,
    fun q s => .done 0 (res [(0, 4, (sent 2 q).2.length)])
    (s.setFw (1 - s.boot.image) { s.fw (1 - s.boot.image) with
      flash := mputs (s.fw (1 - s.boot.image)).flash (sent 2 q).1 (sent 2 q).2, valid := false })⟩,
  ⟨.fwWrite, { line 0x0D0E .K [0] 2 192 with loB := 6, hiB := 6, bufIn := true }, fun q s => decide (fwOption q = 1 ∧
      (sent 2 q).1 % 4 = 0 ∧ (sent 2 q).1 + (sent 2 q).2.length ≤ 8388608) && !s.boot.recovery && !s.onTrial,
    fun q s =>
      let k := 1 - s.boot.image
      let flash := mputs (s.fw k).flash (sent 2 q).1 (sent 2 q).2
      let t := s.setFw k { s.fw k with flash := flash, valid := false }
      match verifyImage flash s.boot.rollback with
      | .error st => .done st 0 t
      | .ok (svn, version, legal, digest) => .done 0 (res [(0, 4, (sent 2 q).2.length)]) (t.setFw k { s.fw k with
          flash := flash, valid := true, svn := svn, version := version, legal := legal, digest := digest })⟩,
  ⟨.fwWrite, { line 0x0D0E .K [0] 2 192 with loB := 6, hiB := 6, bufIn := true }, fun q s => decide (fwOption q ≤ 1 ∧
      (sent 2 q).1 % 4 = 0 ∧ (sent 2 q).1 + (sent 2 q).2.length ≤ 8388608) && !s.boot.recovery && s.onTrial,
    fun _ s => .done 0x0301 0 s⟩,
  ⟨.fwWrite, { line 0x0D0E .K [0] 2 192 with loB := 6, hiB := 6, bufIn := true }, fun q s => s.boot.recovery &&
      decide (fwOption q = 0 ∨ fwOption q = 2) && decide (
      (sent 2 q).1 % 4 = 0 ∧ (sent 2 q).1 + (sent 2 q).2.length ≤ 8388608),
    fun q s => .done 0 (res [(0, 4, (sent 2 q).2.length)])
    (s.setFw (fwOption q / 2) { s.fw (fwOption q / 2) with
      flash := mputs (s.fw (fwOption q / 2)).flash (sent 2 q).1 (sent 2 q).2, valid := false })⟩,
  ⟨.fwWrite, { line 0x0D0E .K [0] 2 192 with loB := 6, hiB := 6, bufIn := true }, fun q _ => decide ((sent 2 q).1 % 4 ≠ 0),
    fun _ s => .done 0x0108 0 s⟩,
  ⟨.fwActivate, line 0x0D0F .K [0] 1 1, fun q s => decide (q.w 0 ≤ 1) && (s.fw (q.w 0)).valid && !s.gated && writerTakes q s,
    fun q s =>
      let t := (writerAt q s).setFw (q.w 0) { (writerAt q s).fw (q.w 0) with attempts := 0, failed := false }
      .done 0 0 { t with trust := { t.trust with preferred := q.w 0, trial := true } }⟩,
  ⟨.fwActivate, line 0x0D0F .K [0] 1 1, fun q s => decide (q.w 0 ≤ 1) && !(s.fw (q.w 0)).valid, fun _ s => .done 0x0301 0 s⟩,
  ⟨.fwActivate, line 0x0D0F .K [0] 1 1, fun q _ => decide (1 < q.w 0), fun _ s => .done 0x0108 0 s⟩,
  ⟨.fwConfirm, line 0x0D10 .K [0] 0 0, fun _ s => s.onTrial && decide (s.boot.stage = 4) && !s.gated, fun _ s => .done 0
    (res [(0, 1, ((max s.boot.rollback s.running.svn : Nat) : Int))])
    { s with
      boot := { s.boot with rollback := max s.boot.rollback s.running.svn }
      trust := { s.trust with trial := false } }⟩,
  ⟨.fwConfirm, line 0x0D10 .K [0] 0 0, fun _ s => !s.onTrial, fun _ s => .done 1 (res [(0, 1, s.boot.rollback)]) s⟩,
  ⟨.fwStatus, line 0x0D11 .R [0] 0 0, fun _ _ => true, fun _ s => .done 0
    (res [(0, 1, s.boot.image), (1, 1, s.trust.preferred),
      (2, 1, bit (s.fw 0).valid + 2 * bit (s.fw 1).valid + 4 * bit s.onTrial + 8 * bit (s.fw 0).failed + 16 * bit (s.fw 1).failed),
      (3, 1, s.running.attempts), (4, 4, (s.fw 0).version.toNat), (8, 4, (s.fw 1).version.toNat), (12, 1, (s.fw 0).svn),
      (13, 1, (s.fw 1).svn), (14, 1, s.boot.rollback)]) s⟩]

/-- A use of a key ends, and others of it go on: its mask is replaced and its reference drops (R389, R391). -/
def useEnds (k : Nat) (s : State) : State := remask k (s.setKey k { s.key k with refs := (s.key k).refs - 1 })

/-- The events of the key unit and of the random source where they have their effect (R389, R391, R392, R405, R406). -/
noncomputable def trustEvents (k o since health : Nat) (l : Live) : List Event := [
  ⟨.keyMaskRefresh k true, fun s => s.power.domains.getLsbD 11 && decide ((s.key k).value ≠ [] ∧ s.trust.rngFault = 0) &&
      s.after (s.key k).maskAt 1000,
    fun s =>
      let m := draw 66 s
      let t : State := { m.2 with trust := { m.2.trust with masks := m.2.trust.masks + 1 } }
      t.setKey k { t.key k with mask := leNat m.1, maskAt := t.now }⟩,
  ⟨.keyMaskRefresh k true, fun s => s.power.domains.getLsbD 11 && (decide ((s.key k).value ≠ [] ∧ s.trust.rngFault ≠ 0) ||
      !s.after (s.key k).maskAt 1000), fun s => s⟩,
  ⟨.keyMaskRefresh k false, fun s => s.power.domains.getLsbD 11 && decide ((s.key k).value ≠ []) &&
      (decide (k = 1) || (s.key k).inForce.isSome),
    fun s => (loadKey k s).event 13 0x08D1 (res [(0, 1, k), (1, 1, 1)])⟩,
  ⟨.keyMaskRefresh k false, fun s => s.power.domains.getLsbD 11 && decide ((s.key k).value ≠ [] ∧ k ≠ 1 ∧
      (s.key k).inForce = none) && !(s.key k).persistent,
    fun s => (s.setKey k {}).event 13 0x08D1 (res [(0, 1, k), (1, 1, 2)])⟩,
  ⟨.keyOperationDone k, fun s => decide ((s.key k).refs = 0), fun s => s⟩,
  ⟨.keyOperationDone k, fun s => decide (2 ≤ (s.key k).refs ∧ (useEnds k s).keyLive k = some l) &&
      passes 61 [(l.order : Int)] (useEnds k s),
    fun s => deliverKey l (passed 61 [(l.order : Int)] (useEnds k s))⟩,
  ⟨.keyOperationDone k, fun s => decide (2 ≤ (s.key k).refs ∧ (useEnds k s).keyLive k = some l) &&
      !passes 61 [(l.order : Int)] (useEnds k s),
    fun s =>
      let t := passed 61 [(l.order : Int)] (useEnds k s)
      { t with trust := { t.trust with results := t.trust.results ++ [(l.order, t.now)] } }⟩,
  ⟨.cryptoResultDiscard, fun s => decide (s.trust.results.head? = some (o, since)) && s.after since 1000000 &&
      decide (({ s with trust := { s.trust with results := s.trust.results.drop 1 } } : State).hostIf.live.find?
        (fun x => decide (x.order = o)) = some l),
    fun s => ({ s with trust := { s.trust with results := s.trust.results.drop 1 } } : State).finish l 0x0401 (res [(0, 1, 1)])⟩,
  ⟨.cryptoResultDiscard, fun s => decide (s.trust.results = []), fun s => s⟩,
  ⟨.staleKeyFree k, fun s => decide ((s.key k).state = 2) && s.past (s.key k).staleSince 5000000, freeKey k⟩,
  ⟨.staleKeyFree k, fun s => decide ((s.key k).state ≠ 2), fun s => s⟩,
  ⟨.keyReload, fun s => s.trust.root && s.power.domains.getLsbD 11 && s.trust.keys.any (fun e => decide (e.2.state = 3)),
    reloadKeys⟩,
  ⟨.keyReload, fun s => !s.trust.root, fun s => s⟩,
  ⟨.drbgReseed health, fun s => s.power.domains.getLsbD 11 && decide (1 ≤ health ∧ health ≤ 2 ∧ s.trust.rngFault = 0),
    fun s => ({ s with trust := { s.trust with rngFault := health } } : State).event 13 0x08D3 (res [(0, 1, health)])⟩,
  ⟨.drbgReseed 0, fun _ => true, fun s => s⟩,
  ⟨.randomResume, fun _ => true, fun s => { s with trust := { s.trust with rngFault := 0 } }⟩]

/-! ### Faults, retirement and the Tephra journal (chapter 19) -/

/-- The host commands of the journal, of retirement and of the check-value unit where they have their effect, and where they
are turned away (Table 19-9, R448, R449, R453, R454 to R458). -/
def journalCases : List Case := [
  ⟨.journalStatus, line 0x0E00 .R [0] 1 1, fun q _ => decide (q.w 0 = 0), fun _ s => .done 0
    (res [(0, 6, s.headSeq), (6, 6, s.oldestSeq), (12, 2, s.jnl.buffer.length), (14, 2, sat 16 s.jnl.lost)]) s⟩,
  ⟨.journalStatus, line 0x0E00 .R [0] 1 1, fun q _ => decide (q.w 0 = 1),
    fun _ s => .done 0 (s.jnl.anchorHash.setWidth 128) s⟩,
  ⟨.journalStatus, line 0x0E00 .R [0] 1 1, fun q _ => decide (q.w 0 = 2),
    fun _ s => .done 0 ((s.jnl.anchorHash >>> 128).setWidth 128) s⟩,
  ⟨.journalStatus, line 0x0E00 .R [0] 1 1, fun q _ => decide (q.w 0 = 3), fun _ s => .done 0
    (res [(0, 6, (s.jnl.ack.getD 0 : Nat)), (6, 6, s.jnl.anchorSeq)]) s⟩,
  ⟨.journalStatus, line 0x0E00 .R [0] 1 1, fun q _ => decide (3 < q.w 0), fun _ s => .done 0x0108 0 s⟩,
  ⟨.journalRead, { line 0x0E01 .R [0] 2 3 with loB := 6, hiB := 6 }, fun q s => decide (q.buf = none ∧ q.w2 0 < s.jnl.nextSeq ∧
      s.oldestSeq ≤ q.w2 0) && !tst (q.w 2) 0, fun q s => .done 0 (resBytes (s.slotBytes (q.w2 0))) s⟩,
  ⟨.journalRead, { line 0x0E01 .R [0] 2 3 with loB := 6, hiB := 6 }, fun q s => decide (q.buf = none ∧ q.w2 0 < s.jnl.nextSeq ∧
      s.oldestSeq ≤ q.w2 0) && tst (q.w 2) 0, fun q s => .done 0 (resBytes ((s.slotBytes (q.w2 0)).drop 16)) s⟩,
  ⟨.journalRead, { line 0x0E01 .R [0] 2 3 with loB := 6, hiB := 6 }, fun q s => decide (q.buf = none ∧
      (s.jnl.nextSeq ≤ q.w2 0 ∨ q.w2 0 < s.oldestSeq)), fun _ s => .done 0x0108 0 s⟩,
  ⟨.journalRead, { line 0x0E01 .R [0] 2 3 with loB := 6, hiB := 6 }, fun q _ => q.buf.isSome && decide (q.w 4 ≤ 127 ∧
      0 < q.w 5 ∧ q.w 5 ≤ 128), fun q s =>
    let data := (upTo (q.w 5)).flatMap fun i => s.blockBytes ((q.w 4 + i) % 128)
    intoBuffer q data (res [(0, 4, data.length), (4, 6, ((s.seqAt (q.w 4) 0).getD 0 : Nat))]) s⟩,
  ⟨.journalRead, { line 0x0E01 .R [0] 2 3 with loB := 6, hiB := 6 }, fun q _ => q.buf.isSome && decide (127 < q.w 4 ∨
      q.w 5 = 0 ∨ 128 < q.w 5), fun _ s => .done 0x0108 0 s⟩,
  ⟨.journalAck, line 0x0E02 .C [0] 2 2, fun q s => decide (q.w2 0 < s.jnl.nextSeq), fun q s => .done 0
    (res [(0, 6, (s.jnl.ack.getD 0 : Nat))]) { s with jnl := { s.jnl with ack := some (q.w2 0) } }⟩,
  ⟨.journalAck, line 0x0E02 .C [0] 2 2, fun q s => decide (s.jnl.nextSeq ≤ q.w2 0), fun _ s => .done 0x0108 0 s⟩,
  ⟨.retireList, line 0x0E03 .R [0] 1 1, fun _ _ => true, fun q s => .done 0
    (res [(0, 4, ((((s.jnl.retired.drop (q.w 0)).getD 0 0).toNat : Nat) : Int)),
      (4, 4, ((((s.jnl.retired.drop (q.w 0)).getD 1 0).toNat : Nat) : Int)),
      (8, 4, ((((s.jnl.retired.drop (q.w 0)).getD 2 0).toNat : Nat) : Int)), (12, 4, s.jnl.retired.length)]) s⟩,
  ⟨.retireClear, line 0x0E04 .C [0, 3, 4, 5, 6, 9, 10, 11, 12] 1 1, fun q s => subjectOk (hClass q.hnd) (q.w 0) &&
      s.isRetired (handleSub (hClass q.hnd) q.idx (q.w 0)) && !s.gated && !s.faultPresent (hClass q.hnd) q.idx (q.w 0),
    fun q s =>
      let h := handleSub (hClass q.hnd) q.idx (q.w 0)
      let t : State := { s with jnl := { s.jnl with
        retired := s.jnl.retired.filter (· ≠ h), mapSaved := s.jnl.retired.filter (· ≠ h), causes := adel s.jnl.causes h } }
      .done 0 (res [(0, 2, sat 16 (s.unitCount (hClass q.hnd) q.idx (q.w 0)))])
        (resume (hClass q.hnd) q.idx (q.w 0) ((t.clearFaults h).freeContext h))⟩,
  ⟨.retireClear, line 0x0E04 .C [0, 3, 4, 5, 6, 9, 10, 11, 12] 1 1, fun q _ => !subjectOk (hClass q.hnd) (q.w 0),
    fun _ s => .done 0x0108 0 s⟩,
  ⟨.retireClear, line 0x0E04 .C [0, 3, 4, 5, 6, 9, 10, 11, 12] 1 1, fun q s => subjectOk (hClass q.hnd) (q.w 0) &&
      !s.isRetired (handleSub (hClass q.hnd) q.idx (q.w 0)), fun _ s => .done 0x03C0 0 s⟩,
  ⟨.retireClear, line 0x0E04 .C [0, 3, 4, 5, 6, 9, 10, 11, 12] 1 1, fun q s => subjectOk (hClass q.hnd) (q.w 0) &&
      s.isRetired (handleSub (hClass q.hnd) q.idx (q.w 0)) && s.gated, fun _ s => .done 0x0313 0 s⟩,
  ⟨.retireClear, line 0x0E04 .C [0, 3, 4, 5, 6, 9, 10, 11, 12] 1 1, fun q s => subjectOk (hClass q.hnd) (q.w 0) &&
      s.isRetired (handleSub (hClass q.hnd) q.idx (q.w 0)) && !s.gated && s.faultPresent (hClass q.hnd) q.idx (q.w 0),
    fun _ s => .done 0x03C1 0 s⟩,
  ⟨.recoveryStatus, line 0x0E05 .R [0] 1 1, fun q s => decide (q.w 0 ≤ 7 ∧ s.jnl.contexts.length ≤ q.w 0), fun _ s => .done 0
    (res [(12, 2, (s.jnl.waiting.length : Int))]) s⟩,
  ⟨.recoveryStatus, line 0x0E05 .R [0] 1 1, fun q s => decide (q.w 0 ≤ 7) && (s.jnl.contexts[q.w 0]?).isSome, fun q s => .done 0
    (match s.jnl.contexts[q.w 0]? with
      | none => 0
      | some c => res [(0, 1, c.phase), (1, 1, c.attempt), (2, 2, c.status), (4, 4, c.unit.toNat),
          (8, 4, (((c.due.getD s.now - s.now) / 1000 : Nat) : Int)), (12, 2, (s.jnl.waiting.length : Int))]) s⟩,
  ⟨.recoveryStatus, line 0x0E05 .R [0] 1 1, fun q _ => decide (7 < q.w 0), fun _ s => .done 0x0108 0 s⟩,
  ⟨.checkCounters, line 0x0E06 .R [0] 1 2, fun q _ => decide (1 ≤ q.w 0 ∧ q.w 0 ≤ 11) && !tst (q.w 1) 0, fun q s => .done 0
    (res [(0, 8, (tget s.jnl.checks (q.w 0) (0, 0, none)).1), (8, 8, (tget s.jnl.checks (q.w 0) (0, 0, none)).2.1)]) s⟩,
  ⟨.checkCounters, line 0x0E06 .R [0] 1 2, fun q _ => decide (1 ≤ q.w 0 ∧ q.w 0 ≤ 11) && tst (q.w 1) 0, fun q s => .done 0
    (res [(0, 8, (tget s.jnl.checks (q.w 0) (0, 0, none)).1), (8, 8, (tget s.jnl.checks (q.w 0) (0, 0, none)).2.1)])
    { s with jnl := { s.jnl with
      checks := tset s.jnl.checks (q.w 0) (0, (tget s.jnl.checks (q.w 0) (0, 0, none)).2.1,
        (tget s.jnl.checks (q.w 0) (0, 0, none)).2.2) } }⟩,
  ⟨.checkCounters, line 0x0E06 .R [0] 1 2, fun q _ => decide (q.w 0 = 0 ∨ 11 < q.w 0), fun _ s => .done 0x0108 0 s⟩]

/-- The state in which Tephra's entry reaches the MRAM writer, by way of Q62 (R457, Table 1-2). -/
def tephraAt (s : State) : State := passed 62 [0x13, (s.jnl.nextSeq : Int)] s

/-- The events of Tephra and of the recovery contexts where they have their effect (R447, R449, R457). -/
noncomputable def journalEvents (en : JEntry) (l : List JEntry) (h : Word) (st : Nat) (r : List (Word × Nat)) : List Event := [
  ⟨.journalEntryWrite true, fun s => !s.gated && s.power.domains.getLsbD 4 && decide (s.jnl.buffer ≠ [] ∧
      (tephraAt s).jnl.lostNew = 0 ∧ (tephraAt s).jnl.buffer = en :: l) && passes 62 [0x13, (s.jnl.nextSeq : Int)] s,
    fun s => { writeSlot (some en) (tephraAt s) with jnl := { (writeSlot (some en) (tephraAt s)).jnl with
      buffer := (writeSlot (some en) (tephraAt s)).jnl.buffer.drop 1 } }⟩,
  ⟨.journalEntryWrite false, fun s => !s.gated && s.power.domains.getLsbD 4 && decide (s.jnl.buffer ≠ [] ∧
      (tephraAt s).jnl.lostNew = 0 ∧ (tephraAt s).jnl.buffer = en :: l) && passes 62 [0x13, (s.jnl.nextSeq : Int)] s,
    fun s => (writeSlot none (tephraAt s)).event 14 0x08C0 (res [(0, 6, (tephraAt s).jnl.nextSeq),
      (8, 4, (Config.journalBase + (tephraAt s).jnl.nextSeq / 63 % 128 * 2048 + (tephraAt s).jnl.nextSeq % 63 * 32 : Nat))])⟩,
  ⟨.journalEntryWrite true, fun s => s.gated, fun s => s⟩,
  ⟨.retireMapWrite, fun s => !s.gated && s.power.domains.getLsbD 4 && passes 62 [0x14] s,
    fun s => { passed 62 [0x14] s with jnl := { (passed 62 [0x14] s).jnl with mapSaved := (passed 62 [0x14] s).jnl.retired } }⟩,
  ⟨.retireMapWrite, fun s => s.gated, fun s => s⟩,
  ⟨.recoveryContextTaken, fun s => decide (s.jnl.waiting = (h, st) :: r ∧ s.jnl.contexts.length < 8 ∧ hClass h = 12), fun s =>
    lsStartBackoff (hIndex h) { s with jnl := { s.jnl with
      waiting := r, contexts := s.jnl.contexts ++ [⟨h, st, 1, s.faultCount h, none⟩] } }⟩,
  ⟨.recoveryContextTaken, fun s => decide (s.jnl.waiting = (h, st) :: r ∧ s.jnl.contexts.length < 8 ∧ hClass h = 9), fun s =>
    linkStartBackoff (hIndex h) { s with jnl := { s.jnl with
      waiting := r, contexts := s.jnl.contexts ++ [⟨h, st, 1, s.faultCount h, none⟩] } }⟩,
  ⟨.recoveryContextTaken, fun s => decide (s.jnl.waiting = [] ∨ 8 ≤ s.jnl.contexts.length), fun s => s⟩]

/-! ### Fumarole and the power states (chapter 17) -/

/-- The host commands of Fumarole where they have their effect, and where they are turned away (Table 17-9, R414, R424, R73). -/
def powerCases : List Case := [
  ⟨.powerStatus, line 0x0F00 .R [0] 0 0, fun _ _ => true, fun _ s => .done 0
    (res [(0, 1, s.power.state), (1, 1, s.power.cause), (2, 2, s.power.domains.toNat),
      (4, 4, sat 32 ((s.now - s.power.since) / 1000)), (8, 4, s.power.wakes), (12, 2, sat 16 s.power.bufLost)]) s⟩,
  ⟨.ruleStatus, line 0x0F02 .R [15] 0 1, fun q _ => !tst (q.w 0) 0, fun q s => .done 0
    (res [(0, 1, bit (s.armed q.idx) + 2 * bit (s.ruleTrue q.idx) + 4 * bit s.power.heater), (1, 1, (s.rule q.idx).conn),
      (2, 2, (s.rule q.idx).raw), (4, 2, (s.rule q.idx).filtered), (8, 4, (s.rule q.idx).firings),
      (12, 4, if (s.rule q.idx).firings = 0 then 0 else sat 32 ((s.now - (s.rule q.idx).lastFire) / 1000))]) s⟩,
  ⟨.ruleStatus, line 0x0F02 .R [15] 0 1, fun q _ => tst (q.w 0) 0, fun q s => .done 0
    (res [(0, 1, bit (s.armed q.idx) + 2 * bit (s.ruleTrue q.idx) + 4 * bit s.power.heater), (1, 1, (s.rule q.idx).conn),
      (2, 2, (s.rule q.idx).raw), (4, 2, (s.rule q.idx).filtered), (8, 4, (s.rule q.idx).firings),
      (12, 4, if (s.rule q.idx).firings = 0 then 0 else sat 32 ((s.now - (s.rule q.idx).lastFire) / 1000))])
    (s.setRule q.idx { s.rule q.idx with firings := 0 })⟩,
  ⟨.ruleConfigSet, line 0x0F03 .C [0] 3 12, overlayFits 13 0 524, fun q s => .done 0 0 (overlayWrite 13 0 q s)⟩,
  ⟨.heaterForce, line 0x0F04 .A [12] 1 2, fun q s => decide (s.lsSrc q.idx = 2 ∧ 1 ≤ q.w 0 ∧ q.w 0 ≤ 2 ∧ 1 ≤ q.w 1 ∧
      q.w 1 ≤ 86400), fun q s => .done 0 (res [(0, 1, s.power.force)])
    (updateHeater { s with power := { s.power with force := q.w 0, forceEnd := s.now + 1000000 * q.w 1 } })⟩,
  ⟨.heaterForce, line 0x0F04 .A [12] 1 2, fun q s => decide (s.lsSrc q.idx ≠ 2), fun _ s => .done 0x0301 0 s⟩,
  ⟨.heaterForce, line 0x0F04 .A [12] 1 2, fun q s => decide (s.lsSrc q.idx = 2 ∧ 2 < q.w 0), fun _ s => .done 0x0108 0 s⟩,
  ⟨.wakeLogRead, line 0x0F05 .R [0] 1 1, fun q s => decide (q.w 0 ≤ 15) && (s.power.log[q.w 0]?).isSome, fun q s => .done 0
    (match s.power.log[q.w 0]? with
      | none => 0
      | some e => res [(0, 1, e.cause), (1, 1, e.rule), (2, 2, e.value), (4, 8, e.time), (12, 4, e.asleep)]) s⟩,
  ⟨.wakeLogRead, line 0x0F05 .R [0] 1 1, fun q _ => decide (15 < q.w 0), fun _ s => .done 0x0108 0 s⟩]

/-- POWER_STATE_SET where it has its effect, and where it is turned away (R416, R417, Table 17-5). -/
def sleepCases : List Case := [
  ⟨.powerStateSet, line 0x0F01 .C [0] 1 4, fun q s => decide (q.w 0 = 2 ∧ s.power.state ≤ 1 ∧ s.sleepRefused 2 = none ∧
      q.w2 2 = 0) && !s.gated, fun q s =>
    let t := drainAll (keepChannels (BitVec.ofNat 24 (q.w 1)) s)
    .done 0 (res [(0, 8, s.time)]) { t with power := { t.power with
      state := 5, leftState := 2, keep := BitVec.ofNat 24 (q.w 1), wakeAt := none } }⟩,
  ⟨.powerStateSet, line 0x0F01 .C [0] 1 4, fun q s => decide (q.w 0 = 3 ∧ s.power.state ≤ 2 ∧ s.sleepRefused 3 = none ∧
      q.w2 2 = 0) && !s.gated, fun q s =>
    let t := drainAll (orderlySave (keepChannels (BitVec.ofNat 24 (q.w 1)) s))
    .done 0 (res [(0, 8, s.time)]) { t with power := { t.power with
      state := 5, leftState := 3, keep := BitVec.ofNat 24 (q.w 1), wakeAt := none } }⟩,
  ⟨.powerStateSet, line 0x0F01 .C [0] 1 4, fun q s => decide (q.w 0 = 0 ∧ s.power.state = 2),
    fun _ s => .done 0 (res [(0, 8, s.time)]) (startWake 0 0 0 0 s)⟩,
  ⟨.powerStateSet, line 0x0F01 .C [0] 1 4, fun q s => decide (q.w 0 = 0 ∧ s.power.state ≤ 1), fun _ s => .done 1 0 s⟩,
  ⟨.powerStateSet, line 0x0F01 .C [0] 1 4, fun q s => decide (q.w 0 = 2 ∧ s.power.state ≤ 1) && !s.gated &&
      (s.sleepRefused 2).isSome, fun _ s => .done 0x03F0 (res [(0, 1, ((s.sleepRefused 2).getD 0 : Nat))]) s⟩,
  ⟨.powerStateSet, line 0x0F01 .C [0] 1 4, fun q s => decide (q.w 0 = 2 ∧ s.power.state ≤ 1) && s.gated,
    fun _ s => .done 0x0313 0 s⟩,
  ⟨.powerStateSet, line 0x0F01 .C [0] 1 4, fun q s => decide ((q.w 0 = 1 ∨ 3 < q.w 0) ∧ s.power.state ≤ 3),
    fun _ s => .done 0x0108 0 s⟩]

/-- The events of Fumarole and of the power states where they have their effect (R411, R413 to R415, R420). -/
noncomputable def powerEvents (r conn c d tWake : Nat) (raw y : Int) (uWake held : Nat) : List Event := [
  ⟨.ruleSample r conn raw, fun s => decide (r < 32 ∧ s.ruFld r 0 1 ≠ 0 ∧ s.sampleConn r conn = some c ∧
      (filterSample r c raw s).1 = some y ∧ (filterSample r c raw s).2.1 ≠ tget (s.rule r).result c false) && s.armed r &&
      s.sampleDue r c,
    fun s =>
      let f := filterSample r c raw s
      updateHeater (ruleEdge ⟨r, f.2.1, c, y, s.now⟩ (s.setRule r { f.2.2 with
        raw := raw, sampled := tset f.2.2.sampled c s.now, filtered := y, result := tset f.2.2.result c f.2.1,
        evaluated := tset f.2.2.evaluated c true }))⟩,
  ⟨.ruleSample r conn raw, fun s => decide (r < 32 ∧ s.ruFld r 0 1 ≠ 0) && !s.armed r,
    fun s => updateHeater (forgetRule r s)⟩,
  ⟨.ruleSample r conn raw, fun s => decide (s.ruFld r 0 1 = 0), fun s => s⟩,
  ⟨.wakeN held, fun s => s.fumFlag 2 && decide (100 ≤ held) && !s.boot.shutdown && decide (s.power.state = 2 ∨ s.power.state = 3),
    fun s => { s with
      power := { s.power with
        state := 4, since := s.now, leftState := s.power.state, cause := 2, wakes := bump32 s.power.wakes, wakeRule := 0,
        wakeValue := 0, wakeMask := runMask, wakeAt := none,
        log := (⟨2, 0, 0, s.time, (s.now - s.power.since) / 1000000⟩ :: s.power.log).take 16 }
      clk := { s.clk with multOn := true } }⟩,
  ⟨.wakeN held, fun s => !s.fumFlag 2 || decide (held < 100), fun s => s⟩,
  ⟨.wakeTime, fun s => decide (s.power.wakeAt = some (tWake, uWake)) && s.clk.timeValid && decide (tWake ≤ s.clk.tai),
    startWake 3 0 0 0⟩,
  ⟨.wakeTime, fun s => decide (s.power.wakeAt = some (tWake, uWake)) && !s.clk.timeValid && decide (uWake ≤ s.now),
    startWake 3 0 0 0⟩,
  ⟨.wakeTime, fun s => decide (s.power.wakeAt = none), fun s => s⟩,
  ⟨.domainReleased d, fun s => s.releasable d &&
      decide ((onRelease d { s with power := { s.power with domains := s.power.domains ||| BitVec.ofNat 12 (2 ^ d) } }
        ).power.domains &&& runMask ≠ runMask),
    fun s => onRelease d { s with power := { s.power with domains := s.power.domains ||| BitVec.ofNat 12 (2 ^ d) } }⟩,
  ⟨.domainReleased d, fun s => s.releasable d &&
      decide ((onRelease d { s with power := { s.power with domains := s.power.domains ||| BitVec.ofNat 12 (2 ^ d) } }
        ).power.domains &&& runMask = runMask),
    fun s =>
      let t := onRelease d { s with power := { s.power with domains := s.power.domains ||| BitVec.ofNat 12 (2 ^ d) } }
      updateHeater (powerTo 0 t.power.cause t.power.wakeRule t)⟩,
  ⟨.domainReleased d, fun s => !s.releasable d, fun s => s⟩,
  ⟨.idleEntry, fun s => decide (s.power.state = 0) && s.ep.loaded && s.fumFlag 0 && s.outsIdle && !s.reassigning &&
      !s.geyser.running && s.after s.power.idleSince (1000000 * fld (s.blk 13) 0 2) &&
      s.after s.power.since (1000000 * fld (s.blk 13) 0 2), fun s => updateHeater (powerTo 1 4 0 s)⟩,
  ⟨.idleEntry, fun s => !s.fumFlag 0, fun s => s⟩,
  ⟨.heaterForceEnd, fun s => decide (s.power.force ≠ 0 ∧ s.power.forceEnd ≤ s.now),
    fun s => updateHeater { s with power := { s.power with force := 0 } }⟩,
  ⟨.heaterForceEnd, fun s => decide (s.power.force = 0), fun s => s⟩,
  ⟨.fumaroleBufferDrain, fun s => s.power.domains.getLsbD 4, drainAll⟩,
  ⟨.fumaroleBufferDrain, fun s => !s.power.domains.getLsbD 4, fun s => s⟩]

/-! ### Clocks, die temperature, the ADC, boot and reset (chapters 18 and 20) -/

/-- RESET where it has its effect, and where it is turned away (R45, R437, R438). -/
def resetCases : List Case := [
  ⟨.resetCmd, { line 0x0104 .A [0, 1, 9, 10, 16, 17] 1 1 with
      handleOk := resetHandle, permOk := fun q t => decide (t.role q.seat = 0 ∨ q.w 0 = 0 ∨ 3 < q.w 0) },
    fun q s => decide (q.w 0 = 1) && s.outsIdle && s.metOn,
    fun _ s => .done 0 0 { orderlySave s with boot := { s.boot with systemReset := true } }⟩,
  ⟨.resetCmd, { line 0x0104 .A [0, 1, 9, 10, 16, 17] 1 1 with
      handleOk := resetHandle, permOk := fun q t => decide (t.role q.seat = 0 ∨ q.w 0 = 0 ∨ 3 < q.w 0) },
    fun q s => decide (q.w 0 = 1) && !s.outsIdle, fun _ s => .done 0x0301 0 s⟩,
  ⟨.resetCmd, { line 0x0104 .A [0, 1, 9, 10, 16, 17] 1 1 with
      handleOk := resetHandle, permOk := fun q t => decide (t.role q.seat = 0 ∨ q.w 0 = 0 ∨ 3 < q.w 0) },
    fun q _ => decide (q.w 0 = 2), fun _ s => .done 0 0 { s with boot := { s.boot with coreReset := true } }⟩,
  ⟨.resetCmd, { line 0x0104 .A [0, 1, 9, 10, 16, 17] 1 1 with
      handleOk := resetHandle, permOk := fun q t => decide (t.role q.seat = 0 ∨ q.w 0 = 0 ∨ 3 < q.w 0) },
    fun q _ => decide (q.w 0 = 3 ∧ q.idx ≠ q.seat), fun q s => .done 0 0 (resetSeat q.idx 2 s)⟩,
  ⟨.resetCmd, { line 0x0104 .A [0, 1, 9, 10, 16, 17] 1 1 with
      handleOk := resetHandle, permOk := fun q t => decide (t.role q.seat = 0 ∨ q.w 0 = 0 ∨ 3 < q.w 0) },
    fun q s => decide (q.w 0 = 4 ∧ hClass q.hnd = 9 ∧ (s.conn q.idx).link ≠ 7 ∧ ¬ (2 ≤ (s.conn q.idx).link ∧
      (s.conn q.idx).link ≤ 5 ∧ s.restState q.idx = 2)), fun q s => .done 0 0 (connReset q.idx s)⟩,
  ⟨.resetCmd, { line 0x0104 .A [0, 1, 9, 10, 16, 17] 1 1 with
      handleOk := resetHandle, permOk := fun q t => decide (t.role q.seat = 0 ∨ q.w 0 = 0 ∨ 3 < q.w 0) },
    fun q s => decide (q.w 0 = 4 ∧ hClass q.hnd = 9 ∧ 2 ≤ (s.conn q.idx).link ∧ (s.conn q.idx).link ≤ 5 ∧
      s.restState q.idx = 2), fun q s => .live true [] (connReset q.idx s)⟩,
  ⟨.resetCmd, { line 0x0104 .A [0, 1, 9, 10, 16, 17] 1 1 with
      handleOk := resetHandle, permOk := fun q t => decide (t.role q.seat = 0 ∨ q.w 0 = 0 ∨ 3 < q.w 0) },
    fun q s => decide (q.w 0 = 4 ∧ hClass q.hnd = 10 ∧ (s.port q.idx).state ≠ 5 ∧ (s.port q.idx).state ≠ 0) &&
      !s.portBusy q.idx, fun q s => .live true [] (portReset q.idx s)⟩,
  ⟨.resetCmd, { line 0x0104 .A [0, 1, 9, 10, 16, 17] 1 1 with
      handleOk := resetHandle, permOk := fun q t => decide (t.role q.seat = 0 ∨ q.w 0 = 0 ∨ 3 < q.w 0) },
    fun q _ => decide (q.w 0 = 0 ∨ 4 < q.w 0), fun _ s => .done 0x0108 0 s⟩]

/-- A compare entry fires: the counter stands there, and the period is remembered (R162). -/
def compareFired (p entry counter : Nat) (s : State) : State :=
  advance p (max (s.pod p).counter counter) (s.setPod p { s.pod p with cmpCount := tset (s.pod p).cmpCount entry (s.pod p).periods })

/-- The events of the ADC, the die diode, the internal queues, clocks, boot and reset where they have their effect (R24, R162,
R166, R306, R387, R426 to R430, R432 to R440, R465). -/
noncomputable def resetEvents (c code p entry counter rail mv clock q error cycles : Nat) (t : Int) (b : BootInputs) : List Event := [
  ⟨.ainConversion c code, fun _ => decide (c < 32 ∧ code < 65536), fun s => convert c code none (afterSnapshot s)⟩,
  ⟨.ainConversion c code, fun _ => decide (32 ≤ c), fun s => s⟩,
  ⟨.compareTrigger p entry code counter, fun s => decide (entry < 4 ∧ (s.pod p).state = 1 ∧
      s.paFld p (50 + 4 * entry) 1 / 32 = 1 ∧ aget (s.pod p).cmpCount entry = none ∧ code < 65536) && s.atCompare p entry counter,
    fun s => convert (s.paFld p (50 + 4 * entry) 1 % 32) code (some (s.pod p).periods) (compareFired p entry counter s)⟩,
  ⟨.compareTrigger p entry code counter, fun s => decide (entry < 4 ∧ (s.pod p).state = 1 ∧
      s.paFld p (50 + 4 * entry) 1 / 32 = 4 ∧ aget (s.pod p).cmpCount entry = none ∧
      fld ((compareFired p entry counter s).blk 4) 4 1 ≠ 0xFF) && s.atCompare p entry counter,
    fun s => { compareFired p entry counter s with syncOut := true }⟩,
  ⟨.compareTrigger p entry code counter, fun s => decide ((s.pod p).state ≠ 1) || !s.atCompare p entry counter, fun s => s⟩,
  ⟨.dieTempSample (some t), fun s => !(afterSnapshot s).clk.diodeFault && decide (-600 ≤ t ∧ t ≤ 1600),
    fun s =>
      let u := afterSnapshot s
      overL (upTo 8) (tempJudge false (!u.clk.sampled) t) { u with clk := { u.clk with
        missing := 0, sampled := true, validRun := 0, diodeFault := false, dieTemp := t } }⟩,
  ⟨.dieTempSample (some t), fun _ => decide (t < -600 ∨ 1600 < t),
    fun s => diodeFault 1 { afterSnapshot s with clk := { (afterSnapshot s).clk with missing := 0, sampled := true } }⟩,
  ⟨.dieTempSample none, fun s => decide ((afterSnapshot s).clk.missing = 0),
    fun s => { afterSnapshot s with clk := { (afterSnapshot s).clk with missing := 1, validRun := 0 } }⟩,
  ⟨.dieTempSample none, fun s => decide ((afterSnapshot s).clk.missing = 2),
    fun s => diodeFault 2 { afterSnapshot s with clk := { (afterSnapshot s).clk with missing := 3, validRun := 0 } }⟩,
  ⟨.queueStall q, fun s => decide (32 ≤ q ∧ q ≤ 40 ∧ (s.iq q).entries ≠ []) && s.serves q && !(s.iq q).stalled &&
      s.after (s.iq q).since (s.stallTime q),
    fun s => stallOver s (((s.fresh.2.setIq q { s.iq q with
      stalled := true, stalls := bump32 (s.iq q).stalls }).event 1 0x0403 (BitVec.ofNat 128 s.fresh.1)).jot 0x0403 (handle 2 q)
        ([BitVec.ofNat 8 q, 0] ++ leBytes (((s.fresh.2.setIq q { s.iq q with
          stalled := true, stalls := bump32 (s.iq q).stalls }).event 1 0x0403 (BitVec.ofNat 128 s.fresh.1)).iqDepth q) 2))⟩,
  ⟨.queueStall q, fun s => decide ((s.iq q).entries = []) && !atOnce q, fun s => s⟩,
  ⟨.queueStall q, fun s => !s.serves q || (s.iq q).stalled, fun s => s⟩,
  ⟨.powerOnReset b, fun _ => b.pufOk && refFound b && decide (b.pufCorrected ≤ 600),
    fun s => porBoot b (rootUp (porSample b s))⟩,
  ⟨.powerOnReset b, fun _ => b.pufOk && !refFound b, fun s =>
    let t := rootUp (porSample b s)
    { t with boot := { t.boot with systemReset := true } }⟩,
  ⟨.powerOnReset b, fun _ => !b.pufOk, fun s =>
    let t := porSample b s
    lsAllOff { t with
      boot := { t.boot with stage := 15, failCode := 5 }
      power := { t.power with state := 0, domains := if refFound b then runMask else 1 }
      clk := { t.clk with locked := refFound b } }⟩,
  ⟨.porstNAsserted, fun _ => true, fun s => { powerLoss 1 s with boot := { (powerLoss 1 s).boot with porst := true } }⟩,
  ⟨.supplyBrownout rail mv, fun _ => decide (mv < railFalling rail), powerLoss 0x20⟩,
  ⟨.supplyBrownout rail mv, fun _ => decide (railFalling rail ≤ mv), fun s => s⟩,
  ⟨.clockMonitorFault 3 c code, fun s => decide (100 < code) && !s.boot.porst && !s.boot.systemReset && !s.boot.shutdown &&
      s.power.domains.getLsbD 4 &&
      s.power.domains.getLsbD 1 && decide (s.clk.faultClock = none),
    fun s => enterVoterSafe 5 { s with clk := { s.clk with
      faultClock := some 3, faultSince := s.now, faultTime := if s.clk.timeValid then some s.clk.tai else none } }⟩,
  ⟨.clockMonitorFault 1 error cycles, fun s => decide (error ≤ 4 * s.clk.lockWin ∨ cycles < 4), fun s => s⟩,
  ⟨.clockMonitorFault clock c code, fun s => s.boot.porst, fun s => s⟩,
  ⟨.clockFaultReset, fun s => s.clk.faultClock.isSome && !s.boot.systemReset && s.after s.clk.faultSince 20000,
    fun s =>
      let t := lsReset (coldReset (setCause 4 s))
      { t with
        boot := { t.boot with systemReset := true }
        clk := { t.clk with multOn := true }
        power := { t.power with domains := 1 } }⟩,
  ⟨.clockFaultReset, fun s => decide (s.clk.faultClock = none), fun s => s⟩,
  ⟨.multiplierLock error cycles, fun s => decide (error ≤ s.clk.lockWin ∧ s.clk.lockN ≤ cycles) && s.clk.multOn &&
      s.clk.refPresent && !s.clk.locked && !s.boot.porst && !s.boot.shutdown &&
      !s.boot.systemReset, fun s => { s with clk := { s.clk with locked := true } }⟩,
  ⟨.multiplierLock error cycles, fun s => decide (error ≤ s.clk.lockWin ∧ s.clk.lockN ≤ cycles) && s.clk.multOn &&
      s.clk.refPresent && !s.clk.locked && !s.boot.porst && !s.boot.shutdown &&
      s.boot.systemReset && decide (s.clk.faultClock = none),
    fun s => bootUp true { s with clk := { s.clk with locked := true } }⟩,
  ⟨.multiplierLock error cycles, fun s => s.clk.locked || decide (s.clk.lockWin < error ∨ cycles < s.clk.lockN), fun s => s⟩,
  ⟨.referenceReturn, fun s => !s.clk.refPresent && !s.boot.porst, fun s => { s with clk := { s.clk with
    refPresent := true, aonRc := false, multOn := s.clk.multOn || s.boot.systemReset } }⟩,
  ⟨.referenceReturn, fun s => s.clk.refPresent, fun s => s⟩,
  ⟨.voterSafeSoutDrop, fun s => decide (s.sup.mode = 3) && !s.sup.dropped && s.after s.sup.safeSince 20000 &&
      !(soutDrop s).boot.shutdown, soutDrop⟩,
  ⟨.voterSafeSoutDrop, fun s => decide (s.sup.mode ≠ 3), fun s => s⟩,
  ⟨.coreWatchdog, fun s => s.power.domains.getLsbD 3 && !s.boot.recovery && !s.boot.systemReset && !s.boot.halted, coreReset 3⟩,
  ⟨.coreWatchdog, fun s => s.boot.recovery || s.boot.halted, fun s => s⟩,
  ⟨.firmwareStart, fun s => s.boot.coreReset && decide (s.power.domains &&& runMask = runMask ∧ s.boot.stage = 2) &&
      !s.boot.porst && !s.boot.systemReset && s.trust.root,
    fun s =>
      let t := postEnded (firmwareReady s)
      let t := overL t.seatList (fun n u => overL (upTo 4) (fun k v => endCont n k 0x0604 v) u) t
      overL (upTo 16) applyForm (deliverKept (reown (deliverResults t)).settleAll)⟩,
  ⟨.firmwareStart, fun s => !s.boot.coreReset, fun s => s⟩]

/-- The cases of the host commands whose meaning is complete with their completion: all but POWER_STATE_SET and RESET. -/
def plainCases : List Case :=
  seatCases ++ epochCases ++ treeCases ++ allocCases ++ phaseCases ++ outputCases ++
  loopCases ++ linkCases ++ sessionCases ++ meterCases ++ safetyCases ++ fieldCases ++
  lsCases ++ trustCases ++ journalCases ++ powerCases

/-- The cases of every host command. -/
def hostCases : List Case := plainCases ++ sleepCases ++ resetCases

/-! ### The checks of R53 and R42, written as the spec lists them -/

/-- Steps 2 to 9 of R53 in the order of the spec: whether the step fails, and the status it names. -/
def checkList (i : CmdInfo) (g : Given) (q : Req) (s : State) : List (Bool × Nat) := [
  (decide ((s.seat q.seat).state ≠ 1) && !openOps.contains i.opcode, 0x0302),
  (!i.known || s.boot.recovery && (!recoveryOps.contains i.opcode || decide (i.opcode = 0x0104 ∧ q.w 0 ≠ 1)), 0x0102),
  (tagLive s q.seat q.tag g.taken.bell, 0x0103),
  (g.badLength, 0x0105),
  (!g.flags.getLsbD 1 && decide (g.params.length < i.lo ∨ i.hi < g.params.length), 0x0105),
  (g.flags.getLsbD 1 && decide (g.params.length < i.loB ∨ i.hiB < g.params.length), 0x0105),
  (g.rsvd, 0x0104),
  (!handleOk i q s, 0x0107),
  (!permitted i q s, 0x0201),
  (needsOwner i q s && !s.owns q.seat q.hnd, 0x0202),
  (!i.ownOk q s, 0x0202)]

/-- The failures of a buffer descriptor (R42) that a packet with BUF = 1 can have, in order, for a command that reads
its buffer. -/
def bufferList (c : Cmd) (q : Req) (d : SeatCfg) : List (Bool × Nat) := [
  (decide (d.transport ≠ 0), 0x0109),
  (decide (1048576 < q.w 2), 0x0502),
  (decide (q.w 2 = 0 ∨ q.w 2 % 4 ≠ 0), 0x0108),
  (c.busError, 0x0801),
  (decide (crc q.tag.toNat ((c.buf ++ List.replicate (q.w 2) 0).take (q.w 2)) ≠ q.w 3), 0x0101)]

/-- The status of the first entry that fails. -/
def firstOf (l : List (Bool × Nat)) : Option Nat := (l.find? fun e => e.1).map fun e => e.2

/-- The sum of what the children of a class are given. -/
def sumGiven (l : List (Nat × Int)) : Int := (l.map fun e => e.2).sum

end Sys2Proof.Machine

open Sys2Proof Sys2Proof.Machine

/-! ## The machine's step -/

/-- The step runs the command at the front of the queue on the queue's rest. -/
def Obligations.StepTakesFront : Prop :=
  ∀ (c : Instr) (r : List Instr) (s : State), s.pending = c :: r → step s = exec c { s with pending := r }

/-- On an empty queue one microsecond passes (the model's choice, log entry 3): the uptime count rises by one (R480), and
site time, a count of 64 bits, with it while it is valid (R12); a pulse of SYNC_OUT is over (the model's choice, log entry
115); nothing else changes. -/
def Obligations.StepIdlesOneMicrosecond : Prop :=
  ∀ s : State, s.pending = [] → step s = .next { s with
    syncOut := false
    clk := { s.clk with
      uptime := s.clk.uptime + 1, tai := if s.clk.timeValid then (s.clk.tai + 1) % 2 ^ 64 else s.clk.tai } }

/-- Every command answers a next state, from every state and with every operand: no fault, no refusal. -/
def Obligations.EveryCommandCompletes : Prop := ∀ (i : Instr) (s : State), ∃ t, exec i s = .next t

/-- No command touches the commands that wait: every step takes off the front of the queue, and that alone. -/
def Obligations.WaitingCommandsAreKept : Prop :=
  ∀ s t : State, step s = .next t → t.pending = s.pending.tail

/-- R409 and R410 hold after every step that starts where they hold: PD0 is on, and no domain is on without the domains it
depends on. -/
def Obligations.DomainsStaySound : Prop :=
  ∀ s t : State, s.domainsSound = true → step s = .next t → t.domainsSound = true

/-- The invariant of the power domains holds at reset. -/
def Obligations.DomainsSoundAtReset : Prop := State.reset.domainsSound = true

/-- Reset leaves what the spec gives: no seat is OPEN, no command lives, no pod or phase drives a gate, no event waits, site
time is not valid, PD0 alone is powered. -/
def Obligations.ResetLeavesTheSpecsValues : Prop :=
  State.reset.pending = [] ∧ (∀ n, (State.reset.seat n).state ≠ 1) ∧ State.reset.hostIf.live = [] ∧
  (∀ k, (State.reset.phase k).gateH = false ∧ (State.reset.phase k).gateL = false) ∧
  (∀ p, (State.reset.pod p).state = 0) ∧ State.reset.clk.timeValid = false ∧ State.reset.clk.uptime = 0 ∧
  State.reset.power.domains = 1 ∧ State.reset.ep.overlay = []

/-! ## The course of a host command -/

/-- A packet whose check fails (R40) completes with CHECK_MISMATCH and the copied TAG and OPECHO, sets CHKERR, counts and
journals the seat and queue, and has no effect; also where it waited in its ring when its seat was declared absent (R53 step
1, R63). Only where it is the last packet of such a ring, and a partial command stands there, does that command end with
it. -/
def Obligations.BadCheckCompletesWithoutEffect : Prop :=
  ∀ e ∈ hostCases, ∀ (c : Cmd) (s t : State) (d : QueueDef), ready e.info.opcode c s = true →
    s.queueDef c.seat c.queue = some d →
    packetCheck d.qnum (s.ring c.seat c.queue).seq e.info.opcode c.pkt ≠ c.pkt.check.toNat →
    t = ((countMismatch c.seat 1 ((dequeue c s).setInt c.seat flagCheck)).jot 0x0101
      (handle 1 c.seat) (leBytes e.info.opcode 2 ++ [BitVec.ofNat 8 d.qnum])).answer c.seat c.queue c.pkt.tag
        e.info.opcode 0x0101 0 →
    ((s.ring c.seat c.queue).draining = false ∨ (s.ring c.seat c.queue).cont = none → exec (e.cmd c) s = .next t) ∧
    ((s.ring c.seat c.queue).draining = true → exec (e.cmd c) s =
      .next (if (t.ring c.seat c.queue).absentTo = none then endCont c.seat c.queue 0x0305 t else t))

/-- A host command whose packet the controller does not dequeue now changes nothing (the model's choice, log entry 7). -/
def Obligations.CommandThatIsNotReadyWaits : Prop :=
  ∀ e ∈ hostCases, ∀ (c : Cmd) (s : State), ready e.info.opcode c s = false → exec (e.cmd c) s = .next s

/-- The first check of R53 that fails completes the command with its status, and nothing else happens. -/
def Obligations.FirstFailingCheckCompletes : Prop :=
  ∀ e ∈ hostCases, ∀ (c : Cmd) (s t : State) (g : Given) (st : Nat), arrives e.info c s = some (g, t) →
    firstOf (checkList e.info g (g.req e.info c (t.hostIf.order - 1)) t) = some st →
    exec (e.cmd c) s = .next (t.answer c.seat c.queue g.tag e.info.opcode st 0)

/-- A packet that stood in the ring when its seat was declared absent, whose check is right and which is its whole command,
completes with SEAT_ABSENT (R63). -/
def Obligations.DrainingPacketIsAbsent : Prop :=
  ∀ e ∈ hostCases, ∀ (c : Cmd) (s : State), ready e.info.opcode c s = true →
    (s.ring c.seat c.queue).draining = true → checkRight e.info.opcode c s = true →
    c.pkt.flags.getLsbD 0 = false → (s.ring c.seat c.queue).cont = none →
    exec (e.cmd c) s = .next ((dequeue c s).answer c.seat c.queue c.pkt.tag e.info.opcode 0x0305 0)

/-- The first of several packets of a command (R41) is held: nothing but the queue's partial command changes. -/
def Obligations.ContinuedCommandIsHeld : Prop :=
  ∀ e ∈ hostCases, ∀ (c : Cmd) (s : State), ready e.info.opcode c s = true →
    (s.ring c.seat c.queue).draining = false → checkRight e.info.opcode c s = true →
    c.pkt.flags.getLsbD 0 = true → (s.ring c.seat c.queue).cont = none →
    exec (e.cmd c) s = .next ((dequeue c s).setRing c.seat c.queue { (dequeue c s).ring c.seat c.queue with
      cont := some {
        opcode := BitVec.ofNat 16 e.info.opcode, tag := c.pkt.tag, handle := c.pkt.handle, flags := c.pkt.flags,
        params := (pktWords c.pkt).take c.pkt.plen.toNat, packets := 1,
        rsvd := decide (c.pkt.flags.toNat / 8 ≠ 0 ∨ hSub c.pkt.handle ≠ 0) ||
          ((pktWords c.pkt).drop c.pkt.plen.toNat).any (· ≠ 0),
        badLength := decide (12 < c.pkt.plen.toNat), since := s.now, order := s.hostIf.order,
        bell := (s.ring c.seat c.queue).bellOf 0 } })

/-- A command that reads its host buffer, and passes the checks, completes with the first failure of its descriptor (R42)
and has no effect; a buffer of a wrong CRC-32C is counted (R452). What the SRAM shows of ECC errors is counted before. -/
def Obligations.BufferFaultCompletes : Prop :=
  ∀ e ∈ hostCases, ∀ (c : Cmd) (s t : State) (g : Given) (d : SeatCfg) (st : Nat), arrives e.info c s = some (g, t) →
    firstOf (checkList e.info g (g.req e.info c (t.hostIf.order - 1)) t) = none → eccLost c = false →
    g.flags.getLsbD 1 = true → e.info.bufIn = true → t.seatDef c.seat = some d →
    firstOf (bufferList c (g.req e.info c (t.hostIf.order - 1)) d) = some st →
    exec (e.cmd c) s = .next ((if st = 0x0101 then countMismatch c.seat 3 (countEcc c t) else countEcc c t).answer
      c.seat c.queue g.tag e.info.opcode st 0)

/-- An uncorrectable ECC error in the state of a command that passes the checks completes it with SRAM_UNCORRECTABLE (Table
2-14) and no other effect than the count and the address that SRAM_STATUS shows (the order after the checks is the model's
choice, log entry 90). -/
def Obligations.UncorrectableErrorEndsTheCommand : Prop :=
  ∀ e ∈ hostCases, ∀ (c : Cmd) (s t : State) (g : Given) (a : Word), arrives e.info c s = some (g, t) →
    firstOf (checkList e.info g (g.req e.info c (t.hostIf.order - 1)) t) = none → c.sram = some (true, a) →
    exec (e.cmd c) s = .next (({ t with hostIf := { t.hostIf with
      sramUncorrectable := min (t.hostIf.sramUncorrectable + 1) 4294967295, sramAddress := a } } : State).answer
        c.seat c.queue g.tag e.info.opcode 0x0802 0)

/-- BAD_OPCODE: a packet whose opcode no group holds completes with BAD_OPCODE from a seat that is OPEN and with
SEAT_NOT_OPEN from another (R53); one whose opcode has a row of its own is not this command's, and changes nothing. -/
def Obligations.UnknownOpcodeIsBad : Prop :=
  ∀ (o : Half) (c : Cmd) (s : State),
    (opcodeUsed o.toNat = true → exec (.badOpcode o c) s = .next s) ∧
    ∀ (g : Given) (t : State), opcodeUsed o.toNat = false →
      arrives { line o.toNat .R [0] 0 192 with known := false } c s = some (g, t) →
      ((t.seat c.seat).state = 1 → exec (.badOpcode o c) s = .next (t.answer c.seat c.queue g.tag o.toNat 0x0102 0)) ∧
      ((t.seat c.seat).state ≠ 1 → exec (.badOpcode o c) s = .next (t.answer c.seat c.queue g.tag o.toNat 0x0302 0))

/-- From its packets to its meaning, a command changes the host interface alone: rings, tags, orders, counters of the
seats. -/
def Obligations.RequestTouchesOnlyTheHostInterface : Prop :=
  ∀ (i : CmdInfo) (c : Cmd) (s t : State) (q : Req), Runs i c s q t → t = { s with hostIf := t.hostIf }

/-- The completion of a command, and of the commands that waited for it, changes the host interface alone. -/
def Obligations.CompletionTouchesOnlyTheHostInterface : Prop :=
  ∀ (i : CmdInfo) (q : Req) (s : State) (st : Nat) (r : Res) (u : State),
    conclude i q s (.done st r u) = { u with hostIf := (conclude i q s (.done st r u)).hostIf }

/-- The frame of the commands that only answer: where the reply of a case leaves the state as it is, exec answers a state
that differs from the old one in the host interface alone. -/
def Obligations.AnsweringLeavesTheDevice : Prop :=
  ∀ e ∈ hostCases, ∀ (c : Cmd) (s t : State) (q : Req) (st : Nat) (r : Res), Runs e.info c s q t → e.ok q t = true →
    e.reply q t = .done st r t → ∃ u, exec (e.cmd c) s = .next u ∧ u = { s with hostIf := u.hostIf }

/-! ## The shared operations -/

/-- R20: an entry is posted only against a credit; the credits are never more than the free entries; a post without one is
refused and counted, and no entry is overwritten. -/
def Obligations.PostNeedsACredit : Prop :=
  ∀ (s : State) (q : Nat) (body : List Int),
    s.credits q ≤ s.iqDepth q - (s.iq q).entries.length ∧
    (s.credits q = 0 → ((s.post q body).iq q).entries = (s.iq q).entries ∧
      ((s.post q body).iq q).refused = (s.iq q).refused + 1) ∧
    (0 < s.credits q → ∃ e : QEntry, e.epoch = s.boot.epoch ∧ e.seq = (s.iq q).nextSeq ∧ e.body = body ∧
      ((s.post q body).iq q).entries = (s.iq q).entries ++ [e] ∧ ((s.post q body).iq q).refused = (s.iq q).refused) ∧
    ∀ k, k ≠ q → (s.post q body).iq k = s.iq k

/-- R22: what a consumer takes. An entry of another epoch is discarded, its credit comes back, and the discard is counted; at
a gap of the sequence the entry is taken, its sequence adopted and the gap journalled for that queue. -/
def Obligations.TakeDiscardsOtherEpochs : Prop :=
  ∀ (s : State) (q : Nat) (e : QEntry) (r : List QEntry), (s.iq q).entries = e :: r →
    ((s.take q).2.iq q).entries = r ∧ ((s.take q).2.iq q).expectSeq = e.seq + 1 ∧
    (e.epoch = s.boot.epoch → (s.take q).1 = some e.body ∧ ((s.take q).2.iq q).discards = (s.iq q).discards) ∧
    (e.epoch ≠ s.boot.epoch → (s.take q).1 = none ∧ ((s.take q).2.iq q).discards = (s.iq q).discards + 1) ∧
    (e.seq = (s.iq q).expectSeq → (s.take q).2.jnl = s.jnl) ∧
    (e.seq ≠ (s.iq q).expectSeq → (s.take q).2.jnl =
      (s.note 2 (handle 2 q) (0 :: leBytes (s.iq q).expectSeq.toNat 2 ++ leBytes e.seq.toNat 2)).jnl)

/-- R453: a mismatch of a structure of code 5 to 11 is counted, raised to group 0x0E unless it was raised for that code
within the last second, and journalled. -/
def Obligations.CheckMismatchIsCountedAndRaised : Prop :=
  ∀ (s : State) (code ident n t0 : Nat) (last : Option Nat), 5 ≤ code → code ≤ 11 →
    tget s.jnl.checks code (0, 0, none) = (n, t0, last) →
    (s.past last 1000000 = true ∨ last = none → s.checkFault code ident =
      (({ s with jnl := { s.jnl with checks := tset s.jnl.checks code (n + 1, s.time, some s.now) } } : State).report 14
        0x0101 0 (res [(0, 1, code), (4, 4, ident), (8, 4, n + 1)]))) ∧
    (∀ t, last = some t → s.after t 1000000 = false → s.checkFault code ident =
      (({ s with jnl := { s.jnl with checks := tset s.jnl.checks code (n + 1, s.time, last) } } : State).jotRes
        0x0101 0 (res [(0, 1, code), (4, 4, ident), (8, 4, n + 1)])))

/-- R457: the journal's buffer never passes 256 entries; an entry that finds it full is counted as lost; one that finds room
is put last, with DEFERRED set while MRAM writes are forbidden. -/
def Obligations.JournalBufferCountsWhatIsLost : Prop :=
  ∀ (s : State) (code : Nat) (obj : Word) (data : List Byte), s.jnl.buffer.length ≤ 256 →
    (s.jot code obj data).jnl.buffer.length ≤ 256 ∧
    (s.jnl.buffer.length = 256 → (s.jot code obj data).jnl.buffer = s.jnl.buffer ∧
      (s.jot code obj data).jnl.lost = s.jnl.lost + 1) ∧
    (s.jnl.buffer.length < 256 → ∃ e : JEntry, (s.jot code obj data).jnl.buffer = s.jnl.buffer ++ [e] ∧
      e.code = BitVec.ofNat 16 code ∧ e.time = s.time ∧ e.obj = obj ∧ e.flags.getLsbD 1 = s.gated ∧
      (s.jot code obj data).jnl.lost = s.jnl.lost)

/-- The byte memories (the staging slot of R96, the firmware slots of R398): a write keeps the canonical form, a byte of the
written span reads what was written, and every other byte reads as before. -/
def Obligations.MemoryReadsBackWhatIsWritten : Prop :=
  ∀ (m : Mem) (a : Nat) (bs : List Byte), Memory.wf m = true →
    Memory.wf (mputs m a bs) = true ∧
    (∀ k, k < bs.length → mget (mputs m a bs) (a + k) = bs.getD k 0) ∧
    ∀ k, k < a ∨ a + bs.length ≤ k → mget (mputs m a bs) k = mget m k

/-- R127: where the loads of a class want more than there is, water-filling gives every child at least its reserve and at
most its load, never more in all than there is above the reserves, and leaves less than one watt for each child. -/
def Obligations.WaterFillingSharesWhatThereIs : Prop :=
  ∀ (l : List FillItem) (avail : Int), (∀ e ∈ l, 0 < e.2.1 ∧ 0 ≤ e.2.2.1 ∧ e.2.2.1 ≤ e.2.2.2) → 0 ≤ avail →
    avail < (l.map fun e => e.2.2.2 - e.2.2.1).sum →
    (fillClass l avail).length = l.length ∧
    (∀ x ∈ l.zip (fillClass l avail), x.2.1 = x.1.1 ∧ x.1.2.2.1 ≤ x.2.2 ∧ x.2.2 ≤ x.1.2.2.2) ∧
    sumGiven (fillClass l avail) - (l.map fun e => e.2.2.1).sum ≤ avail ∧
    avail < sumGiven (fillClass l avail) - (l.map fun e => e.2.2.1).sum + l.length

/-- R163: a trip of a fitted pod that is neither tripped nor retired turns off both gates of every phase of the pod; the pod
is TRIPPED, or retired where the fault counts say so, and neither state lets a gate be high. A pod that is not fitted never
leaves OFF (R150): its trip changes nothing. -/
def Obligations.TripTurnsTheGatesOff : Prop :=
  ∀ (s : State) (p src index : Nat), p < 8 →
    (s.podFitted p = false → tripCore p src index s = s) ∧
    (s.podFitted p = true → (s.pod p).state ≠ 2 → (s.pod p).state ≠ 4 →
      (((tripCore p src index s).pod p).state = 2 ∨ ((tripCore p src index s).pod p).state = 4) ∧
      ∀ k, k < 48 → podOf k = p →
        ((tripCore p src index s).phase k).gateH = false ∧ ((tripCore p src index s).phase k).gateL = false)

/-! ## What each command does -/

/-- The host commands of seats, queues and the command interface: from every state in which one runs with a case's condition true, exec answers the
next state of exactly that case's reply. The model's readings in it: log entries 6, 7, 13, 15, 17, 18, 20, 51, 53, 80, 81, 89, 91, 92. -/
def Obligations.SeatCommandsAnswer : Prop := ∀ e ∈ seatCases, e.Holds

/-- The host commands of configuration, site time and epochs: from every state in which one runs with a case's condition true, exec answers the
next state of exactly that case's reply. The model's readings in it: log entries 10, 12, 14, 35, 36, 49, 52, 79, 80, 81, 93, 124, 125. -/
def Obligations.EpochCommandsAnswer : Prop := ∀ e ∈ epochCases, e.Holds

/-- The host commands of the power tree: from every state in which one runs with a case's condition true, exec answers the
next state of exactly that case's reply. The model's readings in it: log entries 10, 14, 44, 80, 81, 86, 105, 106, 107. -/
def Obligations.TreeCommandsAnswer : Prop := ∀ e ∈ treeCases, e.Holds

/-- The host commands of the allocation cycle: from every state in which one runs with a case's condition true, exec answers the
next state of exactly that case's reply. The model's readings in it: log entries 28, 45, 46, 80, 81, 85, 88, 108, 109, 110, 111, 112, 122, 125. -/
def Obligations.AllocationCommandsAnswer : Prop := ∀ e ∈ allocCases, e.Holds

/-- The host commands of the phase array: from every state in which one runs with a case's condition true, exec answers the
next state of exactly that case's reply. The model's readings in it: log entries 37, 80, 81, 95, 96, 115. -/
def Obligations.PhaseArrayCommandsAnswer : Prop := ∀ e ∈ phaseCases, e.Holds

/-- The host commands of outputs and pods: from every state in which one runs with a case's condition true, exec answers the
next state of exactly that case's reply. The model's readings in it: log entries 26, 47, 69, 80, 81, 97, 113. -/
def Obligations.OutputCommandsAnswer : Prop := ∀ e ∈ outputCases, e.Holds

/-- The host commands of the loop engine and Geyser: from every state in which one runs with a case's condition true, exec answers the
next state of exactly that case's reply. The model's readings in it: log entries 21, 23, 24, 38, 80, 81, 84, 98, 99. -/
def Obligations.LoopCommandsAnswer : Prop := ∀ e ∈ loopCases, e.Holds

/-- The host commands of the connector links: from every state in which one runs with a case's condition true, exec answers the
next state of exactly that case's reply. The model's readings in it: log entries 40, 42, 80, 81, 83, 116. -/
def Obligations.LinkCommandsAnswer : Prop := ∀ e ∈ linkCases, e.Holds

/-- The host commands of the charging sessions: from every state in which one runs with a case's condition true, exec answers the
next state of exactly that case's reply. The model's readings in it: log entries 39, 40, 41, 42, 80, 81, 83, 100, 101, 114. -/
def Obligations.SessionCommandsAnswer : Prop := ∀ e ∈ sessionCases, e.Holds

/-- The host commands of legal metrology: from every state in which one runs with a case's condition true, exec answers the
next state of exactly that case's reply. The model's readings in it: log entries 11, 29, 30, 31, 32, 48, 80, 81, 117, 118, 123. -/
def Obligations.MetrologyCommandsAnswer : Prop := ∀ e ∈ meterCases, e.Holds

/-- The host commands of the safety island: from every state in which one runs with a case's condition true, exec answers the
next state of exactly that case's reply. The model's readings in it: log entries 16, 25, 43, 80, 81, 102, 121. -/
def Obligations.SafetyCommandsAnswer : Prop := ∀ e ∈ safetyCases, e.Holds

/-- The host commands of the field bus: from every state in which one runs with a case's condition true, exec answers the
next state of exactly that case's reply. The model's readings in it: log entries 19, 33, 34, 50, 80, 81, 94, 119, 126. -/
def Obligations.FieldBusCommandsAnswer : Prop := ∀ e ∈ fieldCases, e.Holds

/-- The host commands of the load switches: from every state in which one runs with a case's condition true, exec answers the
next state of exactly that case's reply. The model's readings in it: log entries 22, 80, 81, 103. -/
def Obligations.LoadSwitchCommandsAnswer : Prop := ∀ e ∈ lsCases, e.Holds

/-- The host commands of keys, identity and firmware: from every state in which one runs with a case's condition true, exec answers the
next state of exactly that case's reply. The model's readings in it: log entries 5, 54, 55, 56, 57, 58, 80, 81, 113. -/
def Obligations.TrustCommandsAnswer : Prop := ∀ e ∈ trustCases, e.Holds

/-- The host commands of the journal, retirement and check values: from every state in which one runs with a case's condition true, exec answers the
next state of exactly that case's reply. The model's readings in it: log entries 59, 60, 61, 80, 81, 87, 113. -/
def Obligations.JournalCommandsAnswer : Prop := ∀ e ∈ journalCases, e.Holds

/-- The host commands of Fumarole and the power states: from every state in which one runs with a case's condition true, exec answers the
next state of exactly that case's reply. The model's readings in it: log entries 64, 65, 80, 81. -/
def Obligations.PowerCommandsAnswer : Prop := ∀ e ∈ powerCases, e.Holds

/-- From every state in which POWER_STATE_SET runs with a case's condition true, exec answers the next state that the case's
reply gives once its completion is posted and the entry is finished. The model's readings in it: log entries 66, 67, 80, 81. -/
def Obligations.PowerStateSetAnswers : Prop :=
  ∀ e ∈ sleepCases, ∀ (c : Cmd) (s t : State) (q : Req), Runs e.info c s q t → e.ok q t = true →
    exec (e.cmd c) s = .next (finishEntry s.power.state (conclude e.info q t (e.reply q t)))

/-- From every state in which RESET runs with a case's condition true, exec answers the next state that the case's reply
gives once its completion is posted and the reset is carried out. The model's readings in it: log entries 9, 62, 63, 70, 71, 72, 73, 74, 75, 76, 77, 80, 81, 82, 104, 120, 123. -/
def Obligations.ResetCommandAnswers : Prop :=
  ∀ e ∈ resetCases, ∀ (c : Cmd) (s t : State) (q : Req), Runs e.info c s q t → e.ok q t = true →
    exec (e.cmd c) s = .next (afterReset s (conclude e.info q t (e.reply q t)))

/-- The events of seats, queues and the command interface: from every state in which an entry's condition holds, exec answers the next state that the
entry gives. The model's readings in it: log entries 6, 7, 8, 13, 15, 17, 18, 20, 51, 53, 80, 81, 89, 91, 92. -/
def Obligations.SeatEventsTakeEffect : Prop :=
  ∀ (n k off : Nat) (v tag : Word) (index : Half) (f : SeatFrame) (b0 : Byte) (d : QueueDef) (w : ContCmd) (l :
    Live) (dl : Nat), ∀ e ∈ seatEvents n k off v tag index f b0 d w l dl, e.Holds

/-- The events of configuration, site time and epochs: from every state in which an entry's condition holds, exec answers the next state that the
entry gives. The model's readings in it: log entries 8, 10, 12, 14, 35, 36, 49, 52, 79, 80, 81, 93, 124, 125. -/
def Obligations.EpochEventsTakeEffect : Prop :=
  ∀ (p domain sender tai steps sec : Nat) (offset : Int) (dataset : List Nat) (code : Half), ∀ e ∈ epochEvents p
    domain sender tai steps sec offset dataset code, e.Holds

/-- The events of the allocation cycle: from every state in which an entry's condition holds, exec answers the next state that the
entry gives. The model's readings in it: log entries 8, 28, 45, 46, 80, 81, 85, 88, 108, 109, 110, 111, 112, 122, 125. -/
def Obligations.AllocationEventsTakeEffect : Prop :=
  ∀ (solveTime n k dir o cap : Nat) (b : Block), ∀ e ∈ allocEvents solveTime n k dir o cap b, e.Holds

/-- The events of the phase array: from every state in which an entry's condition holds, exec answers the next state that the
entry gives. The model's readings in it: log entries 8, 37, 80, 81, 95, 96, 115. -/
def Obligations.PhaseArrayEventsTakeEffect : Prop :=
  ∀ (k p counter clocks index : Nat) (sensed : Int) (halt : Bool), ∀ e ∈ phaseEvents k p counter clocks index
    sensed halt, e.Holds

/-- The events of outputs and pods: from every state in which an entry's condition holds, exec answers the next state that the
entry gives. The model's readings in it: log entries 8, 26, 47, 69, 80, 81, 97, 113. -/
def Obligations.OutputEventsTakeEffect : Prop :=
  ∀ (o p k : Nat) (r : PodReply), ∀ e ∈ outputEvents o p k r, e.Holds

/-- The events of the loop engine and Geyser: from every state in which an entry's condition holds, exec answers the next state that the
entry gives. The model's readings in it: log entries 8, 21, 23, 24, 38, 80, 81, 84, 98, 99. -/
def Obligations.LoopEventsTakeEffect : Prop :=
  ∀ (k : Nat) (codes : List (Nat × Int)) (lost : Bool) (cycles : Nat), ∀ e ∈ loopEvents k codes lost cycles,
    e.Holds

/-- The events of the connector links: from every state in which an entry's condition holds, exec answers the next state that the
entry gives. The model's readings in it: log entries 8, 40, 42, 80, 81, 83, 116. -/
def Obligations.LinkEventsTakeEffect : Prop :=
  ∀ (c cause ohm atten toggles held : Nat) (high low : Int) (run : BitVec 64) (f : VehFrame), ∀ e ∈ linkEvents c
    cause ohm atten toggles held high low run f, e.Holds

/-- The events of the charging sessions: from every state in which an entry's condition holds, exec answers the next state that the
entry gives. The model's readings in it: log entries 8, 39, 40, 41, 42, 80, 81, 83, 100, 101, 114. -/
def Obligations.SessionEventsTakeEffect : Prop :=
  ∀ (c voltage current tls suites groups k : Nat) (offers : List (Nat × Nat)) (evccid emaid : List Byte) (pnc ok
    bpt dyn : Bool) (certs : List (List Byte)) (l : EvLimits) (code : Half), ∀ e ∈ sessionEvents c voltage current
    tls suites groups k offers evccid emaid pnc ok bpt dyn certs l code, e.Holds

/-- The events of legal metrology: from every state in which an entry's condition holds, exec answers the next state that the
entry gives. The model's readings in it: log entries 8, 11, 29, 30, 31, 32, 48, 80, 81, 117, 118, 123. -/
def Obligations.MetrologyEventsTakeEffect : Prop :=
  ∀ (codes : List Int) (quiet : BitVec 48) (recno since held : Nat) (r : MRecord) (ext : Bool), ∀ e ∈
    meterEvents codes quiet recno since held r ext, e.Holds

/-- The events of the safety supervisor: from every state in which an entry's condition holds, exec answers the next state that the
entry gives. The model's readings in it: log entries 8, 16, 43, 68, 80, 81. -/
def Obligations.SupervisorEventsTakeEffect : Prop :=
  ∀ (x y kind bitNo cycle : Nat) (channels passes : BitVec 4) (signatures : List Word), ∀ e ∈ supervisorEvents x
    y kind bitNo cycle channels passes signatures, e.Holds

/-- The events of the safety island: from every state in which an entry's condition holds, exec answers the next state that the
entry gives. The model's readings in it: log entries 8, 16, 25, 43, 80, 81, 102, 121. -/
def Obligations.SafetyFunctionEventsTakeEffect : Prop :=
  ∀ (k o a conn held : Nat) (high pa pb : Bool) (fell : Word) (delta : Int) (l l2 : VehLimits) (m w : SafeMsg),
    ∀ e ∈ safetyEvents k o a conn held high pa pb fell delta l l2 m w, e.Holds

/-- The events of the field bus: from every state in which an entry's condition holds, exec answers the next state that the
entry gives. The model's readings in it: log entries 8, 19, 33, 34, 50, 80, 81, 94, 119, 126. -/
def Obligations.FieldBusEventsTakeEffect : Prop :=
  ∀ (n p k retrans since age : Nat) (hb : NodeBeat) (r : NodeReport) (digest : Digest) (epoch ident : Word) (er
    : CanError) (f : CanFrame) (x : TxFrame) (h : FieldHead), ∀ e ∈ fieldEvents n p k retrans since age hb r
    digest epoch ident er f x h, e.Holds

/-- The events of the load switches: from every state in which an entry's condition holds, exec answers the next state that the
entry gives. The model's readings in it: log entries 8, 22, 80, 81, 103. -/
def Obligations.LoadSwitchEventsTakeEffect : Prop :=
  ∀ (c k temp vout vls held : Nat) (tc : Int) (low : Bool), ∀ e ∈ lsEvents c k temp vout vls held tc low,
    e.Holds

/-- The events of keys, identity and firmware: from every state in which an entry's condition holds, exec answers the next state that the
entry gives. The model's readings in it: log entries 5, 8, 54, 55, 56, 57, 58, 80, 81, 113. -/
def Obligations.TrustEventsTakeEffect : Prop :=
  ∀ (k o since health : Nat) (l : Live), ∀ e ∈ trustEvents k o since health l, e.Holds

/-- The events of the journal, retirement and check values: from every state in which an entry's condition holds, exec answers the next state that the
entry gives. The model's readings in it: log entries 8, 59, 60, 61, 80, 81, 87, 113. -/
def Obligations.JournalEventsTakeEffect : Prop :=
  ∀ (en : JEntry) (l : List JEntry) (h : Word) (st : Nat) (r : List (Word × Nat)), ∀ e ∈ journalEvents en l h st
    r, e.Holds

/-- The events of Fumarole and the power states: from every state in which an entry's condition holds, exec answers the next state that the
entry gives. The model's readings in it: log entries 8, 64, 65, 80, 81. -/
def Obligations.PowerEventsTakeEffect : Prop :=
  ∀ (r conn c d tWake : Nat) (raw y : Int) (uWake held : Nat), ∀ e ∈ powerEvents r conn c d tWake raw y uWake
    held, e.Holds

/-- The events of clocks, die temperature, the ADC, boot and reset: from every state in which an entry's condition holds, exec answers the next state that the
entry gives. The model's readings in it: log entries 8, 9, 62, 63, 70, 71, 72, 73, 74, 75, 76, 77, 80, 81, 82, 104, 120, 123. -/
def Obligations.ClockAndResetEventsTakeEffect : Prop :=
  ∀ (c code p entry counter rail mv clock q error cycles : Nat) (t : Int) (b : BootInputs), ∀ e ∈ resetEvents c
    code p entry counter rail mv clock q error cycles t b, e.Holds
end

