-- ==== Sys2Proof/Laws/Host.lean ====
section
/-! SUPPORT. The course of a host command that runs: exec answers what its meaning replies. -/

namespace Sys2Proof.Machine

/-- A command that runs ends as its meaning replies. -/
theorem host_runs {i : CmdInfo} {c : Cmd} {s : State} {q : Req} {t : State} (f : Req → State → Reply)
    (h : Runs i c s q t) : host i c f s = .next (conclude i q t (f q t)) := by
  unfold Runs admitted at h
  split at h
  · cases h
  · rename_i g u ha
    dsimp only at h
    split at h
    · cases h
    · rename_i hc
      split at h
      · cases h
      · rename_i b hb
        obtain ⟨rfl, rfl⟩ : _ ∧ _ := by simpa using h
        obtain ⟨hc, he⟩ : checks i g (g.req i c (u.hostIf.order - 1)) u = none ∧ eccLost c = false := by simpa using hc
        have hrun : runCmd i c g f u
            = conclude i { g.req i c (u.hostIf.order - 1) with buf := b } (countEcc c u)
                (f { g.req i c (u.hostIf.order - 1) with buf := b } (countEcc c u)) := by
          simp only [runCmd, hc, hb, he, Bool.false_eq_true, if_false]
        rw [← hrun]
        unfold arrives at ha
        split at ha
        · rename_i hg
          simp only [Bool.and_eq_true, Bool.not_eq_true'] at hg
          obtain ⟨⟨⟨hr, hd⟩, hk⟩, hf⟩ := hg
          dsimp only at ha
          simp only [host, hostStep, drainEnd, hr, hd, hk, if_true, Bool.false_eq_true, if_false, false_and]
          congr 1
          unfold assemble
          split at ha
          · rename_i hn
            obtain ⟨rfl, rfl⟩ : _ ∧ _ := by simpa using ha
            simp only [hn, startCmd, hf, Bool.false_eq_true, if_false]
          · rename_i w hn
            split at ha
            · rename_i hw
              obtain ⟨rfl, rfl⟩ : _ ∧ _ := by simpa using ha
              simp only [hn, hw, hf, Bool.false_eq_true, if_false, if_true]
            · rename_i hw
              obtain ⟨rfl, rfl⟩ : _ ∧ _ := by simpa using ha
              simp only [hn, hw, startCmd, hf, Bool.false_eq_true, if_false]
        · cases ha

/-- A case holds where its command's meaning is `host` over a reply that agrees with the case's. -/
theorem Case.holds_of {e : Case} {f : Req → State → Reply} (hx : ∀ c s, exec (e.cmd c) s = host e.info c f s)
    (hf : ∀ q t, e.ok q t = true → f q t = e.reply q t) : e.Holds := fun c s q t hr ho => by
  rw [hx, host_runs f hr, hf q t ho]

end Sys2Proof.Machine
end

