-- ==== Sys2Proof/Laws/State.lean ====
section
/-! SUPPORT. One lemma per field per update of State: what each setter leaves as it was, and what it writes. -/

namespace Sys2Proof.Machine

/-! ### Tables -/

/-- A table entry that was just set reads back. -/
@[simp] theorem tget_tset_same {α : Type} (t : Tbl α) (k : Nat) (v d : α) : tget (tset t k v) k d = v := by
  induction t with
  | nil => simp [tset, tget]
  | cons e r ih =>
    obtain ⟨j, w⟩ := e
    by_cases h : j = k
    · simp [tset, tget, h]
    · by_cases h2 : k < j
      · simp [tset, tget, h, h2]
      · simp [tset, tget, h, h2, ih]

/-- Setting an entry leaves every other one. -/
theorem tget_tset_other {α : Type} (t : Tbl α) (k m : Nat) (v d : α) (h : m ≠ k) : tget (tset t k v) m d = tget t m d := by
  induction t with
  | nil => simp [tset, tget, Ne.symm h]
  | cons e r ih =>
    obtain ⟨j, w⟩ := e
    by_cases h1 : j = k
    · subst h1; simp [tset, tget, Ne.symm h]
    · by_cases h2 : k < j
      · simp [tset, tget, h1, h2, Ne.symm h]
      · simp [tset, tget, h1, h2, ih]

/-- A binding that was just set reads back. -/
@[simp] theorem aget_aset_same {α β : Type} [DecidableEq α] (l : List (α × β)) (k : α) (v : β) : aget (aset l k v) k = some v := by
  induction l with
  | nil => simp [aset, aget]
  | cons e r ih =>
    obtain ⟨j, w⟩ := e
    by_cases h : j = k
    · simp [aset, aget, h]
    · simp [aset, aget, h, ih]

/-- Setting a binding leaves every other one. -/
theorem aget_aset_other {α β : Type} [DecidableEq α] (l : List (α × β)) (k m : α) (v : β) (h : m ≠ k) :
    aget (aset l k v) m = aget l m := by
  induction l with
  | nil => simp [aset, aget, Ne.symm h]
  | cons e r ih =>
    obtain ⟨j, w⟩ := e
    by_cases h1 : j = k
    · subst h1; simp [aset, aget, Ne.symm h]
    · simp [aset, aget, h1, ih]

/-! ### setSeat -/

@[simp] theorem State.setSeat_pending (s : State) (n : Nat) (v : Seat) : (s.setSeat n v).pending = s.pending := rfl
@[simp] theorem State.setSeat_boot (s : State) (n : Nat) (v : Seat) : (s.setSeat n v).boot = s.boot := rfl
@[simp] theorem State.setSeat_clk (s : State) (n : Nat) (v : Seat) : (s.setSeat n v).clk = s.clk := rfl
@[simp] theorem State.setSeat_ep (s : State) (n : Nat) (v : Seat) : (s.setSeat n v).ep = s.ep := rfl
@[simp] theorem State.setSeat_cal (s : State) (n : Nat) (v : Seat) : (s.setSeat n v).cal = s.cal := rfl
@[simp] theorem State.setSeat_phases (s : State) (n : Nat) (v : Seat) : (s.setSeat n v).phases = s.phases := rfl
@[simp] theorem State.setSeat_pods (s : State) (n : Nat) (v : Seat) : (s.setSeat n v).pods = s.pods := rfl
@[simp] theorem State.setSeat_matrix (s : State) (n : Nat) (v : Seat) : (s.setSeat n v).matrix = s.matrix := rfl
@[simp] theorem State.setSeat_outputs (s : State) (n : Nat) (v : Seat) : (s.setSeat n v).outputs = s.outputs := rfl
@[simp] theorem State.setSeat_slots (s : State) (n : Nat) (v : Seat) : (s.setSeat n v).slots = s.slots := rfl
@[simp] theorem State.setSeat_geyser (s : State) (n : Nat) (v : Seat) : (s.setSeat n v).geyser = s.geyser := rfl
@[simp] theorem State.setSeat_conns (s : State) (n : Nat) (v : Seat) : (s.setSeat n v).conns = s.conns := rfl
@[simp] theorem State.setSeat_sessions (s : State) (n : Nat) (v : Seat) : (s.setSeat n v).sessions = s.sessions := rfl
@[simp] theorem State.setSeat_metro (s : State) (n : Nat) (v : Seat) : (s.setSeat n v).metro = s.metro := rfl
@[simp] theorem State.setSeat_sup (s : State) (n : Nat) (v : Seat) : (s.setSeat n v).sup = s.sup := rfl
@[simp] theorem State.setSeat_isl (s : State) (n : Nat) (v : Seat) : (s.setSeat n v).isl = s.isl := rfl
@[simp] theorem State.setSeat_field (s : State) (n : Nat) (v : Seat) : (s.setSeat n v).field = s.field := rfl
@[simp] theorem State.setSeat_ls (s : State) (n : Nat) (v : Seat) : (s.setSeat n v).ls = s.ls := rfl
@[simp] theorem State.setSeat_trust (s : State) (n : Nat) (v : Seat) : (s.setSeat n v).trust = s.trust := rfl
@[simp] theorem State.setSeat_power (s : State) (n : Nat) (v : Seat) : (s.setSeat n v).power = s.power := rfl
@[simp] theorem State.setSeat_jnl (s : State) (n : Nat) (v : Seat) : (s.setSeat n v).jnl = s.jnl := rfl
@[simp] theorem State.setSeat_ain (s : State) (n : Nat) (v : Seat) : (s.setSeat n v).ain = s.ain := rfl
@[simp] theorem State.setSeat_syncOut (s : State) (n : Nat) (v : Seat) : (s.setSeat n v).syncOut = s.syncOut := rfl
@[simp] theorem State.setSeat_free (s : State) (n : Nat) (v : Seat) : (s.setSeat n v).free = s.free := rfl
@[simp] theorem State.setSeat_hostIf_owners (s : State) (n : Nat) (v : Seat) : (s.setSeat n v).hostIf.owners = s.hostIf.owners := rfl
@[simp] theorem State.setSeat_hostIf_live (s : State) (n : Nat) (v : Seat) : (s.setSeat n v).hostIf.live = s.hostIf.live := rfl
@[simp] theorem State.setSeat_hostIf_order (s : State) (n : Nat) (v : Seat) : (s.setSeat n v).hostIf.order = s.hostIf.order := rfl
@[simp] theorem State.setSeat_hostIf_internal (s : State) (n : Nat) (v : Seat) : (s.setSeat n v).hostIf.internal = s.hostIf.internal := rfl
@[simp] theorem State.setSeat_hostIf_counters (s : State) (n : Nat) (v : Seat) : (s.setSeat n v).hostIf.counters = s.hostIf.counters := rfl
@[simp] theorem State.setSeat_hostIf_sramCorrected (s : State) (n : Nat) (v : Seat) : (s.setSeat n v).hostIf.sramCorrected = s.hostIf.sramCorrected := rfl
@[simp] theorem State.setSeat_hostIf_sramUncorrectable (s : State) (n : Nat) (v : Seat) : (s.setSeat n v).hostIf.sramUncorrectable = s.hostIf.sramUncorrectable := rfl
@[simp] theorem State.setSeat_hostIf_sramAddress (s : State) (n : Nat) (v : Seat) : (s.setSeat n v).hostIf.sramAddress = s.hostIf.sramAddress := rfl
@[simp] theorem State.setSeat_hostIf_dma (s : State) (n : Nat) (v : Seat) : (s.setSeat n v).hostIf.dma = s.hostIf.dma := rfl
@[simp] theorem State.setSeat_hostIf_frames (s : State) (n : Nat) (v : Seat) : (s.setSeat n v).hostIf.frames = s.hostIf.frames := rfl
@[simp] theorem State.setSeat_hostIf_unread (s : State) (n : Nat) (v : Seat) : (s.setSeat n v).hostIf.unread = s.hostIf.unread := rfl
@[simp] theorem State.setSeat_hostIf_lastReads (s : State) (n : Nat) (v : Seat) : (s.setSeat n v).hostIf.lastReads = s.hostIf.lastReads := rfl
@[simp] theorem State.setSeat_hostIf_bell (s : State) (n : Nat) (v : Seat) : (s.setSeat n v).hostIf.bell = s.hostIf.bell := rfl
@[simp] theorem State.setSeat_seat (s : State) (n : Nat) (v : Seat) : (s.setSeat n v).seat n = v := tget_tset_same ..
theorem State.setSeat_seat_other (s : State) (n m : Nat) (v : Seat) (h : m ≠ n) : (s.setSeat n v).seat m = s.seat m := tget_tset_other _ _ _ _ _ h

/-! ### setIq -/

@[simp] theorem State.setIq_pending (s : State) (n : Nat) (v : IQueue) : (s.setIq n v).pending = s.pending := rfl
@[simp] theorem State.setIq_boot (s : State) (n : Nat) (v : IQueue) : (s.setIq n v).boot = s.boot := rfl
@[simp] theorem State.setIq_clk (s : State) (n : Nat) (v : IQueue) : (s.setIq n v).clk = s.clk := rfl
@[simp] theorem State.setIq_ep (s : State) (n : Nat) (v : IQueue) : (s.setIq n v).ep = s.ep := rfl
@[simp] theorem State.setIq_cal (s : State) (n : Nat) (v : IQueue) : (s.setIq n v).cal = s.cal := rfl
@[simp] theorem State.setIq_phases (s : State) (n : Nat) (v : IQueue) : (s.setIq n v).phases = s.phases := rfl
@[simp] theorem State.setIq_pods (s : State) (n : Nat) (v : IQueue) : (s.setIq n v).pods = s.pods := rfl
@[simp] theorem State.setIq_matrix (s : State) (n : Nat) (v : IQueue) : (s.setIq n v).matrix = s.matrix := rfl
@[simp] theorem State.setIq_outputs (s : State) (n : Nat) (v : IQueue) : (s.setIq n v).outputs = s.outputs := rfl
@[simp] theorem State.setIq_slots (s : State) (n : Nat) (v : IQueue) : (s.setIq n v).slots = s.slots := rfl
@[simp] theorem State.setIq_geyser (s : State) (n : Nat) (v : IQueue) : (s.setIq n v).geyser = s.geyser := rfl
@[simp] theorem State.setIq_conns (s : State) (n : Nat) (v : IQueue) : (s.setIq n v).conns = s.conns := rfl
@[simp] theorem State.setIq_sessions (s : State) (n : Nat) (v : IQueue) : (s.setIq n v).sessions = s.sessions := rfl
@[simp] theorem State.setIq_metro (s : State) (n : Nat) (v : IQueue) : (s.setIq n v).metro = s.metro := rfl
@[simp] theorem State.setIq_sup (s : State) (n : Nat) (v : IQueue) : (s.setIq n v).sup = s.sup := rfl
@[simp] theorem State.setIq_isl (s : State) (n : Nat) (v : IQueue) : (s.setIq n v).isl = s.isl := rfl
@[simp] theorem State.setIq_field (s : State) (n : Nat) (v : IQueue) : (s.setIq n v).field = s.field := rfl
@[simp] theorem State.setIq_ls (s : State) (n : Nat) (v : IQueue) : (s.setIq n v).ls = s.ls := rfl
@[simp] theorem State.setIq_trust (s : State) (n : Nat) (v : IQueue) : (s.setIq n v).trust = s.trust := rfl
@[simp] theorem State.setIq_power (s : State) (n : Nat) (v : IQueue) : (s.setIq n v).power = s.power := rfl
@[simp] theorem State.setIq_jnl (s : State) (n : Nat) (v : IQueue) : (s.setIq n v).jnl = s.jnl := rfl
@[simp] theorem State.setIq_ain (s : State) (n : Nat) (v : IQueue) : (s.setIq n v).ain = s.ain := rfl
@[simp] theorem State.setIq_syncOut (s : State) (n : Nat) (v : IQueue) : (s.setIq n v).syncOut = s.syncOut := rfl
@[simp] theorem State.setIq_free (s : State) (n : Nat) (v : IQueue) : (s.setIq n v).free = s.free := rfl
@[simp] theorem State.setIq_hostIf_seats (s : State) (n : Nat) (v : IQueue) : (s.setIq n v).hostIf.seats = s.hostIf.seats := rfl
@[simp] theorem State.setIq_hostIf_owners (s : State) (n : Nat) (v : IQueue) : (s.setIq n v).hostIf.owners = s.hostIf.owners := rfl
@[simp] theorem State.setIq_hostIf_live (s : State) (n : Nat) (v : IQueue) : (s.setIq n v).hostIf.live = s.hostIf.live := rfl
@[simp] theorem State.setIq_hostIf_order (s : State) (n : Nat) (v : IQueue) : (s.setIq n v).hostIf.order = s.hostIf.order := rfl
@[simp] theorem State.setIq_hostIf_counters (s : State) (n : Nat) (v : IQueue) : (s.setIq n v).hostIf.counters = s.hostIf.counters := rfl
@[simp] theorem State.setIq_hostIf_sramCorrected (s : State) (n : Nat) (v : IQueue) : (s.setIq n v).hostIf.sramCorrected = s.hostIf.sramCorrected := rfl
@[simp] theorem State.setIq_hostIf_sramUncorrectable (s : State) (n : Nat) (v : IQueue) : (s.setIq n v).hostIf.sramUncorrectable = s.hostIf.sramUncorrectable := rfl
@[simp] theorem State.setIq_hostIf_sramAddress (s : State) (n : Nat) (v : IQueue) : (s.setIq n v).hostIf.sramAddress = s.hostIf.sramAddress := rfl
@[simp] theorem State.setIq_hostIf_dma (s : State) (n : Nat) (v : IQueue) : (s.setIq n v).hostIf.dma = s.hostIf.dma := rfl
@[simp] theorem State.setIq_hostIf_frames (s : State) (n : Nat) (v : IQueue) : (s.setIq n v).hostIf.frames = s.hostIf.frames := rfl
@[simp] theorem State.setIq_hostIf_unread (s : State) (n : Nat) (v : IQueue) : (s.setIq n v).hostIf.unread = s.hostIf.unread := rfl
@[simp] theorem State.setIq_hostIf_lastReads (s : State) (n : Nat) (v : IQueue) : (s.setIq n v).hostIf.lastReads = s.hostIf.lastReads := rfl
@[simp] theorem State.setIq_hostIf_bell (s : State) (n : Nat) (v : IQueue) : (s.setIq n v).hostIf.bell = s.hostIf.bell := rfl
@[simp] theorem State.setIq_iq (s : State) (n : Nat) (v : IQueue) : (s.setIq n v).iq n = v := tget_tset_same ..
theorem State.setIq_iq_other (s : State) (n m : Nat) (v : IQueue) (h : m ≠ n) : (s.setIq n v).iq m = s.iq m := tget_tset_other _ _ _ _ _ h

/-! ### setCounter -/

@[simp] theorem State.setCounter_pending (s : State) (n : Nat) (v : Nat) : (s.setCounter n v).pending = s.pending := rfl
@[simp] theorem State.setCounter_boot (s : State) (n : Nat) (v : Nat) : (s.setCounter n v).boot = s.boot := rfl
@[simp] theorem State.setCounter_clk (s : State) (n : Nat) (v : Nat) : (s.setCounter n v).clk = s.clk := rfl
@[simp] theorem State.setCounter_ep (s : State) (n : Nat) (v : Nat) : (s.setCounter n v).ep = s.ep := rfl
@[simp] theorem State.setCounter_cal (s : State) (n : Nat) (v : Nat) : (s.setCounter n v).cal = s.cal := rfl
@[simp] theorem State.setCounter_phases (s : State) (n : Nat) (v : Nat) : (s.setCounter n v).phases = s.phases := rfl
@[simp] theorem State.setCounter_pods (s : State) (n : Nat) (v : Nat) : (s.setCounter n v).pods = s.pods := rfl
@[simp] theorem State.setCounter_matrix (s : State) (n : Nat) (v : Nat) : (s.setCounter n v).matrix = s.matrix := rfl
@[simp] theorem State.setCounter_outputs (s : State) (n : Nat) (v : Nat) : (s.setCounter n v).outputs = s.outputs := rfl
@[simp] theorem State.setCounter_slots (s : State) (n : Nat) (v : Nat) : (s.setCounter n v).slots = s.slots := rfl
@[simp] theorem State.setCounter_geyser (s : State) (n : Nat) (v : Nat) : (s.setCounter n v).geyser = s.geyser := rfl
@[simp] theorem State.setCounter_conns (s : State) (n : Nat) (v : Nat) : (s.setCounter n v).conns = s.conns := rfl
@[simp] theorem State.setCounter_sessions (s : State) (n : Nat) (v : Nat) : (s.setCounter n v).sessions = s.sessions := rfl
@[simp] theorem State.setCounter_metro (s : State) (n : Nat) (v : Nat) : (s.setCounter n v).metro = s.metro := rfl
@[simp] theorem State.setCounter_sup (s : State) (n : Nat) (v : Nat) : (s.setCounter n v).sup = s.sup := rfl
@[simp] theorem State.setCounter_isl (s : State) (n : Nat) (v : Nat) : (s.setCounter n v).isl = s.isl := rfl
@[simp] theorem State.setCounter_field (s : State) (n : Nat) (v : Nat) : (s.setCounter n v).field = s.field := rfl
@[simp] theorem State.setCounter_ls (s : State) (n : Nat) (v : Nat) : (s.setCounter n v).ls = s.ls := rfl
@[simp] theorem State.setCounter_trust (s : State) (n : Nat) (v : Nat) : (s.setCounter n v).trust = s.trust := rfl
@[simp] theorem State.setCounter_power (s : State) (n : Nat) (v : Nat) : (s.setCounter n v).power = s.power := rfl
@[simp] theorem State.setCounter_jnl (s : State) (n : Nat) (v : Nat) : (s.setCounter n v).jnl = s.jnl := rfl
@[simp] theorem State.setCounter_ain (s : State) (n : Nat) (v : Nat) : (s.setCounter n v).ain = s.ain := rfl
@[simp] theorem State.setCounter_syncOut (s : State) (n : Nat) (v : Nat) : (s.setCounter n v).syncOut = s.syncOut := rfl
@[simp] theorem State.setCounter_free (s : State) (n : Nat) (v : Nat) : (s.setCounter n v).free = s.free := rfl
@[simp] theorem State.setCounter_hostIf_seats (s : State) (n : Nat) (v : Nat) : (s.setCounter n v).hostIf.seats = s.hostIf.seats := rfl
@[simp] theorem State.setCounter_hostIf_owners (s : State) (n : Nat) (v : Nat) : (s.setCounter n v).hostIf.owners = s.hostIf.owners := rfl
@[simp] theorem State.setCounter_hostIf_live (s : State) (n : Nat) (v : Nat) : (s.setCounter n v).hostIf.live = s.hostIf.live := rfl
@[simp] theorem State.setCounter_hostIf_order (s : State) (n : Nat) (v : Nat) : (s.setCounter n v).hostIf.order = s.hostIf.order := rfl
@[simp] theorem State.setCounter_hostIf_internal (s : State) (n : Nat) (v : Nat) : (s.setCounter n v).hostIf.internal = s.hostIf.internal := rfl
@[simp] theorem State.setCounter_hostIf_sramCorrected (s : State) (n : Nat) (v : Nat) : (s.setCounter n v).hostIf.sramCorrected = s.hostIf.sramCorrected := rfl
@[simp] theorem State.setCounter_hostIf_sramUncorrectable (s : State) (n : Nat) (v : Nat) : (s.setCounter n v).hostIf.sramUncorrectable = s.hostIf.sramUncorrectable := rfl
@[simp] theorem State.setCounter_hostIf_sramAddress (s : State) (n : Nat) (v : Nat) : (s.setCounter n v).hostIf.sramAddress = s.hostIf.sramAddress := rfl
@[simp] theorem State.setCounter_hostIf_dma (s : State) (n : Nat) (v : Nat) : (s.setCounter n v).hostIf.dma = s.hostIf.dma := rfl
@[simp] theorem State.setCounter_hostIf_frames (s : State) (n : Nat) (v : Nat) : (s.setCounter n v).hostIf.frames = s.hostIf.frames := rfl
@[simp] theorem State.setCounter_hostIf_unread (s : State) (n : Nat) (v : Nat) : (s.setCounter n v).hostIf.unread = s.hostIf.unread := rfl
@[simp] theorem State.setCounter_hostIf_lastReads (s : State) (n : Nat) (v : Nat) : (s.setCounter n v).hostIf.lastReads = s.hostIf.lastReads := rfl
@[simp] theorem State.setCounter_hostIf_bell (s : State) (n : Nat) (v : Nat) : (s.setCounter n v).hostIf.bell = s.hostIf.bell := rfl
@[simp] theorem State.setCounter_counter (s : State) (n : Nat) (v : Nat) : (s.setCounter n v).counter n = v := tget_tset_same ..
theorem State.setCounter_counter_other (s : State) (n m : Nat) (v : Nat) (h : m ≠ n) : (s.setCounter n v).counter m = s.counter m := tget_tset_other _ _ _ _ _ h

/-! ### setNode -/

@[simp] theorem State.setNode_pending (s : State) (n : Nat) (v : Node) : (s.setNode n v).pending = s.pending := rfl
@[simp] theorem State.setNode_boot (s : State) (n : Nat) (v : Node) : (s.setNode n v).boot = s.boot := rfl
@[simp] theorem State.setNode_clk (s : State) (n : Nat) (v : Node) : (s.setNode n v).clk = s.clk := rfl
@[simp] theorem State.setNode_hostIf (s : State) (n : Nat) (v : Node) : (s.setNode n v).hostIf = s.hostIf := rfl
@[simp] theorem State.setNode_ep (s : State) (n : Nat) (v : Node) : (s.setNode n v).ep = s.ep := rfl
@[simp] theorem State.setNode_phases (s : State) (n : Nat) (v : Node) : (s.setNode n v).phases = s.phases := rfl
@[simp] theorem State.setNode_pods (s : State) (n : Nat) (v : Node) : (s.setNode n v).pods = s.pods := rfl
@[simp] theorem State.setNode_matrix (s : State) (n : Nat) (v : Node) : (s.setNode n v).matrix = s.matrix := rfl
@[simp] theorem State.setNode_outputs (s : State) (n : Nat) (v : Node) : (s.setNode n v).outputs = s.outputs := rfl
@[simp] theorem State.setNode_slots (s : State) (n : Nat) (v : Node) : (s.setNode n v).slots = s.slots := rfl
@[simp] theorem State.setNode_geyser (s : State) (n : Nat) (v : Node) : (s.setNode n v).geyser = s.geyser := rfl
@[simp] theorem State.setNode_conns (s : State) (n : Nat) (v : Node) : (s.setNode n v).conns = s.conns := rfl
@[simp] theorem State.setNode_sessions (s : State) (n : Nat) (v : Node) : (s.setNode n v).sessions = s.sessions := rfl
@[simp] theorem State.setNode_metro (s : State) (n : Nat) (v : Node) : (s.setNode n v).metro = s.metro := rfl
@[simp] theorem State.setNode_sup (s : State) (n : Nat) (v : Node) : (s.setNode n v).sup = s.sup := rfl
@[simp] theorem State.setNode_isl (s : State) (n : Nat) (v : Node) : (s.setNode n v).isl = s.isl := rfl
@[simp] theorem State.setNode_field (s : State) (n : Nat) (v : Node) : (s.setNode n v).field = s.field := rfl
@[simp] theorem State.setNode_ls (s : State) (n : Nat) (v : Node) : (s.setNode n v).ls = s.ls := rfl
@[simp] theorem State.setNode_trust (s : State) (n : Nat) (v : Node) : (s.setNode n v).trust = s.trust := rfl
@[simp] theorem State.setNode_power (s : State) (n : Nat) (v : Node) : (s.setNode n v).power = s.power := rfl
@[simp] theorem State.setNode_jnl (s : State) (n : Nat) (v : Node) : (s.setNode n v).jnl = s.jnl := rfl
@[simp] theorem State.setNode_ain (s : State) (n : Nat) (v : Node) : (s.setNode n v).ain = s.ain := rfl
@[simp] theorem State.setNode_syncOut (s : State) (n : Nat) (v : Node) : (s.setNode n v).syncOut = s.syncOut := rfl
@[simp] theorem State.setNode_free (s : State) (n : Nat) (v : Node) : (s.setNode n v).free = s.free := rfl
@[simp] theorem State.setNode_cal_curtails (s : State) (n : Nat) (v : Node) : (s.setNode n v).cal.curtails = s.cal.curtails := rfl
@[simp] theorem State.setNode_cal_period (s : State) (n : Nat) (v : Node) : (s.setNode n v).cal.period = s.cal.period := rfl
@[simp] theorem State.setNode_cal_nextPeriod (s : State) (n : Nat) (v : Node) : (s.setNode n v).cal.nextPeriod = s.cal.nextPeriod := rfl
@[simp] theorem State.setNode_cal_periodEnd (s : State) (n : Nat) (v : Node) : (s.setNode n v).cal.periodEnd = s.cal.periodEnd := rfl
@[simp] theorem State.setNode_cal_inForce (s : State) (n : Nat) (v : Node) : (s.setNode n v).cal.inForce = s.cal.inForce := rfl
@[simp] theorem State.setNode_cal_held (s : State) (n : Nat) (v : Node) : (s.setNode n v).cal.held = s.cal.held := rfl
@[simp] theorem State.setNode_cal_solved (s : State) (n : Nat) (v : Node) : (s.setNode n v).cal.solved = s.cal.solved := rfl
@[simp] theorem State.setNode_cal_drained (s : State) (n : Nat) (v : Node) : (s.setNode n v).cal.drained = s.cal.drained := rfl
@[simp] theorem State.setNode_cal_lastSolve (s : State) (n : Nat) (v : Node) : (s.setNode n v).cal.lastSolve = s.cal.lastSolve := rfl
@[simp] theorem State.setNode_cal_maxSolve (s : State) (n : Nat) (v : Node) : (s.setNode n v).cal.maxSolve = s.cal.maxSolve := rfl
@[simp] theorem State.setNode_cal_overruns (s : State) (n : Nat) (v : Node) : (s.setNode n v).cal.overruns = s.cal.overruns := rfl
@[simp] theorem State.setNode_cal_drains (s : State) (n : Nat) (v : Node) : (s.setNode n v).cal.drains = s.cal.drains := rfl
@[simp] theorem State.setNode_cal_aligned (s : State) (n : Nat) (v : Node) : (s.setNode n v).cal.aligned = s.cal.aligned := rfl
@[simp] theorem State.setNode_cal_restored (s : State) (n : Nat) (v : Node) : (s.setNode n v).cal.restored = s.cal.restored := rfl
@[simp] theorem State.setNode_cal_rampOver (s : State) (n : Nat) (v : Node) : (s.setNode n v).cal.rampOver = s.cal.rampOver := rfl
@[simp] theorem State.setNode_cal_withdrawn (s : State) (n : Nat) (v : Node) : (s.setNode n v).cal.withdrawn = s.cal.withdrawn := rfl
@[simp] theorem State.setNode_node (s : State) (n : Nat) (v : Node) : (s.setNode n v).node n = v := tget_tset_same ..
theorem State.setNode_node_other (s : State) (n m : Nat) (v : Node) (h : m ≠ n) : (s.setNode n v).node m = s.node m := tget_tset_other _ _ _ _ _ h

/-! ### setPhase -/

@[simp] theorem State.setPhase_pending (s : State) (n : Nat) (v : Phase) : (s.setPhase n v).pending = s.pending := rfl
@[simp] theorem State.setPhase_boot (s : State) (n : Nat) (v : Phase) : (s.setPhase n v).boot = s.boot := rfl
@[simp] theorem State.setPhase_clk (s : State) (n : Nat) (v : Phase) : (s.setPhase n v).clk = s.clk := rfl
@[simp] theorem State.setPhase_hostIf (s : State) (n : Nat) (v : Phase) : (s.setPhase n v).hostIf = s.hostIf := rfl
@[simp] theorem State.setPhase_ep (s : State) (n : Nat) (v : Phase) : (s.setPhase n v).ep = s.ep := rfl
@[simp] theorem State.setPhase_cal (s : State) (n : Nat) (v : Phase) : (s.setPhase n v).cal = s.cal := rfl
@[simp] theorem State.setPhase_pods (s : State) (n : Nat) (v : Phase) : (s.setPhase n v).pods = s.pods := rfl
@[simp] theorem State.setPhase_matrix (s : State) (n : Nat) (v : Phase) : (s.setPhase n v).matrix = s.matrix := rfl
@[simp] theorem State.setPhase_outputs (s : State) (n : Nat) (v : Phase) : (s.setPhase n v).outputs = s.outputs := rfl
@[simp] theorem State.setPhase_slots (s : State) (n : Nat) (v : Phase) : (s.setPhase n v).slots = s.slots := rfl
@[simp] theorem State.setPhase_geyser (s : State) (n : Nat) (v : Phase) : (s.setPhase n v).geyser = s.geyser := rfl
@[simp] theorem State.setPhase_conns (s : State) (n : Nat) (v : Phase) : (s.setPhase n v).conns = s.conns := rfl
@[simp] theorem State.setPhase_sessions (s : State) (n : Nat) (v : Phase) : (s.setPhase n v).sessions = s.sessions := rfl
@[simp] theorem State.setPhase_metro (s : State) (n : Nat) (v : Phase) : (s.setPhase n v).metro = s.metro := rfl
@[simp] theorem State.setPhase_sup (s : State) (n : Nat) (v : Phase) : (s.setPhase n v).sup = s.sup := rfl
@[simp] theorem State.setPhase_isl (s : State) (n : Nat) (v : Phase) : (s.setPhase n v).isl = s.isl := rfl
@[simp] theorem State.setPhase_field (s : State) (n : Nat) (v : Phase) : (s.setPhase n v).field = s.field := rfl
@[simp] theorem State.setPhase_ls (s : State) (n : Nat) (v : Phase) : (s.setPhase n v).ls = s.ls := rfl
@[simp] theorem State.setPhase_trust (s : State) (n : Nat) (v : Phase) : (s.setPhase n v).trust = s.trust := rfl
@[simp] theorem State.setPhase_power (s : State) (n : Nat) (v : Phase) : (s.setPhase n v).power = s.power := rfl
@[simp] theorem State.setPhase_jnl (s : State) (n : Nat) (v : Phase) : (s.setPhase n v).jnl = s.jnl := rfl
@[simp] theorem State.setPhase_ain (s : State) (n : Nat) (v : Phase) : (s.setPhase n v).ain = s.ain := rfl
@[simp] theorem State.setPhase_syncOut (s : State) (n : Nat) (v : Phase) : (s.setPhase n v).syncOut = s.syncOut := rfl
@[simp] theorem State.setPhase_free (s : State) (n : Nat) (v : Phase) : (s.setPhase n v).free = s.free := rfl
@[simp] theorem State.setPhase_phase (s : State) (n : Nat) (v : Phase) : (s.setPhase n v).phase n = v := tget_tset_same ..
theorem State.setPhase_phase_other (s : State) (n m : Nat) (v : Phase) (h : m ≠ n) : (s.setPhase n v).phase m = s.phase m := tget_tset_other _ _ _ _ _ h

/-! ### setPod -/

@[simp] theorem State.setPod_pending (s : State) (n : Nat) (v : Pod) : (s.setPod n v).pending = s.pending := rfl
@[simp] theorem State.setPod_boot (s : State) (n : Nat) (v : Pod) : (s.setPod n v).boot = s.boot := rfl
@[simp] theorem State.setPod_clk (s : State) (n : Nat) (v : Pod) : (s.setPod n v).clk = s.clk := rfl
@[simp] theorem State.setPod_hostIf (s : State) (n : Nat) (v : Pod) : (s.setPod n v).hostIf = s.hostIf := rfl
@[simp] theorem State.setPod_ep (s : State) (n : Nat) (v : Pod) : (s.setPod n v).ep = s.ep := rfl
@[simp] theorem State.setPod_cal (s : State) (n : Nat) (v : Pod) : (s.setPod n v).cal = s.cal := rfl
@[simp] theorem State.setPod_phases (s : State) (n : Nat) (v : Pod) : (s.setPod n v).phases = s.phases := rfl
@[simp] theorem State.setPod_matrix (s : State) (n : Nat) (v : Pod) : (s.setPod n v).matrix = s.matrix := rfl
@[simp] theorem State.setPod_outputs (s : State) (n : Nat) (v : Pod) : (s.setPod n v).outputs = s.outputs := rfl
@[simp] theorem State.setPod_slots (s : State) (n : Nat) (v : Pod) : (s.setPod n v).slots = s.slots := rfl
@[simp] theorem State.setPod_geyser (s : State) (n : Nat) (v : Pod) : (s.setPod n v).geyser = s.geyser := rfl
@[simp] theorem State.setPod_conns (s : State) (n : Nat) (v : Pod) : (s.setPod n v).conns = s.conns := rfl
@[simp] theorem State.setPod_sessions (s : State) (n : Nat) (v : Pod) : (s.setPod n v).sessions = s.sessions := rfl
@[simp] theorem State.setPod_metro (s : State) (n : Nat) (v : Pod) : (s.setPod n v).metro = s.metro := rfl
@[simp] theorem State.setPod_sup (s : State) (n : Nat) (v : Pod) : (s.setPod n v).sup = s.sup := rfl
@[simp] theorem State.setPod_isl (s : State) (n : Nat) (v : Pod) : (s.setPod n v).isl = s.isl := rfl
@[simp] theorem State.setPod_field (s : State) (n : Nat) (v : Pod) : (s.setPod n v).field = s.field := rfl
@[simp] theorem State.setPod_ls (s : State) (n : Nat) (v : Pod) : (s.setPod n v).ls = s.ls := rfl
@[simp] theorem State.setPod_trust (s : State) (n : Nat) (v : Pod) : (s.setPod n v).trust = s.trust := rfl
@[simp] theorem State.setPod_power (s : State) (n : Nat) (v : Pod) : (s.setPod n v).power = s.power := rfl
@[simp] theorem State.setPod_jnl (s : State) (n : Nat) (v : Pod) : (s.setPod n v).jnl = s.jnl := rfl
@[simp] theorem State.setPod_ain (s : State) (n : Nat) (v : Pod) : (s.setPod n v).ain = s.ain := rfl
@[simp] theorem State.setPod_syncOut (s : State) (n : Nat) (v : Pod) : (s.setPod n v).syncOut = s.syncOut := rfl
@[simp] theorem State.setPod_free (s : State) (n : Nat) (v : Pod) : (s.setPod n v).free = s.free := rfl
@[simp] theorem State.setPod_pod (s : State) (n : Nat) (v : Pod) : (s.setPod n v).pod n = v := tget_tset_same ..
theorem State.setPod_pod_other (s : State) (n m : Nat) (v : Pod) (h : m ≠ n) : (s.setPod n v).pod m = s.pod m := tget_tset_other _ _ _ _ _ h

/-! ### setMtx -/

@[simp] theorem State.setMtx_pending (s : State) (n : Nat) (v : Matrix) : (s.setMtx n v).pending = s.pending := rfl
@[simp] theorem State.setMtx_boot (s : State) (n : Nat) (v : Matrix) : (s.setMtx n v).boot = s.boot := rfl
@[simp] theorem State.setMtx_clk (s : State) (n : Nat) (v : Matrix) : (s.setMtx n v).clk = s.clk := rfl
@[simp] theorem State.setMtx_hostIf (s : State) (n : Nat) (v : Matrix) : (s.setMtx n v).hostIf = s.hostIf := rfl
@[simp] theorem State.setMtx_ep (s : State) (n : Nat) (v : Matrix) : (s.setMtx n v).ep = s.ep := rfl
@[simp] theorem State.setMtx_cal (s : State) (n : Nat) (v : Matrix) : (s.setMtx n v).cal = s.cal := rfl
@[simp] theorem State.setMtx_phases (s : State) (n : Nat) (v : Matrix) : (s.setMtx n v).phases = s.phases := rfl
@[simp] theorem State.setMtx_pods (s : State) (n : Nat) (v : Matrix) : (s.setMtx n v).pods = s.pods := rfl
@[simp] theorem State.setMtx_outputs (s : State) (n : Nat) (v : Matrix) : (s.setMtx n v).outputs = s.outputs := rfl
@[simp] theorem State.setMtx_slots (s : State) (n : Nat) (v : Matrix) : (s.setMtx n v).slots = s.slots := rfl
@[simp] theorem State.setMtx_geyser (s : State) (n : Nat) (v : Matrix) : (s.setMtx n v).geyser = s.geyser := rfl
@[simp] theorem State.setMtx_conns (s : State) (n : Nat) (v : Matrix) : (s.setMtx n v).conns = s.conns := rfl
@[simp] theorem State.setMtx_sessions (s : State) (n : Nat) (v : Matrix) : (s.setMtx n v).sessions = s.sessions := rfl
@[simp] theorem State.setMtx_metro (s : State) (n : Nat) (v : Matrix) : (s.setMtx n v).metro = s.metro := rfl
@[simp] theorem State.setMtx_sup (s : State) (n : Nat) (v : Matrix) : (s.setMtx n v).sup = s.sup := rfl
@[simp] theorem State.setMtx_isl (s : State) (n : Nat) (v : Matrix) : (s.setMtx n v).isl = s.isl := rfl
@[simp] theorem State.setMtx_field (s : State) (n : Nat) (v : Matrix) : (s.setMtx n v).field = s.field := rfl
@[simp] theorem State.setMtx_ls (s : State) (n : Nat) (v : Matrix) : (s.setMtx n v).ls = s.ls := rfl
@[simp] theorem State.setMtx_trust (s : State) (n : Nat) (v : Matrix) : (s.setMtx n v).trust = s.trust := rfl
@[simp] theorem State.setMtx_power (s : State) (n : Nat) (v : Matrix) : (s.setMtx n v).power = s.power := rfl
@[simp] theorem State.setMtx_jnl (s : State) (n : Nat) (v : Matrix) : (s.setMtx n v).jnl = s.jnl := rfl
@[simp] theorem State.setMtx_ain (s : State) (n : Nat) (v : Matrix) : (s.setMtx n v).ain = s.ain := rfl
@[simp] theorem State.setMtx_syncOut (s : State) (n : Nat) (v : Matrix) : (s.setMtx n v).syncOut = s.syncOut := rfl
@[simp] theorem State.setMtx_free (s : State) (n : Nat) (v : Matrix) : (s.setMtx n v).free = s.free := rfl
@[simp] theorem State.setMtx_mtx (s : State) (n : Nat) (v : Matrix) : (s.setMtx n v).mtx n = v := tget_tset_same ..
theorem State.setMtx_mtx_other (s : State) (n m : Nat) (v : Matrix) (h : m ≠ n) : (s.setMtx n v).mtx m = s.mtx m := tget_tset_other _ _ _ _ _ h

/-! ### setOutput -/

@[simp] theorem State.setOutput_pending (s : State) (n : Nat) (v : Output) : (s.setOutput n v).pending = s.pending := rfl
@[simp] theorem State.setOutput_boot (s : State) (n : Nat) (v : Output) : (s.setOutput n v).boot = s.boot := rfl
@[simp] theorem State.setOutput_clk (s : State) (n : Nat) (v : Output) : (s.setOutput n v).clk = s.clk := rfl
@[simp] theorem State.setOutput_hostIf (s : State) (n : Nat) (v : Output) : (s.setOutput n v).hostIf = s.hostIf := rfl
@[simp] theorem State.setOutput_ep (s : State) (n : Nat) (v : Output) : (s.setOutput n v).ep = s.ep := rfl
@[simp] theorem State.setOutput_cal (s : State) (n : Nat) (v : Output) : (s.setOutput n v).cal = s.cal := rfl
@[simp] theorem State.setOutput_phases (s : State) (n : Nat) (v : Output) : (s.setOutput n v).phases = s.phases := rfl
@[simp] theorem State.setOutput_pods (s : State) (n : Nat) (v : Output) : (s.setOutput n v).pods = s.pods := rfl
@[simp] theorem State.setOutput_matrix (s : State) (n : Nat) (v : Output) : (s.setOutput n v).matrix = s.matrix := rfl
@[simp] theorem State.setOutput_slots (s : State) (n : Nat) (v : Output) : (s.setOutput n v).slots = s.slots := rfl
@[simp] theorem State.setOutput_geyser (s : State) (n : Nat) (v : Output) : (s.setOutput n v).geyser = s.geyser := rfl
@[simp] theorem State.setOutput_conns (s : State) (n : Nat) (v : Output) : (s.setOutput n v).conns = s.conns := rfl
@[simp] theorem State.setOutput_sessions (s : State) (n : Nat) (v : Output) : (s.setOutput n v).sessions = s.sessions := rfl
@[simp] theorem State.setOutput_metro (s : State) (n : Nat) (v : Output) : (s.setOutput n v).metro = s.metro := rfl
@[simp] theorem State.setOutput_sup (s : State) (n : Nat) (v : Output) : (s.setOutput n v).sup = s.sup := rfl
@[simp] theorem State.setOutput_isl (s : State) (n : Nat) (v : Output) : (s.setOutput n v).isl = s.isl := rfl
@[simp] theorem State.setOutput_field (s : State) (n : Nat) (v : Output) : (s.setOutput n v).field = s.field := rfl
@[simp] theorem State.setOutput_ls (s : State) (n : Nat) (v : Output) : (s.setOutput n v).ls = s.ls := rfl
@[simp] theorem State.setOutput_trust (s : State) (n : Nat) (v : Output) : (s.setOutput n v).trust = s.trust := rfl
@[simp] theorem State.setOutput_power (s : State) (n : Nat) (v : Output) : (s.setOutput n v).power = s.power := rfl
@[simp] theorem State.setOutput_jnl (s : State) (n : Nat) (v : Output) : (s.setOutput n v).jnl = s.jnl := rfl
@[simp] theorem State.setOutput_ain (s : State) (n : Nat) (v : Output) : (s.setOutput n v).ain = s.ain := rfl
@[simp] theorem State.setOutput_syncOut (s : State) (n : Nat) (v : Output) : (s.setOutput n v).syncOut = s.syncOut := rfl
@[simp] theorem State.setOutput_free (s : State) (n : Nat) (v : Output) : (s.setOutput n v).free = s.free := rfl
@[simp] theorem State.setOutput_output (s : State) (n : Nat) (v : Output) : (s.setOutput n v).output n = v := tget_tset_same ..
theorem State.setOutput_output_other (s : State) (n m : Nat) (v : Output) (h : m ≠ n) : (s.setOutput n v).output m = s.output m := tget_tset_other _ _ _ _ _ h

/-! ### setSlot -/

@[simp] theorem State.setSlot_pending (s : State) (n : Nat) (v : Slot) : (s.setSlot n v).pending = s.pending := rfl
@[simp] theorem State.setSlot_boot (s : State) (n : Nat) (v : Slot) : (s.setSlot n v).boot = s.boot := rfl
@[simp] theorem State.setSlot_clk (s : State) (n : Nat) (v : Slot) : (s.setSlot n v).clk = s.clk := rfl
@[simp] theorem State.setSlot_hostIf (s : State) (n : Nat) (v : Slot) : (s.setSlot n v).hostIf = s.hostIf := rfl
@[simp] theorem State.setSlot_ep (s : State) (n : Nat) (v : Slot) : (s.setSlot n v).ep = s.ep := rfl
@[simp] theorem State.setSlot_cal (s : State) (n : Nat) (v : Slot) : (s.setSlot n v).cal = s.cal := rfl
@[simp] theorem State.setSlot_phases (s : State) (n : Nat) (v : Slot) : (s.setSlot n v).phases = s.phases := rfl
@[simp] theorem State.setSlot_pods (s : State) (n : Nat) (v : Slot) : (s.setSlot n v).pods = s.pods := rfl
@[simp] theorem State.setSlot_matrix (s : State) (n : Nat) (v : Slot) : (s.setSlot n v).matrix = s.matrix := rfl
@[simp] theorem State.setSlot_outputs (s : State) (n : Nat) (v : Slot) : (s.setSlot n v).outputs = s.outputs := rfl
@[simp] theorem State.setSlot_geyser (s : State) (n : Nat) (v : Slot) : (s.setSlot n v).geyser = s.geyser := rfl
@[simp] theorem State.setSlot_conns (s : State) (n : Nat) (v : Slot) : (s.setSlot n v).conns = s.conns := rfl
@[simp] theorem State.setSlot_sessions (s : State) (n : Nat) (v : Slot) : (s.setSlot n v).sessions = s.sessions := rfl
@[simp] theorem State.setSlot_metro (s : State) (n : Nat) (v : Slot) : (s.setSlot n v).metro = s.metro := rfl
@[simp] theorem State.setSlot_sup (s : State) (n : Nat) (v : Slot) : (s.setSlot n v).sup = s.sup := rfl
@[simp] theorem State.setSlot_isl (s : State) (n : Nat) (v : Slot) : (s.setSlot n v).isl = s.isl := rfl
@[simp] theorem State.setSlot_field (s : State) (n : Nat) (v : Slot) : (s.setSlot n v).field = s.field := rfl
@[simp] theorem State.setSlot_ls (s : State) (n : Nat) (v : Slot) : (s.setSlot n v).ls = s.ls := rfl
@[simp] theorem State.setSlot_trust (s : State) (n : Nat) (v : Slot) : (s.setSlot n v).trust = s.trust := rfl
@[simp] theorem State.setSlot_power (s : State) (n : Nat) (v : Slot) : (s.setSlot n v).power = s.power := rfl
@[simp] theorem State.setSlot_jnl (s : State) (n : Nat) (v : Slot) : (s.setSlot n v).jnl = s.jnl := rfl
@[simp] theorem State.setSlot_ain (s : State) (n : Nat) (v : Slot) : (s.setSlot n v).ain = s.ain := rfl
@[simp] theorem State.setSlot_syncOut (s : State) (n : Nat) (v : Slot) : (s.setSlot n v).syncOut = s.syncOut := rfl
@[simp] theorem State.setSlot_free (s : State) (n : Nat) (v : Slot) : (s.setSlot n v).free = s.free := rfl
@[simp] theorem State.setSlot_slot (s : State) (n : Nat) (v : Slot) : (s.setSlot n v).slot n = v := tget_tset_same ..
theorem State.setSlot_slot_other (s : State) (n m : Nat) (v : Slot) (h : m ≠ n) : (s.setSlot n v).slot m = s.slot m := tget_tset_other _ _ _ _ _ h

/-! ### setConn -/

@[simp] theorem State.setConn_pending (s : State) (n : Nat) (v : Conn) : (s.setConn n v).pending = s.pending := rfl
@[simp] theorem State.setConn_boot (s : State) (n : Nat) (v : Conn) : (s.setConn n v).boot = s.boot := rfl
@[simp] theorem State.setConn_clk (s : State) (n : Nat) (v : Conn) : (s.setConn n v).clk = s.clk := rfl
@[simp] theorem State.setConn_hostIf (s : State) (n : Nat) (v : Conn) : (s.setConn n v).hostIf = s.hostIf := rfl
@[simp] theorem State.setConn_ep (s : State) (n : Nat) (v : Conn) : (s.setConn n v).ep = s.ep := rfl
@[simp] theorem State.setConn_cal (s : State) (n : Nat) (v : Conn) : (s.setConn n v).cal = s.cal := rfl
@[simp] theorem State.setConn_phases (s : State) (n : Nat) (v : Conn) : (s.setConn n v).phases = s.phases := rfl
@[simp] theorem State.setConn_pods (s : State) (n : Nat) (v : Conn) : (s.setConn n v).pods = s.pods := rfl
@[simp] theorem State.setConn_matrix (s : State) (n : Nat) (v : Conn) : (s.setConn n v).matrix = s.matrix := rfl
@[simp] theorem State.setConn_outputs (s : State) (n : Nat) (v : Conn) : (s.setConn n v).outputs = s.outputs := rfl
@[simp] theorem State.setConn_slots (s : State) (n : Nat) (v : Conn) : (s.setConn n v).slots = s.slots := rfl
@[simp] theorem State.setConn_geyser (s : State) (n : Nat) (v : Conn) : (s.setConn n v).geyser = s.geyser := rfl
@[simp] theorem State.setConn_sessions (s : State) (n : Nat) (v : Conn) : (s.setConn n v).sessions = s.sessions := rfl
@[simp] theorem State.setConn_metro (s : State) (n : Nat) (v : Conn) : (s.setConn n v).metro = s.metro := rfl
@[simp] theorem State.setConn_sup (s : State) (n : Nat) (v : Conn) : (s.setConn n v).sup = s.sup := rfl
@[simp] theorem State.setConn_isl (s : State) (n : Nat) (v : Conn) : (s.setConn n v).isl = s.isl := rfl
@[simp] theorem State.setConn_field (s : State) (n : Nat) (v : Conn) : (s.setConn n v).field = s.field := rfl
@[simp] theorem State.setConn_ls (s : State) (n : Nat) (v : Conn) : (s.setConn n v).ls = s.ls := rfl
@[simp] theorem State.setConn_trust (s : State) (n : Nat) (v : Conn) : (s.setConn n v).trust = s.trust := rfl
@[simp] theorem State.setConn_power (s : State) (n : Nat) (v : Conn) : (s.setConn n v).power = s.power := rfl
@[simp] theorem State.setConn_jnl (s : State) (n : Nat) (v : Conn) : (s.setConn n v).jnl = s.jnl := rfl
@[simp] theorem State.setConn_ain (s : State) (n : Nat) (v : Conn) : (s.setConn n v).ain = s.ain := rfl
@[simp] theorem State.setConn_syncOut (s : State) (n : Nat) (v : Conn) : (s.setConn n v).syncOut = s.syncOut := rfl
@[simp] theorem State.setConn_free (s : State) (n : Nat) (v : Conn) : (s.setConn n v).free = s.free := rfl
@[simp] theorem State.setConn_conn (s : State) (n : Nat) (v : Conn) : (s.setConn n v).conn n = v := tget_tset_same ..
theorem State.setConn_conn_other (s : State) (n m : Nat) (v : Conn) (h : m ≠ n) : (s.setConn n v).conn m = s.conn m := tget_tset_other _ _ _ _ _ h

/-! ### setSession -/

@[simp] theorem State.setSession_pending (s : State) (n : Nat) (v : Session) : (s.setSession n v).pending = s.pending := rfl
@[simp] theorem State.setSession_boot (s : State) (n : Nat) (v : Session) : (s.setSession n v).boot = s.boot := rfl
@[simp] theorem State.setSession_clk (s : State) (n : Nat) (v : Session) : (s.setSession n v).clk = s.clk := rfl
@[simp] theorem State.setSession_hostIf (s : State) (n : Nat) (v : Session) : (s.setSession n v).hostIf = s.hostIf := rfl
@[simp] theorem State.setSession_ep (s : State) (n : Nat) (v : Session) : (s.setSession n v).ep = s.ep := rfl
@[simp] theorem State.setSession_cal (s : State) (n : Nat) (v : Session) : (s.setSession n v).cal = s.cal := rfl
@[simp] theorem State.setSession_phases (s : State) (n : Nat) (v : Session) : (s.setSession n v).phases = s.phases := rfl
@[simp] theorem State.setSession_pods (s : State) (n : Nat) (v : Session) : (s.setSession n v).pods = s.pods := rfl
@[simp] theorem State.setSession_matrix (s : State) (n : Nat) (v : Session) : (s.setSession n v).matrix = s.matrix := rfl
@[simp] theorem State.setSession_outputs (s : State) (n : Nat) (v : Session) : (s.setSession n v).outputs = s.outputs := rfl
@[simp] theorem State.setSession_slots (s : State) (n : Nat) (v : Session) : (s.setSession n v).slots = s.slots := rfl
@[simp] theorem State.setSession_geyser (s : State) (n : Nat) (v : Session) : (s.setSession n v).geyser = s.geyser := rfl
@[simp] theorem State.setSession_conns (s : State) (n : Nat) (v : Session) : (s.setSession n v).conns = s.conns := rfl
@[simp] theorem State.setSession_metro (s : State) (n : Nat) (v : Session) : (s.setSession n v).metro = s.metro := rfl
@[simp] theorem State.setSession_sup (s : State) (n : Nat) (v : Session) : (s.setSession n v).sup = s.sup := rfl
@[simp] theorem State.setSession_isl (s : State) (n : Nat) (v : Session) : (s.setSession n v).isl = s.isl := rfl
@[simp] theorem State.setSession_field (s : State) (n : Nat) (v : Session) : (s.setSession n v).field = s.field := rfl
@[simp] theorem State.setSession_ls (s : State) (n : Nat) (v : Session) : (s.setSession n v).ls = s.ls := rfl
@[simp] theorem State.setSession_trust (s : State) (n : Nat) (v : Session) : (s.setSession n v).trust = s.trust := rfl
@[simp] theorem State.setSession_power (s : State) (n : Nat) (v : Session) : (s.setSession n v).power = s.power := rfl
@[simp] theorem State.setSession_jnl (s : State) (n : Nat) (v : Session) : (s.setSession n v).jnl = s.jnl := rfl
@[simp] theorem State.setSession_ain (s : State) (n : Nat) (v : Session) : (s.setSession n v).ain = s.ain := rfl
@[simp] theorem State.setSession_syncOut (s : State) (n : Nat) (v : Session) : (s.setSession n v).syncOut = s.syncOut := rfl
@[simp] theorem State.setSession_free (s : State) (n : Nat) (v : Session) : (s.setSession n v).free = s.free := rfl
@[simp] theorem State.setSession_session (s : State) (n : Nat) (v : Session) : (s.setSession n v).session n = v := tget_tset_same ..
theorem State.setSession_session_other (s : State) (n m : Nat) (v : Session) (h : m ≠ n) : (s.setSession n v).session m = s.session m := tget_tset_other _ _ _ _ _ h

/-! ### setPoint -/

@[simp] theorem State.setPoint_pending (s : State) (n : Nat) (v : Point) : (s.setPoint n v).pending = s.pending := rfl
@[simp] theorem State.setPoint_boot (s : State) (n : Nat) (v : Point) : (s.setPoint n v).boot = s.boot := rfl
@[simp] theorem State.setPoint_clk (s : State) (n : Nat) (v : Point) : (s.setPoint n v).clk = s.clk := rfl
@[simp] theorem State.setPoint_hostIf (s : State) (n : Nat) (v : Point) : (s.setPoint n v).hostIf = s.hostIf := rfl
@[simp] theorem State.setPoint_ep (s : State) (n : Nat) (v : Point) : (s.setPoint n v).ep = s.ep := rfl
@[simp] theorem State.setPoint_cal (s : State) (n : Nat) (v : Point) : (s.setPoint n v).cal = s.cal := rfl
@[simp] theorem State.setPoint_phases (s : State) (n : Nat) (v : Point) : (s.setPoint n v).phases = s.phases := rfl
@[simp] theorem State.setPoint_pods (s : State) (n : Nat) (v : Point) : (s.setPoint n v).pods = s.pods := rfl
@[simp] theorem State.setPoint_matrix (s : State) (n : Nat) (v : Point) : (s.setPoint n v).matrix = s.matrix := rfl
@[simp] theorem State.setPoint_outputs (s : State) (n : Nat) (v : Point) : (s.setPoint n v).outputs = s.outputs := rfl
@[simp] theorem State.setPoint_slots (s : State) (n : Nat) (v : Point) : (s.setPoint n v).slots = s.slots := rfl
@[simp] theorem State.setPoint_geyser (s : State) (n : Nat) (v : Point) : (s.setPoint n v).geyser = s.geyser := rfl
@[simp] theorem State.setPoint_conns (s : State) (n : Nat) (v : Point) : (s.setPoint n v).conns = s.conns := rfl
@[simp] theorem State.setPoint_sessions (s : State) (n : Nat) (v : Point) : (s.setPoint n v).sessions = s.sessions := rfl
@[simp] theorem State.setPoint_sup (s : State) (n : Nat) (v : Point) : (s.setPoint n v).sup = s.sup := rfl
@[simp] theorem State.setPoint_isl (s : State) (n : Nat) (v : Point) : (s.setPoint n v).isl = s.isl := rfl
@[simp] theorem State.setPoint_field (s : State) (n : Nat) (v : Point) : (s.setPoint n v).field = s.field := rfl
@[simp] theorem State.setPoint_ls (s : State) (n : Nat) (v : Point) : (s.setPoint n v).ls = s.ls := rfl
@[simp] theorem State.setPoint_trust (s : State) (n : Nat) (v : Point) : (s.setPoint n v).trust = s.trust := rfl
@[simp] theorem State.setPoint_power (s : State) (n : Nat) (v : Point) : (s.setPoint n v).power = s.power := rfl
@[simp] theorem State.setPoint_jnl (s : State) (n : Nat) (v : Point) : (s.setPoint n v).jnl = s.jnl := rfl
@[simp] theorem State.setPoint_ain (s : State) (n : Nat) (v : Point) : (s.setPoint n v).ain = s.ain := rfl
@[simp] theorem State.setPoint_syncOut (s : State) (n : Nat) (v : Point) : (s.setPoint n v).syncOut = s.syncOut := rfl
@[simp] theorem State.setPoint_free (s : State) (n : Nat) (v : Point) : (s.setPoint n v).free = s.free := rfl
@[simp] theorem State.setPoint_metro_fullScale (s : State) (n : Nat) (v : Point) : (s.setPoint n v).metro.fullScale = s.metro.fullScale := rfl
@[simp] theorem State.setPoint_metro_chanFault (s : State) (n : Nat) (v : Point) : (s.setPoint n v).metro.chanFault = s.metro.chanFault := rfl
@[simp] theorem State.setPoint_metro_records (s : State) (n : Nat) (v : Point) : (s.setPoint n v).metro.records = s.metro.records := rfl
@[simp] theorem State.setPoint_metro_nextRec (s : State) (n : Nat) (v : Point) : (s.setPoint n v).metro.nextRec = s.metro.nextRec := rfl
@[simp] theorem State.setPoint_metro_fullRaised (s : State) (n : Nat) (v : Point) : (s.setPoint n v).metro.fullRaised = s.metro.fullRaised := rfl
@[simp] theorem State.setPoint_metro_lowRaised (s : State) (n : Nat) (v : Point) : (s.setPoint n v).metro.lowRaised = s.metro.lowRaised := rfl
@[simp] theorem State.setPoint_metro_saveA (s : State) (n : Nat) (v : Point) : (s.setPoint n v).metro.saveA = s.metro.saveA := rfl
@[simp] theorem State.setPoint_metro_saveB (s : State) (n : Nat) (v : Point) : (s.setPoint n v).metro.saveB = s.metro.saveB := rfl
@[simp] theorem State.setPoint_metro_anchor (s : State) (n : Nat) (v : Point) : (s.setPoint n v).metro.anchor = s.metro.anchor := rfl
@[simp] theorem State.setPoint_metro_anchorTime (s : State) (n : Nat) (v : Point) : (s.setPoint n v).metro.anchorTime = s.metro.anchorTime := rfl
@[simp] theorem State.setPoint_metro_saveTime (s : State) (n : Nat) (v : Point) : (s.setPoint n v).metro.saveTime = s.metro.saveTime := rfl
@[simp] theorem State.setPoint_metro_skipped (s : State) (n : Nat) (v : Point) : (s.setPoint n v).metro.skipped = s.metro.skipped := rfl
@[simp] theorem State.setPoint_metro_skippedNew (s : State) (n : Nat) (v : Point) : (s.setPoint n v).metro.skippedNew = s.metro.skippedNew := rfl
@[simp] theorem State.setPoint_metro_warning (s : State) (n : Nat) (v : Point) : (s.setPoint n v).metro.warning = s.metro.warning := rfl
@[simp] theorem State.setPoint_metro_lastFail (s : State) (n : Nat) (v : Point) : (s.setPoint n v).metro.lastFail = s.metro.lastFail := rfl
@[simp] theorem State.setPoint_metro_warnInput (s : State) (n : Nat) (v : Point) : (s.setPoint n v).metro.warnInput = s.metro.warnInput := rfl
@[simp] theorem State.setPoint_metro_clearSince (s : State) (n : Nat) (v : Point) : (s.setPoint n v).metro.clearSince = s.metro.clearSince := rfl
@[simp] theorem State.setPoint_metro_gapPending (s : State) (n : Nat) (v : Point) : (s.setPoint n v).metro.gapPending = s.metro.gapPending := rfl
@[simp] theorem State.setPoint_metro_saveDue (s : State) (n : Nat) (v : Point) : (s.setPoint n v).metro.saveDue = s.metro.saveDue := rfl
@[simp] theorem State.setPoint_metro_sealed (s : State) (n : Nat) (v : Point) : (s.setPoint n v).metro.sealed = s.metro.sealed := rfl
@[simp] theorem State.setPoint_metro_mismatch (s : State) (n : Nat) (v : Point) : (s.setPoint n v).metro.mismatch = s.metro.mismatch := rfl
@[simp] theorem State.setPoint_point (s : State) (n : Nat) (v : Point) : (s.setPoint n v).point n = v := tget_tset_same ..
theorem State.setPoint_point_other (s : State) (n m : Nat) (v : Point) (h : m ≠ n) : (s.setPoint n v).point m = s.point m := tget_tset_other _ _ _ _ _ h

/-! ### setPort -/

@[simp] theorem State.setPort_pending (s : State) (n : Nat) (v : Port) : (s.setPort n v).pending = s.pending := rfl
@[simp] theorem State.setPort_boot (s : State) (n : Nat) (v : Port) : (s.setPort n v).boot = s.boot := rfl
@[simp] theorem State.setPort_clk (s : State) (n : Nat) (v : Port) : (s.setPort n v).clk = s.clk := rfl
@[simp] theorem State.setPort_hostIf (s : State) (n : Nat) (v : Port) : (s.setPort n v).hostIf = s.hostIf := rfl
@[simp] theorem State.setPort_ep (s : State) (n : Nat) (v : Port) : (s.setPort n v).ep = s.ep := rfl
@[simp] theorem State.setPort_cal (s : State) (n : Nat) (v : Port) : (s.setPort n v).cal = s.cal := rfl
@[simp] theorem State.setPort_phases (s : State) (n : Nat) (v : Port) : (s.setPort n v).phases = s.phases := rfl
@[simp] theorem State.setPort_pods (s : State) (n : Nat) (v : Port) : (s.setPort n v).pods = s.pods := rfl
@[simp] theorem State.setPort_matrix (s : State) (n : Nat) (v : Port) : (s.setPort n v).matrix = s.matrix := rfl
@[simp] theorem State.setPort_outputs (s : State) (n : Nat) (v : Port) : (s.setPort n v).outputs = s.outputs := rfl
@[simp] theorem State.setPort_slots (s : State) (n : Nat) (v : Port) : (s.setPort n v).slots = s.slots := rfl
@[simp] theorem State.setPort_geyser (s : State) (n : Nat) (v : Port) : (s.setPort n v).geyser = s.geyser := rfl
@[simp] theorem State.setPort_conns (s : State) (n : Nat) (v : Port) : (s.setPort n v).conns = s.conns := rfl
@[simp] theorem State.setPort_sessions (s : State) (n : Nat) (v : Port) : (s.setPort n v).sessions = s.sessions := rfl
@[simp] theorem State.setPort_metro (s : State) (n : Nat) (v : Port) : (s.setPort n v).metro = s.metro := rfl
@[simp] theorem State.setPort_sup (s : State) (n : Nat) (v : Port) : (s.setPort n v).sup = s.sup := rfl
@[simp] theorem State.setPort_isl (s : State) (n : Nat) (v : Port) : (s.setPort n v).isl = s.isl := rfl
@[simp] theorem State.setPort_ls (s : State) (n : Nat) (v : Port) : (s.setPort n v).ls = s.ls := rfl
@[simp] theorem State.setPort_trust (s : State) (n : Nat) (v : Port) : (s.setPort n v).trust = s.trust := rfl
@[simp] theorem State.setPort_power (s : State) (n : Nat) (v : Port) : (s.setPort n v).power = s.power := rfl
@[simp] theorem State.setPort_jnl (s : State) (n : Nat) (v : Port) : (s.setPort n v).jnl = s.jnl := rfl
@[simp] theorem State.setPort_ain (s : State) (n : Nat) (v : Port) : (s.setPort n v).ain = s.ain := rfl
@[simp] theorem State.setPort_syncOut (s : State) (n : Nat) (v : Port) : (s.setPort n v).syncOut = s.syncOut := rfl
@[simp] theorem State.setPort_free (s : State) (n : Nat) (v : Port) : (s.setPort n v).free = s.free := rfl
@[simp] theorem State.setPort_field_nodes (s : State) (n : Nat) (v : Port) : (s.setPort n v).field.nodes = s.field.nodes := rfl
@[simp] theorem State.setPort_field_seqs (s : State) (n : Nat) (v : Port) : (s.setPort n v).field.seqs = s.field.seqs := rfl
@[simp] theorem State.setPort_field_beat (s : State) (n : Nat) (v : Port) : (s.setPort n v).field.beat = s.field.beat := rfl
@[simp] theorem State.setPort_field_grantsDropped (s : State) (n : Nat) (v : Port) : (s.setPort n v).field.grantsDropped = s.field.grantsDropped := rfl
@[simp] theorem State.setPort_port (s : State) (n : Nat) (v : Port) : (s.setPort n v).port n = v := tget_tset_same ..
theorem State.setPort_port_other (s : State) (n m : Nat) (v : Port) (h : m ≠ n) : (s.setPort n v).port m = s.port m := tget_tset_other _ _ _ _ _ h

/-! ### setFnode -/

@[simp] theorem State.setFnode_pending (s : State) (n : Nat) (v : FNode) : (s.setFnode n v).pending = s.pending := rfl
@[simp] theorem State.setFnode_boot (s : State) (n : Nat) (v : FNode) : (s.setFnode n v).boot = s.boot := rfl
@[simp] theorem State.setFnode_clk (s : State) (n : Nat) (v : FNode) : (s.setFnode n v).clk = s.clk := rfl
@[simp] theorem State.setFnode_hostIf (s : State) (n : Nat) (v : FNode) : (s.setFnode n v).hostIf = s.hostIf := rfl
@[simp] theorem State.setFnode_ep (s : State) (n : Nat) (v : FNode) : (s.setFnode n v).ep = s.ep := rfl
@[simp] theorem State.setFnode_cal (s : State) (n : Nat) (v : FNode) : (s.setFnode n v).cal = s.cal := rfl
@[simp] theorem State.setFnode_phases (s : State) (n : Nat) (v : FNode) : (s.setFnode n v).phases = s.phases := rfl
@[simp] theorem State.setFnode_pods (s : State) (n : Nat) (v : FNode) : (s.setFnode n v).pods = s.pods := rfl
@[simp] theorem State.setFnode_matrix (s : State) (n : Nat) (v : FNode) : (s.setFnode n v).matrix = s.matrix := rfl
@[simp] theorem State.setFnode_outputs (s : State) (n : Nat) (v : FNode) : (s.setFnode n v).outputs = s.outputs := rfl
@[simp] theorem State.setFnode_slots (s : State) (n : Nat) (v : FNode) : (s.setFnode n v).slots = s.slots := rfl
@[simp] theorem State.setFnode_geyser (s : State) (n : Nat) (v : FNode) : (s.setFnode n v).geyser = s.geyser := rfl
@[simp] theorem State.setFnode_conns (s : State) (n : Nat) (v : FNode) : (s.setFnode n v).conns = s.conns := rfl
@[simp] theorem State.setFnode_sessions (s : State) (n : Nat) (v : FNode) : (s.setFnode n v).sessions = s.sessions := rfl
@[simp] theorem State.setFnode_metro (s : State) (n : Nat) (v : FNode) : (s.setFnode n v).metro = s.metro := rfl
@[simp] theorem State.setFnode_sup (s : State) (n : Nat) (v : FNode) : (s.setFnode n v).sup = s.sup := rfl
@[simp] theorem State.setFnode_isl (s : State) (n : Nat) (v : FNode) : (s.setFnode n v).isl = s.isl := rfl
@[simp] theorem State.setFnode_ls (s : State) (n : Nat) (v : FNode) : (s.setFnode n v).ls = s.ls := rfl
@[simp] theorem State.setFnode_trust (s : State) (n : Nat) (v : FNode) : (s.setFnode n v).trust = s.trust := rfl
@[simp] theorem State.setFnode_power (s : State) (n : Nat) (v : FNode) : (s.setFnode n v).power = s.power := rfl
@[simp] theorem State.setFnode_jnl (s : State) (n : Nat) (v : FNode) : (s.setFnode n v).jnl = s.jnl := rfl
@[simp] theorem State.setFnode_ain (s : State) (n : Nat) (v : FNode) : (s.setFnode n v).ain = s.ain := rfl
@[simp] theorem State.setFnode_syncOut (s : State) (n : Nat) (v : FNode) : (s.setFnode n v).syncOut = s.syncOut := rfl
@[simp] theorem State.setFnode_free (s : State) (n : Nat) (v : FNode) : (s.setFnode n v).free = s.free := rfl
@[simp] theorem State.setFnode_field_ports (s : State) (n : Nat) (v : FNode) : (s.setFnode n v).field.ports = s.field.ports := rfl
@[simp] theorem State.setFnode_field_seqs (s : State) (n : Nat) (v : FNode) : (s.setFnode n v).field.seqs = s.field.seqs := rfl
@[simp] theorem State.setFnode_field_beat (s : State) (n : Nat) (v : FNode) : (s.setFnode n v).field.beat = s.field.beat := rfl
@[simp] theorem State.setFnode_field_grantsDropped (s : State) (n : Nat) (v : FNode) : (s.setFnode n v).field.grantsDropped = s.field.grantsDropped := rfl
@[simp] theorem State.setFnode_fnode (s : State) (n : Nat) (v : FNode) : (s.setFnode n v).fnode n = v := tget_tset_same ..
theorem State.setFnode_fnode_other (s : State) (n m : Nat) (v : FNode) (h : m ≠ n) : (s.setFnode n v).fnode m = s.fnode m := tget_tset_other _ _ _ _ _ h

/-! ### setChan -/

@[simp] theorem State.setChan_pending (s : State) (n : Nat) (v : LsChan) : (s.setChan n v).pending = s.pending := rfl
@[simp] theorem State.setChan_boot (s : State) (n : Nat) (v : LsChan) : (s.setChan n v).boot = s.boot := rfl
@[simp] theorem State.setChan_clk (s : State) (n : Nat) (v : LsChan) : (s.setChan n v).clk = s.clk := rfl
@[simp] theorem State.setChan_hostIf (s : State) (n : Nat) (v : LsChan) : (s.setChan n v).hostIf = s.hostIf := rfl
@[simp] theorem State.setChan_ep (s : State) (n : Nat) (v : LsChan) : (s.setChan n v).ep = s.ep := rfl
@[simp] theorem State.setChan_cal (s : State) (n : Nat) (v : LsChan) : (s.setChan n v).cal = s.cal := rfl
@[simp] theorem State.setChan_phases (s : State) (n : Nat) (v : LsChan) : (s.setChan n v).phases = s.phases := rfl
@[simp] theorem State.setChan_pods (s : State) (n : Nat) (v : LsChan) : (s.setChan n v).pods = s.pods := rfl
@[simp] theorem State.setChan_matrix (s : State) (n : Nat) (v : LsChan) : (s.setChan n v).matrix = s.matrix := rfl
@[simp] theorem State.setChan_outputs (s : State) (n : Nat) (v : LsChan) : (s.setChan n v).outputs = s.outputs := rfl
@[simp] theorem State.setChan_slots (s : State) (n : Nat) (v : LsChan) : (s.setChan n v).slots = s.slots := rfl
@[simp] theorem State.setChan_geyser (s : State) (n : Nat) (v : LsChan) : (s.setChan n v).geyser = s.geyser := rfl
@[simp] theorem State.setChan_conns (s : State) (n : Nat) (v : LsChan) : (s.setChan n v).conns = s.conns := rfl
@[simp] theorem State.setChan_sessions (s : State) (n : Nat) (v : LsChan) : (s.setChan n v).sessions = s.sessions := rfl
@[simp] theorem State.setChan_metro (s : State) (n : Nat) (v : LsChan) : (s.setChan n v).metro = s.metro := rfl
@[simp] theorem State.setChan_sup (s : State) (n : Nat) (v : LsChan) : (s.setChan n v).sup = s.sup := rfl
@[simp] theorem State.setChan_isl (s : State) (n : Nat) (v : LsChan) : (s.setChan n v).isl = s.isl := rfl
@[simp] theorem State.setChan_field (s : State) (n : Nat) (v : LsChan) : (s.setChan n v).field = s.field := rfl
@[simp] theorem State.setChan_trust (s : State) (n : Nat) (v : LsChan) : (s.setChan n v).trust = s.trust := rfl
@[simp] theorem State.setChan_power (s : State) (n : Nat) (v : LsChan) : (s.setChan n v).power = s.power := rfl
@[simp] theorem State.setChan_jnl (s : State) (n : Nat) (v : LsChan) : (s.setChan n v).jnl = s.jnl := rfl
@[simp] theorem State.setChan_ain (s : State) (n : Nat) (v : LsChan) : (s.setChan n v).ain = s.ain := rfl
@[simp] theorem State.setChan_syncOut (s : State) (n : Nat) (v : LsChan) : (s.setChan n v).syncOut = s.syncOut := rfl
@[simp] theorem State.setChan_free (s : State) (n : Nat) (v : LsChan) : (s.setChan n v).free = s.free := rfl
@[simp] theorem State.setChan_ls_vls (s : State) (n : Nat) (v : LsChan) : (s.setChan n v).ls.vls = s.ls.vls := rfl
@[simp] theorem State.setChan_ls_supplyOk (s : State) (n : Nat) (v : LsChan) : (s.setChan n v).ls.supplyOk = s.ls.supplyOk := rfl
@[simp] theorem State.setChan_ls_okSince (s : State) (n : Nat) (v : LsChan) : (s.setChan n v).ls.okSince = s.ls.okSince := rfl
@[simp] theorem State.setChan_ls_overtemp (s : State) (n : Nat) (v : LsChan) : (s.setChan n v).ls.overtemp = s.ls.overtemp := rfl
@[simp] theorem State.setChan_ls_droop (s : State) (n : Nat) (v : LsChan) : (s.setChan n v).ls.droop = s.ls.droop := rfl
@[simp] theorem State.setChan_ls_caseTemp (s : State) (n : Nat) (v : LsChan) : (s.setChan n v).ls.caseTemp = s.ls.caseTemp := rfl
@[simp] theorem State.setChan_ls_linkLost (s : State) (n : Nat) (v : LsChan) : (s.setChan n v).ls.linkLost = s.ls.linkLost := rfl
@[simp] theorem State.setChan_ls_limp (s : State) (n : Nat) (v : LsChan) : (s.setChan n v).ls.limp = s.ls.limp := rfl
@[simp] theorem State.setChan_ls_lhin (s : State) (n : Nat) (v : LsChan) : (s.setChan n v).ls.lhin = s.ls.lhin := rfl
@[simp] theorem State.setChan_ls_limpEvents (s : State) (n : Nat) (v : LsChan) : (s.setChan n v).ls.limpEvents = s.ls.limpEvents := rfl
@[simp] theorem State.setChan_chan (s : State) (n : Nat) (v : LsChan) : (s.setChan n v).chan n = v := tget_tset_same ..
theorem State.setChan_chan_other (s : State) (n m : Nat) (v : LsChan) (h : m ≠ n) : (s.setChan n v).chan m = s.chan m := tget_tset_other _ _ _ _ _ h

/-! ### setKey -/

@[simp] theorem State.setKey_pending (s : State) (n : Nat) (v : KeySlot) : (s.setKey n v).pending = s.pending := rfl
@[simp] theorem State.setKey_boot (s : State) (n : Nat) (v : KeySlot) : (s.setKey n v).boot = s.boot := rfl
@[simp] theorem State.setKey_clk (s : State) (n : Nat) (v : KeySlot) : (s.setKey n v).clk = s.clk := rfl
@[simp] theorem State.setKey_hostIf (s : State) (n : Nat) (v : KeySlot) : (s.setKey n v).hostIf = s.hostIf := rfl
@[simp] theorem State.setKey_ep (s : State) (n : Nat) (v : KeySlot) : (s.setKey n v).ep = s.ep := rfl
@[simp] theorem State.setKey_cal (s : State) (n : Nat) (v : KeySlot) : (s.setKey n v).cal = s.cal := rfl
@[simp] theorem State.setKey_phases (s : State) (n : Nat) (v : KeySlot) : (s.setKey n v).phases = s.phases := rfl
@[simp] theorem State.setKey_pods (s : State) (n : Nat) (v : KeySlot) : (s.setKey n v).pods = s.pods := rfl
@[simp] theorem State.setKey_matrix (s : State) (n : Nat) (v : KeySlot) : (s.setKey n v).matrix = s.matrix := rfl
@[simp] theorem State.setKey_outputs (s : State) (n : Nat) (v : KeySlot) : (s.setKey n v).outputs = s.outputs := rfl
@[simp] theorem State.setKey_slots (s : State) (n : Nat) (v : KeySlot) : (s.setKey n v).slots = s.slots := rfl
@[simp] theorem State.setKey_geyser (s : State) (n : Nat) (v : KeySlot) : (s.setKey n v).geyser = s.geyser := rfl
@[simp] theorem State.setKey_conns (s : State) (n : Nat) (v : KeySlot) : (s.setKey n v).conns = s.conns := rfl
@[simp] theorem State.setKey_sessions (s : State) (n : Nat) (v : KeySlot) : (s.setKey n v).sessions = s.sessions := rfl
@[simp] theorem State.setKey_metro (s : State) (n : Nat) (v : KeySlot) : (s.setKey n v).metro = s.metro := rfl
@[simp] theorem State.setKey_sup (s : State) (n : Nat) (v : KeySlot) : (s.setKey n v).sup = s.sup := rfl
@[simp] theorem State.setKey_isl (s : State) (n : Nat) (v : KeySlot) : (s.setKey n v).isl = s.isl := rfl
@[simp] theorem State.setKey_field (s : State) (n : Nat) (v : KeySlot) : (s.setKey n v).field = s.field := rfl
@[simp] theorem State.setKey_ls (s : State) (n : Nat) (v : KeySlot) : (s.setKey n v).ls = s.ls := rfl
@[simp] theorem State.setKey_power (s : State) (n : Nat) (v : KeySlot) : (s.setKey n v).power = s.power := rfl
@[simp] theorem State.setKey_jnl (s : State) (n : Nat) (v : KeySlot) : (s.setKey n v).jnl = s.jnl := rfl
@[simp] theorem State.setKey_ain (s : State) (n : Nat) (v : KeySlot) : (s.setKey n v).ain = s.ain := rfl
@[simp] theorem State.setKey_syncOut (s : State) (n : Nat) (v : KeySlot) : (s.setKey n v).syncOut = s.syncOut := rfl
@[simp] theorem State.setKey_free (s : State) (n : Nat) (v : KeySlot) : (s.setKey n v).free = s.free := rfl
@[simp] theorem State.setKey_trust_root (s : State) (n : Nat) (v : KeySlot) : (s.setKey n v).trust.root = s.trust.root := rfl
@[simp] theorem State.setKey_trust_masks (s : State) (n : Nat) (v : KeySlot) : (s.setKey n v).trust.masks = s.trust.masks := rfl
@[simp] theorem State.setKey_trust_scramble (s : State) (n : Nat) (v : KeySlot) : (s.setKey n v).trust.scramble = s.trust.scramble := rfl
@[simp] theorem State.setKey_trust_tagKey (s : State) (n : Nat) (v : KeySlot) : (s.setKey n v).trust.tagKey = s.trust.tagKey := rfl
@[simp] theorem State.setKey_trust_certs (s : State) (n : Nat) (v : KeySlot) : (s.setKey n v).trust.certs = s.trust.certs := rfl
@[simp] theorem State.setKey_trust_factory (s : State) (n : Nat) (v : KeySlot) : (s.setKey n v).trust.factory = s.trust.factory := rfl
@[simp] theorem State.setKey_trust_owner (s : State) (n : Nat) (v : KeySlot) : (s.setKey n v).trust.owner = s.trust.owner := rfl
@[simp] theorem State.setKey_trust_fw (s : State) (n : Nat) (v : KeySlot) : (s.setKey n v).trust.fw = s.trust.fw := rfl
@[simp] theorem State.setKey_trust_preferred (s : State) (n : Nat) (v : KeySlot) : (s.setKey n v).trust.preferred = s.trust.preferred := rfl
@[simp] theorem State.setKey_trust_trial (s : State) (n : Nat) (v : KeySlot) : (s.setKey n v).trust.trial = s.trust.trial := rfl
@[simp] theorem State.setKey_trust_rngFault (s : State) (n : Nat) (v : KeySlot) : (s.setKey n v).trust.rngFault = s.trust.rngFault := rfl
@[simp] theorem State.setKey_trust_draws (s : State) (n : Nat) (v : KeySlot) : (s.setKey n v).trust.draws = s.trust.draws := rfl
@[simp] theorem State.setKey_trust_results (s : State) (n : Nat) (v : KeySlot) : (s.setKey n v).trust.results = s.trust.results := rfl
@[simp] theorem State.setKey_trust_staleRaised (s : State) (n : Nat) (v : KeySlot) : (s.setKey n v).trust.staleRaised = s.trust.staleRaised := rfl
@[simp] theorem State.setKey_key (s : State) (n : Nat) (v : KeySlot) : (s.setKey n v).key n = v := tget_tset_same ..
theorem State.setKey_key_other (s : State) (n m : Nat) (v : KeySlot) (h : m ≠ n) : (s.setKey n v).key m = s.key m := tget_tset_other _ _ _ _ _ h

/-! ### setFw -/

@[simp] theorem State.setFw_pending (s : State) (n : Nat) (v : FwSlot) : (s.setFw n v).pending = s.pending := rfl
@[simp] theorem State.setFw_boot (s : State) (n : Nat) (v : FwSlot) : (s.setFw n v).boot = s.boot := rfl
@[simp] theorem State.setFw_clk (s : State) (n : Nat) (v : FwSlot) : (s.setFw n v).clk = s.clk := rfl
@[simp] theorem State.setFw_hostIf (s : State) (n : Nat) (v : FwSlot) : (s.setFw n v).hostIf = s.hostIf := rfl
@[simp] theorem State.setFw_ep (s : State) (n : Nat) (v : FwSlot) : (s.setFw n v).ep = s.ep := rfl
@[simp] theorem State.setFw_cal (s : State) (n : Nat) (v : FwSlot) : (s.setFw n v).cal = s.cal := rfl
@[simp] theorem State.setFw_phases (s : State) (n : Nat) (v : FwSlot) : (s.setFw n v).phases = s.phases := rfl
@[simp] theorem State.setFw_pods (s : State) (n : Nat) (v : FwSlot) : (s.setFw n v).pods = s.pods := rfl
@[simp] theorem State.setFw_matrix (s : State) (n : Nat) (v : FwSlot) : (s.setFw n v).matrix = s.matrix := rfl
@[simp] theorem State.setFw_outputs (s : State) (n : Nat) (v : FwSlot) : (s.setFw n v).outputs = s.outputs := rfl
@[simp] theorem State.setFw_slots (s : State) (n : Nat) (v : FwSlot) : (s.setFw n v).slots = s.slots := rfl
@[simp] theorem State.setFw_geyser (s : State) (n : Nat) (v : FwSlot) : (s.setFw n v).geyser = s.geyser := rfl
@[simp] theorem State.setFw_conns (s : State) (n : Nat) (v : FwSlot) : (s.setFw n v).conns = s.conns := rfl
@[simp] theorem State.setFw_sessions (s : State) (n : Nat) (v : FwSlot) : (s.setFw n v).sessions = s.sessions := rfl
@[simp] theorem State.setFw_metro (s : State) (n : Nat) (v : FwSlot) : (s.setFw n v).metro = s.metro := rfl
@[simp] theorem State.setFw_sup (s : State) (n : Nat) (v : FwSlot) : (s.setFw n v).sup = s.sup := rfl
@[simp] theorem State.setFw_isl (s : State) (n : Nat) (v : FwSlot) : (s.setFw n v).isl = s.isl := rfl
@[simp] theorem State.setFw_field (s : State) (n : Nat) (v : FwSlot) : (s.setFw n v).field = s.field := rfl
@[simp] theorem State.setFw_ls (s : State) (n : Nat) (v : FwSlot) : (s.setFw n v).ls = s.ls := rfl
@[simp] theorem State.setFw_power (s : State) (n : Nat) (v : FwSlot) : (s.setFw n v).power = s.power := rfl
@[simp] theorem State.setFw_jnl (s : State) (n : Nat) (v : FwSlot) : (s.setFw n v).jnl = s.jnl := rfl
@[simp] theorem State.setFw_ain (s : State) (n : Nat) (v : FwSlot) : (s.setFw n v).ain = s.ain := rfl
@[simp] theorem State.setFw_syncOut (s : State) (n : Nat) (v : FwSlot) : (s.setFw n v).syncOut = s.syncOut := rfl
@[simp] theorem State.setFw_free (s : State) (n : Nat) (v : FwSlot) : (s.setFw n v).free = s.free := rfl
@[simp] theorem State.setFw_trust_root (s : State) (n : Nat) (v : FwSlot) : (s.setFw n v).trust.root = s.trust.root := rfl
@[simp] theorem State.setFw_trust_keys (s : State) (n : Nat) (v : FwSlot) : (s.setFw n v).trust.keys = s.trust.keys := rfl
@[simp] theorem State.setFw_trust_masks (s : State) (n : Nat) (v : FwSlot) : (s.setFw n v).trust.masks = s.trust.masks := rfl
@[simp] theorem State.setFw_trust_scramble (s : State) (n : Nat) (v : FwSlot) : (s.setFw n v).trust.scramble = s.trust.scramble := rfl
@[simp] theorem State.setFw_trust_tagKey (s : State) (n : Nat) (v : FwSlot) : (s.setFw n v).trust.tagKey = s.trust.tagKey := rfl
@[simp] theorem State.setFw_trust_certs (s : State) (n : Nat) (v : FwSlot) : (s.setFw n v).trust.certs = s.trust.certs := rfl
@[simp] theorem State.setFw_trust_factory (s : State) (n : Nat) (v : FwSlot) : (s.setFw n v).trust.factory = s.trust.factory := rfl
@[simp] theorem State.setFw_trust_owner (s : State) (n : Nat) (v : FwSlot) : (s.setFw n v).trust.owner = s.trust.owner := rfl
@[simp] theorem State.setFw_trust_preferred (s : State) (n : Nat) (v : FwSlot) : (s.setFw n v).trust.preferred = s.trust.preferred := rfl
@[simp] theorem State.setFw_trust_trial (s : State) (n : Nat) (v : FwSlot) : (s.setFw n v).trust.trial = s.trust.trial := rfl
@[simp] theorem State.setFw_trust_rngFault (s : State) (n : Nat) (v : FwSlot) : (s.setFw n v).trust.rngFault = s.trust.rngFault := rfl
@[simp] theorem State.setFw_trust_draws (s : State) (n : Nat) (v : FwSlot) : (s.setFw n v).trust.draws = s.trust.draws := rfl
@[simp] theorem State.setFw_trust_results (s : State) (n : Nat) (v : FwSlot) : (s.setFw n v).trust.results = s.trust.results := rfl
@[simp] theorem State.setFw_trust_staleRaised (s : State) (n : Nat) (v : FwSlot) : (s.setFw n v).trust.staleRaised = s.trust.staleRaised := rfl
@[simp] theorem State.setFw_fw (s : State) (n : Nat) (v : FwSlot) : (s.setFw n v).fw n = v := tget_tset_same ..
theorem State.setFw_fw_other (s : State) (n m : Nat) (v : FwSlot) (h : m ≠ n) : (s.setFw n v).fw m = s.fw m := tget_tset_other _ _ _ _ _ h

/-! ### setRule -/

@[simp] theorem State.setRule_pending (s : State) (n : Nat) (v : Rule) : (s.setRule n v).pending = s.pending := rfl
@[simp] theorem State.setRule_boot (s : State) (n : Nat) (v : Rule) : (s.setRule n v).boot = s.boot := rfl
@[simp] theorem State.setRule_clk (s : State) (n : Nat) (v : Rule) : (s.setRule n v).clk = s.clk := rfl
@[simp] theorem State.setRule_hostIf (s : State) (n : Nat) (v : Rule) : (s.setRule n v).hostIf = s.hostIf := rfl
@[simp] theorem State.setRule_ep (s : State) (n : Nat) (v : Rule) : (s.setRule n v).ep = s.ep := rfl
@[simp] theorem State.setRule_cal (s : State) (n : Nat) (v : Rule) : (s.setRule n v).cal = s.cal := rfl
@[simp] theorem State.setRule_phases (s : State) (n : Nat) (v : Rule) : (s.setRule n v).phases = s.phases := rfl
@[simp] theorem State.setRule_pods (s : State) (n : Nat) (v : Rule) : (s.setRule n v).pods = s.pods := rfl
@[simp] theorem State.setRule_matrix (s : State) (n : Nat) (v : Rule) : (s.setRule n v).matrix = s.matrix := rfl
@[simp] theorem State.setRule_outputs (s : State) (n : Nat) (v : Rule) : (s.setRule n v).outputs = s.outputs := rfl
@[simp] theorem State.setRule_slots (s : State) (n : Nat) (v : Rule) : (s.setRule n v).slots = s.slots := rfl
@[simp] theorem State.setRule_geyser (s : State) (n : Nat) (v : Rule) : (s.setRule n v).geyser = s.geyser := rfl
@[simp] theorem State.setRule_conns (s : State) (n : Nat) (v : Rule) : (s.setRule n v).conns = s.conns := rfl
@[simp] theorem State.setRule_sessions (s : State) (n : Nat) (v : Rule) : (s.setRule n v).sessions = s.sessions := rfl
@[simp] theorem State.setRule_metro (s : State) (n : Nat) (v : Rule) : (s.setRule n v).metro = s.metro := rfl
@[simp] theorem State.setRule_sup (s : State) (n : Nat) (v : Rule) : (s.setRule n v).sup = s.sup := rfl
@[simp] theorem State.setRule_isl (s : State) (n : Nat) (v : Rule) : (s.setRule n v).isl = s.isl := rfl
@[simp] theorem State.setRule_field (s : State) (n : Nat) (v : Rule) : (s.setRule n v).field = s.field := rfl
@[simp] theorem State.setRule_ls (s : State) (n : Nat) (v : Rule) : (s.setRule n v).ls = s.ls := rfl
@[simp] theorem State.setRule_trust (s : State) (n : Nat) (v : Rule) : (s.setRule n v).trust = s.trust := rfl
@[simp] theorem State.setRule_jnl (s : State) (n : Nat) (v : Rule) : (s.setRule n v).jnl = s.jnl := rfl
@[simp] theorem State.setRule_ain (s : State) (n : Nat) (v : Rule) : (s.setRule n v).ain = s.ain := rfl
@[simp] theorem State.setRule_syncOut (s : State) (n : Nat) (v : Rule) : (s.setRule n v).syncOut = s.syncOut := rfl
@[simp] theorem State.setRule_free (s : State) (n : Nat) (v : Rule) : (s.setRule n v).free = s.free := rfl
@[simp] theorem State.setRule_power_state (s : State) (n : Nat) (v : Rule) : (s.setRule n v).power.state = s.power.state := rfl
@[simp] theorem State.setRule_power_since (s : State) (n : Nat) (v : Rule) : (s.setRule n v).power.since = s.power.since := rfl
@[simp] theorem State.setRule_power_domains (s : State) (n : Nat) (v : Rule) : (s.setRule n v).power.domains = s.power.domains := rfl
@[simp] theorem State.setRule_power_cause (s : State) (n : Nat) (v : Rule) : (s.setRule n v).power.cause = s.power.cause := rfl
@[simp] theorem State.setRule_power_wakes (s : State) (n : Nat) (v : Rule) : (s.setRule n v).power.wakes = s.power.wakes := rfl
@[simp] theorem State.setRule_power_wakeRule (s : State) (n : Nat) (v : Rule) : (s.setRule n v).power.wakeRule = s.power.wakeRule := rfl
@[simp] theorem State.setRule_power_wakeValue (s : State) (n : Nat) (v : Rule) : (s.setRule n v).power.wakeValue = s.power.wakeValue := rfl
@[simp] theorem State.setRule_power_wakeMask (s : State) (n : Nat) (v : Rule) : (s.setRule n v).power.wakeMask = s.power.wakeMask := rfl
@[simp] theorem State.setRule_power_leftState (s : State) (n : Nat) (v : Rule) : (s.setRule n v).power.leftState = s.power.leftState := rfl
@[simp] theorem State.setRule_power_wakeAt (s : State) (n : Nat) (v : Rule) : (s.setRule n v).power.wakeAt = s.power.wakeAt := rfl
@[simp] theorem State.setRule_power_keep (s : State) (n : Nat) (v : Rule) : (s.setRule n v).power.keep = s.power.keep := rfl
@[simp] theorem State.setRule_power_buffer (s : State) (n : Nat) (v : Rule) : (s.setRule n v).power.buffer = s.power.buffer := rfl
@[simp] theorem State.setRule_power_bufLost (s : State) (n : Nat) (v : Rule) : (s.setRule n v).power.bufLost = s.power.bufLost := rfl
@[simp] theorem State.setRule_power_bufLostNew (s : State) (n : Nat) (v : Rule) : (s.setRule n v).power.bufLostNew = s.power.bufLostNew := rfl
@[simp] theorem State.setRule_power_heater (s : State) (n : Nat) (v : Rule) : (s.setRule n v).power.heater = s.power.heater := rfl
@[simp] theorem State.setRule_power_force (s : State) (n : Nat) (v : Rule) : (s.setRule n v).power.force = s.power.force := rfl
@[simp] theorem State.setRule_power_forceEnd (s : State) (n : Nat) (v : Rule) : (s.setRule n v).power.forceEnd = s.power.forceEnd := rfl
@[simp] theorem State.setRule_power_log (s : State) (n : Nat) (v : Rule) : (s.setRule n v).power.log = s.power.log := rfl
@[simp] theorem State.setRule_power_idleSince (s : State) (n : Nat) (v : Rule) : (s.setRule n v).power.idleSince = s.power.idleSince := rfl
@[simp] theorem State.setRule_power_dormantAt (s : State) (n : Nat) (v : Rule) : (s.setRule n v).power.dormantAt = s.power.dormantAt := rfl
@[simp] theorem State.setRule_rule (s : State) (n : Nat) (v : Rule) : (s.setRule n v).rule n = v := tget_tset_same ..
theorem State.setRule_rule_other (s : State) (n m : Nat) (v : Rule) (h : m ≠ n) : (s.setRule n v).rule m = s.rule m := tget_tset_other _ _ _ _ _ h

/-! ### setSin -/

@[simp] theorem State.setSin_pending (s : State) (n : Nat) (v : SafeIn) : (s.setSin n v).pending = s.pending := rfl
@[simp] theorem State.setSin_boot (s : State) (n : Nat) (v : SafeIn) : (s.setSin n v).boot = s.boot := rfl
@[simp] theorem State.setSin_clk (s : State) (n : Nat) (v : SafeIn) : (s.setSin n v).clk = s.clk := rfl
@[simp] theorem State.setSin_hostIf (s : State) (n : Nat) (v : SafeIn) : (s.setSin n v).hostIf = s.hostIf := rfl
@[simp] theorem State.setSin_ep (s : State) (n : Nat) (v : SafeIn) : (s.setSin n v).ep = s.ep := rfl
@[simp] theorem State.setSin_cal (s : State) (n : Nat) (v : SafeIn) : (s.setSin n v).cal = s.cal := rfl
@[simp] theorem State.setSin_phases (s : State) (n : Nat) (v : SafeIn) : (s.setSin n v).phases = s.phases := rfl
@[simp] theorem State.setSin_pods (s : State) (n : Nat) (v : SafeIn) : (s.setSin n v).pods = s.pods := rfl
@[simp] theorem State.setSin_matrix (s : State) (n : Nat) (v : SafeIn) : (s.setSin n v).matrix = s.matrix := rfl
@[simp] theorem State.setSin_outputs (s : State) (n : Nat) (v : SafeIn) : (s.setSin n v).outputs = s.outputs := rfl
@[simp] theorem State.setSin_slots (s : State) (n : Nat) (v : SafeIn) : (s.setSin n v).slots = s.slots := rfl
@[simp] theorem State.setSin_geyser (s : State) (n : Nat) (v : SafeIn) : (s.setSin n v).geyser = s.geyser := rfl
@[simp] theorem State.setSin_conns (s : State) (n : Nat) (v : SafeIn) : (s.setSin n v).conns = s.conns := rfl
@[simp] theorem State.setSin_sessions (s : State) (n : Nat) (v : SafeIn) : (s.setSin n v).sessions = s.sessions := rfl
@[simp] theorem State.setSin_metro (s : State) (n : Nat) (v : SafeIn) : (s.setSin n v).metro = s.metro := rfl
@[simp] theorem State.setSin_sup (s : State) (n : Nat) (v : SafeIn) : (s.setSin n v).sup = s.sup := rfl
@[simp] theorem State.setSin_field (s : State) (n : Nat) (v : SafeIn) : (s.setSin n v).field = s.field := rfl
@[simp] theorem State.setSin_ls (s : State) (n : Nat) (v : SafeIn) : (s.setSin n v).ls = s.ls := rfl
@[simp] theorem State.setSin_trust (s : State) (n : Nat) (v : SafeIn) : (s.setSin n v).trust = s.trust := rfl
@[simp] theorem State.setSin_power (s : State) (n : Nat) (v : SafeIn) : (s.setSin n v).power = s.power := rfl
@[simp] theorem State.setSin_jnl (s : State) (n : Nat) (v : SafeIn) : (s.setSin n v).jnl = s.jnl := rfl
@[simp] theorem State.setSin_ain (s : State) (n : Nat) (v : SafeIn) : (s.setSin n v).ain = s.ain := rfl
@[simp] theorem State.setSin_syncOut (s : State) (n : Nat) (v : SafeIn) : (s.setSin n v).syncOut = s.syncOut := rfl
@[simp] theorem State.setSin_free (s : State) (n : Nat) (v : SafeIn) : (s.setSin n v).free = s.free := rfl
@[simp] theorem State.setSin_isl_souts (s : State) (n : Nat) (v : SafeIn) : (s.setSin n v).isl.souts = s.isl.souts := rfl
@[simp] theorem State.setSin_isl_fns (s : State) (n : Nat) (v : SafeIn) : (s.setSin n v).isl.fns = s.isl.fns := rfl
@[simp] theorem State.setSin_isl_axes (s : State) (n : Nat) (v : SafeIn) : (s.setSin n v).isl.axes = s.isl.axes := rfl
@[simp] theorem State.setSin_isl_conns (s : State) (n : Nat) (v : SafeIn) : (s.setSin n v).isl.conns = s.isl.conns := rfl
@[simp] theorem State.setSin_isl_reqNormal (s : State) (n : Nat) (v : SafeIn) : (s.setSin n v).isl.reqNormal = s.isl.reqNormal := rfl
@[simp] theorem State.setSin_isl_reqEmergency (s : State) (n : Nat) (v : SafeIn) : (s.setSin n v).isl.reqEmergency = s.isl.reqEmergency := rfl
@[simp] theorem State.setSin_isl_reqAxes (s : State) (n : Nat) (v : SafeIn) : (s.setSin n v).isl.reqAxes = s.isl.reqAxes := rfl
@[simp] theorem State.setSin_isl_maintenance (s : State) (n : Nat) (v : SafeIn) : (s.setSin n v).isl.maintenance = s.isl.maintenance := rfl
@[simp] theorem State.setSin_isl_outRamp (s : State) (n : Nat) (v : SafeIn) : (s.setSin n v).isl.outRamp = s.isl.outRamp := rfl
@[simp] theorem State.setSin_isl_podStop (s : State) (n : Nat) (v : SafeIn) : (s.setSin n v).isl.podStop = s.isl.podStop := rfl
@[simp] theorem State.setSin_isl_sto (s : State) (n : Nat) (v : SafeIn) : (s.setSin n v).isl.sto = s.isl.sto := rfl
@[simp] theorem State.setSin_isl_sent (s : State) (n : Nat) (v : SafeIn) : (s.setSin n v).isl.sent = s.isl.sent := rfl
@[simp] theorem State.setSin_isl_kept (s : State) (n : Nat) (v : SafeIn) : (s.setSin n v).isl.kept = s.isl.kept := rfl
@[simp] theorem State.setSin_sin (s : State) (n : Nat) (v : SafeIn) : (s.setSin n v).sin n = v := tget_tset_same ..
theorem State.setSin_sin_other (s : State) (n m : Nat) (v : SafeIn) (h : m ≠ n) : (s.setSin n v).sin m = s.sin m := tget_tset_other _ _ _ _ _ h

/-! ### setSout -/

@[simp] theorem State.setSout_pending (s : State) (n : Nat) (v : SafeOut) : (s.setSout n v).pending = s.pending := rfl
@[simp] theorem State.setSout_boot (s : State) (n : Nat) (v : SafeOut) : (s.setSout n v).boot = s.boot := rfl
@[simp] theorem State.setSout_clk (s : State) (n : Nat) (v : SafeOut) : (s.setSout n v).clk = s.clk := rfl
@[simp] theorem State.setSout_hostIf (s : State) (n : Nat) (v : SafeOut) : (s.setSout n v).hostIf = s.hostIf := rfl
@[simp] theorem State.setSout_ep (s : State) (n : Nat) (v : SafeOut) : (s.setSout n v).ep = s.ep := rfl
@[simp] theorem State.setSout_cal (s : State) (n : Nat) (v : SafeOut) : (s.setSout n v).cal = s.cal := rfl
@[simp] theorem State.setSout_phases (s : State) (n : Nat) (v : SafeOut) : (s.setSout n v).phases = s.phases := rfl
@[simp] theorem State.setSout_pods (s : State) (n : Nat) (v : SafeOut) : (s.setSout n v).pods = s.pods := rfl
@[simp] theorem State.setSout_matrix (s : State) (n : Nat) (v : SafeOut) : (s.setSout n v).matrix = s.matrix := rfl
@[simp] theorem State.setSout_outputs (s : State) (n : Nat) (v : SafeOut) : (s.setSout n v).outputs = s.outputs := rfl
@[simp] theorem State.setSout_slots (s : State) (n : Nat) (v : SafeOut) : (s.setSout n v).slots = s.slots := rfl
@[simp] theorem State.setSout_geyser (s : State) (n : Nat) (v : SafeOut) : (s.setSout n v).geyser = s.geyser := rfl
@[simp] theorem State.setSout_conns (s : State) (n : Nat) (v : SafeOut) : (s.setSout n v).conns = s.conns := rfl
@[simp] theorem State.setSout_sessions (s : State) (n : Nat) (v : SafeOut) : (s.setSout n v).sessions = s.sessions := rfl
@[simp] theorem State.setSout_metro (s : State) (n : Nat) (v : SafeOut) : (s.setSout n v).metro = s.metro := rfl
@[simp] theorem State.setSout_sup (s : State) (n : Nat) (v : SafeOut) : (s.setSout n v).sup = s.sup := rfl
@[simp] theorem State.setSout_field (s : State) (n : Nat) (v : SafeOut) : (s.setSout n v).field = s.field := rfl
@[simp] theorem State.setSout_ls (s : State) (n : Nat) (v : SafeOut) : (s.setSout n v).ls = s.ls := rfl
@[simp] theorem State.setSout_trust (s : State) (n : Nat) (v : SafeOut) : (s.setSout n v).trust = s.trust := rfl
@[simp] theorem State.setSout_power (s : State) (n : Nat) (v : SafeOut) : (s.setSout n v).power = s.power := rfl
@[simp] theorem State.setSout_jnl (s : State) (n : Nat) (v : SafeOut) : (s.setSout n v).jnl = s.jnl := rfl
@[simp] theorem State.setSout_ain (s : State) (n : Nat) (v : SafeOut) : (s.setSout n v).ain = s.ain := rfl
@[simp] theorem State.setSout_syncOut (s : State) (n : Nat) (v : SafeOut) : (s.setSout n v).syncOut = s.syncOut := rfl
@[simp] theorem State.setSout_free (s : State) (n : Nat) (v : SafeOut) : (s.setSout n v).free = s.free := rfl
@[simp] theorem State.setSout_isl_inputs (s : State) (n : Nat) (v : SafeOut) : (s.setSout n v).isl.inputs = s.isl.inputs := rfl
@[simp] theorem State.setSout_isl_fns (s : State) (n : Nat) (v : SafeOut) : (s.setSout n v).isl.fns = s.isl.fns := rfl
@[simp] theorem State.setSout_isl_axes (s : State) (n : Nat) (v : SafeOut) : (s.setSout n v).isl.axes = s.isl.axes := rfl
@[simp] theorem State.setSout_isl_conns (s : State) (n : Nat) (v : SafeOut) : (s.setSout n v).isl.conns = s.isl.conns := rfl
@[simp] theorem State.setSout_isl_reqNormal (s : State) (n : Nat) (v : SafeOut) : (s.setSout n v).isl.reqNormal = s.isl.reqNormal := rfl
@[simp] theorem State.setSout_isl_reqEmergency (s : State) (n : Nat) (v : SafeOut) : (s.setSout n v).isl.reqEmergency = s.isl.reqEmergency := rfl
@[simp] theorem State.setSout_isl_reqAxes (s : State) (n : Nat) (v : SafeOut) : (s.setSout n v).isl.reqAxes = s.isl.reqAxes := rfl
@[simp] theorem State.setSout_isl_maintenance (s : State) (n : Nat) (v : SafeOut) : (s.setSout n v).isl.maintenance = s.isl.maintenance := rfl
@[simp] theorem State.setSout_isl_outRamp (s : State) (n : Nat) (v : SafeOut) : (s.setSout n v).isl.outRamp = s.isl.outRamp := rfl
@[simp] theorem State.setSout_isl_podStop (s : State) (n : Nat) (v : SafeOut) : (s.setSout n v).isl.podStop = s.isl.podStop := rfl
@[simp] theorem State.setSout_isl_sto (s : State) (n : Nat) (v : SafeOut) : (s.setSout n v).isl.sto = s.isl.sto := rfl
@[simp] theorem State.setSout_isl_sent (s : State) (n : Nat) (v : SafeOut) : (s.setSout n v).isl.sent = s.isl.sent := rfl
@[simp] theorem State.setSout_isl_kept (s : State) (n : Nat) (v : SafeOut) : (s.setSout n v).isl.kept = s.isl.kept := rfl
@[simp] theorem State.setSout_sout (s : State) (n : Nat) (v : SafeOut) : (s.setSout n v).sout n = v := tget_tset_same ..
theorem State.setSout_sout_other (s : State) (n m : Nat) (v : SafeOut) (h : m ≠ n) : (s.setSout n v).sout m = s.sout m := tget_tset_other _ _ _ _ _ h

/-! ### setSfn -/

@[simp] theorem State.setSfn_pending (s : State) (n : Nat) (v : SafeFn) : (s.setSfn n v).pending = s.pending := rfl
@[simp] theorem State.setSfn_boot (s : State) (n : Nat) (v : SafeFn) : (s.setSfn n v).boot = s.boot := rfl
@[simp] theorem State.setSfn_clk (s : State) (n : Nat) (v : SafeFn) : (s.setSfn n v).clk = s.clk := rfl
@[simp] theorem State.setSfn_hostIf (s : State) (n : Nat) (v : SafeFn) : (s.setSfn n v).hostIf = s.hostIf := rfl
@[simp] theorem State.setSfn_ep (s : State) (n : Nat) (v : SafeFn) : (s.setSfn n v).ep = s.ep := rfl
@[simp] theorem State.setSfn_cal (s : State) (n : Nat) (v : SafeFn) : (s.setSfn n v).cal = s.cal := rfl
@[simp] theorem State.setSfn_phases (s : State) (n : Nat) (v : SafeFn) : (s.setSfn n v).phases = s.phases := rfl
@[simp] theorem State.setSfn_pods (s : State) (n : Nat) (v : SafeFn) : (s.setSfn n v).pods = s.pods := rfl
@[simp] theorem State.setSfn_matrix (s : State) (n : Nat) (v : SafeFn) : (s.setSfn n v).matrix = s.matrix := rfl
@[simp] theorem State.setSfn_outputs (s : State) (n : Nat) (v : SafeFn) : (s.setSfn n v).outputs = s.outputs := rfl
@[simp] theorem State.setSfn_slots (s : State) (n : Nat) (v : SafeFn) : (s.setSfn n v).slots = s.slots := rfl
@[simp] theorem State.setSfn_geyser (s : State) (n : Nat) (v : SafeFn) : (s.setSfn n v).geyser = s.geyser := rfl
@[simp] theorem State.setSfn_conns (s : State) (n : Nat) (v : SafeFn) : (s.setSfn n v).conns = s.conns := rfl
@[simp] theorem State.setSfn_sessions (s : State) (n : Nat) (v : SafeFn) : (s.setSfn n v).sessions = s.sessions := rfl
@[simp] theorem State.setSfn_metro (s : State) (n : Nat) (v : SafeFn) : (s.setSfn n v).metro = s.metro := rfl
@[simp] theorem State.setSfn_sup (s : State) (n : Nat) (v : SafeFn) : (s.setSfn n v).sup = s.sup := rfl
@[simp] theorem State.setSfn_field (s : State) (n : Nat) (v : SafeFn) : (s.setSfn n v).field = s.field := rfl
@[simp] theorem State.setSfn_ls (s : State) (n : Nat) (v : SafeFn) : (s.setSfn n v).ls = s.ls := rfl
@[simp] theorem State.setSfn_trust (s : State) (n : Nat) (v : SafeFn) : (s.setSfn n v).trust = s.trust := rfl
@[simp] theorem State.setSfn_power (s : State) (n : Nat) (v : SafeFn) : (s.setSfn n v).power = s.power := rfl
@[simp] theorem State.setSfn_jnl (s : State) (n : Nat) (v : SafeFn) : (s.setSfn n v).jnl = s.jnl := rfl
@[simp] theorem State.setSfn_ain (s : State) (n : Nat) (v : SafeFn) : (s.setSfn n v).ain = s.ain := rfl
@[simp] theorem State.setSfn_syncOut (s : State) (n : Nat) (v : SafeFn) : (s.setSfn n v).syncOut = s.syncOut := rfl
@[simp] theorem State.setSfn_free (s : State) (n : Nat) (v : SafeFn) : (s.setSfn n v).free = s.free := rfl
@[simp] theorem State.setSfn_isl_inputs (s : State) (n : Nat) (v : SafeFn) : (s.setSfn n v).isl.inputs = s.isl.inputs := rfl
@[simp] theorem State.setSfn_isl_souts (s : State) (n : Nat) (v : SafeFn) : (s.setSfn n v).isl.souts = s.isl.souts := rfl
@[simp] theorem State.setSfn_isl_axes (s : State) (n : Nat) (v : SafeFn) : (s.setSfn n v).isl.axes = s.isl.axes := rfl
@[simp] theorem State.setSfn_isl_conns (s : State) (n : Nat) (v : SafeFn) : (s.setSfn n v).isl.conns = s.isl.conns := rfl
@[simp] theorem State.setSfn_isl_reqNormal (s : State) (n : Nat) (v : SafeFn) : (s.setSfn n v).isl.reqNormal = s.isl.reqNormal := rfl
@[simp] theorem State.setSfn_isl_reqEmergency (s : State) (n : Nat) (v : SafeFn) : (s.setSfn n v).isl.reqEmergency = s.isl.reqEmergency := rfl
@[simp] theorem State.setSfn_isl_reqAxes (s : State) (n : Nat) (v : SafeFn) : (s.setSfn n v).isl.reqAxes = s.isl.reqAxes := rfl
@[simp] theorem State.setSfn_isl_maintenance (s : State) (n : Nat) (v : SafeFn) : (s.setSfn n v).isl.maintenance = s.isl.maintenance := rfl
@[simp] theorem State.setSfn_isl_outRamp (s : State) (n : Nat) (v : SafeFn) : (s.setSfn n v).isl.outRamp = s.isl.outRamp := rfl
@[simp] theorem State.setSfn_isl_podStop (s : State) (n : Nat) (v : SafeFn) : (s.setSfn n v).isl.podStop = s.isl.podStop := rfl
@[simp] theorem State.setSfn_isl_sto (s : State) (n : Nat) (v : SafeFn) : (s.setSfn n v).isl.sto = s.isl.sto := rfl
@[simp] theorem State.setSfn_isl_sent (s : State) (n : Nat) (v : SafeFn) : (s.setSfn n v).isl.sent = s.isl.sent := rfl
@[simp] theorem State.setSfn_isl_kept (s : State) (n : Nat) (v : SafeFn) : (s.setSfn n v).isl.kept = s.isl.kept := rfl
@[simp] theorem State.setSfn_sfn (s : State) (n : Nat) (v : SafeFn) : (s.setSfn n v).sfn n = v := tget_tset_same ..
theorem State.setSfn_sfn_other (s : State) (n m : Nat) (v : SafeFn) (h : m ≠ n) : (s.setSfn n v).sfn m = s.sfn m := tget_tset_other _ _ _ _ _ h

/-! ### setAxis -/

@[simp] theorem State.setAxis_pending (s : State) (n : Nat) (v : Axis) : (s.setAxis n v).pending = s.pending := rfl
@[simp] theorem State.setAxis_boot (s : State) (n : Nat) (v : Axis) : (s.setAxis n v).boot = s.boot := rfl
@[simp] theorem State.setAxis_clk (s : State) (n : Nat) (v : Axis) : (s.setAxis n v).clk = s.clk := rfl
@[simp] theorem State.setAxis_hostIf (s : State) (n : Nat) (v : Axis) : (s.setAxis n v).hostIf = s.hostIf := rfl
@[simp] theorem State.setAxis_ep (s : State) (n : Nat) (v : Axis) : (s.setAxis n v).ep = s.ep := rfl
@[simp] theorem State.setAxis_cal (s : State) (n : Nat) (v : Axis) : (s.setAxis n v).cal = s.cal := rfl
@[simp] theorem State.setAxis_phases (s : State) (n : Nat) (v : Axis) : (s.setAxis n v).phases = s.phases := rfl
@[simp] theorem State.setAxis_pods (s : State) (n : Nat) (v : Axis) : (s.setAxis n v).pods = s.pods := rfl
@[simp] theorem State.setAxis_matrix (s : State) (n : Nat) (v : Axis) : (s.setAxis n v).matrix = s.matrix := rfl
@[simp] theorem State.setAxis_outputs (s : State) (n : Nat) (v : Axis) : (s.setAxis n v).outputs = s.outputs := rfl
@[simp] theorem State.setAxis_slots (s : State) (n : Nat) (v : Axis) : (s.setAxis n v).slots = s.slots := rfl
@[simp] theorem State.setAxis_geyser (s : State) (n : Nat) (v : Axis) : (s.setAxis n v).geyser = s.geyser := rfl
@[simp] theorem State.setAxis_conns (s : State) (n : Nat) (v : Axis) : (s.setAxis n v).conns = s.conns := rfl
@[simp] theorem State.setAxis_sessions (s : State) (n : Nat) (v : Axis) : (s.setAxis n v).sessions = s.sessions := rfl
@[simp] theorem State.setAxis_metro (s : State) (n : Nat) (v : Axis) : (s.setAxis n v).metro = s.metro := rfl
@[simp] theorem State.setAxis_sup (s : State) (n : Nat) (v : Axis) : (s.setAxis n v).sup = s.sup := rfl
@[simp] theorem State.setAxis_field (s : State) (n : Nat) (v : Axis) : (s.setAxis n v).field = s.field := rfl
@[simp] theorem State.setAxis_ls (s : State) (n : Nat) (v : Axis) : (s.setAxis n v).ls = s.ls := rfl
@[simp] theorem State.setAxis_trust (s : State) (n : Nat) (v : Axis) : (s.setAxis n v).trust = s.trust := rfl
@[simp] theorem State.setAxis_power (s : State) (n : Nat) (v : Axis) : (s.setAxis n v).power = s.power := rfl
@[simp] theorem State.setAxis_jnl (s : State) (n : Nat) (v : Axis) : (s.setAxis n v).jnl = s.jnl := rfl
@[simp] theorem State.setAxis_ain (s : State) (n : Nat) (v : Axis) : (s.setAxis n v).ain = s.ain := rfl
@[simp] theorem State.setAxis_syncOut (s : State) (n : Nat) (v : Axis) : (s.setAxis n v).syncOut = s.syncOut := rfl
@[simp] theorem State.setAxis_free (s : State) (n : Nat) (v : Axis) : (s.setAxis n v).free = s.free := rfl
@[simp] theorem State.setAxis_isl_inputs (s : State) (n : Nat) (v : Axis) : (s.setAxis n v).isl.inputs = s.isl.inputs := rfl
@[simp] theorem State.setAxis_isl_souts (s : State) (n : Nat) (v : Axis) : (s.setAxis n v).isl.souts = s.isl.souts := rfl
@[simp] theorem State.setAxis_isl_fns (s : State) (n : Nat) (v : Axis) : (s.setAxis n v).isl.fns = s.isl.fns := rfl
@[simp] theorem State.setAxis_isl_conns (s : State) (n : Nat) (v : Axis) : (s.setAxis n v).isl.conns = s.isl.conns := rfl
@[simp] theorem State.setAxis_isl_reqNormal (s : State) (n : Nat) (v : Axis) : (s.setAxis n v).isl.reqNormal = s.isl.reqNormal := rfl
@[simp] theorem State.setAxis_isl_reqEmergency (s : State) (n : Nat) (v : Axis) : (s.setAxis n v).isl.reqEmergency = s.isl.reqEmergency := rfl
@[simp] theorem State.setAxis_isl_reqAxes (s : State) (n : Nat) (v : Axis) : (s.setAxis n v).isl.reqAxes = s.isl.reqAxes := rfl
@[simp] theorem State.setAxis_isl_maintenance (s : State) (n : Nat) (v : Axis) : (s.setAxis n v).isl.maintenance = s.isl.maintenance := rfl
@[simp] theorem State.setAxis_isl_outRamp (s : State) (n : Nat) (v : Axis) : (s.setAxis n v).isl.outRamp = s.isl.outRamp := rfl
@[simp] theorem State.setAxis_isl_podStop (s : State) (n : Nat) (v : Axis) : (s.setAxis n v).isl.podStop = s.isl.podStop := rfl
@[simp] theorem State.setAxis_isl_sto (s : State) (n : Nat) (v : Axis) : (s.setAxis n v).isl.sto = s.isl.sto := rfl
@[simp] theorem State.setAxis_isl_sent (s : State) (n : Nat) (v : Axis) : (s.setAxis n v).isl.sent = s.isl.sent := rfl
@[simp] theorem State.setAxis_isl_kept (s : State) (n : Nat) (v : Axis) : (s.setAxis n v).isl.kept = s.isl.kept := rfl
@[simp] theorem State.setAxis_axis (s : State) (n : Nat) (v : Axis) : (s.setAxis n v).axis n = v := tget_tset_same ..
theorem State.setAxis_axis_other (s : State) (n m : Nat) (v : Axis) (h : m ≠ n) : (s.setAxis n v).axis m = s.axis m := tget_tset_other _ _ _ _ _ h

/-! ### setSconn -/

@[simp] theorem State.setSconn_pending (s : State) (n : Nat) (v : SafeConn) : (s.setSconn n v).pending = s.pending := rfl
@[simp] theorem State.setSconn_boot (s : State) (n : Nat) (v : SafeConn) : (s.setSconn n v).boot = s.boot := rfl
@[simp] theorem State.setSconn_clk (s : State) (n : Nat) (v : SafeConn) : (s.setSconn n v).clk = s.clk := rfl
@[simp] theorem State.setSconn_hostIf (s : State) (n : Nat) (v : SafeConn) : (s.setSconn n v).hostIf = s.hostIf := rfl
@[simp] theorem State.setSconn_ep (s : State) (n : Nat) (v : SafeConn) : (s.setSconn n v).ep = s.ep := rfl
@[simp] theorem State.setSconn_cal (s : State) (n : Nat) (v : SafeConn) : (s.setSconn n v).cal = s.cal := rfl
@[simp] theorem State.setSconn_phases (s : State) (n : Nat) (v : SafeConn) : (s.setSconn n v).phases = s.phases := rfl
@[simp] theorem State.setSconn_pods (s : State) (n : Nat) (v : SafeConn) : (s.setSconn n v).pods = s.pods := rfl
@[simp] theorem State.setSconn_matrix (s : State) (n : Nat) (v : SafeConn) : (s.setSconn n v).matrix = s.matrix := rfl
@[simp] theorem State.setSconn_outputs (s : State) (n : Nat) (v : SafeConn) : (s.setSconn n v).outputs = s.outputs := rfl
@[simp] theorem State.setSconn_slots (s : State) (n : Nat) (v : SafeConn) : (s.setSconn n v).slots = s.slots := rfl
@[simp] theorem State.setSconn_geyser (s : State) (n : Nat) (v : SafeConn) : (s.setSconn n v).geyser = s.geyser := rfl
@[simp] theorem State.setSconn_conns (s : State) (n : Nat) (v : SafeConn) : (s.setSconn n v).conns = s.conns := rfl
@[simp] theorem State.setSconn_sessions (s : State) (n : Nat) (v : SafeConn) : (s.setSconn n v).sessions = s.sessions := rfl
@[simp] theorem State.setSconn_metro (s : State) (n : Nat) (v : SafeConn) : (s.setSconn n v).metro = s.metro := rfl
@[simp] theorem State.setSconn_sup (s : State) (n : Nat) (v : SafeConn) : (s.setSconn n v).sup = s.sup := rfl
@[simp] theorem State.setSconn_field (s : State) (n : Nat) (v : SafeConn) : (s.setSconn n v).field = s.field := rfl
@[simp] theorem State.setSconn_ls (s : State) (n : Nat) (v : SafeConn) : (s.setSconn n v).ls = s.ls := rfl
@[simp] theorem State.setSconn_trust (s : State) (n : Nat) (v : SafeConn) : (s.setSconn n v).trust = s.trust := rfl
@[simp] theorem State.setSconn_power (s : State) (n : Nat) (v : SafeConn) : (s.setSconn n v).power = s.power := rfl
@[simp] theorem State.setSconn_jnl (s : State) (n : Nat) (v : SafeConn) : (s.setSconn n v).jnl = s.jnl := rfl
@[simp] theorem State.setSconn_ain (s : State) (n : Nat) (v : SafeConn) : (s.setSconn n v).ain = s.ain := rfl
@[simp] theorem State.setSconn_syncOut (s : State) (n : Nat) (v : SafeConn) : (s.setSconn n v).syncOut = s.syncOut := rfl
@[simp] theorem State.setSconn_free (s : State) (n : Nat) (v : SafeConn) : (s.setSconn n v).free = s.free := rfl
@[simp] theorem State.setSconn_isl_inputs (s : State) (n : Nat) (v : SafeConn) : (s.setSconn n v).isl.inputs = s.isl.inputs := rfl
@[simp] theorem State.setSconn_isl_souts (s : State) (n : Nat) (v : SafeConn) : (s.setSconn n v).isl.souts = s.isl.souts := rfl
@[simp] theorem State.setSconn_isl_fns (s : State) (n : Nat) (v : SafeConn) : (s.setSconn n v).isl.fns = s.isl.fns := rfl
@[simp] theorem State.setSconn_isl_axes (s : State) (n : Nat) (v : SafeConn) : (s.setSconn n v).isl.axes = s.isl.axes := rfl
@[simp] theorem State.setSconn_isl_reqNormal (s : State) (n : Nat) (v : SafeConn) : (s.setSconn n v).isl.reqNormal = s.isl.reqNormal := rfl
@[simp] theorem State.setSconn_isl_reqEmergency (s : State) (n : Nat) (v : SafeConn) : (s.setSconn n v).isl.reqEmergency = s.isl.reqEmergency := rfl
@[simp] theorem State.setSconn_isl_reqAxes (s : State) (n : Nat) (v : SafeConn) : (s.setSconn n v).isl.reqAxes = s.isl.reqAxes := rfl
@[simp] theorem State.setSconn_isl_maintenance (s : State) (n : Nat) (v : SafeConn) : (s.setSconn n v).isl.maintenance = s.isl.maintenance := rfl
@[simp] theorem State.setSconn_isl_outRamp (s : State) (n : Nat) (v : SafeConn) : (s.setSconn n v).isl.outRamp = s.isl.outRamp := rfl
@[simp] theorem State.setSconn_isl_podStop (s : State) (n : Nat) (v : SafeConn) : (s.setSconn n v).isl.podStop = s.isl.podStop := rfl
@[simp] theorem State.setSconn_isl_sto (s : State) (n : Nat) (v : SafeConn) : (s.setSconn n v).isl.sto = s.isl.sto := rfl
@[simp] theorem State.setSconn_isl_sent (s : State) (n : Nat) (v : SafeConn) : (s.setSconn n v).isl.sent = s.isl.sent := rfl
@[simp] theorem State.setSconn_isl_kept (s : State) (n : Nat) (v : SafeConn) : (s.setSconn n v).isl.kept = s.isl.kept := rfl
@[simp] theorem State.setSconn_sconn (s : State) (n : Nat) (v : SafeConn) : (s.setSconn n v).sconn n = v := tget_tset_same ..
theorem State.setSconn_sconn_other (s : State) (n m : Nat) (v : SafeConn) (h : m ≠ n) : (s.setSconn n v).sconn m = s.sconn m := tget_tset_other _ _ _ _ _ h

/-! ### setAin -/

@[simp] theorem State.setAin_pending (s : State) (n : Nat) (v : Ain) : (s.setAin n v).pending = s.pending := rfl
@[simp] theorem State.setAin_boot (s : State) (n : Nat) (v : Ain) : (s.setAin n v).boot = s.boot := rfl
@[simp] theorem State.setAin_clk (s : State) (n : Nat) (v : Ain) : (s.setAin n v).clk = s.clk := rfl
@[simp] theorem State.setAin_hostIf (s : State) (n : Nat) (v : Ain) : (s.setAin n v).hostIf = s.hostIf := rfl
@[simp] theorem State.setAin_ep (s : State) (n : Nat) (v : Ain) : (s.setAin n v).ep = s.ep := rfl
@[simp] theorem State.setAin_cal (s : State) (n : Nat) (v : Ain) : (s.setAin n v).cal = s.cal := rfl
@[simp] theorem State.setAin_phases (s : State) (n : Nat) (v : Ain) : (s.setAin n v).phases = s.phases := rfl
@[simp] theorem State.setAin_pods (s : State) (n : Nat) (v : Ain) : (s.setAin n v).pods = s.pods := rfl
@[simp] theorem State.setAin_matrix (s : State) (n : Nat) (v : Ain) : (s.setAin n v).matrix = s.matrix := rfl
@[simp] theorem State.setAin_outputs (s : State) (n : Nat) (v : Ain) : (s.setAin n v).outputs = s.outputs := rfl
@[simp] theorem State.setAin_slots (s : State) (n : Nat) (v : Ain) : (s.setAin n v).slots = s.slots := rfl
@[simp] theorem State.setAin_geyser (s : State) (n : Nat) (v : Ain) : (s.setAin n v).geyser = s.geyser := rfl
@[simp] theorem State.setAin_conns (s : State) (n : Nat) (v : Ain) : (s.setAin n v).conns = s.conns := rfl
@[simp] theorem State.setAin_sessions (s : State) (n : Nat) (v : Ain) : (s.setAin n v).sessions = s.sessions := rfl
@[simp] theorem State.setAin_metro (s : State) (n : Nat) (v : Ain) : (s.setAin n v).metro = s.metro := rfl
@[simp] theorem State.setAin_sup (s : State) (n : Nat) (v : Ain) : (s.setAin n v).sup = s.sup := rfl
@[simp] theorem State.setAin_isl (s : State) (n : Nat) (v : Ain) : (s.setAin n v).isl = s.isl := rfl
@[simp] theorem State.setAin_field (s : State) (n : Nat) (v : Ain) : (s.setAin n v).field = s.field := rfl
@[simp] theorem State.setAin_ls (s : State) (n : Nat) (v : Ain) : (s.setAin n v).ls = s.ls := rfl
@[simp] theorem State.setAin_trust (s : State) (n : Nat) (v : Ain) : (s.setAin n v).trust = s.trust := rfl
@[simp] theorem State.setAin_power (s : State) (n : Nat) (v : Ain) : (s.setAin n v).power = s.power := rfl
@[simp] theorem State.setAin_jnl (s : State) (n : Nat) (v : Ain) : (s.setAin n v).jnl = s.jnl := rfl
@[simp] theorem State.setAin_syncOut (s : State) (n : Nat) (v : Ain) : (s.setAin n v).syncOut = s.syncOut := rfl
@[simp] theorem State.setAin_free (s : State) (n : Nat) (v : Ain) : (s.setAin n v).free = s.free := rfl
@[simp] theorem State.setAin_ainCh (s : State) (n : Nat) (v : Ain) : (s.setAin n v).ainCh n = v := tget_tset_same ..
theorem State.setAin_ainCh_other (s : State) (n m : Nat) (v : Ain) (h : m ≠ n) : (s.setAin n v).ainCh m = s.ainCh m := tget_tset_other _ _ _ _ _ h

/-! ### setRing, setInt, idle -/

@[simp] theorem State.setRing_pending (s : State) (n k : Nat) (r : Ring) : (s.setRing n k r).pending = s.pending := rfl
@[simp] theorem State.setInt_pending (s : State) (n : Nat) (m : BitVec 9) : (s.setInt n m).pending = s.pending := rfl
@[simp] theorem State.idle_pending (s : State) : s.idle.pending = s.pending := rfl
@[simp] theorem State.fresh_pending (s : State) : s.fresh.2.pending = s.pending := rfl
@[simp] theorem State.setRing_boot (s : State) (n k : Nat) (r : Ring) : (s.setRing n k r).boot = s.boot := rfl
@[simp] theorem State.setInt_boot (s : State) (n : Nat) (m : BitVec 9) : (s.setInt n m).boot = s.boot := rfl
@[simp] theorem State.idle_boot (s : State) : s.idle.boot = s.boot := rfl
@[simp] theorem State.fresh_boot (s : State) : s.fresh.2.boot = s.boot := rfl
@[simp] theorem State.setRing_clk (s : State) (n k : Nat) (r : Ring) : (s.setRing n k r).clk = s.clk := rfl
@[simp] theorem State.setInt_clk (s : State) (n : Nat) (m : BitVec 9) : (s.setInt n m).clk = s.clk := rfl
@[simp] theorem State.fresh_clk (s : State) : s.fresh.2.clk = s.clk := rfl
@[simp] theorem State.idle_hostIf (s : State) : s.idle.hostIf = s.hostIf := rfl
@[simp] theorem State.fresh_hostIf (s : State) : s.fresh.2.hostIf = s.hostIf := rfl
@[simp] theorem State.setRing_ep (s : State) (n k : Nat) (r : Ring) : (s.setRing n k r).ep = s.ep := rfl
@[simp] theorem State.setInt_ep (s : State) (n : Nat) (m : BitVec 9) : (s.setInt n m).ep = s.ep := rfl
@[simp] theorem State.idle_ep (s : State) : s.idle.ep = s.ep := rfl
@[simp] theorem State.fresh_ep (s : State) : s.fresh.2.ep = s.ep := rfl
@[simp] theorem State.setRing_cal (s : State) (n k : Nat) (r : Ring) : (s.setRing n k r).cal = s.cal := rfl
@[simp] theorem State.setInt_cal (s : State) (n : Nat) (m : BitVec 9) : (s.setInt n m).cal = s.cal := rfl
@[simp] theorem State.idle_cal (s : State) : s.idle.cal = s.cal := rfl
@[simp] theorem State.fresh_cal (s : State) : s.fresh.2.cal = s.cal := rfl
@[simp] theorem State.setRing_phases (s : State) (n k : Nat) (r : Ring) : (s.setRing n k r).phases = s.phases := rfl
@[simp] theorem State.setInt_phases (s : State) (n : Nat) (m : BitVec 9) : (s.setInt n m).phases = s.phases := rfl
@[simp] theorem State.idle_phases (s : State) : s.idle.phases = s.phases := rfl
@[simp] theorem State.fresh_phases (s : State) : s.fresh.2.phases = s.phases := rfl
@[simp] theorem State.setRing_pods (s : State) (n k : Nat) (r : Ring) : (s.setRing n k r).pods = s.pods := rfl
@[simp] theorem State.setInt_pods (s : State) (n : Nat) (m : BitVec 9) : (s.setInt n m).pods = s.pods := rfl
@[simp] theorem State.idle_pods (s : State) : s.idle.pods = s.pods := rfl
@[simp] theorem State.fresh_pods (s : State) : s.fresh.2.pods = s.pods := rfl
@[simp] theorem State.setRing_matrix (s : State) (n k : Nat) (r : Ring) : (s.setRing n k r).matrix = s.matrix := rfl
@[simp] theorem State.setInt_matrix (s : State) (n : Nat) (m : BitVec 9) : (s.setInt n m).matrix = s.matrix := rfl
@[simp] theorem State.idle_matrix (s : State) : s.idle.matrix = s.matrix := rfl
@[simp] theorem State.fresh_matrix (s : State) : s.fresh.2.matrix = s.matrix := rfl
@[simp] theorem State.setRing_outputs (s : State) (n k : Nat) (r : Ring) : (s.setRing n k r).outputs = s.outputs := rfl
@[simp] theorem State.setInt_outputs (s : State) (n : Nat) (m : BitVec 9) : (s.setInt n m).outputs = s.outputs := rfl
@[simp] theorem State.idle_outputs (s : State) : s.idle.outputs = s.outputs := rfl
@[simp] theorem State.fresh_outputs (s : State) : s.fresh.2.outputs = s.outputs := rfl
@[simp] theorem State.setRing_slots (s : State) (n k : Nat) (r : Ring) : (s.setRing n k r).slots = s.slots := rfl
@[simp] theorem State.setInt_slots (s : State) (n : Nat) (m : BitVec 9) : (s.setInt n m).slots = s.slots := rfl
@[simp] theorem State.idle_slots (s : State) : s.idle.slots = s.slots := rfl
@[simp] theorem State.fresh_slots (s : State) : s.fresh.2.slots = s.slots := rfl
@[simp] theorem State.setRing_geyser (s : State) (n k : Nat) (r : Ring) : (s.setRing n k r).geyser = s.geyser := rfl
@[simp] theorem State.setInt_geyser (s : State) (n : Nat) (m : BitVec 9) : (s.setInt n m).geyser = s.geyser := rfl
@[simp] theorem State.idle_geyser (s : State) : s.idle.geyser = s.geyser := rfl
@[simp] theorem State.fresh_geyser (s : State) : s.fresh.2.geyser = s.geyser := rfl
@[simp] theorem State.setRing_conns (s : State) (n k : Nat) (r : Ring) : (s.setRing n k r).conns = s.conns := rfl
@[simp] theorem State.setInt_conns (s : State) (n : Nat) (m : BitVec 9) : (s.setInt n m).conns = s.conns := rfl
@[simp] theorem State.idle_conns (s : State) : s.idle.conns = s.conns := rfl
@[simp] theorem State.fresh_conns (s : State) : s.fresh.2.conns = s.conns := rfl
@[simp] theorem State.setRing_sessions (s : State) (n k : Nat) (r : Ring) : (s.setRing n k r).sessions = s.sessions := rfl
@[simp] theorem State.setInt_sessions (s : State) (n : Nat) (m : BitVec 9) : (s.setInt n m).sessions = s.sessions := rfl
@[simp] theorem State.idle_sessions (s : State) : s.idle.sessions = s.sessions := rfl
@[simp] theorem State.fresh_sessions (s : State) : s.fresh.2.sessions = s.sessions := rfl
@[simp] theorem State.setRing_metro (s : State) (n k : Nat) (r : Ring) : (s.setRing n k r).metro = s.metro := rfl
@[simp] theorem State.setInt_metro (s : State) (n : Nat) (m : BitVec 9) : (s.setInt n m).metro = s.metro := rfl
@[simp] theorem State.idle_metro (s : State) : s.idle.metro = s.metro := rfl
@[simp] theorem State.fresh_metro (s : State) : s.fresh.2.metro = s.metro := rfl
@[simp] theorem State.setRing_sup (s : State) (n k : Nat) (r : Ring) : (s.setRing n k r).sup = s.sup := rfl
@[simp] theorem State.setInt_sup (s : State) (n : Nat) (m : BitVec 9) : (s.setInt n m).sup = s.sup := rfl
@[simp] theorem State.idle_sup (s : State) : s.idle.sup = s.sup := rfl
@[simp] theorem State.fresh_sup (s : State) : s.fresh.2.sup = s.sup := rfl
@[simp] theorem State.setRing_isl (s : State) (n k : Nat) (r : Ring) : (s.setRing n k r).isl = s.isl := rfl
@[simp] theorem State.setInt_isl (s : State) (n : Nat) (m : BitVec 9) : (s.setInt n m).isl = s.isl := rfl
@[simp] theorem State.idle_isl (s : State) : s.idle.isl = s.isl := rfl
@[simp] theorem State.fresh_isl (s : State) : s.fresh.2.isl = s.isl := rfl
@[simp] theorem State.setRing_field (s : State) (n k : Nat) (r : Ring) : (s.setRing n k r).field = s.field := rfl
@[simp] theorem State.setInt_field (s : State) (n : Nat) (m : BitVec 9) : (s.setInt n m).field = s.field := rfl
@[simp] theorem State.idle_field (s : State) : s.idle.field = s.field := rfl
@[simp] theorem State.fresh_field (s : State) : s.fresh.2.field = s.field := rfl
@[simp] theorem State.setRing_ls (s : State) (n k : Nat) (r : Ring) : (s.setRing n k r).ls = s.ls := rfl
@[simp] theorem State.setInt_ls (s : State) (n : Nat) (m : BitVec 9) : (s.setInt n m).ls = s.ls := rfl
@[simp] theorem State.idle_ls (s : State) : s.idle.ls = s.ls := rfl
@[simp] theorem State.fresh_ls (s : State) : s.fresh.2.ls = s.ls := rfl
@[simp] theorem State.setRing_trust (s : State) (n k : Nat) (r : Ring) : (s.setRing n k r).trust = s.trust := rfl
@[simp] theorem State.setInt_trust (s : State) (n : Nat) (m : BitVec 9) : (s.setInt n m).trust = s.trust := rfl
@[simp] theorem State.idle_trust (s : State) : s.idle.trust = s.trust := rfl
@[simp] theorem State.fresh_trust (s : State) : s.fresh.2.trust = s.trust := rfl
@[simp] theorem State.setRing_power (s : State) (n k : Nat) (r : Ring) : (s.setRing n k r).power = s.power := rfl
@[simp] theorem State.setInt_power (s : State) (n : Nat) (m : BitVec 9) : (s.setInt n m).power = s.power := rfl
@[simp] theorem State.idle_power (s : State) : s.idle.power = s.power := rfl
@[simp] theorem State.fresh_power (s : State) : s.fresh.2.power = s.power := rfl
@[simp] theorem State.setRing_jnl (s : State) (n k : Nat) (r : Ring) : (s.setRing n k r).jnl = s.jnl := rfl
@[simp] theorem State.setInt_jnl (s : State) (n : Nat) (m : BitVec 9) : (s.setInt n m).jnl = s.jnl := rfl
@[simp] theorem State.idle_jnl (s : State) : s.idle.jnl = s.jnl := rfl
@[simp] theorem State.fresh_jnl (s : State) : s.fresh.2.jnl = s.jnl := rfl
@[simp] theorem State.setRing_ain (s : State) (n k : Nat) (r : Ring) : (s.setRing n k r).ain = s.ain := rfl
@[simp] theorem State.setInt_ain (s : State) (n : Nat) (m : BitVec 9) : (s.setInt n m).ain = s.ain := rfl
@[simp] theorem State.idle_ain (s : State) : s.idle.ain = s.ain := rfl
@[simp] theorem State.fresh_ain (s : State) : s.fresh.2.ain = s.ain := rfl
@[simp] theorem State.setRing_syncOut (s : State) (n k : Nat) (r : Ring) : (s.setRing n k r).syncOut = s.syncOut := rfl
@[simp] theorem State.setInt_syncOut (s : State) (n : Nat) (m : BitVec 9) : (s.setInt n m).syncOut = s.syncOut := rfl
@[simp] theorem State.fresh_syncOut (s : State) : s.fresh.2.syncOut = s.syncOut := rfl
@[simp] theorem State.setRing_free (s : State) (n k : Nat) (r : Ring) : (s.setRing n k r).free = s.free := rfl
@[simp] theorem State.setInt_free (s : State) (n : Nat) (m : BitVec 9) : (s.setInt n m).free = s.free := rfl
@[simp] theorem State.idle_free (s : State) : s.idle.free = s.free := rfl
@[simp] theorem State.setRing_hostIf_owners (s : State) (n k : Nat) (r : Ring) : (s.setRing n k r).hostIf.owners = s.hostIf.owners := rfl
@[simp] theorem State.setInt_hostIf_owners (s : State) (n : Nat) (m : BitVec 9) : (s.setInt n m).hostIf.owners = s.hostIf.owners := rfl
@[simp] theorem State.setRing_hostIf_live (s : State) (n k : Nat) (r : Ring) : (s.setRing n k r).hostIf.live = s.hostIf.live := rfl
@[simp] theorem State.setInt_hostIf_live (s : State) (n : Nat) (m : BitVec 9) : (s.setInt n m).hostIf.live = s.hostIf.live := rfl
@[simp] theorem State.setRing_hostIf_order (s : State) (n k : Nat) (r : Ring) : (s.setRing n k r).hostIf.order = s.hostIf.order := rfl
@[simp] theorem State.setInt_hostIf_order (s : State) (n : Nat) (m : BitVec 9) : (s.setInt n m).hostIf.order = s.hostIf.order := rfl
@[simp] theorem State.setRing_hostIf_internal (s : State) (n k : Nat) (r : Ring) : (s.setRing n k r).hostIf.internal = s.hostIf.internal := rfl
@[simp] theorem State.setInt_hostIf_internal (s : State) (n : Nat) (m : BitVec 9) : (s.setInt n m).hostIf.internal = s.hostIf.internal := rfl
@[simp] theorem State.setRing_hostIf_counters (s : State) (n k : Nat) (r : Ring) : (s.setRing n k r).hostIf.counters = s.hostIf.counters := rfl
@[simp] theorem State.setInt_hostIf_counters (s : State) (n : Nat) (m : BitVec 9) : (s.setInt n m).hostIf.counters = s.hostIf.counters := rfl
@[simp] theorem State.setRing_hostIf_sramCorrected (s : State) (n k : Nat) (r : Ring) : (s.setRing n k r).hostIf.sramCorrected = s.hostIf.sramCorrected := rfl
@[simp] theorem State.setInt_hostIf_sramCorrected (s : State) (n : Nat) (m : BitVec 9) : (s.setInt n m).hostIf.sramCorrected = s.hostIf.sramCorrected := rfl
@[simp] theorem State.setRing_hostIf_sramUncorrectable (s : State) (n k : Nat) (r : Ring) : (s.setRing n k r).hostIf.sramUncorrectable = s.hostIf.sramUncorrectable := rfl
@[simp] theorem State.setInt_hostIf_sramUncorrectable (s : State) (n : Nat) (m : BitVec 9) : (s.setInt n m).hostIf.sramUncorrectable = s.hostIf.sramUncorrectable := rfl
@[simp] theorem State.setRing_hostIf_sramAddress (s : State) (n k : Nat) (r : Ring) : (s.setRing n k r).hostIf.sramAddress = s.hostIf.sramAddress := rfl
@[simp] theorem State.setInt_hostIf_sramAddress (s : State) (n : Nat) (m : BitVec 9) : (s.setInt n m).hostIf.sramAddress = s.hostIf.sramAddress := rfl
@[simp] theorem State.setRing_hostIf_dma (s : State) (n k : Nat) (r : Ring) : (s.setRing n k r).hostIf.dma = s.hostIf.dma := rfl
@[simp] theorem State.setInt_hostIf_dma (s : State) (n : Nat) (m : BitVec 9) : (s.setInt n m).hostIf.dma = s.hostIf.dma := rfl
@[simp] theorem State.setRing_hostIf_frames (s : State) (n k : Nat) (r : Ring) : (s.setRing n k r).hostIf.frames = s.hostIf.frames := rfl
@[simp] theorem State.setInt_hostIf_frames (s : State) (n : Nat) (m : BitVec 9) : (s.setInt n m).hostIf.frames = s.hostIf.frames := rfl
@[simp] theorem State.setRing_hostIf_unread (s : State) (n k : Nat) (r : Ring) : (s.setRing n k r).hostIf.unread = s.hostIf.unread := rfl
@[simp] theorem State.setInt_hostIf_unread (s : State) (n : Nat) (m : BitVec 9) : (s.setInt n m).hostIf.unread = s.hostIf.unread := rfl
@[simp] theorem State.setRing_hostIf_lastReads (s : State) (n k : Nat) (r : Ring) : (s.setRing n k r).hostIf.lastReads = s.hostIf.lastReads := rfl
@[simp] theorem State.setInt_hostIf_lastReads (s : State) (n : Nat) (m : BitVec 9) : (s.setInt n m).hostIf.lastReads = s.hostIf.lastReads := rfl
@[simp] theorem State.setRing_hostIf_bell (s : State) (n k : Nat) (r : Ring) : (s.setRing n k r).hostIf.bell = s.hostIf.bell := rfl
@[simp] theorem State.setInt_hostIf_bell (s : State) (n : Nat) (m : BitVec 9) : (s.setInt n m).hostIf.bell = s.hostIf.bell := rfl

/-- A ring that was just written reads back. -/
@[simp] theorem State.setRing_ring (s : State) (n k : Nat) (r : Ring) : (s.setRing n k r).ring n k = r := by
  simp [State.setRing, State.ring, tget_tset_same]

/-- Raising interrupt bits leaves the rings. -/
@[simp] theorem State.setInt_ring (s : State) (n m k : Nat) (b : BitVec 9) : (s.setInt n b).ring m k = s.ring m k := by
  by_cases h : m = n
  · subst h; simp [State.setInt, State.ring]
  · simp [State.setInt, State.ring, State.setSeat_seat_other _ _ _ _ h]

end Sys2Proof.Machine
end

