-- ==== Sys2Proof/Laws/Cases.lean ====
section
/-! SUPPORT. Lemmas for the lists of cases: each host command's meaning is `host` over its own part; what a CONFIG_SET
command does where its words fit; what the operations of the host interface leave alone. -/

namespace Sys2Proof.Machine

/-- A CONFIG_SET command whose words fit answers SUCCESS and puts them into the overlay. -/
theorem configSet_fits {block base last : Nat} {q : Req} {s : State} (h : overlayFits block base last q s = true) :
    configSet block base last q s = .done 0 0 (overlayWrite block base q s) := by
  simp only [overlayFits, decide_eq_true_eq] at h
  obtain ⟨h1, h2, h3, h4, h5, h6⟩ := h
  unfold configSet
  rw [if_neg (by omega)]
  simp only [overlayWrite] at h6 ⊢
  simp only [State.pushEdit, h6, if_true]

/-- A transfer that passes its queue runs the consumer's part. -/
theorem viaOr_passes {q : Nat} {body : List Int} {f g : State → State} {s : State} (h : passes q body s = true) :
    s.viaOr q body f g = f (passed q body s) := by
  unfold State.viaOr
  cases e : s.hand q body with
  | mk a t =>
    cases a with
    | none => simp [passes, e] at h
    | some b => simp [passed, e]

/-- A transfer that does not pass its queue runs the producer's part. -/
theorem viaOr_fails {q : Nat} {body : List Int} {f g : State → State} {s : State} (h : passes q body s = false) :
    s.viaOr q body f g = g (passed q body s) := by
  unfold State.viaOr
  cases e : s.hand q body with
  | mk a t =>
    cases a with
    | none => simp [passed, e]
    | some b => simp [passes, e] at h

/-- A transfer that passes its queue. -/
theorem via_passes {q : Nat} {body : List Int} {f : State → State} {s : State} (h : passes q body s = true) :
    s.via q body f = f (passed q body s) := viaOr_passes h

/-- The work of a command that passes its queue. -/
theorem viaReply_passes {q : Nat} {body : List Int} {f : State → Reply} {s : State} (h : passes q body s = true) :
    viaReply q body f s = f (passed q body s) := by
  unfold viaReply
  cases e : s.hand q body with
  | mk a t =>
    cases a with
    | none => simp [passes, e] at h
    | some b => simp [passed, e]

/-- The crypto engine does what it takes. -/
theorem engine_takes {q : Req} {f : State → Reply} {s : State} (h : engineTakes q s = true) :
    engine q f s = f (engineAt q s) := viaReply_passes h

/-- The MRAM writer writes what it takes. -/
theorem writer_takes {q : Req} {f : State → Reply} {s : State} (h : writerTakes q s = true) :
    mramWrite q f s = f (writerAt q s) := viaReply_passes h

/-- The meaning of every host command of the plain cases is `host` over the command's own part. -/
theorem plainCases_host : ∀ e ∈ plainCases, ∃ f, ∀ c s, exec (e.cmd c) s = host e.info c f s := by
  have h : ∀ l ∈ [seatCases, epochCases, treeCases, allocCases, phaseCases, outputCases, loopCases, linkCases,
      sessionCases, meterCases, safetyCases, fieldCases, lsCases, trustCases, journalCases, powerCases],
      ∀ e ∈ l, ∃ f, ∀ c s, exec (e.cmd c) s = host e.info c f s := by
    simp only [List.forall_mem_cons, seatCases, epochCases, treeCases, allocCases, phaseCases, outputCases, loopCases,
      linkCases, sessionCases, meterCases, safetyCases, fieldCases, lsCases, trustCases, journalCases, powerCases]
    refine ⟨?_, ?_, ?_, ?_, ?_, ?_, ?_, ?_, ?_, ?_, ?_, ?_, ?_, ?_, ?_, ?_, ?_⟩
    case refine_17 => intro x hx; cases hx
    all_goals repeat' (first | (intro e he; cases he) | apply And.intro | exact ⟨_, fun _ _ => rfl⟩)
  intro e he
  simp only [plainCases, List.mem_append] at he
  repeat (rcases he with he | he; rotate_left; exact h _ (by simp) e he)
  exact h _ (by simp) e he

/-- What follows a host command's completion does nothing where the power state and the boot state are as they were. -/
theorem finishEntry_same {s t : State} (h : t.power = s.power) : finishEntry s.power.state t = t := by
  unfold finishEntry; rw [h]; split
  · rfl
  · rename_i hn; exact absurd (by omega) hn

theorem afterReset_same {s t : State} (h : t.boot = s.boot) : afterReset s t = t := by
  unfold afterReset; rw [h]
  cases h1 : s.boot.systemReset <;> cases h2 : s.boot.coreReset <;> simp

/-- The meaning of every host command is `hostStep` over the command's own part, and what follows it, which does nothing
where the power state and the boot state are as they were. -/
theorem hostCases_host : ∀ e ∈ hostCases, ∃ (f : Req → State → Reply) (w : State → State → State),
    (∀ c s, exec (e.cmd c) s = .next (w s (hostStep e.info c f s))) ∧
    ∀ s t : State, t.power = s.power → t.boot = s.boot → w s t = t := by
  intro e he
  simp only [hostCases, List.mem_append] at he
  rcases he with (he | he) | he
  · obtain ⟨f, hf⟩ := plainCases_host e he
    exact ⟨f, fun _ t => t, fun c s => hf c s, fun _ _ _ _ => rfl⟩
  · refine ⟨powerStateSetOf, fun s t => finishEntry s.power.state t, ?_, fun s t h _ => finishEntry_same h⟩
    revert e; simp only [sleepCases, List.forall_mem_cons]
    repeat' apply And.intro (fun _ _ => rfl)
    exact fun x hx => nomatch hx
  · refine ⟨resetOf, afterReset, ?_, fun s t _ h => afterReset_same h⟩
    revert e; simp only [resetCases, List.forall_mem_cons]
    repeat' apply And.intro (fun _ _ => rfl)
    exact fun x hx => nomatch hx

/-- What a ring reads after one ring was set. -/
theorem State.ring_setRing (s : State) (n k m j : Nat) (r : Ring) :
    (s.setRing n k r).ring m j = if m = n ∧ j = k then r else s.ring m j := by
  by_cases hm : m = n
  · subst hm
    by_cases hj : j = k
    · subst hj; simp
    · simp only [State.ring, State.setRing, State.setSeat, State.seat, tget_tset_same, hj, and_false, if_false]
      rw [tget_tset_other _ _ _ _ _ hj]
  · simp only [State.ring, State.setRing, State.setSeat, State.seat, hm, false_and, if_false]
    rw [tget_tset_other _ _ _ _ _ hm]

/-- A frame for a seat changes the host interface alone. -/
theorem State.transmit_frame (s : State) (n : Nat) (f : List CqFrame) :
    s.transmit n f = { s with hostIf := (s.transmit n f).hostIf } := by
  unfold State.transmit; split <;> rfl

/-- Posting a completion changes the host interface alone. -/
theorem State.putCqAt_frame (s : State) (n k : Nat) (tag : Word) (st op : Nat) (r : Res) (time : Nat) :
    s.putCqAt n k tag st op r time = { s with hostIf := (s.putCqAt n k tag st op r time).hostIf } := by
  unfold State.putCqAt; split
  · rfl
  · exact State.transmit_frame ..

/-- Answering a command changes the host interface alone. -/
theorem State.answerAt_frame (s : State) (n k : Nat) (tag : Word) (op st : Nat) (r : Res) (time : Nat) :
    s.answerAt n k tag op st r time = { s with hostIf := (s.answerAt n k tag op st r time).hostIf } :=
  State.putCqAt_frame ..

/-- Answering a command now changes the host interface alone. -/
theorem State.answer_frame (s : State) (n k : Nat) (tag : Word) (op st : Nat) (r : Res) :
    s.answer n k tag op st r = { s with hostIf := (s.answer n k tag op st r).hostIf } := State.answerAt_frame ..

/-- Ending a live command changes the host interface alone. -/
theorem State.endLive_frame (s : State) (l : Live) (st : Nat) (r : Res) :
    s.endLive l st r = { s with hostIf := (s.endLive l st r).hostIf } := by
  unfold State.endLive
  dsimp only
  repeat' split
  · rfl
  · rfl
  · rfl
  · exact State.answerAt_frame ..

/-- Committing what waited for others changes the host interface alone. -/
theorem State.settle_frame (s : State) (fuel : Nat) : s.settle fuel = { s with hostIf := (s.settle fuel).hostIf } := by
  induction fuel generalizing s with
  | zero => rfl
  | succ k ih =>
    unfold State.settle
    split
    · rfl
    · split
      · rw [ih, State.endLive_frame]; rfl
      · split
        · dsimp only; rw [ih, State.endLive_frame]
        · rfl

/-- A ring set with the same partial command keeps every queue's partial command. -/
theorem State.setRing_cont (s : State) (n k m j : Nat) (r : Ring) (h : r.cont = (s.ring n k).cont) :
    ((s.setRing n k r).ring m j).cont = (s.ring m j).cont := by
  rw [State.ring_setRing]; split
  · rename_i h2; rw [h, h2.1, h2.2]
  · rfl

/-- Dequeuing a packet keeps every queue's partial command. -/
theorem dequeue_cont (c : Cmd) (s : State) (m j : Nat) : ((dequeue c s).ring m j).cont = (s.ring m j).cont := by
  unfold dequeue
  refine Eq.trans (State.setRing_cont _ c.seat (State.pairOf _ c.seat c.queue) m j _ ?_)
    (State.setRing_cont s c.seat c.queue m j _ ?_)
  · rfl
  · rfl

/-- A frame for a seat keeps every ring. -/
theorem State.transmit_ring (s : State) (n m j : Nat) (f : List CqFrame) :
    (s.transmit n f).ring m j = s.ring m j := by
  unfold State.transmit; split <;> rfl

/-- Posting a completion keeps every queue's partial command. -/
theorem State.putCqAt_cont (s : State) (n k : Nat) (tag : Word) (st op : Nat) (r : Res) (time m j : Nat) :
    ((s.putCqAt n k tag st op r time).ring m j).cont = (s.ring m j).cont := by
  unfold State.putCqAt; split
  · rfl
  · dsimp only
    rw [State.transmit_ring, State.setInt_ring]
    exact State.setRing_cont s n k m j _ rfl

/-- Answering a command keeps every queue's partial command. -/
theorem State.answer_cont (s : State) (n k : Nat) (tag : Word) (op st : Nat) (r : Res) (m j : Nat) :
    ((s.answer n k tag op st r).ring m j).cont = (s.ring m j).cont :=
  (State.putCqAt_cont ..).trans (State.setRing_cont s n (s.pairOf n k) m j _ rfl)

end Sys2Proof.Machine
end

