-- ==== Sys2Proof/Laws/KeptOps.lean ====
section
/-! SUPPORT. What the operations of Ops.lean keep: the waiting commands, and the power domains (all but PD2, on which
no domain depends). -/

namespace Sys2Proof.Machine

/-- The state a meaning answers with. -/
def Reply.state : Reply → State
  | .done _ _ s => s
  | .live _ _ s => s

@[simp] theorem Reply.state_done (a : Nat) (r : Res) (s : State) : (Reply.done a r s).state = s := id rfl
@[simp] theorem Reply.state_live (a : Bool) (r : List Int) (s : State) : (Reply.live a r s).state = s := id rfl
@[simp] theorem rej_state (a : Nat) (s : State) : (rej a s).state = s := id rfl
@[simp] theorem reads_state (s : State) (l : List (Nat × Nat × Int)) : (reads s l).state = s := id rfl

/-- The next state of an outcome, or the state before it. -/
def outOr (d : State) : Out → State
  | .next t => t
  | _ => d

@[simp] theorem outOr_next (d t : State) : outOr d (.next t) = t := id rfl

/-- Both states hold the same waiting commands and the same power domains. -/
@[simp] abbrev Kept (s t : State) : Prop := t.pending = s.pending ∧ t.power.domains &&& 4091#12 = s.power.domains &&& 4091#12

/-! ### A field of a choice is the choice of the fields -/

@[simp] theorem ite_pending (c : Prop) [Decidable c] (a b : State) :
    (if c then a else b).pending = if c then a.pending else b.pending := apply_ite State.pending c a b
@[simp] theorem ite_power (c : Prop) [Decidable c] (a b : State) :
    (if c then a else b).power = if c then a.power else b.power := apply_ite State.power c a b
@[simp] theorem ite_power_domains (c : Prop) [Decidable c] (a b : Power) :
    (if c then a else b).domains = if c then a.domains else b.domains := apply_ite Power.domains c a b
@[simp] theorem ite_reply_state (c : Prop) [Decidable c] (a b : Reply) :
    (if c then a else b).state = if c then a.state else b.state := apply_ite Reply.state c a b
@[simp] theorem ite_outOr (d : State) (c : Prop) [Decidable c] (a b : Out) :
    outOr d (if c then a else b) = if c then outOr d a else outOr d b := apply_ite (outOr d) c a b
@[simp] theorem ite_snd {α : Type} (c : Prop) [Decidable c] (a b : α × State) :
    (if c then a else b).2 = if c then a.2 else b.2 := apply_ite Prod.snd c a b
@[simp] theorem ite_snd_snd {α β : Type} (c : Prop) [Decidable c] (a b : α × β × State) :
    (if c then a else b).2 = if c then a.2 else b.2 := apply_ite Prod.snd c a b

@[simp] theorem ite_mask (c : Prop) [Decidable c] (a b m : BitVec 12) :
    (if c then a else b) &&& m = if c then a &&& m else b &&& m := apply_ite (· &&& m) c a b

/-! ### Folds -/

theorem foldl_kept {α : Type} (l : List α) (f : State → α → State) (s : State)
    (h : ∀ t a, (f t a).pending = t.pending ∧ (f t a).power.domains &&& 4091#12 = t.power.domains &&& 4091#12) :
    (l.foldl f s).pending = s.pending ∧ (l.foldl f s).power.domains &&& 4091#12 = s.power.domains &&& 4091#12 := by
  induction l generalizing s with
  | nil => simp
  | cons a r ih => simp [ih, h]

/-- A fold of changes that keep, keeps. -/
@[simp] theorem overL_kept {α : Type} (l : List α) (f : α → State → State) (s : State)
    (h : ∀ a t, (f a t).pending = t.pending ∧ (f a t).power.domains &&& 4091#12 = t.power.domains &&& 4091#12) :
    (overL l f s).pending = s.pending ∧ (overL l f s).power.domains &&& 4091#12 = s.power.domains &&& 4091#12 := foldl_kept l _ s fun t a => h a t

/-- The same, from an earlier state. -/
theorem overL_from {α : Type} (s0 : State) (l : List α) (f : α → State → State) (s : State)
    (h : ∀ a t, Kept t (f a t)) (h0 : Kept s0 s) : Kept s0 (overL l f s) :=
  ⟨(overL_kept l f s h).1.trans h0.1, (overL_kept l f s h).2.trans h0.2⟩

theorem overL_pending {α : Type} (l : List α) (f : α → State → State) (s : State)
    (h : ∀ a t, (f a t).pending = t.pending) : (overL l f s).pending = s.pending := by
  unfold overL
  induction l generalizing s with
  | nil => rfl
  | cons a r ih => simp [ih, h]

/-! ### PD2, which nothing depends on -/

theorem mask_or_spare (d : BitVec 12) : (d ||| 4) &&& 4091#12 = d &&& 4091#12 := by
  show (d ||| 4#12) &&& 4091#12 = d &&& 4091#12
  have h : (4#12 &&& 4091#12) = 0#12 := by decide
  rw [BitVec.and_comm, BitVec.and_or_distrib_left, BitVec.and_comm _ d, BitVec.and_comm _ 4#12, h, BitVec.or_zero]

theorem mask_and_spare (d : BitVec 12) : (d &&& 0xFFB) &&& 4091#12 = d &&& 4091#12 := by
  rw [BitVec.and_assoc]; rfl

@[simp] theorem State.setSeat_kept (s : State) (n : Nat) (v : Seat) :
    (State.setSeat s n v).pending = s.pending ∧ (State.setSeat s n v).power.domains &&& 4091#12 = s.power.domains &&& 4091#12 := by unfold State.setSeat; simp

@[simp] theorem State.setRing_kept (s : State) (n : Nat) (k : Nat) (r : Ring) :
    (State.setRing s n k r).pending = s.pending ∧ (State.setRing s n k r).power.domains &&& 4091#12 = s.power.domains &&& 4091#12 := by unfold State.setRing; simp

@[simp] theorem State.setIq_kept (s : State) (q : Nat) (v : IQueue) :
    (State.setIq s q v).pending = s.pending ∧ (State.setIq s q v).power.domains &&& 4091#12 = s.power.domains &&& 4091#12 := by unfold State.setIq; simp

@[simp] theorem State.setCounter_kept (s : State) (n : Nat) (v : Nat) :
    (State.setCounter s n v).pending = s.pending ∧ (State.setCounter s n v).power.domains &&& 4091#12 = s.power.domains &&& 4091#12 := by unfold State.setCounter; simp

@[simp] theorem State.setNode_kept (s : State) (n : Nat) (v : Node) :
    (State.setNode s n v).pending = s.pending ∧ (State.setNode s n v).power.domains &&& 4091#12 = s.power.domains &&& 4091#12 := by unfold State.setNode; simp

@[simp] theorem State.setPhase_kept (s : State) (n : Nat) (v : Phase) :
    (State.setPhase s n v).pending = s.pending ∧ (State.setPhase s n v).power.domains &&& 4091#12 = s.power.domains &&& 4091#12 := by unfold State.setPhase; simp

@[simp] theorem State.setPod_kept (s : State) (n : Nat) (v : Pod) :
    (State.setPod s n v).pending = s.pending ∧ (State.setPod s n v).power.domains &&& 4091#12 = s.power.domains &&& 4091#12 := by unfold State.setPod; simp

@[simp] theorem State.setMtx_kept (s : State) (n : Nat) (v : Matrix) :
    (State.setMtx s n v).pending = s.pending ∧ (State.setMtx s n v).power.domains &&& 4091#12 = s.power.domains &&& 4091#12 := by unfold State.setMtx; simp

@[simp] theorem State.setOutput_kept (s : State) (n : Nat) (v : Output) :
    (State.setOutput s n v).pending = s.pending ∧ (State.setOutput s n v).power.domains &&& 4091#12 = s.power.domains &&& 4091#12 := by unfold State.setOutput; simp

@[simp] theorem State.setSlot_kept (s : State) (n : Nat) (v : Slot) :
    (State.setSlot s n v).pending = s.pending ∧ (State.setSlot s n v).power.domains &&& 4091#12 = s.power.domains &&& 4091#12 := by unfold State.setSlot; simp

@[simp] theorem State.setConn_kept (s : State) (n : Nat) (v : Conn) :
    (State.setConn s n v).pending = s.pending ∧ (State.setConn s n v).power.domains &&& 4091#12 = s.power.domains &&& 4091#12 := by unfold State.setConn; simp

@[simp] theorem State.setSession_kept (s : State) (n : Nat) (v : Session) :
    (State.setSession s n v).pending = s.pending ∧ (State.setSession s n v).power.domains &&& 4091#12 = s.power.domains &&& 4091#12 := by unfold State.setSession; simp

@[simp] theorem State.setPoint_kept (s : State) (n : Nat) (v : Point) :
    (State.setPoint s n v).pending = s.pending ∧ (State.setPoint s n v).power.domains &&& 4091#12 = s.power.domains &&& 4091#12 := by unfold State.setPoint; simp

@[simp] theorem State.setPort_kept (s : State) (n : Nat) (v : Port) :
    (State.setPort s n v).pending = s.pending ∧ (State.setPort s n v).power.domains &&& 4091#12 = s.power.domains &&& 4091#12 := by unfold State.setPort; simp

@[simp] theorem State.setFnode_kept (s : State) (n : Nat) (v : FNode) :
    (State.setFnode s n v).pending = s.pending ∧ (State.setFnode s n v).power.domains &&& 4091#12 = s.power.domains &&& 4091#12 := by unfold State.setFnode; simp

@[simp] theorem State.setChan_kept (s : State) (n : Nat) (v : LsChan) :
    (State.setChan s n v).pending = s.pending ∧ (State.setChan s n v).power.domains &&& 4091#12 = s.power.domains &&& 4091#12 := by unfold State.setChan; simp

@[simp] theorem State.setKey_kept (s : State) (n : Nat) (v : KeySlot) :
    (State.setKey s n v).pending = s.pending ∧ (State.setKey s n v).power.domains &&& 4091#12 = s.power.domains &&& 4091#12 := by unfold State.setKey; simp

@[simp] theorem State.setFw_kept (s : State) (n : Nat) (v : FwSlot) :
    (State.setFw s n v).pending = s.pending ∧ (State.setFw s n v).power.domains &&& 4091#12 = s.power.domains &&& 4091#12 := by unfold State.setFw; simp

@[simp] theorem State.setRule_kept (s : State) (n : Nat) (v : Rule) :
    (State.setRule s n v).pending = s.pending ∧ (State.setRule s n v).power.domains &&& 4091#12 = s.power.domains &&& 4091#12 := by unfold State.setRule; simp

@[simp] theorem State.setSin_kept (s : State) (n : Nat) (v : SafeIn) :
    (State.setSin s n v).pending = s.pending ∧ (State.setSin s n v).power.domains &&& 4091#12 = s.power.domains &&& 4091#12 := by unfold State.setSin; simp

@[simp] theorem State.setSout_kept (s : State) (n : Nat) (v : SafeOut) :
    (State.setSout s n v).pending = s.pending ∧ (State.setSout s n v).power.domains &&& 4091#12 = s.power.domains &&& 4091#12 := by unfold State.setSout; simp

@[simp] theorem State.setSfn_kept (s : State) (n : Nat) (v : SafeFn) :
    (State.setSfn s n v).pending = s.pending ∧ (State.setSfn s n v).power.domains &&& 4091#12 = s.power.domains &&& 4091#12 := by unfold State.setSfn; simp

@[simp] theorem State.setAxis_kept (s : State) (n : Nat) (v : Axis) :
    (State.setAxis s n v).pending = s.pending ∧ (State.setAxis s n v).power.domains &&& 4091#12 = s.power.domains &&& 4091#12 := by unfold State.setAxis; simp

@[simp] theorem State.setSconn_kept (s : State) (n : Nat) (v : SafeConn) :
    (State.setSconn s n v).pending = s.pending ∧ (State.setSconn s n v).power.domains &&& 4091#12 = s.power.domains &&& 4091#12 := by unfold State.setSconn; simp

@[simp] theorem State.setAin_kept (s : State) (n : Nat) (v : Ain) :
    (State.setAin s n v).pending = s.pending ∧ (State.setAin s n v).power.domains &&& 4091#12 = s.power.domains &&& 4091#12 := by unfold State.setAin; simp

@[simp] theorem State.fresh_kept (s : State) :
    (State.fresh s).2.pending = s.pending ∧ (State.fresh s).2.power.domains &&& 4091#12 = s.power.domains &&& 4091#12 := by unfold State.fresh; simp

@[simp] theorem State.idle_kept (s : State) :
    (State.idle s).pending = s.pending ∧ (State.idle s).power.domains &&& 4091#12 = s.power.domains &&& 4091#12 := by unfold State.idle; simp

theorem State.pushEdit_kept (s t : State) (e : Edit) (h : s.pushEdit e = some t) : Kept s t := by
  unfold State.pushEdit at h; split at h <;> simp at h; subst h; simp

@[simp] theorem State.setInt_kept (s : State) (n : Nat) (m : BitVec 9) :
    (State.setInt s n m).pending = s.pending ∧ (State.setInt s n m).power.domains &&& 4091#12 = s.power.domains &&& 4091#12 := by unfold State.setInt; simp

@[simp] theorem State.jot_kept (s : State) (code : Nat) (obj : Word) (data : List Byte) :
    (State.jot s code obj data).pending = s.pending ∧ (State.jot s code obj data).power.domains &&& 4091#12 = s.power.domains &&& 4091#12 := by unfold State.jot; simp

@[simp] theorem State.jotRes_kept (s : State) (code : Nat) (obj : Word) (r : Res) :
    (State.jotRes s code obj r).pending = s.pending ∧ (State.jotRes s code obj r).power.domains &&& 4091#12 = s.power.domains &&& 4091#12 := by unfold State.jotRes; simp

@[simp] theorem State.jotCmd_kept (s : State) (status : Nat) (opcode : Nat) (obj : Word) :
    (State.jotCmd s status opcode obj).pending = s.pending ∧ (State.jotCmd s status opcode obj).power.domains &&& 4091#12 = s.power.domains &&& 4091#12 := by unfold State.jotCmd; simp

@[simp] theorem State.jotSealed_kept (s : State) (status : Nat) (opcode : Nat) (obj : Word) :
    (State.jotSealed s status opcode obj).pending = s.pending ∧ (State.jotSealed s status opcode obj).power.domains &&& 4091#12 = s.power.domains &&& 4091#12 := by
  unfold State.jotSealed; simp

@[simp] theorem State.note_kept (s : State) (kind : Nat) (obj : Word) (data : List Byte) :
    (State.note s kind obj data).pending = s.pending ∧ (State.note s kind obj data).power.domains &&& 4091#12 = s.power.domains &&& 4091#12 := by unfold State.note; simp

@[simp] theorem State.transmit_kept (s : State) (n : Nat) (f : List CqFrame) :
    (State.transmit s n f).pending = s.pending ∧ (State.transmit s n f).power.domains &&& 4091#12 = s.power.domains &&& 4091#12 := by
  unfold State.transmit; simp

@[simp] theorem State.putCqAt_kept (s : State) (n : Nat) (k : Nat) (tag : Word) (status : Nat) (opecho : Nat) (r : Res) (time : Nat) :
    (State.putCqAt s n k tag status opecho r time).pending = s.pending ∧ (State.putCqAt s n k tag status opecho r time).power.domains &&& 4091#12 = s.power.domains &&& 4091#12 := by
  unfold State.putCqAt; (repeat' split) <;> simp

@[simp] theorem State.putCq_kept (s : State) (n : Nat) (k : Nat) (tag : Word) (status : Nat) (opecho : Nat) (r : Res) :
    (State.putCq s n k tag status opecho r).pending = s.pending ∧ (State.putCq s n k tag status opecho r).power.domains &&& 4091#12 = s.power.domains &&& 4091#12 := by
 
  unfold State.putCq; simp

@[simp] theorem State.flushLost_kept (s : State) (n : Nat) :
    (State.flushLost s n).pending = s.pending ∧ (State.flushLost s n).power.domains &&& 4091#12 = s.power.domains &&& 4091#12 := by unfold State.flushLost; (repeat' split) <;> simp

@[simp] theorem State.event1_kept (s : State) (n : Nat) (group : Nat) (status : Nat) (r : Res) :
    (State.event1 s n group status r).pending = s.pending ∧ (State.event1 s n group status r).power.domains &&& 4091#12 = s.power.domains &&& 4091#12 := by unfold State.event1; (repeat' split) <;> simp

@[simp] theorem State.captureOn_kept (s : State) (trigger : Nat) (arg : Nat) :
    (State.captureOn s trigger arg).pending = s.pending ∧ (State.captureOn s trigger arg).power.domains &&& 4091#12 = s.power.domains &&& 4091#12 := by
 
  unfold State.captureOn; simp

@[simp] theorem State.event_kept (s : State) (group : Nat) (status : Nat) (r : Res) :
    (State.event s group status r).pending = s.pending ∧ (State.event s group status r).power.domains &&& 4091#12 = s.power.domains &&& 4091#12 := by unfold State.event; simp

@[simp] theorem State.eventTo_kept (s : State) (p : Nat → Bool) (group : Nat) (status : Nat) (r : Res) :
    (State.eventTo s p group status r).pending = s.pending ∧ (State.eventTo s p group status r).power.domains &&& 4091#12 = s.power.domains &&& 4091#12 := by unfold State.eventTo; simp

@[simp] theorem State.report_kept (s : State) (group : Nat) (status : Nat) (obj : Word) (r : Res) :
    (State.report s group status obj r).pending = s.pending ∧ (State.report s group status obj r).power.domains &&& 4091#12 = s.power.domains &&& 4091#12 := by unfold State.report; simp

@[simp] theorem State.unreserve_kept (s : State) (n : Nat) (k : Nat) :
    (State.unreserve s n k).pending = s.pending ∧ (State.unreserve s n k).power.domains &&& 4091#12 = s.power.domains &&& 4091#12 := by unfold State.unreserve; simp

@[simp] theorem State.answerAt_kept (s : State) (n : Nat) (k : Nat) (tag : Word) (opcode : Nat) (status : Nat) (r : Res) (time : Nat) :
    (State.answerAt s n k tag opcode status r time).pending = s.pending ∧ (State.answerAt s n k tag opcode status r time).power.domains &&& 4091#12 = s.power.domains &&& 4091#12 := by
  unfold State.answerAt; simp

@[simp] theorem State.answer_kept (s : State) (n : Nat) (k : Nat) (tag : Word) (opcode : Nat) (status : Nat) (r : Res) :
    (State.answer s n k tag opcode status r).pending = s.pending ∧ (State.answer s n k tag opcode status r).power.domains &&& 4091#12 = s.power.domains &&& 4091#12 := by unfold State.answer; simp

@[simp] theorem State.endLive_kept (s : State) (l : Live) (status : Nat) (r : Res) :
    (State.endLive s l status r).pending = s.pending ∧ (State.endLive s l status r).power.domains &&& 4091#12 = s.power.domains &&& 4091#12 := by unfold State.endLive; simp

@[simp] theorem State.endAborts_kept (s : State) (l : Live) (status : Nat) :
    (State.endAborts s l status).pending = s.pending ∧ (State.endAborts s l status).power.domains &&& 4091#12 = s.power.domains &&& 4091#12 := by unfold State.endAborts; simp

@[simp] theorem State.settle_kept (s : State) (fuel : Nat) :
    (s.settle fuel).pending = s.pending ∧ (s.settle fuel).power.domains &&& 4091#12 = s.power.domains &&& 4091#12 := by
 
  induction fuel generalizing s with
  | zero => simp [State.settle]
  | succ k ih => unfold State.settle; dsimp only; split <;> (try split) <;> (try split) <;> simp [ih]

@[simp] theorem State.settleAll_kept (s : State) :
    (State.settleAll s).pending = s.pending ∧ (State.settleAll s).power.domains &&& 4091#12 = s.power.domains &&& 4091#12 := by
  unfold State.settleAll; simp

@[simp] theorem State.endOne_kept (s : State) (l : Live) (status : Nat) (r : Res) :
    (State.endOne s l status r).pending = s.pending ∧ (State.endOne s l status r).power.domains &&& 4091#12 = s.power.domains &&& 4091#12 := by
  unfold State.endOne; simp

@[simp] theorem State.finish_kept (s : State) (l : Live) (status : Nat) (r : Res) :
    (State.finish s l status r).pending = s.pending ∧ (State.finish s l status r).power.domains &&& 4091#12 = s.power.domains &&& 4091#12 := by unfold State.finish; simp

@[simp] theorem State.commit_kept (s : State) (order : Nat) :
    (State.commit s order).pending = s.pending ∧ (State.commit s order).power.domains &&& 4091#12 = s.power.domains &&& 4091#12 := by unfold State.commit; simp

@[simp] theorem State.setKeep_kept (s : State) (order : Nat) (k : List Int) :
    (State.setKeep s order k).pending = s.pending ∧ (State.setKeep s order k).power.domains &&& 4091#12 = s.power.domains &&& 4091#12 := by unfold State.setKeep; simp

@[simp] theorem State.finishAll_kept (s : State) (opcode : Nat) (h : Word) (status : Nat) (r : Res) :
    (State.finishAll s opcode h status r).pending = s.pending ∧ (State.finishAll s opcode h status r).power.domains &&& 4091#12 = s.power.domains &&& 4091#12 := by unfold State.finishAll; simp

@[simp] theorem State.retire_kept (s : State) (h : Word) (status : Nat) :
    (State.retire s h status).pending = s.pending ∧ (State.retire s h status).power.domains &&& 4091#12 = s.power.domains &&& 4091#12 := by unfold State.retire; simp

@[simp] theorem State.countFault_kept (s : State) (h : Word) (w : Nat) :
    (State.countFault s h w).2.pending = s.pending ∧ (State.countFault s h w).2.power.domains &&& 4091#12 = s.power.domains &&& 4091#12 := by unfold State.countFault; simp

@[simp] theorem State.clearFaults_kept (s : State) (h : Word) :
    (State.clearFaults s h).pending = s.pending ∧ (State.clearFaults s h).power.domains &&& 4091#12 = s.power.domains &&& 4091#12 := by unfold State.clearFaults; simp

@[simp] theorem State.takeContext_kept (s : State) (h : Word) (status : Nat) (attempt : Nat) (due : Option Nat) :
    (State.takeContext s h status attempt due).pending = s.pending ∧ (State.takeContext s h status attempt due).power.domains &&& 4091#12 = s.power.domains &&& 4091#12 := by unfold State.takeContext; (repeat' split) <;> simp

@[simp] theorem State.freeContext_kept (s : State) (h : Word) :
    (State.freeContext s h).pending = s.pending ∧ (State.freeContext s h).power.domains &&& 4091#12 = s.power.domains &&& 4091#12 := by unfold State.freeContext; simp

@[simp] theorem State.attemptContext_kept (s : State) (h : Word) :
    (State.attemptContext s h).pending = s.pending ∧ (State.attemptContext s h).power.domains &&& 4091#12 = s.power.domains &&& 4091#12 := by unfold State.attemptContext; simp

@[simp] theorem State.secondFault_kept (s : State) (h : Word) (first : Nat) (second : Nat) :
    (State.secondFault s h first second).pending = s.pending ∧ (State.secondFault s h first second).power.domains &&& 4091#12 = s.power.domains &&& 4091#12 := by unfold State.secondFault; simp

@[simp] theorem State.checkFault_kept (s : State) (code : Nat) (ident : Nat) :
    (State.checkFault s code ident).pending = s.pending ∧ (State.checkFault s code ident).power.domains &&& 4091#12 = s.power.domains &&& 4091#12 := by unfold State.checkFault; simp

@[simp] theorem State.post_kept (s : State) (q : Nat) (body : List Int) :
    (State.post s q body).pending = s.pending ∧ (State.post s q body).power.domains &&& 4091#12 = s.power.domains &&& 4091#12 := by unfold State.post; simp

@[simp] theorem State.take_kept (s : State) (q : Nat) :
    (State.take s q).2.pending = s.pending ∧ (State.take s q).2.power.domains &&& 4091#12 = s.power.domains &&& 4091#12 := by unfold State.take; (repeat' split) <;> simp

@[simp] theorem State.hand_kept (s : State) (q : Nat) (body : List Int) :
    (State.hand s q body).2.pending = s.pending ∧ (State.hand s q body).2.power.domains &&& 4091#12 = s.power.domains &&& 4091#12 := by
  unfold State.hand; simp

@[simp] theorem State.viaOr_kept (s : State) (q : Nat) (body : List Int) (f : State → State) (g : State → State) (hf : ∀ t, (f t).pending = t.pending ∧ (f t).power.domains &&& 4091#12 = t.power.domains &&& 4091#12) (hg : ∀ t, (g t).pending = t.pending ∧ (g t).power.domains &&& 4091#12 = t.power.domains &&& 4091#12) :
    (State.viaOr s q body f g).pending = s.pending ∧ (State.viaOr s q body f g).power.domains &&& 4091#12 = s.power.domains &&& 4091#12 := by
 
  have hk := State.hand_kept s q body
  unfold State.viaOr; split <;> simp_all

@[simp] theorem State.via_kept (s : State) (q : Nat) (body : List Int) (f : State → State) (hf : ∀ t, (f t).pending = t.pending ∧ (f t).power.domains &&& 4091#12 = t.power.domains &&& 4091#12) :
    (State.via s q body f).pending = s.pending ∧ (State.via s q body f).power.domains &&& 4091#12 = s.power.domains &&& 4091#12 := by
  unfold State.via; simp [hf]

@[simp] theorem State.flushQ_kept (s : State) (q : Nat) :
    (State.flushQ s q).pending = s.pending ∧ (State.flushQ s q).power.domains &&& 4091#12 = s.power.domains &&& 4091#12 := by unfold State.flushQ; simp

/-- The same, from an earlier state. -/
theorem State.via_from (s0 s : State) (q : Nat) (body : List Int) (f : State → State) (h : ∀ t, Kept t (f t)) (h0 : Kept s0 s) :
    Kept s0 (s.via q body f) :=
  ⟨(State.via_kept s q body f h).1.trans h0.1, (State.via_kept s q body f h).2.trans h0.2⟩

@[simp] theorem State.flushAll_kept (s : State) (qs : List Nat) :
    (State.flushAll s qs).pending = s.pending ∧ (State.flushAll s qs).power.domains &&& 4091#12 = s.power.domains &&& 4091#12 := by
  unfold State.flushAll; simp

end Sys2Proof.Machine
end

