-- ==== Sys2Proof/Laws/KeptOperands.lean ====
section
/-! SUPPORT. What the operations of Operands.lean keep: the waiting commands, and the power domains (all but PD2, on which
no domain depends). -/

namespace Sys2Proof.Machine

@[simp] theorem viaReply_kept (q : Nat) (body : List Int) (f : State → Reply) (s : State)
    (hf : ∀ t, (f t).state.pending = t.pending ∧ (f t).state.power.domains &&& 4091#12 = t.power.domains &&& 4091#12) :
    (viaReply q body f s).state.pending = s.pending ∧ (viaReply q body f s).state.power.domains &&& 4091#12 = s.power.domains &&& 4091#12 := by
  have hk := State.hand_kept s q body
  unfold viaReply; split <;> simp_all

@[simp] theorem dequeue_kept (c : Cmd) (s : State) :
    (dequeue c s).pending = s.pending ∧ (dequeue c s).power.domains &&& 4091#12 = s.power.domains &&& 4091#12 := by unfold dequeue; simp

theorem writeBuf_kept (q : Req) (d : List Byte) (s t : State) (h : writeBuf q d s = .ok t) : Kept s t := by
  unfold writeBuf at h; repeat' split at h
  all_goals first | (simp at h; done) | (simp at h; subst h; simp)

@[simp] theorem countMismatch_kept (n : Nat) (structCode : Nat) (s : State) :
    (countMismatch n structCode s).pending = s.pending ∧ (countMismatch n structCode s).power.domains &&& 4091#12 = s.power.domains &&& 4091#12 := by unfold countMismatch; simp

@[simp] theorem conclude_kept (i : CmdInfo) (q : Req) (s0 : State) (r : Reply) :
    (conclude i q s0 r).pending = r.state.pending ∧ (conclude i q s0 r).power.domains &&& 4091#12 = r.state.power.domains &&& 4091#12 := by
  cases r <;> simp [conclude]

@[simp] theorem countEcc_kept (c : Cmd) (s : State) :
    (countEcc c s).pending = s.pending ∧ (countEcc c s).power.domains &&& 4091#12 = s.power.domains &&& 4091#12 := by
  unfold countEcc; (repeat' split) <;> simp

theorem runCmd_inv {Q : State → Prop} (hQ : ∀ t u, Kept t u → Q t → Q u) (i : CmdInfo) (c : Cmd) (g : Given)
    (f : Req → State → Reply) (s : State) (h : ∀ q t, Q t → Q (f q t).state) (h0 : Q s) : Q (runCmd i c g f s) := by
  have h1 : Q (countEcc c s) := hQ _ _ (countEcc_kept ..) h0
  unfold runCmd; dsimp only; split
  · exact hQ _ _ (State.answer_kept ..) h0
  · split
    · exact hQ _ _ (State.answer_kept ..) h1
    · split
      · refine hQ _ _ ?_ h1; split <;> simp
      · exact hQ _ _ (conclude_kept ..) (h _ _ h1)

theorem startCmd_inv {Q : State → Prop} (hQ : ∀ t u, Kept t u → Q t → Q u) (i : CmdInfo) (c : Cmd) (k : Taken)
    (f : Req → State → Reply) (s : State) (h : ∀ q t, Q t → Q (f q t).state) (h0 : Q s) : Q (startCmd i c k f s) := by
  unfold startCmd; dsimp only; split
  · exact hQ s _ ⟨rfl, rfl⟩ h0
  · exact runCmd_inv hQ i c _ f s h h0

@[simp] theorem endCont_kept (n : Nat) (k : Nat) (status : Nat) (s : State) :
    (endCont n k status s).pending = s.pending ∧ (endCont n k status s).power.domains &&& 4091#12 = s.power.domains &&& 4091#12 := by unfold endCont; (repeat' split) <;> simp

theorem assemble_inv {Q : State → Prop} (hQ : ∀ t u, Kept t u → Q t → Q u) (i : CmdInfo) (c : Cmd) (k : Taken)
    (f : Req → State → Reply) (s : State) (h : ∀ q t, Q t → Q (f q t).state) (h0 : Q s) : Q (assemble i c k f s) := by
  unfold assemble; dsimp only; split
  · exact startCmd_inv hQ i c k f s h h0
  · split
    · split
      · refine hQ s _ ?_ h0; split <;> simp
      · refine runCmd_inv hQ i c _ f _ h (hQ s _ ?_ h0); simp
    · exact startCmd_inv hQ i c k f _ h (hQ s _ (endCont_kept ..) h0)

@[simp] theorem drainEnd_kept (c : Cmd) (k : Taken) (s : State) :
    (drainEnd c k s).pending = s.pending ∧ (drainEnd c k s).power.domains &&& 4091#12 = s.power.domains &&& 4091#12 := by
  unfold drainEnd; simp

@[simp] theorem badCheck_kept (opcode : Nat) (c : Cmd) (s : State) :
    (badCheck opcode c s).pending = s.pending ∧ (badCheck opcode c s).power.domains &&& 4091#12 = s.power.domains &&& 4091#12 := by unfold badCheck; simp

/-- What depends on the waiting commands and the power domains alone, and every meaning keeps, a host command keeps. -/
theorem hostStep_inv {Q : State → Prop} (hQ : ∀ t u, Kept t u → Q t → Q u) (i : CmdInfo) (c : Cmd)
    (f : Req → State → Reply) (s : State) (h : ∀ q t, Q t → Q (f q t).state) (h0 : Q s) : Q (hostStep i c f s) := by
  have h1 : Q (dequeue c s) := hQ s _ (dequeue_kept ..) h0
  unfold hostStep; dsimp only; split
  · refine hQ _ _ (drainEnd_kept ..) ?_
    split
    · exact assemble_inv hQ i c _ f _ h h1
    · exact hQ _ _ (badCheck_kept ..) h1
  · exact h0

/-- A host command keeps where its meaning does. -/
@[simp] theorem hostStep_kept (i : CmdInfo) (c : Cmd) (f : Req → State → Reply) (s : State)
    (h : ∀ q t, (f q t).state.pending = t.pending ∧ (f q t).state.power.domains &&& 4091#12 = t.power.domains &&& 4091#12) :
    (hostStep i c f s).pending = s.pending ∧ (hostStep i c f s).power.domains &&& 4091#12 = s.power.domains &&& 4091#12 :=
  hostStep_inv (Q := Kept s) (fun _ _ k q => ⟨k.1.trans q.1, k.2.trans q.2⟩) i c f s
    (fun q t k => ⟨(h q t).1.trans k.1, (h q t).2.trans k.2⟩) ⟨rfl, rfl⟩

theorem hostStep_pending (i : CmdInfo) (c : Cmd) (f : Req → State → Reply) (s : State)
    (h : ∀ q t, (f q t).state.pending = t.pending) : (hostStep i c f s).pending = s.pending :=
  hostStep_inv (Q := fun t => t.pending = s.pending) (fun _ _ k q => k.1.trans q) i c f s (fun q t k => (h q t).trans k) rfl

@[simp] theorem host_kept (d : State) (i : CmdInfo) (c : Cmd) (f : Req → State → Reply) (s : State)
    (h : ∀ q t, (f q t).state.pending = t.pending ∧ (f q t).state.power.domains &&& 4091#12 = t.power.domains &&& 4091#12) :
    (outOr d (host i c f s)).pending = s.pending ∧ (outOr d (host i c f s)).power.domains &&& 4091#12 = s.power.domains &&& 4091#12 :=
  hostStep_kept i c f s h

theorem host_pending (d : State) (i : CmdInfo) (c : Cmd) (f : Req → State → Reply) (s : State)
    (h : ∀ q t, (f q t).state.pending = t.pending) : (outOr d (host i c f s)).pending = s.pending :=
  hostStep_pending i c f s h

@[simp] theorem commitLive_kept (l : Live) (f : State → State) (s : State)
    (h : ∀ t, (f t).pending = t.pending ∧ (f t).power.domains &&& 4091#12 = t.power.domains &&& 4091#12) :
    (commitLive l f s).pending = s.pending ∧ (commitLive l f s).power.domains &&& 4091#12 = s.power.domains &&& 4091#12 := by
  unfold commitLive; split <;> simp [h]

end Sys2Proof.Machine
end

