-- ==== Sys2Proof/Laws/KeptLoads.lean ====
section
/-! SUPPORT. What the operations of Loads.lean keep: the waiting commands, and the power domains (all but PD2, on which
no domain depends). -/

namespace Sys2Proof.Machine

@[simp] theorem configSet_kept (block base last : Nat) (q : Req) (s : State) :
    (configSet block base last q s).state.pending = s.pending ∧ (configSet block base last q s).state.power.domains &&& 4091#12 = s.power.domains &&& 4091#12 := by
  unfold configSet; dsimp only; split
  · simp
  · split
    · simp
    · rename_i h; exact State.pushEdit_kept _ _ _ h

@[simp] theorem endInjection_kept (cause : Nat) (s : State) :
    (endInjection cause s).pending = s.pending ∧ (endInjection cause s).power.domains &&& 4091#12 = s.power.domains &&& 4091#12 := by unfold endInjection; simp

@[simp] theorem endInjectionTo_kept (dest : Nat → Bool) (cause : Nat) (s : State) :
    (endInjectionTo dest cause s).pending = s.pending ∧ (endInjectionTo dest cause s).power.domains &&& 4091#12 = s.power.domains &&& 4091#12 := by unfold endInjectionTo; simp

@[simp] theorem lsRefresh_kept (c : Nat) (s : State) :
    (lsRefresh c s).pending = s.pending ∧ (lsRefresh c s).power.domains &&& 4091#12 = s.power.domains &&& 4091#12 := by unfold lsRefresh; simp

@[simp] theorem lsOff_kept (c : Nat) (st : Nat) (s : State) :
    (lsOff c st s).pending = s.pending ∧ (lsOff c st s).power.domains &&& 4091#12 = s.power.domains &&& 4091#12 := by unfold lsOff; simp

@[simp] theorem lsSwitchOn_kept (c : Nat) (s : State) :
    (lsSwitchOn c s).pending = s.pending ∧ (lsSwitchOn c s).power.domains &&& 4091#12 = s.power.domains &&& 4091#12 := by unfold lsSwitchOn; simp

@[simp] theorem lsApply_kept (c : Nat) (s : State) :
    (lsApply c s).pending = s.pending ∧ (lsApply c s).power.domains &&& 4091#12 = s.power.domains &&& 4091#12 := by unfold lsApply; simp

@[simp] theorem lsDrive_kept (c v : Nat) (s : State) :
    (lsDrive c v s).pending = s.pending ∧ (lsDrive c v s).power.domains &&& 4091#12 = s.power.domains &&& 4091#12 := by unfold lsDrive; simp

@[simp] theorem lsCommand_kept (c : Nat) (v : Nat) (s : State) :
    (lsCommand c v s).pending = s.pending ∧ (lsCommand c v s).power.domains &&& 4091#12 = s.power.domains &&& 4091#12 := by unfold lsCommand; simp

@[simp] theorem lsStartBackoff_kept (c : Nat) (s : State) :
    (lsStartBackoff c s).pending = s.pending ∧ (lsStartBackoff c s).power.domains &&& 4091#12 = s.power.domains &&& 4091#12 := by unfold lsStartBackoff; simp; (repeat' split) <;> simp

@[simp] theorem lsRetire_kept (c : Nat) (status : Nat) (s : State) :
    (lsRetire c status s).pending = s.pending ∧ (lsRetire c status s).power.domains &&& 4091#12 = s.power.domains &&& 4091#12 := by unfold lsRetire; simp

@[simp] theorem lsLatch_kept (c : Nat) (cause : Nat) (status : Nat) (r : Res) (s : State) :
    (lsLatch c cause status r s).pending = s.pending ∧ (lsLatch c cause status r s).power.domains &&& 4091#12 = s.power.domains &&& 4091#12 := by unfold lsLatch; simp; (repeat' split) <;> simp

@[simp] theorem lsServed_kept (c : Nat) (s : State) :
    (lsServed c s).pending = s.pending ∧ (lsServed c s).power.domains &&& 4091#12 = s.power.domains &&& 4091#12 := by unfold lsServed; simp

@[simp] theorem lsClearLatch_kept (c : Nat) (s : State) :
    (lsClearLatch c s).pending = s.pending ∧ (lsClearLatch c s).power.domains &&& 4091#12 = s.power.domains &&& 4091#12 := by unfold lsClearLatch; simp

@[simp] theorem lsAll_kept (f : Nat → State → State) (s : State)
    (h : ∀ a t, (f a t).pending = t.pending ∧ (f a t).power.domains &&& 4091#12 = t.power.domains &&& 4091#12) :
    (lsAll f s).pending = s.pending ∧ (lsAll f s).power.domains &&& 4091#12 = s.power.domains &&& 4091#12 := overL_kept _ f s h

@[simp] theorem execLsShort_kept (d : State) (c : Nat) (vout : Nat) (held : Nat) (s : State) :
    (outOr d (execLsShort c s vout held)).pending = s.pending ∧ (outOr d (execLsShort c s vout held)).power.domains &&& 4091#12 = s.power.domains &&& 4091#12 := by
  unfold execLsShort; simp

@[simp] theorem execLsOverload_kept (d : State) (c : Nat) (held : Nat) (s : State) :
    (outOr d (execLsOverload c s held)).pending = s.pending ∧ (outOr d (execLsOverload c s held)).power.domains &&& 4091#12 = s.power.domains &&& 4091#12 := by
  unfold execLsOverload; simp

@[simp] theorem execLsThermal_kept (c : Nat) (temp : Nat) (s : State) :
    (outOr s (execLsThermal c temp s)).pending = s.pending ∧ (outOr s (execLsThermal c temp s)).power.domains &&& 4091#12 = s.power.domains &&& 4091#12 := by unfold execLsThermal; simp

@[simp] theorem execLsThermalRestart_kept (c : Nat) (temp : Nat) (s : State) :
    (outOr s (execLsThermalRestart c temp s)).pending = s.pending ∧ (outOr s (execLsThermalRestart c temp s)).power.domains &&& 4091#12 = s.power.domains &&& 4091#12 := by unfold execLsThermalRestart; simp

@[simp] theorem lsAllOff_kept (s : State) :
    (lsAllOff s).pending = s.pending ∧ (lsAllOff s).power.domains &&& 4091#12 = s.power.domains &&& 4091#12 := by unfold lsAllOff; simp

@[simp] theorem lsReset_kept (s : State) :
    (lsReset s).pending = s.pending ∧ (lsReset s).power.domains &&& 4091#12 = s.power.domains &&& 4091#12 := by unfold lsReset; simp

@[simp] theorem execLsDieOvertemp_kept (temp : Int) (s : State) :
    (outOr s (execLsDieOvertemp temp s)).pending = s.pending ∧ (outOr s (execLsDieOvertemp temp s)).power.domains &&& 4091#12 = s.power.domains &&& 4091#12 := by unfold execLsDieOvertemp; simp

@[simp] theorem execLsOpenLoad_kept (d : State) (c : Nat) (held : Nat) (s : State) :
    (outOr d (execLsOpenLoad c s held)).pending = s.pending ∧ (outOr d (execLsOpenLoad c s held)).power.domains &&& 4091#12 = s.power.domains &&& 4091#12 := by
  unfold execLsOpenLoad; simp

@[simp] theorem execLsSupply_kept (vls : Nat) (s : State) :
    (outOr s (execLsSupply vls s)).pending = s.pending ∧ (outOr s (execLsSupply vls s)).power.domains &&& 4091#12 = s.power.domains &&& 4091#12 := by
  unfold execLsSupply; dsimp only; repeat' split
  all_goals simp

@[simp] theorem execInrushWindowEnd_kept (c : Nat) (vout : Nat) (s : State) :
    (outOr s (execInrushWindowEnd c vout s)).pending = s.pending ∧ (outOr s (execInrushWindowEnd c vout s)).power.domains &&& 4091#12 = s.power.domains &&& 4091#12 := by unfold execInrushWindowEnd; simp

@[simp] theorem lsDroop_kept (low : Bool) (c : Nat) (s : State) :
    (lsDroop low c s).pending = s.pending ∧ (lsDroop low c s).power.domains &&& 4091#12 = s.power.domains &&& 4091#12 := by
  unfold lsDroop; dsimp only; (repeat' split) <;> simp

@[simp] theorem execVlsDroop_kept (vls : Nat) (s : State) :
    (outOr s (execVlsDroop vls s)).pending = s.pending ∧ (outOr s (execVlsDroop vls s)).power.domains &&& 4091#12 = s.power.domains &&& 4091#12 := by
  unfold execVlsDroop
  simp only [outOr_next]
  exact ⟨(lsAll_kept _ _ (lsDroop_kept _)).1, (lsAll_kept _ _ (lsDroop_kept _)).2⟩

@[simp] theorem execDroopPauseEnd_kept (c : Nat) (s : State) :
    (outOr s (execDroopPauseEnd c s)).pending = s.pending ∧ (outOr s (execDroopPauseEnd c s)).power.domains &&& 4091#12 = s.power.domains &&& 4091#12 := by unfold execDroopPauseEnd; simp; (repeat' split) <;> simp

@[simp] theorem execLsBurstRetry_kept (c : Nat) (s : State) :
    (outOr s (execLsBurstRetry c s)).pending = s.pending ∧ (outOr s (execLsBurstRetry c s)).power.domains &&& 4091#12 = s.power.domains &&& 4091#12 := by unfold execLsBurstRetry; simp; (repeat' split) <;> simp

@[simp] theorem execLsBurstEnd_kept (d : State) (c : Nat) (clear : Nat) (s : State) :
    (outOr d (execLsBurstEnd c s clear)).pending = s.pending ∧ (outOr d (execLsBurstEnd c s clear)).power.domains &&& 4091#12 = s.power.domains &&& 4091#12 := by
  unfold execLsBurstEnd; simp

@[simp] theorem execLsBackoffExpire_kept (c : Nat) (s : State) :
    (outOr s (execLsBackoffExpire c s)).pending = s.pending ∧ (outOr s (execLsBackoffExpire c s)).power.domains &&& 4091#12 = s.power.domains &&& 4091#12 := by unfold execLsBackoffExpire; simp; (repeat' split) <;> simp

@[simp] theorem lsSuspend_kept (s : State) :
    (lsSuspend s).pending = s.pending ∧ (lsSuspend s).power.domains &&& 4091#12 = s.power.domains &&& 4091#12 := by
  unfold lsSuspend
  refine ⟨(lsAll_kept _ _ ?_).1, (lsAll_kept _ _ ?_).2⟩ <;> (intro c t; split <;> simp)

@[simp] theorem execLsLinkLost_kept (s : State) :
    (outOr s (execLsLinkLost s)).pending = s.pending ∧ (outOr s (execLsLinkLost s)).power.domains &&& 4091#12 = s.power.domains &&& 4091#12 := by
  unfold execLsLinkLost; split <;> simp

@[simp] theorem lsSetCommit_kept (l : Live) (s : State) :
    (lsSetCommit l s).pending = s.pending ∧ (lsSetCommit l s).power.domains &&& 4091#12 = s.power.domains &&& 4091#12 := by
  unfold lsSetCommit; simp

@[simp] theorem lsClearCommit_kept (l : Live) (s : State) :
    (lsClearCommit l s).pending = s.pending ∧ (lsClearCommit l s).power.domains &&& 4091#12 = s.power.domains &&& 4091#12 := by
  unfold lsClearCommit; simp

@[simp] theorem lsDeliver_kept (s : State) : (lsDeliver s).pending = s.pending ∧ (lsDeliver s).power.domains &&& 4091#12 = s.power.domains &&& 4091#12 := by
  unfold lsDeliver; dsimp only
  refine overL_from _ _ _ _ (fun a t => by simp) (overL_from _ _ _ _ (fun a t => by simp) (lsAll_kept _ _ fun a t => ?_))
  split <;> simp

/-- What the link's return does to one channel. -/
@[simp] theorem lsLinkUp_kept (lost : Nat) (s : State) :
    (lsLinkUp lost s).pending = s.pending ∧ (lsLinkUp lost s).power.domains &&& 4091#12 = s.power.domains &&& 4091#12 := by unfold lsLinkUp; simp

@[simp] theorem lsResume_kept (s : State) :
    (lsResume s).pending = s.pending ∧ (lsResume s).power.domains &&& 4091#12 = s.power.domains &&& 4091#12 := by
 
  unfold lsResume; exact lsAll_kept _ _ fun a t => by dsimp only; simp

@[simp] theorem execLsLinkRestored_kept (s : State) :
    (outOr s (execLsLinkRestored s)).pending = s.pending ∧ (outOr s (execLsLinkRestored s)).power.domains &&& 4091#12 = s.power.domains &&& 4091#12 := by
  unfold execLsLinkRestored; split
  · simp
  · simp

@[simp] theorem execLsLimp_kept (low : Bool) (s : State) :
    (outOr s (execLsLimp low s)).pending = s.pending ∧ (outOr s (execLsLimp low s)).power.domains &&& 4091#12 = s.power.domains &&& 4091#12 := by unfold execLsLimp; simp

@[simp] theorem execLhinChange_kept (k : Nat) (high : Bool) (s : State) :
    (outOr s (execLhinChange k high s)).pending = s.pending ∧ (outOr s (execLhinChange k high s)).power.domains &&& 4091#12 = s.power.domains &&& 4091#12 := by unfold execLhinChange; simp

@[simp] theorem lsStatusOf_kept (q : Req) (s : State) :
    (lsStatusOf q s).state.pending = s.pending ∧ (lsStatusOf q s).state.power.domains &&& 4091#12 = s.power.domains &&& 4091#12 := by unfold lsStatusOf; simp

@[simp] theorem execLsStatus_kept (c : Cmd) (s : State) :
    (outOr s (execLsStatus c s)).pending = s.pending ∧ (outOr s (execLsStatus c s)).power.domains &&& 4091#12 = s.power.domains &&& 4091#12 := by unfold execLsStatus; simp

@[simp] theorem lsSetTo_kept (q : Req) (s : State) :
    (lsSetTo q s).state.pending = s.pending ∧ (lsSetTo q s).state.power.domains &&& 4091#12 = s.power.domains &&& 4091#12 := by unfold lsSetTo; simp

@[simp] theorem execLsSet_kept (c : Cmd) (s : State) :
    (outOr s (execLsSet c s)).pending = s.pending ∧ (outOr s (execLsSet c s)).power.domains &&& 4091#12 = s.power.domains &&& 4091#12 := by unfold execLsSet; simp

@[simp] theorem lsClearOf_kept (q : Req) (s : State) :
    (lsClearOf q s).state.pending = s.pending ∧ (lsClearOf q s).state.power.domains &&& 4091#12 = s.power.domains &&& 4091#12 := by unfold lsClearOf; simp

@[simp] theorem execLsClear_kept (c : Cmd) (s : State) :
    (outOr s (execLsClear c s)).pending = s.pending ∧ (outOr s (execLsClear c s)).power.domains &&& 4091#12 = s.power.domains &&& 4091#12 := by unfold execLsClear; simp

@[simp] theorem lsCurrentsOf_kept (q : Req) (s : State) :
    (lsCurrentsOf q s).state.pending = s.pending ∧ (lsCurrentsOf q s).state.power.domains &&& 4091#12 = s.power.domains &&& 4091#12 := by unfold lsCurrentsOf; simp

@[simp] theorem execLsCurrents_kept (c : Cmd) (s : State) :
    (outOr s (execLsCurrents c s)).pending = s.pending ∧ (outOr s (execLsCurrents c s)).power.domains &&& 4091#12 = s.power.domains &&& 4091#12 := by unfold execLsCurrents; simp

@[simp] theorem lsCountersOf_kept (q : Req) (s : State) :
    (lsCountersOf q s).state.pending = s.pending ∧ (lsCountersOf q s).state.power.domains &&& 4091#12 = s.power.domains &&& 4091#12 := by unfold lsCountersOf; simp

@[simp] theorem execLsCounters_kept (c : Cmd) (s : State) :
    (outOr s (execLsCounters c s)).pending = s.pending ∧ (outOr s (execLsCounters c s)).power.domains &&& 4091#12 = s.power.domains &&& 4091#12 := by unfold execLsCounters; simp

@[simp] theorem execLsConfigSet_kept (c : Cmd) (s : State) :
    (outOr s (execLsConfigSet c s)).pending = s.pending ∧ (outOr s (execLsConfigSet c s)).power.domains &&& 4091#12 = s.power.domains &&& 4091#12 := by unfold execLsConfigSet; simp

end Sys2Proof.Machine
end

