-- ==== Sys2Proof/Laws/KeptUnits.lean ====
section
/-! SUPPORT. What the operations of Units.lean keep: the waiting commands, and the power domains (all but PD2, on which
no domain depends). -/

namespace Sys2Proof.Machine

@[simp] theorem goodFrame_kept (p : Nat) (ident : Word) (s : State) :
    (goodFrame p ident s).pending = s.pending ∧ (goodFrame p ident s).power.domains &&& 4091#12 = s.power.domains &&& 4091#12 := by
  unfold goodFrame; simp; (repeat' split) <;> simp

@[simp] theorem loadBus_kept (p : Nat) (ident : Word) (n : Nat) (s : State) :
    (loadBus p ident n s).pending = s.pending ∧ (loadBus p ident n s).power.domains &&& 4091#12 = s.power.domains &&& 4091#12 := by
  unfold loadBus; simp

@[simp] theorem countHeard_kept (p : Nat) (ident : Word) (n : Nat) (s : State) :
    (countHeard p ident n s).pending = s.pending ∧ (countHeard p ident n s).power.domains &&& 4091#12 = s.power.domains &&& 4091#12 := by
  unfold countHeard; simp

@[simp] theorem offerFrame_kept (f : TxFrame) (only : Bool) (p : Nat) (s : State) :
    (offerFrame f only p s).pending = s.pending ∧ (offerFrame f only p s).power.domains &&& 4091#12 = s.power.domains &&& 4091#12 := by
  unfold offerFrame; simp

@[simp] theorem State.sendFrame_kept (s : State) (ports : List Nat) (prio : Nat) (kind : Nat) (dst : Nat) (period : Nat) (body : List Byte) (limit : Nat) (only : Bool) :
    (State.sendFrame s ports prio kind dst period body limit only).pending = s.pending ∧ (State.sendFrame s ports prio kind dst period body limit only).power.domains &&& 4091#12 = s.power.domains &&& 4091#12 := by
 
  unfold State.sendFrame; dsimp only
  refine overL_from _ _ _ _ (fun p t => ?_) ⟨rfl, rfl⟩
  split
  · exact offerFrame_kept ..
  · exact State.via_kept _ _ _ _ fun _ => offerFrame_kept ..

@[simp] theorem State.podCmd_kept (s : State) (p : Nat) (op : Nat) (pair : Nat) :
    (State.podCmd s p op pair).pending = s.pending ∧ (State.podCmd s p op pair).power.domains &&& 4091#12 = s.power.domains &&& 4091#12 := by unfold State.podCmd; simp

@[simp] theorem State.drain_kept (s : State) :
    (State.drain s).pending = s.pending ∧ (State.drain s).power.domains &&& 4091#12 = s.power.domains &&& 4091#12 := by unfold State.drain; simp

@[simp] theorem gatesLow_kept (p : Nat) (s : State) :
    (gatesLow p s).pending = s.pending ∧ (gatesLow p s).power.domains &&& 4091#12 = s.power.domains &&& 4091#12 := by unfold gatesLow; simp

@[simp] theorem podOff_kept (p : Nat) (s : State) :
    (podOff p s).pending = s.pending ∧ (podOff p s).power.domains &&& 4091#12 = s.power.domains &&& 4091#12 := by unfold podOff; simp

@[simp] theorem podRun_kept (p : Nat) (s : State) :
    (podRun p s).pending = s.pending ∧ (podRun p s).power.domains &&& 4091#12 = s.power.domains &&& 4091#12 := by unfold podRun; simp

@[simp] theorem tripClearOf_kept (p : Nat) (s : State) :
    (tripClearOf p s).pending = s.pending ∧ (tripClearOf p s).power.domains &&& 4091#12 = s.power.domains &&& 4091#12 := by unfold tripClearOf; simp

@[simp] theorem retirePod_kept (p : Nat) (s : State) :
    (retirePod p s).pending = s.pending ∧ (retirePod p s).power.domains &&& 4091#12 = s.power.domains &&& 4091#12 := by unfold retirePod; simp

@[simp] theorem abortShed_kept (p : Nat) (s : State) :
    (abortShed p s).pending = s.pending ∧ (abortShed p s).power.domains &&& 4091#12 = s.power.domains &&& 4091#12 := by
  unfold abortShed; simp

@[simp] theorem retirePhase_kept (k : Nat) (status : Nat) (s : State) :
    (retirePhase k status s).pending = s.pending ∧ (retirePhase k status s).power.domains &&& 4091#12 = s.power.domains &&& 4091#12 := by unfold retirePhase; simp

@[simp] theorem tripCore_kept (p : Nat) (src : Nat) (index : Nat) (s : State) :
    (tripCore p src index s).pending = s.pending ∧ (tripCore p src index s).power.domains &&& 4091#12 = s.power.domains &&& 4091#12 := by unfold tripCore; simp

@[simp] theorem logIn_kept (source : Nat) (payload : List Int) (s : State) :
    (logIn source payload s).pending = s.pending ∧ (logIn source payload s).power.domains &&& 4091#12 = s.power.domains &&& 4091#12 := by unfold logIn; simp

@[simp] theorem forgetRule_kept (r : Nat) (s : State) :
    (forgetRule r s).pending = s.pending ∧ (forgetRule r s).power.domains &&& 4091#12 = s.power.domains &&& 4091#12 := by
  unfold forgetRule; simp

@[simp] theorem forgetRules_kept (s : State) :
    (forgetRules s).pending = s.pending ∧ (forgetRules s).power.domains &&& 4091#12 = s.power.domains &&& 4091#12 := by
  unfold forgetRules; simp

@[simp] theorem heaterTo_kept (on : Bool) (c : Nat) (s : State) :
    (heaterTo on c s).pending = s.pending ∧ (heaterTo on c s).power.domains &&& 4091#12 = s.power.domains &&& 4091#12 := by unfold heaterTo; simp

@[simp] theorem driveHeater_kept (s : State) :
    (driveHeater s).pending = s.pending ∧ (driveHeater s).power.domains &&& 4091#12 = s.power.domains &&& 4091#12 := by unfold driveHeater; simp

@[simp] theorem updateHeater_kept (s : State) :
    (updateHeater s).pending = s.pending ∧ (updateHeater s).power.domains &&& 4091#12 = s.power.domains &&& 4091#12 := by unfold updateHeater; simp

@[simp] theorem powerTo_kept (st : Nat) (cause : Nat) (rule : Nat) (s : State) :
    (powerTo st cause rule s).pending = s.pending ∧ (powerTo st cause rule s).power.domains &&& 4091#12 = s.power.domains &&& 4091#12 := by unfold powerTo; simp

@[simp] theorem leaveIdle_kept (s : State) :
    (leaveIdle s).pending = s.pending ∧ (leaveIdle s).power.domains &&& 4091#12 = s.power.domains &&& 4091#12 := by unfold leaveIdle; simp

@[simp] theorem endInjectionOn_kept (k : Nat) (cause : Nat) (s : State) :
    (endInjectionOn k cause s).pending = s.pending ∧ (endInjectionOn k cause s).power.domains &&& 4091#12 = s.power.domains &&& 4091#12 := by unfold endInjectionOn; simp

@[simp] theorem checkInjection_kept (k : Nat) (s : State) :
    (checkInjection k s).pending = s.pending ∧ (checkInjection k s).power.domains &&& 4091#12 = s.power.domains &&& 4091#12 := by unfold checkInjection; simp

@[simp] theorem postRef_kept (p : Nat) (ma : Int) (s : State) :
    (postRef p ma s).pending = s.pending ∧ (postRef p ma s).power.domains &&& 4091#12 = s.power.domains &&& 4091#12 := by unfold postRef; simp

@[simp] theorem postOutputRef_kept (o : Nat) (amps : Word) (s : State) :
    (postOutputRef o amps s).pending = s.pending ∧ (postOutputRef o amps s).power.domains &&& 4091#12 = s.power.domains &&& 4091#12 := by unfold postOutputRef; simp

@[simp] theorem selectOutput_kept (o : Nat) (s : State) :
    (selectOutput o s).pending = s.pending ∧ (selectOutput o s).power.domains &&& 4091#12 = s.power.domains &&& 4091#12 := by unfold selectOutput; simp

@[simp] theorem postSlot_kept (k : Nat) (s : State) :
    (postSlot k s).pending = s.pending ∧ (postSlot k s).power.domains &&& 4091#12 = s.power.domains &&& 4091#12 := by unfold postSlot; simp

@[simp] theorem slotOff_kept (k : Nat) (s : State) :
    (slotOff k s).pending = s.pending ∧ (slotOff k s).power.domains &&& 4091#12 = s.power.domains &&& 4091#12 := by unfold slotOff; simp

@[simp] theorem slotSet_kept (k : Nat) (sp : Word) (s : State) :
    (slotSet k sp s).pending = s.pending ∧ (slotSet k sp s).power.domains &&& 4091#12 = s.power.domains &&& 4091#12 := by
  unfold slotSet; simp

@[simp] theorem slotAuto_kept (k : Nat) (sp : Word) (s : State) :
    (slotAuto k sp s).pending = s.pending ∧ (slotAuto k sp s).power.domains &&& 4091#12 = s.power.domains &&& 4091#12 := by unfold slotAuto; simp

@[simp] theorem regulate_kept (o : Nat) (s : State) :
    (regulate o s).pending = s.pending ∧ (regulate o s).power.domains &&& 4091#12 = s.power.domains &&& 4091#12 := by unfold regulate; simp; (repeat' split) <;> simp

@[simp] theorem trackMatch_kept (o : Nat) (s : State) :
    (trackMatch o s).pending = s.pending ∧ (trackMatch o s).power.domains &&& 4091#12 = s.power.domains &&& 4091#12 := by
  unfold trackMatch; (repeat' split) <;> simp

@[simp] theorem outSlotsOff_kept (o : Nat) (s : State) :
    (outSlotsOff o s).pending = s.pending ∧ (outSlotsOff o s).power.domains &&& 4091#12 = s.power.domains &&& 4091#12 := by unfold outSlotsOff; simp

@[simp] theorem outPodsOff_kept (o : Nat) (s : State) :
    (outPodsOff o s).pending = s.pending ∧ (outPodsOff o s).power.domains &&& 4091#12 = s.power.domains &&& 4091#12 := by unfold outPodsOff; simp

@[simp] theorem soutSet_kept (k : Nat) (on : Bool) (s : State) :
    (soutSet k on s).pending = s.pending ∧ (soutSet k on s).power.domains &&& 4091#12 = s.power.domains &&& 4091#12 := by unfold soutSet; simp

@[simp] theorem commandOpen_kept (o : Nat) (s : State) :
    (commandOpen o s).pending = s.pending ∧ (commandOpen o s).power.domains &&& 4091#12 = s.power.domains &&& 4091#12 := by unfold commandOpen; simp

@[simp] theorem tryOpen_kept (o : Nat) (s : State) :
    (tryOpen o s).pending = s.pending ∧ (tryOpen o s).power.domains &&& 4091#12 = s.power.domains &&& 4091#12 := by unfold tryOpen; simp

@[simp] theorem State.editRec_kept (s : State) (p : Nat) (f : MRecord → MRecord) :
    (State.editRec s p f).pending = s.pending ∧ (State.editRec s p f).power.domains &&& 4091#12 = s.power.domains &&& 4091#12 := by unfold State.editRec; simp

@[simp] theorem recFull_kept (s : State) :
    (recFull s).pending = s.pending ∧ (recFull s).power.domains &&& 4091#12 = s.power.domains &&& 4091#12 := by unfold recFull; simp

@[simp] theorem recFreed_kept (s : State) :
    (recFreed s).pending = s.pending ∧ (recFreed s).power.domains &&& 4091#12 = s.power.domains &&& 4091#12 := by unfold recFreed; simp

@[simp] theorem reserveRec_kept (p : Nat) (conn : Nat) (proto : Nat) (sid : BitVec 64) (evccid : List Byte) (s : State) :
    (reserveRec p conn proto sid evccid s).pending = s.pending ∧ (reserveRec p conn proto sid evccid s).power.domains &&& 4091#12 = s.power.domains &&& 4091#12 := by unfold reserveRec; simp

@[simp] theorem openRec_kept (p : Nat) (proto : Nat) (ident : Nat) (emaid : List Byte) (s : State) :
    (openRec p proto ident emaid s).pending = s.pending ∧ (openRec p proto ident emaid s).power.domains &&& 4091#12 = s.power.domains &&& 4091#12 := by unfold openRec; simp

@[simp] theorem closeRec_kept (p : Nat) (s : State) :
    (closeRec p s).pending = s.pending ∧ (closeRec p s).power.domains &&& 4091#12 = s.power.domains &&& 4091#12 := by unfold closeRec; simp

@[simp] theorem dropRec_kept (p : Nat) (s : State) :
    (dropRec p s).pending = s.pending ∧ (dropRec p s).power.domains &&& 4091#12 = s.power.domains &&& 4091#12 := by unfold dropRec; simp

@[simp] theorem sessionTo_kept (c : Nat) (st : Nat) (s : State) :
    (sessionTo c st s).pending = s.pending ∧ (sessionTo c st s).power.domains &&& 4091#12 = s.power.domains &&& 4091#12 := by unfold sessionTo; simp

@[simp] theorem sessionEnd_kept (c : Nat) (reason : Nat) (s : State) :
    (sessionEnd c reason s).pending = s.pending ∧ (sessionEnd c reason s).power.domains &&& 4091#12 = s.power.domains &&& 4091#12 := by unfold sessionEnd; simp; (repeat' split) <;> simp

@[simp] theorem sessionIdle_kept (c : Nat) (s : State) :
    (sessionIdle c s).pending = s.pending ∧ (sessionIdle c s).power.domains &&& 4091#12 = s.power.domains &&& 4091#12 := by unfold sessionIdle; simp; (repeat' split) <;> simp

@[simp] theorem outIdleSession_kept (o : Nat) (s : State) :
    (outIdleSession o s).pending = s.pending ∧ (outIdleSession o s).power.domains &&& 4091#12 = s.power.domains &&& 4091#12 := by unfold outIdleSession; (repeat' split) <;> simp

@[simp] theorem markIdle_kept (s : State) :
    (markIdle s).pending = s.pending ∧ (markIdle s).power.domains &&& 4091#12 = s.power.domains &&& 4091#12 := by unfold markIdle; simp

@[simp] theorem toIdle_kept (o : Nat) (s : State) :
    (toIdle o s).pending = s.pending ∧ (toIdle o s).power.domains &&& 4091#12 = s.power.domains &&& 4091#12 := by unfold toIdle; simp

@[simp] theorem toSoftStart_kept (o : Nat) (s : State) :
    (toSoftStart o s).pending = s.pending ∧ (toSoftStart o s).power.domains &&& 4091#12 = s.power.domains &&& 4091#12 := by unfold toSoftStart; simp

@[simp] theorem contactsSettled_kept (o : Nat) (s : State) :
    (contactsSettled o s).pending = s.pending ∧ (contactsSettled o s).power.domains &&& 4091#12 = s.power.domains &&& 4091#12 := by unfold contactsSettled; simp; (repeat' split) <;> simp

@[simp] theorem sessionSignal_kept (c : Nat) (reason : Nat) (s : State) :
    (sessionSignal c reason s).pending = s.pending ∧ (sessionSignal c reason s).power.domains &&& 4091#12 = s.power.domains &&& 4091#12 := by unfold sessionSignal; simp; (repeat' split) <;> simp

@[simp] theorem outSessionSignal_kept (o : Nat) (reason : Nat) (s : State) :
    (outSessionSignal o reason s).pending = s.pending ∧ (outSessionSignal o reason s).power.domains &&& 4091#12 = s.power.domains &&& 4091#12 := by unfold outSessionSignal; (repeat' split) <;> simp

@[simp] theorem endReassign_kept (p : Nat) (status : Nat) (s : State) :
    (endReassign p status s).pending = s.pending ∧ (endReassign p status s).power.domains &&& 4091#12 = s.power.domains &&& 4091#12 := by unfold endReassign; simp

@[simp] theorem stopReassigns_kept (o : Nat) (s : State) :
    (stopReassigns o s).pending = s.pending ∧ (stopReassigns o s).power.domains &&& 4091#12 = s.power.domains &&& 4091#12 := by unfold stopReassigns; simp

@[simp] theorem unassign_kept (p : Nat) (s : State) :
    (unassign p s).pending = s.pending ∧ (unassign p s).power.domains &&& 4091#12 = s.power.domains &&& 4091#12 := by unfold unassign; simp

@[simp] theorem outMeetsReassign_kept (o : Nat) (fault : Bool) (s : State) :
    (outMeetsReassign o fault s).pending = s.pending ∧ (outMeetsReassign o fault s).power.domains &&& 4091#12 = s.power.domains &&& 4091#12 := by unfold outMeetsReassign; simp

@[simp] theorem outputStop_kept (o : Nat) (s : State) :
    (outputStop o s).pending = s.pending ∧ (outputStop o s).power.domains &&& 4091#12 = s.power.domains &&& 4091#12 := by unfold outputStop; simp

@[simp] theorem emergencyPods_kept (o : Nat) (s : State) :
    (emergencyPods o s).pending = s.pending ∧ (emergencyPods o s).power.domains &&& 4091#12 = s.power.domains &&& 4091#12 := by unfold emergencyPods; simp

@[simp] theorem emergencyOpen_kept (o : Nat) (s : State) :
    (emergencyOpen o s).pending = s.pending ∧ (emergencyOpen o s).power.domains &&& 4091#12 = s.power.domains &&& 4091#12 := by unfold emergencyOpen; simp

@[simp] theorem enterSafe_kept (o : Nat) (level : Nat) (cause : Nat) (s : State) :
    (enterSafe o level cause s).pending = s.pending ∧ (enterSafe o level cause s).power.domains &&& 4091#12 = s.power.domains &&& 4091#12 := by unfold enterSafe; simp

@[simp] theorem deliverKept_kept (s : State) :
    (deliverKept s).pending = s.pending ∧ (deliverKept s).power.domains &&& 4091#12 = s.power.domains &&& 4091#12 := by
  unfold deliverKept; simp

@[simp] theorem islandEvent_kept (status : Nat) (r : Res) (s : State) :
    (islandEvent status r s).pending = s.pending ∧ (islandEvent status r s).power.domains &&& 4091#12 = s.power.domains &&& 4091#12 := by
  unfold islandEvent; simp

@[simp] theorem islandReport_kept (status : Nat) (obj : Word) (r : Res) (s : State) :
    (islandReport status obj r s).pending = s.pending ∧ (islandReport status obj r s).power.domains &&& 4091#12 = s.power.domains &&& 4091#12 := by
  unfold islandReport; simp

@[simp] theorem safeEvent_kept (outs : Nat) (axes : Nat) (level : Nat) (cause : Option Nat) (s : State) :
    (safeEvent outs axes level cause s).pending = s.pending ∧ (safeEvent outs axes level cause s).power.domains &&& 4091#12 = s.power.domains &&& 4091#12 := by unfold safeEvent; (repeat' split) <;> simp

@[simp] theorem secondSafe_kept (o : Nat) (level : Nat) (s : State) :
    (secondSafe o level s).pending = s.pending ∧ (secondSafe o level s).power.domains &&& 4091#12 = s.power.domains &&& 4091#12 := by unfold secondSafe; simp

@[simp] theorem outputRetire_kept (o : Nat) (status : Nat) (s : State) :
    (outputRetire o status s).pending = s.pending ∧ (outputRetire o status s).power.domains &&& 4091#12 = s.power.domains &&& 4091#12 := by unfold outputRetire; simp

@[simp] theorem outputFault_kept (o : Nat) (status : Nat) (permanent : Bool) (s : State) :
    (outputFault o status permanent s).pending = s.pending ∧ (outputFault o status permanent s).power.domains &&& 4091#12 = s.power.domains &&& 4091#12 := by unfold outputFault; simp; (repeat' split) <;> simp

@[simp] theorem afterTrip_kept (p : Nat) (s : State) :
    (afterTrip p s).pending = s.pending ∧ (afterTrip p s).power.domains &&& 4091#12 = s.power.domains &&& 4091#12 := by unfold afterTrip; simp; (repeat' split) <;> simp

@[simp] theorem tripPod_kept (p : Nat) (src : Nat) (index : Nat) (s : State) :
    (tripPod p src index s).pending = s.pending ∧ (tripPod p src index s).power.domains &&& 4091#12 = s.power.domains &&& 4091#12 := by unfold tripPod; simp

@[simp] theorem judgeFn_kept (f : Nat) (s : State) :
    (judgeFn f s).pending = s.pending ∧ (judgeFn f s).power.domains &&& 4091#12 = s.power.domains &&& 4091#12 := by unfold judgeFn; simp

@[simp] theorem sendCopies_kept (k : Nat) (seq : Half) (data : BitVec 64) (s : State) :
    (sendCopies k seq data s).pending = s.pending ∧ (sendCopies k seq data s).power.domains &&& 4091#12 = s.power.domains &&& 4091#12 := by
  unfold sendCopies; simp

@[simp] theorem takeMsg_kept (k : Nat) (s : State) :
    (takeMsg k s).pending = s.pending ∧ (takeMsg k s).power.domains &&& 4091#12 = s.power.domains &&& 4091#12 := by
  unfold takeMsg; (repeat' split) <;> simp

@[simp] theorem sendSafe_kept (k : Nat) (s : State) :
    (sendSafe k s).pending = s.pending ∧ (sendSafe k s).power.domains &&& 4091#12 = s.power.domains &&& 4091#12 := by unfold sendSafe; simp

@[simp] theorem judgeTx_kept (k : Nat) (s : State) :
    (judgeTx k s).pending = s.pending ∧ (judgeTx k s).power.domains &&& 4091#12 = s.power.domains &&& 4091#12 := by unfold judgeTx; simp

@[simp] theorem judgeOutputs_kept (s : State) :
    (judgeOutputs s).pending = s.pending ∧ (judgeOutputs s).power.domains &&& 4091#12 = s.power.domains &&& 4091#12 := by unfold judgeOutputs; simp

@[simp] theorem judge_kept (s : State) :
    (judge s).pending = s.pending ∧ (judge s).power.domains &&& 4091#12 = s.power.domains &&& 4091#12 := by unfold judge; simp

@[simp] theorem addFixed_kept (outs : List Nat) (row : Nat) (s : State) :
    (addFixed outs row s).pending = s.pending ∧ (addFixed outs row s).power.domains &&& 4091#12 = s.power.domains &&& 4091#12 := by unfold addFixed; simp

@[simp] theorem dropFixed_kept (outs : List Nat) (row : Nat) (s : State) :
    (dropFixed outs row s).pending = s.pending ∧ (dropFixed outs row s).power.domains &&& 4091#12 = s.power.domains &&& 4091#12 := by unfold dropFixed; simp

@[simp] theorem stallOver_kept (was : State) (s : State) :
    (stallOver was s).pending = s.pending ∧ (stallOver was s).power.domains &&& 4091#12 = s.power.domains &&& 4091#12 := by unfold stallOver; simp

@[simp] theorem settleFixed_kept (o : Nat) (s : State) :
    (settleFixed o s).pending = s.pending ∧ (settleFixed o s).power.domains &&& 4091#12 = s.power.domains &&& 4091#12 := by unfold settleFixed; simp

@[simp] theorem spareDomain_kept (s : State) :
    (spareDomain s).pending = s.pending ∧ (spareDomain s).power.domains &&& 4091#12 = s.power.domains &&& 4091#12 := by
  refine ⟨rfl, ?_⟩
  unfold spareDomain; dsimp only; split
  · exact mask_or_spare _
  · exact mask_and_spare _

@[simp] theorem enterVoterSafe_kept (cause : Nat) (s : State) :
    (enterVoterSafe cause s).pending = s.pending ∧ (enterVoterSafe cause s).power.domains &&& 4091#12 = s.power.domains &&& 4091#12 := by unfold enterVoterSafe; simp

end Sys2Proof.Machine
end

