-- ==== Sys2Proof/Laws/KeptPhases.lean ====
section
/-! SUPPORT. What the operations of Phases.lean keep: the waiting commands, and the power domains (all but PD2, on which
no domain depends). -/

namespace Sys2Proof.Machine

@[simp] theorem refClamped_kept (p : Nat) (asked : Int) (code : Nat) (s : State) :
    (refClamped p asked code s).pending = s.pending ∧ (refClamped p asked code s).power.domains &&& 4091#12 = s.power.domains &&& 4091#12 := by unfold refClamped; simp

@[simp] theorem gates_kept (k : Nat) (controlled : Bool) (complementary : Bool) (s : State) :
    (gates k controlled complementary s).pending = s.pending ∧ (gates k controlled complementary s).power.domains &&& 4091#12 = s.power.domains &&& 4091#12 := by unfold gates; simp

@[simp] theorem advance_kept (p : Nat) (counter : Nat) (s : State) :
    (advance p counter s).pending = s.pending ∧ (advance p counter s).power.domains &&& 4091#12 = s.power.domains &&& 4091#12 := by
  unfold advance; simp

@[simp] theorem execPhaseTurnOn_kept (d : State) (k : Nat) (position : Nat) (s : State) :
    (outOr d (execPhaseTurnOn k s position)).pending = s.pending ∧ (outOr d (execPhaseTurnOn k s position)).power.domains &&& 4091#12 = s.power.domains &&& 4091#12 := by
  unfold execPhaseTurnOn; simp

@[simp] theorem turnOff_kept (k : Nat) (f : Phase → Phase) (s : State) :
    (turnOff k f s).pending = s.pending ∧ (turnOff k f s).power.domains &&& 4091#12 = s.power.domains &&& 4091#12 := by unfold turnOff; simp

@[simp] theorem execComparatorTurnOff_kept (d : State) (k : Nat) (sensed : Int) (onTime : Nat) (s : State) :
    (outOr d (execComparatorTurnOff k s sensed onTime)).pending = s.pending ∧ (outOr d (execComparatorTurnOff k s sensed onTime)).power.domains &&& 4091#12 = s.power.domains &&& 4091#12 := by
  unfold execComparatorTurnOff; simp

@[simp] theorem execMaxonEnd_kept (k : Nat) (s : State) :
    (outOr s (execMaxonEnd k s)).pending = s.pending ∧ (outOr s (execMaxonEnd k s)).power.domains &&& 4091#12 = s.power.domains &&& 4091#12 := by unfold execMaxonEnd; simp

@[simp] theorem execBlankingEnd_kept (d : State) (k : Nat) (sensed : Int) (s : State) :
    (outOr d (execBlankingEnd k sensed s)).pending = s.pending ∧ (outOr d (execBlankingEnd k sensed s)).power.domains &&& 4091#12 = s.power.domains &&& 4091#12 := by
  unfold execBlankingEnd; simp

@[simp] theorem signChange_kept (p : Nat) (new : Int) (s : State) :
    (signChange p new s).pending = s.pending ∧ (signChange p new s).power.domains &&& 4091#12 = s.power.domains &&& 4091#12 := by
  unfold signChange; simp

@[simp] theorem loadRef_kept (p : Nat) (asked : Int) (s : State) :
    (loadRef p asked s).pending = s.pending ∧ (loadRef p asked s).power.domains &&& 4091#12 = s.power.domains &&& 4091#12 := by unfold loadRef; simp

@[simp] theorem execSignHoldEnd_kept (p : Nat) (s : State) :
    (outOr s (execSignHoldEnd p s)).pending = s.pending ∧ (outOr s (execSignHoldEnd p s)).power.domains &&& 4091#12 = s.power.domains &&& 4091#12 := by unfold execSignHoldEnd; simp

@[simp] theorem execPhaseShed_kept (p : Nat) (s : State) :
    (outOr s (execPhaseShed p s)).pending = s.pending ∧ (outOr s (execPhaseShed p s)).power.domains &&& 4091#12 = s.power.domains &&& 4091#12 := by unfold execPhaseShed; simp; (repeat' split) <;> simp

@[simp] theorem startRestore_kept (p : Nat) (s : State) :
    (startRestore p s).pending = s.pending ∧ (startRestore p s).power.domains &&& 4091#12 = s.power.domains &&& 4091#12 := by
  unfold startRestore; (repeat' split) <;> simp

@[simp] theorem execPhaseRestore_kept (p : Nat) (s : State) :
    (outOr s (execPhaseRestore p s)).pending = s.pending ∧ (outOr s (execPhaseRestore p s)).power.domains &&& 4091#12 = s.power.domains &&& 4091#12 := by unfold execPhaseRestore; (repeat' split) <;> simp

@[simp] theorem shedStep_kept (k : Nat) (s : State) :
    (shedStep k s).pending = s.pending ∧ (shedStep k s).power.domains &&& 4091#12 = s.power.domains &&& 4091#12 := by unfold shedStep; simp

@[simp] theorem pairSplit_kept (p : Nat) (s : State) :
    (pairSplit p s).pending = s.pending ∧ (pairSplit p s).power.domains &&& 4091#12 = s.power.domains &&& 4091#12 := by unfold pairSplit; simp

@[simp] theorem loadPair_kept (p : Nat) (s : State) :
    (loadPair p s).pending = s.pending ∧ (loadPair p s).power.domains &&& 4091#12 = s.power.domains &&& 4091#12 := by unfold loadPair; simp

@[simp] theorem reload_kept (p : Nat) (clocks : Nat) (atZero : Bool) (s : State) :
    (reload p clocks atZero s).pending = s.pending ∧ (reload p clocks atZero s).power.domains &&& 4091#12 = s.power.domains &&& 4091#12 := by unfold reload; simp

@[simp] theorem countZeros_kept (p : Nat) (s : State) :
    (countZeros p s).pending = s.pending ∧ (countZeros p s).power.domains &&& 4091#12 = s.power.domains &&& 4091#12 := by
  unfold countZeros; simp

@[simp] theorem periodEnd_kept (p : Nat) (s : State) :
    (periodEnd p s).pending = s.pending ∧ (periodEnd p s).power.domains &&& 4091#12 = s.power.domains &&& 4091#12 := by
  unfold periodEnd; simp

@[simp] theorem periodZero_kept (p : Nat) (s : State) :
    (periodZero p s).pending = s.pending ∧ (periodZero p s).power.domains &&& 4091#12 = s.power.domains &&& 4091#12 := by unfold periodZero; simp

@[simp] theorem execReloadPoint_kept (d : State) (p : Nat) (clocks : Nat) (counter : Nat) (s : State) :
    (outOr d (execReloadPoint p clocks counter s)).pending = s.pending ∧ (outOr d (execReloadPoint p clocks counter s)).power.domains &&& 4091#12 = s.power.domains &&& 4091#12 := by
  unfold execReloadPoint; simp

@[simp] theorem shadowWrite_kept (p : Nat) (tag : Nat) (period : Option Nat) (maxon : Option Nat) (ref : Option Int) (s : State) :
    (shadowWrite p tag period maxon ref s).pending = s.pending ∧ (shadowWrite p tag period maxon ref s).power.domains &&& 4091#12 = s.power.domains &&& 4091#12 := by unfold shadowWrite; simp

@[simp] theorem postWaiting_kept (s : State) : (postWaiting s).pending = s.pending ∧ (postWaiting s).power.domains &&& 4091#12 = s.power.domains &&& 4091#12 := by
  unfold postWaiting
  refine overL_from s _ _ _ (fun a t => ?_) (by simp)
  split
  · simp
  · split <;> simp

@[simp] theorem takeEntry39_kept (body : Option (List Int)) (s : State) :
    (takeEntry39 body s).pending = s.pending ∧ (takeEntry39 body s).power.domains &&& 4091#12 = s.power.domains &&& 4091#12 := by
  unfold takeEntry39; dsimp only; (repeat' split) <;> simp

@[simp] theorem execQ39ReferenceEntry_kept (s : State) :
    (outOr s (execQ39ReferenceEntry s)).pending = s.pending ∧ (outOr s (execQ39ReferenceEntry s)).power.domains &&& 4091#12 = s.power.domains &&& 4091#12 := by
  unfold execQ39ReferenceEntry; simp

@[simp] theorem execSyncInEdge_kept (d : State) (p : Nat) (counter : Nat) (spacing : Nat) (s : State) :
    (outOr d (execSyncInEdge p counter spacing s)).pending = s.pending ∧ (outOr d (execSyncInEdge p counter spacing s)).power.domains &&& 4091#12 = s.power.domains &&& 4091#12 := by
  unfold execSyncInEdge; simp

@[simp] theorem execSyncLost_kept (p : Nat) (s : State) :
    (outOr s (execSyncLost p s)).pending = s.pending ∧ (outOr s (execSyncLost p s)).power.domains &&& 4091#12 = s.power.domains &&& 4091#12 := by unfold execSyncLost; simp

@[simp] theorem execPodTrip_kept (d : State) (p : Nat) (source : Nat) (index : Nat) (low : Bool) (clocks : Nat) (s : State) :
    (outOr d (execPodTrip p source index low s clocks)).pending = s.pending ∧ (outOr d (execPodTrip p source index low s clocks)).power.domains &&& 4091#12 = s.power.domains &&& 4091#12 := by
  unfold execPodTrip; simp

@[simp] theorem haltPod_kept (halt : Bool) (p : Nat) (s : State) :
    (haltPod halt p s).pending = s.pending ∧ (haltPod halt p s).power.domains &&& 4091#12 = s.power.domains &&& 4091#12 := by unfold haltPod; simp

@[simp] theorem execDebugHalt_kept (halt : Bool) (s : State) :
    (outOr s (execDebugHalt halt s)).pending = s.pending ∧ (outOr s (execDebugHalt halt s)).power.domains &&& 4091#12 = s.power.domains &&& 4091#12 := by unfold execDebugHalt; simp

@[simp] theorem execPodDisableRampEnd_kept (p : Nat) (s : State) :
    (outOr s (execPodDisableRampEnd p s)).pending = s.pending ∧ (outOr s (execPodDisableRampEnd p s)).power.domains &&& 4091#12 = s.power.domains &&& 4091#12 := by unfold execPodDisableRampEnd; (repeat' split) <;> simp

@[simp] theorem podStatusOf_kept (q : Req) (s : State) :
    (podStatusOf q s).state.pending = s.pending ∧ (podStatusOf q s).state.power.domains &&& 4091#12 = s.power.domains &&& 4091#12 := by unfold podStatusOf; simp

@[simp] theorem execPodStatus_kept (c : Cmd) (s : State) :
    (outOr s (execPodStatus c s)).pending = s.pending ∧ (outOr s (execPodStatus c s)).power.domains &&& 4091#12 = s.power.domains &&& 4091#12 := by unfold execPodStatus; simp

@[simp] theorem phaseStatusOf_kept (q : Req) (s : State) :
    (phaseStatusOf q s).state.pending = s.pending ∧ (phaseStatusOf q s).state.power.domains &&& 4091#12 = s.power.domains &&& 4091#12 := by unfold phaseStatusOf; simp

@[simp] theorem execPhaseStatus_kept (c : Cmd) (s : State) :
    (outOr s (execPhaseStatus c s)).pending = s.pending ∧ (outOr s (execPhaseStatus c s)).power.domains &&& 4091#12 = s.power.domains &&& 4091#12 := by unfold execPhaseStatus; simp

@[simp] theorem podEnableOf_kept (q : Req) (s : State) :
    (podEnableOf q s).state.pending = s.pending ∧ (podEnableOf q s).state.power.domains &&& 4091#12 = s.power.domains &&& 4091#12 := by unfold podEnableOf; simp

@[simp] theorem execPodEnable_kept (c : Cmd) (s : State) :
    (outOr s (execPodEnable c s)).pending = s.pending ∧ (outOr s (execPodEnable c s)).power.domains &&& 4091#12 = s.power.domains &&& 4091#12 := by unfold execPodEnable; simp

@[simp] theorem podDisableOf_kept (q : Req) (s : State) :
    (podDisableOf q s).state.pending = s.pending ∧ (podDisableOf q s).state.power.domains &&& 4091#12 = s.power.domains &&& 4091#12 := by unfold podDisableOf; simp

@[simp] theorem execPodDisable_kept (c : Cmd) (s : State) :
    (outOr s (execPodDisable c s)).pending = s.pending ∧ (outOr s (execPodDisable c s)).power.domains &&& 4091#12 = s.power.domains &&& 4091#12 := by unfold execPodDisable; simp

@[simp] theorem podShadowOf_kept (q : Req) (s : State) :
    (podShadowOf q s).state.pending = s.pending ∧ (podShadowOf q s).state.power.domains &&& 4091#12 = s.power.domains &&& 4091#12 := by unfold podShadowOf; simp

@[simp] theorem execPodShadow_kept (c : Cmd) (s : State) :
    (outOr s (execPodShadow c s)).pending = s.pending ∧ (outOr s (execPodShadow c s)).power.domains &&& 4091#12 = s.power.domains &&& 4091#12 := by unfold execPodShadow; simp

@[simp] theorem tripClearCmd_kept (q : Req) (s : State) :
    (tripClearCmd q s).state.pending = s.pending ∧ (tripClearCmd q s).state.power.domains &&& 4091#12 = s.power.domains &&& 4091#12 := by unfold tripClearCmd; simp

@[simp] theorem execTripClear_kept (c : Cmd) (s : State) :
    (outOr s (execTripClear c s)).pending = s.pending ∧ (outOr s (execTripClear c s)).power.domains &&& 4091#12 = s.power.domains &&& 4091#12 := by unfold execTripClear; simp

@[simp] theorem pwmHaltOf_kept (q : Req) (s : State) :
    (pwmHaltOf q s).state.pending = s.pending ∧ (pwmHaltOf q s).state.power.domains &&& 4091#12 = s.power.domains &&& 4091#12 := by unfold pwmHaltOf; simp

@[simp] theorem execPwmHaltEnable_kept (c : Cmd) (s : State) :
    (outOr s (execPwmHaltEnable c s)).pending = s.pending ∧ (outOr s (execPwmHaltEnable c s)).power.domains &&& 4091#12 = s.power.domains &&& 4091#12 := by unfold execPwmHaltEnable; simp

@[simp] theorem podCountersOf_kept (q : Req) (s : State) :
    (podCountersOf q s).state.pending = s.pending ∧ (podCountersOf q s).state.power.domains &&& 4091#12 = s.power.domains &&& 4091#12 := by unfold podCountersOf; simp

@[simp] theorem execPodCounters_kept (c : Cmd) (s : State) :
    (outOr s (execPodCounters c s)).pending = s.pending ∧ (outOr s (execPodCounters c s)).power.domains &&& 4091#12 = s.power.domains &&& 4091#12 := by unfold execPodCounters; simp

end Sys2Proof.Machine
end

