-- ==== Sys2Proof/Laws/KeptOutputs.lean ====
section
/-! SUPPORT. What the operations of Outputs.lean keep: the waiting commands, and the power domains (all but PD2, on which
no domain depends). -/

namespace Sys2Proof.Machine

@[simp] theorem closeRequest_kept (o : Nat) (s : State) :
    (closeRequest o s).pending = s.pending ∧ (closeRequest o s).power.domains &&& 4091#12 = s.power.domains &&& 4091#12 := by unfold closeRequest; simp; (repeat' split) <;> simp

@[simp] theorem outTargets_kept (o : Nat) (v : Nat) (i : Int) (vmin : Nat) (s : State) :
    (outTargets o v i vmin s).pending = s.pending ∧ (outTargets o v i vmin s).power.domains &&& 4091#12 = s.power.domains &&& 4091#12 := by unfold outTargets; simp

@[simp] theorem startRecord_kept (o : Nat) (s : State) :
    (startRecord o s).pending = s.pending ∧ (startRecord o s).power.domains &&& 4091#12 = s.power.domains &&& 4091#12 := by unfold startRecord; simp

@[simp] theorem execContactorCloseRequest_kept (o : Nat) (s : State) :
    (outOr s (execContactorCloseRequest o s)).pending = s.pending ∧ (outOr s (execContactorCloseRequest o s)).power.domains &&& 4091#12 = s.power.domains &&& 4091#12 := by
 
  unfold execContactorCloseRequest; dsimp only; repeat' split
  all_goals simp only [outOr_next]
  all_goals first
    | exact commitLive_kept _ _ _ fun t => by (repeat' split) <;> simp
    | simp

@[simp] theorem execContactorTimeout_kept (o : Nat) (s : State) :
    (outOr s (execContactorTimeout o s)).pending = s.pending ∧ (outOr s (execContactorTimeout o s)).power.domains &&& 4091#12 = s.power.domains &&& 4091#12 := by unfold execContactorTimeout; simp; (repeat' split) <;> simp

@[simp] theorem execSoftStartDone_kept (o : Nat) (s : State) :
    (outOr s (execSoftStartDone o s)).pending = s.pending ∧ (outOr s (execSoftStartDone o s)).power.domains &&& 4091#12 = s.power.domains &&& 4091#12 := by unfold execSoftStartDone; simp

@[simp] theorem execOutputShort_kept (o : Nat) (s : State) :
    (outOr s (execOutputShort o s)).pending = s.pending ∧ (outOr s (execOutputShort o s)).power.domains &&& 4091#12 = s.power.domains &&& 4091#12 := by unfold execOutputShort; simp; (repeat' split) <;> simp

@[simp] theorem execStopRampEnd_kept (o : Nat) (s : State) :
    (outOr s (execStopRampEnd o s)).pending = s.pending ∧ (outOr s (execStopRampEnd o s)).power.domains &&& 4091#12 = s.power.domains &&& 4091#12 := by unfold execStopRampEnd; simp; (repeat' split) <;> simp

@[simp] theorem execOutputRetry_kept (o : Nat) (s : State) :
    (outOr s (execOutputRetry o s)).pending = s.pending ∧ (outOr s (execOutputRetry o s)).power.domains &&& 4091#12 = s.power.domains &&& 4091#12 := by unfold execOutputRetry; simp; (repeat' split) <;> simp

@[simp] theorem enterStep6_kept (p : Nat) (o : Nat) (s : State) :
    (enterStep6 p o s).pending = s.pending ∧ (enterStep6 p o s).power.domains &&& 4091#12 = s.power.domains &&& 4091#12 := by unfold enterStep6; simp

@[simp] theorem enterStep4_kept (p : Nat) (o : Nat) (s : State) :
    (enterStep4 p o s).pending = s.pending ∧ (enterStep4 p o s).power.domains &&& 4091#12 = s.power.domains &&& 4091#12 := by unfold enterStep4; simp

@[simp] theorem enterStep3_kept (p : Nat) (s : State) :
    (enterStep3 p s).pending = s.pending ∧ (enterStep3 p s).power.domains &&& 4091#12 = s.power.domains &&& 4091#12 := by unfold enterStep3; simp; (repeat' split) <;> simp

@[simp] theorem enterStep2_kept (p : Nat) (s : State) :
    (enterStep2 p s).pending = s.pending ∧ (enterStep2 p s).power.domains &&& 4091#12 = s.power.domains &&& 4091#12 := by unfold enterStep2; simp

@[simp] theorem startReassign_kept (p : Nat) (target : Option Nat) (s : State) :
    (startReassign p target s).pending = s.pending ∧ (startReassign p target s).power.domains &&& 4091#12 = s.power.domains &&& 4091#12 := by unfold startReassign; simp; (repeat' split) <;> simp

@[simp] theorem rejoin_kept (p : Nat) (status : Nat) (s : State) :
    (rejoin p status s).pending = s.pending ∧ (rejoin p status s).power.domains &&& 4091#12 = s.power.domains &&& 4091#12 := by unfold rejoin; simp; (repeat' split) <;> simp

@[simp] theorem matrixUnknown_kept (p : Nat) (status : Nat) (s : State) :
    (matrixUnknown p status s).pending = s.pending ∧ (matrixUnknown p status s).power.domains &&& 4091#12 = s.power.domains &&& 4091#12 := by unfold matrixUnknown; simp; (repeat' split) <;> simp

@[simp] theorem openAll_kept (p : Nat) (s : State) :
    (openAll p s).pending = s.pending ∧ (openAll p s).power.domains &&& 4091#12 = s.power.domains &&& 4091#12 := by
  unfold openAll; simp

@[simp] theorem openReply_kept (p : Nat) (rs : List PodReply) (s : State) :
    (openReply p rs s).pending = s.pending ∧ (openReply p rs s).power.domains &&& 4091#12 = s.power.domains &&& 4091#12 := by
  unfold openReply; simp

@[simp] theorem acceptReply_kept (p : Nat) (rs : List PodReply) (s : State) :
    (acceptReply p rs s).pending = s.pending ∧ (acceptReply p rs s).power.domains &&& 4091#12 = s.power.domains &&& 4091#12 := by
  unfold acceptReply; simp; (repeat' split) <;> simp

@[simp] theorem noteDv_kept (p : Nat) (r : PodReply) (s : State) :
    (noteDv p r s).pending = s.pending ∧ (noteDv p r s).power.domains &&& 4091#12 = s.power.domains &&& 4091#12 := by
  unfold noteDv; simp

@[simp] theorem acceptPoll_kept (p : Nat) (q : SwPoll) (s : State) :
    (acceptPoll p q s).pending = s.pending ∧ (acceptPoll p q s).power.domains &&& 4091#12 = s.power.domains &&& 4091#12 := by
  unfold acceptPoll; simp

@[simp] theorem overduePolls_kept (p : Nat) (s : State) :
    (overduePolls p s).pending = s.pending ∧ (overduePolls p s).power.domains &&& 4091#12 = s.power.domains &&& 4091#12 := by
  unfold overduePolls; simp

@[simp] theorem execPodReply_kept (r : PodReply) (s : State) :
    (outOr s (execPodReply r s)).pending = s.pending ∧ (outOr s (execPodReply r s)).power.domains &&& 4091#12 = s.power.domains &&& 4091#12 := by unfold execPodReply; simp; (repeat' split) <;> simp

@[simp] theorem execPodPoll_kept (p : Nat) (s : State) :
    (outOr s (execPodPoll p s)).pending = s.pending ∧ (outOr s (execPodPoll p s)).power.domains &&& 4091#12 = s.power.domains &&& 4091#12 := by
  unfold execPodPoll; simp

@[simp] theorem execReassignRampOutDone_kept (p : Nat) (s : State) :
    (outOr s (execReassignRampOutDone p s)).pending = s.pending ∧ (outOr s (execReassignRampOutDone p s)).power.domains &&& 4091#12 = s.power.domains &&& 4091#12 := by unfold execReassignRampOutDone; simp

@[simp] theorem execSwAnswerTimeout_kept (p : Nat) (s : State) :
    (outOr s (execSwAnswerTimeout p s)).pending = s.pending ∧ (outOr s (execSwAnswerTimeout p s)).power.domains &&& 4091#12 = s.power.domains &&& 4091#12 := by unfold execSwAnswerTimeout; simp

@[simp] theorem execMatchTimeout_kept (p : Nat) (s : State) :
    (outOr s (execMatchTimeout p s)).pending = s.pending ∧ (outOr s (execMatchTimeout p s)).power.domains &&& 4091#12 = s.power.domains &&& 4091#12 := by unfold execMatchTimeout; simp

@[simp] theorem execSwitchTimeout_kept (p : Nat) (s : State) :
    (outOr s (execSwitchTimeout p s)).pending = s.pending ∧ (outOr s (execSwitchTimeout p s)).power.domains &&& 4091#12 = s.power.domains &&& 4091#12 := by unfold execSwitchTimeout; simp; (repeat' split) <;> simp

@[simp] theorem execReassignRampInDone_kept (p : Nat) (s : State) :
    (outOr s (execReassignRampInDone p s)).pending = s.pending ∧ (outOr s (execReassignRampInDone p s)).power.domains &&& 4091#12 = s.power.domains &&& 4091#12 := by unfold execReassignRampInDone; simp

@[simp] theorem outputStatusOf_kept (q : Req) (s : State) :
    (outputStatusOf q s).state.pending = s.pending ∧ (outputStatusOf q s).state.power.domains &&& 4091#12 = s.power.domains &&& 4091#12 := by unfold outputStatusOf; simp

@[simp] theorem execOutputStatus_kept (c : Cmd) (s : State) :
    (outOr s (execOutputStatus c s)).pending = s.pending ∧ (outOr s (execOutputStatus c s)).power.domains &&& 4091#12 = s.power.domains &&& 4091#12 := by unfold execOutputStatus; simp

@[simp] theorem outputStartOf_kept (q : Req) (s : State) :
    (outputStartOf q s).state.pending = s.pending ∧ (outputStartOf q s).state.power.domains &&& 4091#12 = s.power.domains &&& 4091#12 := by unfold outputStartOf; simp; (repeat' split) <;> simp

@[simp] theorem execOutputStart_kept (c : Cmd) (s : State) :
    (outOr s (execOutputStart c s)).pending = s.pending ∧ (outOr s (execOutputStart c s)).power.domains &&& 4091#12 = s.power.domains &&& 4091#12 := by unfold execOutputStart; simp

@[simp] theorem outputSetOf_kept (q : Req) (s : State) :
    (outputSetOf q s).state.pending = s.pending ∧ (outputSetOf q s).state.power.domains &&& 4091#12 = s.power.domains &&& 4091#12 := by unfold outputSetOf; simp

@[simp] theorem execOutputSet_kept (c : Cmd) (s : State) :
    (outOr s (execOutputSet c s)).pending = s.pending ∧ (outOr s (execOutputSet c s)).power.domains &&& 4091#12 = s.power.domains &&& 4091#12 := by unfold execOutputSet; simp

@[simp] theorem outputStopOf_kept (q : Req) (s : State) :
    (outputStopOf q s).state.pending = s.pending ∧ (outputStopOf q s).state.power.domains &&& 4091#12 = s.power.domains &&& 4091#12 := by unfold outputStopOf; simp

@[simp] theorem execOutputStop_kept (c : Cmd) (s : State) :
    (outOr s (execOutputStop c s)).pending = s.pending ∧ (outOr s (execOutputStop c s)).power.domains &&& 4091#12 = s.power.domains &&& 4091#12 := by unfold execOutputStop; simp

@[simp] theorem podAssignOf_kept (q : Req) (s : State) :
    (podAssignOf q s).state.pending = s.pending ∧ (podAssignOf q s).state.power.domains &&& 4091#12 = s.power.domains &&& 4091#12 := by unfold podAssignOf; simp

@[simp] theorem execPodAssign_kept (c : Cmd) (s : State) :
    (outOr s (execPodAssign c s)).pending = s.pending ∧ (outOr s (execPodAssign c s)).power.domains &&& 4091#12 = s.power.domains &&& 4091#12 := by unfold execPodAssign; simp

@[simp] theorem matrixStatusOf_kept (q : Req) (s : State) :
    (matrixStatusOf q s).state.pending = s.pending ∧ (matrixStatusOf q s).state.power.domains &&& 4091#12 = s.power.domains &&& 4091#12 := by unfold matrixStatusOf; simp

@[simp] theorem execMatrixStatus_kept (c : Cmd) (s : State) :
    (outOr s (execMatrixStatus c s)).pending = s.pending ∧ (outOr s (execMatrixStatus c s)).power.domains &&& 4091#12 = s.power.domains &&& 4091#12 := by unfold execMatrixStatus; simp

@[simp] theorem planPods_kept (s : State) :
    (planPods s).pending = s.pending ∧ (planPods s).power.domains &&& 4091#12 = s.power.domains &&& 4091#12 := by
  unfold planPods; simp; (repeat' split) <;> simp

@[simp] theorem outputCountersOf_kept (q : Req) (s : State) :
    (outputCountersOf q s).state.pending = s.pending ∧ (outputCountersOf q s).state.power.domains &&& 4091#12 = s.power.domains &&& 4091#12 := by unfold outputCountersOf; simp

@[simp] theorem execOutputCounters_kept (c : Cmd) (s : State) :
    (outOr s (execOutputCounters c s)).pending = s.pending ∧ (outOr s (execOutputCounters c s)).power.domains &&& 4091#12 = s.power.domains &&& 4091#12 := by unfold execOutputCounters; simp

end Sys2Proof.Machine
end

