-- ==== Sys2Proof/Laws/KeptLinks.lean ====
section
/-! SUPPORT. What the operations of Links.lean keep: the waiting commands, and the power domains (all but PD2, on which
no domain depends). -/

namespace Sys2Proof.Machine

@[simp] theorem applyForm_kept (c : Nat) (s : State) :
    (applyForm c s).pending = s.pending ∧ (applyForm c s).power.domains &&& 4091#12 = s.power.domains &&& 4091#12 := by unfold applyForm; simp

@[simp] theorem stationSends_kept (c : Nat) (s : State) :
    (stationSends c s).pending = s.pending ∧ (stationSends c s).power.domains &&& 4091#12 = s.power.domains &&& 4091#12 := by
  unfold stationSends; simp

@[simp] theorem serveChanges_kept (q : Nat) (fuel : Nat) (s : State) :
    (serveChanges q fuel s).pending = s.pending ∧ (serveChanges q fuel s).power.domains &&& 4091#12 = s.power.domains &&& 4091#12 := by
 
  induction fuel generalizing s with
  | zero => simp [serveChanges]
  | succ k ih => unfold serveChanges; split <;> (try split) <;> simp [ih]

@[simp] theorem tellSession_kept (c : Nat) (kind : Nat) (value : Nat) (s : State) :
    (tellSession c kind value s).pending = s.pending ∧ (tellSession c kind value s).power.domains &&& 4091#12 = s.power.domains &&& 4091#12 := by
  unfold tellSession; simp

@[simp] theorem dropKey_kept (c : Nat) (s : State) :
    (dropKey c s).pending = s.pending ∧ (dropKey c s).power.domains &&& 4091#12 = s.power.domains &&& 4091#12 := by unfold dropKey; simp

@[simp] theorem endConnReset_kept (c : Nat) (st : Nat) (s : State) :
    (endConnReset c st s).pending = s.pending ∧ (endConnReset c st s).power.domains &&& 4091#12 = s.power.domains &&& 4091#12 := by
  unfold endConnReset; simp

@[simp] theorem linkTo_kept (c : Nat) (st : Nat) (reason : Nat) (s : State) :
    (linkTo c st reason s).pending = s.pending ∧ (linkTo c st reason s).power.domains &&& 4091#12 = s.power.domains &&& 4091#12 := by
 
  unfold linkTo; simp

@[simp] theorem linkStart_kept (c : Nat) (s : State) :
    (linkStart c s).pending = s.pending ∧ (linkStart c s).power.domains &&& 4091#12 = s.power.domains &&& 4091#12 := by unfold linkStart; simp

@[simp] theorem connReset_kept (c : Nat) (s : State) :
    (connReset c s).pending = s.pending ∧ (connReset c s).power.domains &&& 4091#12 = s.power.domains &&& 4091#12 := by unfold connReset; simp

@[simp] theorem linkUp_kept (c : Nat) (s : State) :
    (linkUp c s).pending = s.pending ∧ (linkUp c s).power.domains &&& 4091#12 = s.power.domains &&& 4091#12 := by unfold linkUp; simp

@[simp] theorem linkStartBackoff_kept (c : Nat) (s : State) :
    (linkStartBackoff c s).pending = s.pending ∧ (linkStartBackoff c s).power.domains &&& 4091#12 = s.power.domains &&& 4091#12 := by unfold linkStartBackoff; simp; (repeat' split) <;> simp

@[simp] theorem linkRetire_kept (c : Nat) (status : Nat) (s : State) :
    (linkRetire c status s).pending = s.pending ∧ (linkRetire c status s).power.domains &&& 4091#12 = s.power.domains &&& 4091#12 := by unfold linkRetire; simp

@[simp] theorem linkFault_kept (c : Nat) (status : Nat) (s : State) :
    (linkFault c status s).pending = s.pending ∧ (linkFault c status s).power.domains &&& 4091#12 = s.power.domains &&& 4091#12 := by unfold linkFault; simp; (repeat' split) <;> simp

@[simp] theorem execLinkFaultBackoffEnd_kept (c : Nat) (s : State) :
    (outOr s (execLinkFaultBackoffEnd c s)).pending = s.pending ∧ (outOr s (execLinkFaultBackoffEnd c s)).power.domains &&& 4091#12 = s.power.domains &&& 4091#12 := by unfold execLinkFaultBackoffEnd; simp; (repeat' split) <;> simp

@[simp] theorem pilotFault_kept (c : Nat) (cause : Nat) (high : Int) (s : State) :
    (pilotFault c cause high s).pending = s.pending ∧ (pilotFault c cause high s).power.domains &&& 4091#12 = s.power.domains &&& 4091#12 := by unfold pilotFault; simp

@[simp] theorem pilotChanged_kept (c st : Nat) (high low : Int) (s : State) :
    (pilotChanged c st high low s).pending = s.pending ∧ (pilotChanged c st high low s).power.domains &&& 4091#12 = s.power.domains &&& 4091#12 := by unfold pilotChanged; simp

@[simp] theorem pilotActs_kept (c st : Nat) (high : Int) (s : State) :
    (pilotActs c st high s).pending = s.pending ∧ (pilotActs c st high s).power.domains &&& 4091#12 = s.power.domains &&& 4091#12 := by unfold pilotActs; simp

@[simp] theorem execPilotChange_kept (d : State) (c : Nat) (high : Int) (low : Int) (held : Nat) (s : State) :
    (outOr d (execPilotChange c high low s held)).pending = s.pending ∧ (outOr d (execPilotChange c high low s held)).power.domains &&& 4091#12 = s.power.domains &&& 4091#12 := by
  unfold execPilotChange; simp

@[simp] theorem execPilotReadbackFault_kept (c : Nat) (high : Int) (s : State) :
    (outOr s (execPilotReadbackFault c high s)).pending = s.pending ∧ (outOr s (execPilotReadbackFault c high s)).power.domains &&& 4091#12 = s.power.domains &&& 4091#12 := by unfold execPilotReadbackFault; simp; (repeat' split) <;> simp

@[simp] theorem execProximityWithoutPilot_kept (d : State) (c : Nat) (ohm : Nat) (held : Nat) (s : State) :
    (outOr d (execProximityWithoutPilot c ohm s held)).pending = s.pending ∧ (outOr d (execProximityWithoutPilot c ohm s held)).power.domains &&& 4091#12 = s.power.domains &&& 4091#12 := by
  unfold execProximityWithoutPilot; simp; (repeat' split) <;> simp

@[simp] theorem startRefresh_kept (c : Nat) (s : State) :
    (startRefresh c s).pending = s.pending ∧ (startRefresh c s).power.domains &&& 4091#12 = s.power.domains &&& 4091#12 := by unfold startRefresh; simp

@[simp] theorem postFrame_kept (c : Nat) (s : State) :
    (postFrame c s).pending = s.pending ∧ (postFrame c s).power.domains &&& 4091#12 = s.power.domains &&& 4091#12 := by unfold postFrame; simp

@[simp] theorem frameIn_kept (c : Nat) (f : VehFrame) (s : State) :
    (frameIn c f s).pending = s.pending ∧ (frameIn c f s).power.domains &&& 4091#12 = s.power.domains &&& 4091#12 := by unfold frameIn; simp

@[simp] theorem execVehicleFrame_kept (c : Nat) (f : VehFrame) (s : State) :
    (outOr s (execVehicleFrame c f s)).pending = s.pending ∧ (outOr s (execVehicleFrame c f s)).power.domains &&& 4091#12 = s.power.domains &&& 4091#12 := by unfold execVehicleFrame; simp

@[simp] theorem execToneMapRefreshDue_kept (c : Nat) (s : State) :
    (outOr s (execToneMapRefreshDue c s)).pending = s.pending ∧ (outOr s (execToneMapRefreshDue c s)).power.domains &&& 4091#12 = s.power.domains &&& 4091#12 := by unfold execToneMapRefreshDue; simp

@[simp] theorem arbitrate_kept (run : BitVec 64) (s : State) :
    (arbitrate run s).pending = s.pending ∧ (arbitrate run s).power.domains &&& 4091#12 = s.power.domains &&& 4091#12 := by unfold arbitrate; simp

@[simp] theorem execSlacMessage_kept (c : Nat) (m : SlacMsg) (s : State) :
    (outOr s (execSlacMessage c m s)).pending = s.pending ∧ (outOr s (execSlacMessage c m s)).power.domains &&& 4091#12 = s.power.domains &&& 4091#12 := by unfold execSlacMessage; (repeat' split) <;> simp

@[simp] theorem execSlacFailed_kept (c : Nat) (s : State) :
    (outOr s (execSlacFailed c s)).pending = s.pending ∧ (outOr s (execSlacFailed c s)).power.domains &&& 4091#12 = s.power.domains &&& 4091#12 := by unfold execSlacFailed; simp

@[simp] theorem execRestartFStepEnd_kept (c : Nat) (s : State) :
    (outOr s (execRestartFStepEnd c s)).pending = s.pending ∧ (outOr s (execRestartFStepEnd c s)).power.domains &&& 4091#12 = s.power.domains &&& 4091#12 := by unfold execRestartFStepEnd; simp

@[simp] theorem execLinkIdleTimeout_kept (c : Nat) (s : State) :
    (outOr s (execLinkIdleTimeout c s)).pending = s.pending ∧ (outOr s (execLinkIdleTimeout c s)).power.domains &&& 4091#12 = s.power.domains &&& 4091#12 := by unfold execLinkIdleTimeout; simp

@[simp] theorem execRelinkTimeout_kept (c : Nat) (s : State) :
    (outOr s (execRelinkTimeout c s)).pending = s.pending ∧ (outOr s (execRelinkTimeout c s)).power.domains &&& 4091#12 = s.power.domains &&& 4091#12 := by unfold execRelinkTimeout; simp

@[simp] theorem execLinkDriverFault_kept (c : Nat) (cause : Nat) (s : State) :
    (outOr s (execLinkDriverFault c cause s)).pending = s.pending ∧ (outOr s (execLinkDriverFault c cause s)).power.domains &&& 4091#12 = s.power.domains &&& 4091#12 := by unfold execLinkDriverFault; simp

@[simp] theorem connStatusOf_kept (q : Req) (s : State) :
    (connStatusOf q s).state.pending = s.pending ∧ (connStatusOf q s).state.power.domains &&& 4091#12 = s.power.domains &&& 4091#12 := by unfold connStatusOf; simp

@[simp] theorem execConnStatus_kept (c : Cmd) (s : State) :
    (outOr s (execConnStatus c s)).pending = s.pending ∧ (outOr s (execConnStatus c s)).power.domains &&& 4091#12 = s.power.domains &&& 4091#12 := by unfold execConnStatus; simp

@[simp] theorem connPilotOf_kept (q : Req) (s : State) :
    (connPilotOf q s).state.pending = s.pending ∧ (connPilotOf q s).state.power.domains &&& 4091#12 = s.power.domains &&& 4091#12 := by unfold connPilotOf; simp

@[simp] theorem execConnPilot_kept (c : Cmd) (s : State) :
    (outOr s (execConnPilot c s)).pending = s.pending ∧ (outOr s (execConnPilot c s)).power.domains &&& 4091#12 = s.power.domains &&& 4091#12 := by unfold execConnPilot; simp

@[simp] theorem linkCountersOf_kept (q : Req) (s : State) :
    (linkCountersOf q s).state.pending = s.pending ∧ (linkCountersOf q s).state.power.domains &&& 4091#12 = s.power.domains &&& 4091#12 := by unfold linkCountersOf; simp

@[simp] theorem execLinkCounters_kept (c : Cmd) (s : State) :
    (outOr s (execLinkCounters c s)).pending = s.pending ∧ (outOr s (execLinkCounters c s)).power.domains &&& 4091#12 = s.power.domains &&& 4091#12 := by unfold execLinkCounters; simp

@[simp] theorem tonemapRefreshOf_kept (q : Req) (s : State) :
    (tonemapRefreshOf q s).state.pending = s.pending ∧ (tonemapRefreshOf q s).state.power.domains &&& 4091#12 = s.power.domains &&& 4091#12 := by unfold tonemapRefreshOf; simp

@[simp] theorem execTonemapRefresh_kept (c : Cmd) (s : State) :
    (outOr s (execTonemapRefresh c s)).pending = s.pending ∧ (outOr s (execTonemapRefresh c s)).power.domains &&& 4091#12 = s.power.domains &&& 4091#12 := by unfold execTonemapRefresh; simp

@[simp] theorem slacReadOf_kept (q : Req) (s : State) :
    (slacReadOf q s).state.pending = s.pending ∧ (slacReadOf q s).state.power.domains &&& 4091#12 = s.power.domains &&& 4091#12 := by unfold slacReadOf; simp

@[simp] theorem execSlacRead_kept (c : Cmd) (s : State) :
    (outOr s (execSlacRead c s)).pending = s.pending ∧ (outOr s (execSlacRead c s)).power.domains &&& 4091#12 = s.power.domains &&& 4091#12 := by unfold execSlacRead; simp

@[simp] theorem noiseReadOf_kept (q : Req) (s : State) :
    (noiseReadOf q s).state.pending = s.pending ∧ (noiseReadOf q s).state.power.domains &&& 4091#12 = s.power.domains &&& 4091#12 := by unfold noiseReadOf; simp

@[simp] theorem execNoiseRead_kept (c : Cmd) (s : State) :
    (outOr s (execNoiseRead c s)).pending = s.pending ∧ (outOr s (execNoiseRead c s)).power.domains &&& 4091#12 = s.power.domains &&& 4091#12 := by unfold execNoiseRead; simp

end Sys2Proof.Machine
end

