-- ==== Sys2Proof/Laws/KeptSessions.lean ====
section
/-! SUPPORT. What the operations of Sessions.lean keep: the waiting commands, and the power domains (all but PD2, on which
no domain depends). -/

namespace Sys2Proof.Machine

@[simp] theorem takeRequest_kept (s : State) :
    (takeRequest s).pending = s.pending ∧ (takeRequest s).power.domains &&& 4091#12 = s.power.domains &&& 4091#12 := by unfold takeRequest; simp; (repeat' split) <;> simp

@[simp] theorem takeRequests_kept (s : State) :
    (takeRequests s).pending = s.pending ∧ (takeRequests s).power.domains &&& 4091#12 = s.power.domains &&& 4091#12 := by unfold takeRequests; simp

@[simp] theorem postRequest_kept (n : Nat) (demand : Nat) (offer : Nat) (firm : Nat) (s : State) :
    (postRequest n demand offer firm s).pending = s.pending ∧ (postRequest n demand offer firm s).power.domains &&& 4091#12 = s.power.domains &&& 4091#12 := by unfold postRequest; simp

@[simp] theorem sessionPost_kept (c : Nat) (s : State) :
    (sessionPost c s).pending = s.pending ∧ (sessionPost c s).power.domains &&& 4091#12 = s.power.domains &&& 4091#12 := by unfold sessionPost; (repeat' split) <;> simp

@[simp] theorem sessionPostIf_kept (c : Nat) (s : State) :
    (sessionPostIf c s).pending = s.pending ∧ (sessionPostIf c s).power.domains &&& 4091#12 = s.power.domains &&& 4091#12 := by unfold sessionPostIf; simp

@[simp] theorem coolStep_kept (c : Nat) (s : State) :
    (coolStep c s).pending = s.pending ∧ (coolStep c s).power.domains &&& 4091#12 = s.power.domains &&& 4091#12 := by unfold coolStep; simp

@[simp] theorem stateLimits_kept (c : Nat) (s : State) :
    (stateLimits c s).pending = s.pending ∧ (stateLimits c s).power.domains &&& 4091#12 = s.power.domains &&& 4091#12 := by unfold stateLimits; simp

@[simp] theorem ask_kept (c : Nat) (kind : Nat) (certs : List (List Byte)) (tail : List Byte) (s : State) :
    (ask c kind certs tail s).pending = s.pending ∧ (ask c kind certs tail s).power.domains &&& 4091#12 = s.power.domains &&& 4091#12 := by
 
  unfold ask; dsimp only
  exact ⟨(State.eventTo_kept ..).1, (State.eventTo_kept ..).2⟩

@[simp] theorem askAuth_kept (c : Nat) (s : State) :
    (askAuth c s).pending = s.pending ∧ (askAuth c s).power.domains &&& 4091#12 = s.power.domains &&& 4091#12 := by unfold askAuth; simp

@[simp] theorem askCerts_kept (c : Nat) (certs : List (List Byte)) (pos : Nat) (s : State) :
    (askCerts c certs pos s).pending = s.pending ∧ (askCerts c certs pos s).power.domains &&& 4091#12 = s.power.domains &&& 4091#12 := by unfold askCerts; (repeat' split) <;> simp

@[simp] theorem askTariff_kept (c : Nat) (s : State) :
    (askTariff c s).pending = s.pending ∧ (askTariff c s).power.domains &&& 4091#12 = s.power.domains &&& 4091#12 := by unfold askTariff; simp

@[simp] theorem deny_kept (c : Nat) (s : State) :
    (deny c s).pending = s.pending ∧ (deny c s).power.domains &&& 4091#12 = s.power.domains &&& 4091#12 := by unfold deny; simp

@[simp] theorem authorise_kept (c : Nat) (s : State) :
    (authorise c s).pending = s.pending ∧ (authorise c s).power.domains &&& 4091#12 = s.power.domains &&& 4091#12 := by unfold authorise; simp

@[simp] theorem execQuestionTimeout_kept (c : Nat) (s : State) :
    (outOr s (execQuestionTimeout c s)).pending = s.pending ∧ (outOr s (execQuestionTimeout c s)).power.domains &&& 4091#12 = s.power.domains &&& 4091#12 := by unfold execQuestionTimeout; simp

@[simp] theorem respond_kept (c : Nat) (code : Nat) (s : State) :
    (respond c code s).pending = s.pending ∧ (respond c code s).power.domains &&& 4091#12 = s.power.domains &&& 4091#12 := by unfold respond; simp

@[simp] theorem outOfSeq_kept (c : Nat) (code : Nat) (s : State) :
    (outOfSeq c code s).pending = s.pending ∧ (outOfSeq c code s).power.domains &&& 4091#12 = s.power.domains &&& 4091#12 := by unfold outOfSeq; simp

@[simp] theorem refuse_kept (c : Nat) (code : Nat) (kind : Nat) (s : State) :
    (refuse c code kind s).pending = s.pending ∧ (refuse c code kind s).power.domains &&& 4091#12 = s.power.domains &&& 4091#12 := by unfold refuse; simp

@[simp] theorem refuseOpen_kept (c : Nat) (kind : Nat) (s : State) :
    (refuseOpen c kind s).pending = s.pending ∧ (refuseOpen c kind s).power.domains &&& 4091#12 = s.power.domains &&& 4091#12 := by unfold refuseOpen; simp

@[simp] theorem seqOpen_kept (c : Nat) (s : State) :
    (seqOpen c s).pending = s.pending ∧ (seqOpen c s).power.domains &&& 4091#12 = s.power.domains &&& 4091#12 := by unfold seqOpen; simp

@[simp] theorem sessionNew_kept (c : Nat) (tls : Bool) (s : State) :
    (sessionNew c tls s).pending = s.pending ∧ (sessionNew c tls s).power.domains &&& 4091#12 = s.power.domains &&& 4091#12 := by unfold sessionNew; simp

@[simp] theorem onSdp_kept (c tls suites groups : Nat) (s : State) :
    (onSdp c tls suites groups s).pending = s.pending ∧ (onSdp c tls suites groups s).power.domains &&& 4091#12 = s.power.domains &&& 4091#12 := by unfold onSdp; simp

@[simp] theorem onSupportedApp_kept (c : Nat) (offers : List (Nat × Nat)) (s : State) :
    (onSupportedApp c offers s).pending = s.pending ∧ (onSupportedApp c offers s).power.domains &&& 4091#12 = s.power.domains &&& 4091#12 := by unfold onSupportedApp; simp; (repeat' split) <;> simp

@[simp] theorem onSetup_kept (c : Nat) (evccid : List Byte) (s : State) :
    (onSetup c evccid s).pending = s.pending ∧ (onSetup c evccid s).power.domains &&& 4091#12 = s.power.domains &&& 4091#12 := by unfold onSetup; simp; (repeat' split) <;> simp

@[simp] theorem onAuth_kept (c : Nat) (pnc : Bool) (emaid : List Byte) (chainOk : Bool) (certs : List (List Byte)) (s : State) :
    (onAuth c pnc emaid chainOk certs s).pending = s.pending ∧ (onAuth c pnc emaid chainOk certs s).power.domains &&& 4091#12 = s.power.domains &&& 4091#12 := by unfold onAuth; simp

@[simp] theorem onService_kept (c : Nat) (bpt : Bool) (dyn : Bool) (s : State) :
    (onService c bpt dyn s).pending = s.pending ∧ (onService c bpt dyn s).power.domains &&& 4091#12 = s.power.domains &&& 4091#12 := by unfold onService; simp

@[simp] theorem onParameters_kept (c : Nat) (l : EvLimits) (s : State) :
    (onParameters c l s).pending = s.pending ∧ (onParameters c l s).power.domains &&& 4091#12 = s.power.domains &&& 4091#12 := by unfold onParameters; simp

@[simp] theorem onCableCheck_kept (c : Nat) (s : State) :
    (onCableCheck c s).pending = s.pending ∧ (onCableCheck c s).power.domains &&& 4091#12 = s.power.domains &&& 4091#12 := by unfold onCableCheck; simp

@[simp] theorem onPreCharge_kept (c : Nat) (voltage : Nat) (current : Nat) (s : State) :
    (onPreCharge c voltage current s).pending = s.pending ∧ (onPreCharge c voltage current s).power.domains &&& 4091#12 = s.power.domains &&& 4091#12 := by unfold onPreCharge; simp

@[simp] theorem vehicleStop_kept (c : Nat) (s : State) :
    (vehicleStop c s).pending = s.pending ∧ (vehicleStop c s).power.domains &&& 4091#12 = s.power.domains &&& 4091#12 := by unfold vehicleStop; simp

@[simp] theorem onPowerDelivery_kept (c : Nat) (start : Bool) (s : State) :
    (onPowerDelivery c start s).pending = s.pending ∧ (onPowerDelivery c start s).power.domains &&& 4091#12 = s.power.domains &&& 4091#12 := by unfold onPowerDelivery; simp

@[simp] theorem onChargeLoop_kept (c : Nat) (current : Int) (l : EvLimits) (s : State) :
    (onChargeLoop c current l s).pending = s.pending ∧ (onChargeLoop c current l s).power.domains &&& 4091#12 = s.power.domains &&& 4091#12 := by
  unfold onChargeLoop; simp

@[simp] theorem onWelding_kept (c : Nat) (s : State) :
    (onWelding c s).pending = s.pending ∧ (onWelding c s).power.domains &&& 4091#12 = s.power.domains &&& 4091#12 := by unfold onWelding; simp

@[simp] theorem onSessionStop_kept (c : Nat) (s : State) :
    (onSessionStop c s).pending = s.pending ∧ (onSessionStop c s).power.domains &&& 4091#12 = s.power.domains &&& 4091#12 := by unfold onSessionStop; simp

@[simp] theorem takeFrame_kept (q : Nat) (c : Nat) (fuel : Nat) (s : State) :
    (takeFrame q c fuel s).2.pending = s.pending ∧ (takeFrame q c fuel s).2.power.domains &&& 4091#12 = s.power.domains &&& 4091#12 := by
 
  induction fuel generalizing s with
  | zero => simp [takeFrame]
  | succ k ih => unfold takeFrame; split <;> (try dsimp only) <;> (try split) <;> simp [ih]

@[simp] theorem answerVehicle_kept (c : Nat) (s : State) :
    (answerVehicle c s).pending = s.pending ∧ (answerVehicle c s).power.domains &&& 4091#12 = s.power.domains &&& 4091#12 := by
  unfold answerVehicle; (repeat' split) <;> simp

@[simp] theorem onMessage_kept (c : Nat) (m : V2gMsg) (s : State) :
    (onMessage c m s).pending = s.pending ∧ (onMessage c m s).power.domains &&& 4091#12 = s.power.domains &&& 4091#12 := by
  unfold onMessage; (repeat' split) <;> simp

@[simp] theorem execV2gMessage_kept (c : Nat) (m : V2gMsg) (s : State) :
    (outOr s (execV2gMessage c m s)).pending = s.pending ∧ (outOr s (execV2gMessage c m s)).power.domains &&& 4091#12 = s.power.domains &&& 4091#12 := by unfold execV2gMessage; (repeat' split) <;> simp

@[simp] theorem execReqPeriodExpire_kept (c : Nat) (s : State) :
    (outOr s (execReqPeriodExpire c s)).pending = s.pending ∧ (outOr s (execReqPeriodExpire c s)).power.domains &&& 4091#12 = s.power.domains &&& 4091#12 := by unfold execReqPeriodExpire; simp

@[simp] theorem execVehicleStopTimeout_kept (c : Nat) (s : State) :
    (outOr s (execVehicleStopTimeout c s)).pending = s.pending ∧ (outOr s (execVehicleStopTimeout c s)).power.domains &&& 4091#12 = s.power.domains &&& 4091#12 := by unfold execVehicleStopTimeout; simp; (repeat' split) <;> simp

@[simp] theorem sessionStatusOf_kept (q : Req) (s : State) :
    (sessionStatusOf q s).state.pending = s.pending ∧ (sessionStatusOf q s).state.power.domains &&& 4091#12 = s.power.domains &&& 4091#12 := by unfold sessionStatusOf; simp

@[simp] theorem execSessionStatus_kept (c : Cmd) (s : State) :
    (outOr s (execSessionStatus c s)).pending = s.pending ∧ (outOr s (execSessionStatus c s)).power.domains &&& 4091#12 = s.power.domains &&& 4091#12 := by unfold execSessionStatus; simp

@[simp] theorem sessionAnswerOf_kept (q : Req) (s : State) :
    (sessionAnswerOf q s).state.pending = s.pending ∧ (sessionAnswerOf q s).state.power.domains &&& 4091#12 = s.power.domains &&& 4091#12 := by unfold sessionAnswerOf; simp; (repeat' split) <;> simp

@[simp] theorem execSessionAnswer_kept (c : Cmd) (s : State) :
    (outOr s (execSessionAnswer c s)).pending = s.pending ∧ (outOr s (execSessionAnswer c s)).power.domains &&& 4091#12 = s.power.domains &&& 4091#12 := by unfold execSessionAnswer; simp

@[simp] theorem sessionTariffOf_kept (q : Req) (s : State) :
    (sessionTariffOf q s).state.pending = s.pending ∧ (sessionTariffOf q s).state.power.domains &&& 4091#12 = s.power.domains &&& 4091#12 := by unfold sessionTariffOf; (repeat' split) <;> simp

@[simp] theorem execSessionTariff_kept (c : Cmd) (s : State) :
    (outOr s (execSessionTariff c s)).pending = s.pending ∧ (outOr s (execSessionTariff c s)).power.domains &&& 4091#12 = s.power.domains &&& 4091#12 := by unfold execSessionTariff; simp

@[simp] theorem questionReadOf_kept (q : Req) (s : State) :
    (questionReadOf q s).state.pending = s.pending ∧ (questionReadOf q s).state.power.domains &&& 4091#12 = s.power.domains &&& 4091#12 := by unfold questionReadOf; simp; (repeat' split) <;> simp

@[simp] theorem execQuestionRead_kept (c : Cmd) (s : State) :
    (outOr s (execQuestionRead c s)).pending = s.pending ∧ (outOr s (execQuestionRead c s)).power.domains &&& 4091#12 = s.power.domains &&& 4091#12 := by unfold execQuestionRead; simp

@[simp] theorem sessionStopOf_kept (q : Req) (s : State) :
    (sessionStopOf q s).state.pending = s.pending ∧ (sessionStopOf q s).state.power.domains &&& 4091#12 = s.power.domains &&& 4091#12 := by unfold sessionStopOf; simp

@[simp] theorem execSessionStop_kept (c : Cmd) (s : State) :
    (outOr s (execSessionStop c s)).pending = s.pending ∧ (outOr s (execSessionStop c s)).power.domains &&& 4091#12 = s.power.domains &&& 4091#12 := by unfold execSessionStop; simp

@[simp] theorem sessionLimitOf_kept (q : Req) (s : State) :
    (sessionLimitOf q s).state.pending = s.pending ∧ (sessionLimitOf q s).state.power.domains &&& 4091#12 = s.power.domains &&& 4091#12 := by unfold sessionLimitOf; simp

@[simp] theorem execSessionLimit_kept (c : Cmd) (s : State) :
    (outOr s (execSessionLimit c s)).pending = s.pending ∧ (outOr s (execSessionLimit c s)).power.domains &&& 4091#12 = s.power.domains &&& 4091#12 := by unfold execSessionLimit; simp

@[simp] theorem sessionCountersOf_kept (q : Req) (s : State) :
    (sessionCountersOf q s).state.pending = s.pending ∧ (sessionCountersOf q s).state.power.domains &&& 4091#12 = s.power.domains &&& 4091#12 := by unfold sessionCountersOf; simp

@[simp] theorem execSessionCounters_kept (c : Cmd) (s : State) :
    (outOr s (execSessionCounters c s)).pending = s.pending ∧ (outOr s (execSessionCounters c s)).power.domains &&& 4091#12 = s.power.domains &&& 4091#12 := by unfold execSessionCounters; simp

end Sys2Proof.Machine
end

