-- ==== Sys2Proof/Laws/KeptIsland.lean ====
section
/-! SUPPORT. What the operations of Island.lean keep: the waiting commands, and the power domains (all but PD2, on which
no domain depends). -/

namespace Sys2Proof.Machine

@[simp] theorem rejudge_kept (s : State) :
    (rejudge s).pending = s.pending ∧ (rejudge s).power.domains &&& 4091#12 = s.power.domains &&& 4091#12 := by unfold rejudge; simp

@[simp] theorem axisRenew_kept (a : Nat) (s : State) :
    (axisRenew a s).pending = s.pending ∧ (axisRenew a s).power.domains &&& 4091#12 = s.power.domains &&& 4091#12 := by
  unfold axisRenew; (repeat' split) <;> simp

@[simp] theorem axisStep_kept (a : Nat) (error : Bool) (s0 : State) :
    (axisStep a error s0).pending = s0.pending ∧ (axisStep a error s0).power.domains &&& 4091#12 = s0.power.domains &&& 4091#12 := by
  unfold axisStep; simp

@[simp] theorem State.setSup_kept (s : State) (v : Supervisor) :
    (State.setSup s v).pending = s.pending ∧ (State.setSup s v).power.domains &&& 4091#12 = s.power.domains &&& 4091#12 := by unfold State.setSup; simp

@[simp] theorem retireChannel_kept (x : Nat) (cause : Nat) (s : State) :
    (retireChannel x cause s).pending = s.pending ∧ (retireChannel x cause s).power.domains &&& 4091#12 = s.power.domains &&& 4091#12 := by unfold retireChannel; simp

@[simp] theorem startPromotion_kept (x : Nat) (kind : Nat) (s : State) :
    (startPromotion x kind s).pending = s.pending ∧ (startPromotion x kind s).power.domains &&& 4091#12 = s.power.domains &&& 4091#12 := by unfold startPromotion; (repeat' split) <;> simp

@[simp] theorem voteOut_kept (x : Nat) (kind : Nat) (bitNo : Nat) (cycle : Nat) (s : State) :
    (voteOut x kind bitNo cycle s).pending = s.pending ∧ (voteOut x kind bitNo cycle s).power.domains &&& 4091#12 = s.power.domains &&& 4091#12 := by unfold voteOut; simp

@[simp] theorem execVoteMismatch_kept (channels : BitVec 4) (kind : Nat) (bitNo : Nat) (cycle : Nat) (halvesDiffer : Bool) (s : State) :
    (outOr s (execVoteMismatch channels kind bitNo cycle halvesDiffer s)).pending = s.pending ∧ (outOr s (execVoteMismatch channels kind bitNo cycle halvesDiffer s)).power.domains &&& 4091#12 = s.power.domains &&& 4091#12 := by unfold execVoteMismatch; simp; (repeat' split) <;> simp

@[simp] theorem execSafetyFrameBoundary_kept (signatures : List Word) (s : State) :
    (outOr s (execSafetyFrameBoundary signatures s)).pending = s.pending ∧ (outOr s (execSafetyFrameBoundary signatures s)).power.domains &&& 4091#12 = s.power.domains &&& 4091#12 := by unfold execSafetyFrameBoundary; simp; (repeat' split) <;> simp

@[simp] theorem execCheckpointValid_kept (s : State) :
    (outOr s (execCheckpointValid s)).pending = s.pending ∧ (outOr s (execCheckpointValid s)).power.domains &&& 4091#12 = s.power.domains &&& 4091#12 := by unfold execCheckpointValid; simp; (repeat' split) <;> simp

@[simp] theorem proofDone_kept (stage : Nat) (pass : Bool) (s : State) :
    (proofDone stage pass s).pending = s.pending ∧ (proofDone stage pass s).power.domains &&& 4091#12 = s.power.domains &&& 4091#12 := by unfold proofDone; simp

@[simp] theorem leaveMaint_kept (s : State) :
    (leaveMaint s).pending = s.pending ∧ (leaveMaint s).power.domains &&& 4091#12 = s.power.domains &&& 4091#12 := by unfold leaveMaint; simp

@[simp] theorem exitMaint_kept (s : State) :
    (exitMaint s).pending = s.pending ∧ (exitMaint s).power.domains &&& 4091#12 = s.power.domains &&& 4091#12 := by unfold exitMaint; simp

@[simp] theorem afterProof_kept (s : State) :
    (afterProof s).pending = s.pending ∧ (afterProof s).power.domains &&& 4091#12 = s.power.domains &&& 4091#12 := by unfold afterProof; simp

@[simp] theorem failPromotion_kept (stage : Nat) (s : State) :
    (failPromotion stage s).pending = s.pending ∧ (failPromotion stage s).power.domains &&& 4091#12 = s.power.domains &&& 4091#12 := by unfold failPromotion; simp; (repeat' split) <;> simp

@[simp] theorem promotionStep_kept (k : Nat) (ok : Bool) (failAs : Nat) (s : State) :
    (promotionStep k ok failAs s).pending = s.pending ∧ (promotionStep k ok failAs s).power.domains &&& 4091#12 = s.power.domains &&& 4091#12 := by unfold promotionStep; (repeat' split) <;> simp

@[simp] theorem execSparePowered_kept (s : State) :
    (outOr s (execSparePowered s)).pending = s.pending ∧ (outOr s (execSparePowered s)).power.domains &&& 4091#12 = s.power.domains &&& 4091#12 := by unfold execSparePowered; simp

@[simp] theorem execSpareSelfTestDone_kept (pass : Bool) (s : State) :
    (outOr s (execSpareSelfTestDone pass s)).pending = s.pending ∧ (outOr s (execSpareSelfTestDone pass s)).power.domains &&& 4091#12 = s.power.domains &&& 4091#12 := by unfold execSpareSelfTestDone; simp

@[simp] theorem execSpareCheckpointLoaded_kept (eccOk : Bool) (s : State) :
    (outOr s (execSpareCheckpointLoaded eccOk s)).pending = s.pending ∧ (outOr s (execSpareCheckpointLoaded eccOk s)).power.domains &&& 4091#12 = s.power.domains &&& 4091#12 := by unfold execSpareCheckpointLoaded; simp

@[simp] theorem execSpareCaughtUp_kept (s : State) :
    (outOr s (execSpareCaughtUp s)).pending = s.pending ∧ (outOr s (execSpareCaughtUp s)).power.domains &&& 4091#12 = s.power.domains &&& 4091#12 := by unfold execSpareCaughtUp; simp

@[simp] theorem execSparePromoted_kept (signatureOk : Bool) (s : State) :
    (outOr s (execSparePromoted signatureOk s)).pending = s.pending ∧ (outOr s (execSparePromoted signatureOk s)).power.domains &&& 4091#12 = s.power.domains &&& 4091#12 := by unfold execSparePromoted; simp; (repeat' split) <;> simp

@[simp] theorem execSpareFailed_kept (s : State) :
    (outOr s (execSpareFailed s)).pending = s.pending ∧ (outOr s (execSpareFailed s)).power.domains &&& 4091#12 = s.power.domains &&& 4091#12 := by unfold execSpareFailed; (repeat' split) <;> simp

@[simp] theorem execParkedSelfTestDone_kept (x : Nat) (pass : Bool) (s : State) :
    (outOr s (execParkedSelfTestDone x pass s)).pending = s.pending ∧ (outOr s (execParkedSelfTestDone x pass s)).power.domains &&& 4091#12 = s.power.domains &&& 4091#12 := by unfold execParkedSelfTestDone; simp

@[simp] theorem execSafetyStartupTestDone_kept (pass : BitVec 4) (s : State) :
    (outOr s (execSafetyStartupTestDone pass s)).pending = s.pending ∧ (outOr s (execSafetyStartupTestDone pass s)).power.domains &&& 4091#12 = s.power.domains &&& 4091#12 := by unfold execSafetyStartupTestDone; simp

@[simp] theorem referenceAxes_kept (input : Nat) (s : State) :
    (referenceAxes input s).pending = s.pending ∧ (referenceAxes input s).power.domains &&& 4091#12 = s.power.domains &&& 4091#12 := by unfold referenceAxes; simp

@[simp] theorem insulationFaults_kept (input s : State) :
    (insulationFaults input s).pending = s.pending ∧ (insulationFaults input s).power.domains &&& 4091#12 = s.power.domains &&& 4091#12 := by unfold insulationFaults; simp

@[simp] theorem imdStep_kept (o : Nat) (s : State) :
    (imdStep o s).pending = s.pending ∧ (imdStep o s).power.domains &&& 4091#12 = s.power.domains &&& 4091#12 := by unfold imdStep; simp

@[simp] theorem latchInput_kept (k : Nat) (cause : Nat) (s : State) :
    (latchInput k cause s).pending = s.pending ∧ (latchInput k cause s).power.domains &&& 4091#12 = s.power.domains &&& 4091#12 := by unfold latchInput; simp

@[simp] theorem inputMoved_kept (k : Nat) (was s : State) :
    (inputMoved k was s).pending = s.pending ∧ (inputMoved k was s).power.domains &&& 4091#12 = s.power.domains &&& 4091#12 := by unfold inputMoved; simp

@[simp] theorem execSafetyInputChange_kept (d : State) (k : Nat) (a : Bool) (b : Bool) (held : Nat) (s : State) :
    (outOr d (execSafetyInputChange k a b s held)).pending = s.pending ∧ (outOr d (execSafetyInputChange k a b s held)).power.domains &&& 4091#12 = s.power.domains &&& 4091#12 := by
  unfold execSafetyInputChange; simp

@[simp] theorem execInputDiscrepancy_kept (k : Nat) (s : State) :
    (outOr s (execInputDiscrepancy k s)).pending = s.pending ∧ (outOr s (execInputDiscrepancy k s)).power.domains &&& 4091#12 = s.power.domains &&& 4091#12 := by unfold execInputDiscrepancy; simp

@[simp] theorem execTestPulseMissed_kept (k : Nat) (s : State) :
    (outOr s (execTestPulseMissed k s)).pending = s.pending ∧ (outOr s (execTestPulseMissed k s)).power.domains &&& 4091#12 = s.power.domains &&& 4091#12 := by unfold execTestPulseMissed; simp

@[simp] theorem soutFault_kept (k : Nat) (kind : Nat) (partner : Nat) (s : State) :
    (soutFault k kind partner s).pending = s.pending ∧ (soutFault k kind partner s).power.domains &&& 4091#12 = s.power.domains &&& 4091#12 := by unfold soutFault; simp

@[simp] theorem execTestPulse_kept (k : Nat) (stillHigh : Bool) (fell : Word) (s : State) :
    (outOr s (execTestPulse k stillHigh fell s)).pending = s.pending ∧ (outOr s (execTestPulse k stillHigh fell s)).power.domains &&& 4091#12 = s.power.domains &&& 4091#12 := by unfold execTestPulse; simp

@[simp] theorem execSoutStuck_kept (d : State) (k : Nat) (high : Bool) (held : Nat) (s : State) :
    (outOr d (execSoutStuck k high s held)).pending = s.pending ∧ (outOr d (execSoutStuck k high s held)).power.domains &&& 4091#12 = s.power.domains &&& 4091#12 := by
  unfold execSoutStuck; simp

@[simp] theorem registerLimits_kept (d : State) (o : Nat) (l : VehLimits) (s : State) :
    (outOr d (registerLimits o l s)).pending = s.pending ∧ (outOr d (registerLimits o l s)).power.domains &&& 4091#12 = s.power.domains &&& 4091#12 := by
  unfold registerLimits; simp; (repeat' split) <;> simp

@[simp] theorem execVehicleLimitRegister_kept (o : Nat) (l : VehLimits) (s : State) :
    (outOr s (execVehicleLimitRegister o l s)).pending = s.pending ∧ (outOr s (execVehicleLimitRegister o l s)).power.domains &&& 4091#12 = s.power.domains &&& 4091#12 := by
 
  have hk := State.take_kept s 43
  unfold execVehicleLimitRegister; split <;> simp_all

@[simp] theorem execVehicleLimitLowered_kept (o : Nat) (s : State) :
    (outOr s (execVehicleLimitLowered o s)).pending = s.pending ∧ (outOr s (execVehicleLimitLowered o s)).power.domains &&& 4091#12 = s.power.domains &&& 4091#12 := by unfold execVehicleLimitLowered; simp; (repeat' split) <;> simp

@[simp] theorem execVehicleLimit_kept (o : Nat) (s : State) :
    (outOr s (execVehicleLimit o s)).pending = s.pending ∧ (outOr s (execVehicleLimit o s)).power.domains &&& 4091#12 = s.power.domains &&& 4091#12 := by unfold execVehicleLimit; simp; (repeat' split) <;> simp

@[simp] theorem execInsulationPassed_kept (o : Nat) (s : State) :
    (outOr s (execInsulationPassed o s)).pending = s.pending ∧ (outOr s (execInsulationPassed o s)).power.domains &&& 4091#12 = s.power.domains &&& 4091#12 := by unfold execInsulationPassed; simp

@[simp] theorem execEncoderEdge_kept (d : State) (a : Nat) (delta : Int) (frequency : Nat) (double : Bool) (s : State) :
    (outOr d (execEncoderEdge a delta frequency double s)).pending = s.pending ∧ (outOr d (execEncoderEdge a delta frequency double s)).power.domains &&& 4091#12 = s.power.domains &&& 4091#12 := by
  unfold execEncoderEdge; simp

@[simp] theorem execSafeMessageTransmit_kept (k : Nat) (s : State) :
    (outOr s (execSafeMessageTransmit k s)).pending = s.pending ∧ (outOr s (execSafeMessageTransmit k s)).power.domains &&& 4091#12 = s.power.domains &&& 4091#12 := by unfold execSafeMessageTransmit; simp

@[simp] theorem rejectSafe_kept (k : Nat) (q : Half) (cause : Nat) (s : State) :
    (rejectSafe k q cause s).pending = s.pending ∧ (rejectSafe k q cause s).power.domains &&& 4091#12 = s.power.domains &&& 4091#12 := by
  unfold rejectSafe; simp

@[simp] theorem acceptSafe_kept (k : Nat) (m : SafeMsg) (s : State) :
    (acceptSafe k m s).pending = s.pending ∧ (acceptSafe k m s).power.domains &&& 4091#12 = s.power.domains &&& 4091#12 := by unfold acceptSafe; simp

@[simp] theorem takeCopy_kept (k : Nat) (m : SafeMsg) (s : State) :
    (takeCopy k m s).pending = s.pending ∧ (takeCopy k m s).power.domains &&& 4091#12 = s.power.domains &&& 4091#12 := by
  unfold takeCopy; simp; (repeat' split) <;> simp

@[simp] theorem execSafeMessageReceive_kept (m : SafeMsg) (s : State) :
    (outOr s (execSafeMessageReceive m s)).pending = s.pending ∧ (outOr s (execSafeMessageReceive m s)).power.domains &&& 4091#12 = s.power.domains &&& 4091#12 := by
  unfold execSafeMessageReceive; simp

@[simp] theorem execSafeMsgSkewExpire_kept (k : Nat) (s : State) :
    (outOr s (execSafeMsgSkewExpire k s)).pending = s.pending ∧ (outOr s (execSafeMsgSkewExpire k s)).power.domains &&& 4091#12 = s.power.domains &&& 4091#12 := by unfold execSafeMsgSkewExpire; (repeat' split) <;> simp

@[simp] theorem loseConn_kept (k : Nat) (s : State) :
    (loseConn k s).pending = s.pending ∧ (loseConn k s).power.domains &&& 4091#12 = s.power.domains &&& 4091#12 := by unfold loseConn; simp

@[simp] theorem execSafeMsgLost_kept (k : Nat) (s : State) :
    (outOr s (execSafeMsgLost k s)).pending = s.pending ∧ (outOr s (execSafeMsgLost k s)).power.domains &&& 4091#12 = s.power.domains &&& 4091#12 := by unfold execSafeMsgLost; simp

@[simp] theorem losePort_kept (p : Nat) (s : State) :
    (losePort p s).pending = s.pending ∧ (losePort p s).power.domains &&& 4091#12 = s.power.domains &&& 4091#12 := by unfold losePort; simp

@[simp] theorem escalate_kept (o : Nat) (s : State) :
    (escalate o s).pending = s.pending ∧ (escalate o s).power.domains &&& 4091#12 = s.power.domains &&& 4091#12 := by unfold escalate; simp

@[simp] theorem execNormalSafeStateEscalate_kept (o : Nat) (s : State) :
    (outOr s (execNormalSafeStateEscalate o s)).pending = s.pending ∧ (outOr s (execNormalSafeStateEscalate o s)).power.domains &&& 4091#12 = s.power.domains &&& 4091#12 := by unfold execNormalSafeStateEscalate; simp

@[simp] theorem execEmergencyContactorOpen_kept (o : Nat) (s : State) :
    (outOr s (execEmergencyContactorOpen o s)).pending = s.pending ∧ (outOr s (execEmergencyContactorOpen o s)).power.domains &&& 4091#12 = s.power.domains &&& 4091#12 := by unfold execEmergencyContactorOpen; simp

@[simp] theorem execTHoldExpire_kept (o : Nat) (s : State) :
    (outOr s (execTHoldExpire o s)).pending = s.pending ∧ (outOr s (execTHoldExpire o s)).power.domains &&& 4091#12 = s.power.domains &&& 4091#12 := by unfold execTHoldExpire; simp

@[simp] theorem safetyStatusOf_kept (q : Req) (s : State) :
    (safetyStatusOf q s).state.pending = s.pending ∧ (safetyStatusOf q s).state.power.domains &&& 4091#12 = s.power.domains &&& 4091#12 := by
  unfold safetyStatusOf; (repeat' split) <;> simp

@[simp] theorem execSafetyStatus_kept (c : Cmd) (s : State) :
    (outOr s (execSafetyStatus c s)).pending = s.pending ∧ (outOr s (execSafetyStatus c s)).power.domains &&& 4091#12 = s.power.domains &&& 4091#12 := by unfold execSafetyStatus; simp

@[simp] theorem functionStatusOf_kept (q : Req) (s : State) :
    (functionStatusOf q s).state.pending = s.pending ∧ (functionStatusOf q s).state.power.domains &&& 4091#12 = s.power.domains &&& 4091#12 := by unfold functionStatusOf; simp

@[simp] theorem execFunctionStatus_kept (c : Cmd) (s : State) :
    (outOr s (execFunctionStatus c s)).pending = s.pending ∧ (outOr s (execFunctionStatus c s)).power.domains &&& 4091#12 = s.power.domains &&& 4091#12 := by unfold execFunctionStatus; simp

@[simp] theorem ioStatusOf_kept (q : Req) (s : State) :
    (ioStatusOf q s).state.pending = s.pending ∧ (ioStatusOf q s).state.power.domains &&& 4091#12 = s.power.domains &&& 4091#12 := by unfold ioStatusOf; simp

@[simp] theorem execIoStatus_kept (c : Cmd) (s : State) :
    (outOr s (execIoStatus c s)).pending = s.pending ∧ (outOr s (execIoStatus c s)).power.domains &&& 4091#12 = s.power.domains &&& 4091#12 := by unfold execIoStatus; simp

@[simp] theorem safeAckOf_kept (q : Req) (s : State) :
    (safeAckOf q s).state.pending = s.pending ∧ (safeAckOf q s).state.power.domains &&& 4091#12 = s.power.domains &&& 4091#12 := by unfold safeAckOf; simp

@[simp] theorem execSafeAck_kept (c : Cmd) (s : State) :
    (outOr s (execSafeAck c s)).pending = s.pending ∧ (outOr s (execSafeAck c s)).power.domains &&& 4091#12 = s.power.domains &&& 4091#12 := by unfold execSafeAck; simp

@[simp] theorem safeStateRequestOf_kept (q : Req) (s : State) :
    (safeStateRequestOf q s).state.pending = s.pending ∧ (safeStateRequestOf q s).state.power.domains &&& 4091#12 = s.power.domains &&& 4091#12 := by unfold safeStateRequestOf; simp

@[simp] theorem execSafeStateRequest_kept (c : Cmd) (s : State) :
    (outOr s (execSafeStateRequest c s)).pending = s.pending ∧ (outOr s (execSafeStateRequest c s)).power.domains &&& 4091#12 = s.power.domains &&& 4091#12 := by unfold execSafeStateRequest; simp

@[simp] theorem safeReleaseOf_kept (q : Req) (s : State) :
    (safeReleaseOf q s).state.pending = s.pending ∧ (safeReleaseOf q s).state.power.domains &&& 4091#12 = s.power.domains &&& 4091#12 := by unfold safeReleaseOf; simp

@[simp] theorem execSafeRelease_kept (c : Cmd) (s : State) :
    (outOr s (execSafeRelease c s)).pending = s.pending ∧ (outOr s (execSafeRelease c s)).power.domains &&& 4091#12 = s.power.domains &&& 4091#12 := by unfold execSafeRelease; simp

@[simp] theorem maintEnterOf_kept (q : Req) (s : State) :
    (maintEnterOf q s).state.pending = s.pending ∧ (maintEnterOf q s).state.power.domains &&& 4091#12 = s.power.domains &&& 4091#12 := by
  unfold maintEnterOf; simp

@[simp] theorem execMaintEnter_kept (c : Cmd) (s : State) :
    (outOr s (execMaintEnter c s)).pending = s.pending ∧ (outOr s (execMaintEnter c s)).power.domains &&& 4091#12 = s.power.domains &&& 4091#12 := by unfold execMaintEnter; simp

@[simp] theorem maintExitOf_kept (q : Req) (s : State) :
    (maintExitOf q s).state.pending = s.pending ∧ (maintExitOf q s).state.power.domains &&& 4091#12 = s.power.domains &&& 4091#12 := by
  unfold maintExitOf; simp

@[simp] theorem execMaintExit_kept (c : Cmd) (s : State) :
    (outOr s (execMaintExit c s)).pending = s.pending ∧ (outOr s (execMaintExit c s)).power.domains &&& 4091#12 = s.power.domains &&& 4091#12 := by unfold execMaintExit; simp

@[simp] theorem proofTestOf_kept (q : Req) (s : State) :
    (proofTestOf q s).state.pending = s.pending ∧ (proofTestOf q s).state.power.domains &&& 4091#12 = s.power.domains &&& 4091#12 := by unfold proofTestOf; simp

@[simp] theorem execProofTest_kept (c : Cmd) (s : State) :
    (outOr s (execProofTest c s)).pending = s.pending ∧ (outOr s (execProofTest c s)).power.domains &&& 4091#12 = s.power.domains &&& 4091#12 := by unfold execProofTest; simp

@[simp] theorem axisStatusOf_kept (q : Req) (s : State) :
    (axisStatusOf q s).state.pending = s.pending ∧ (axisStatusOf q s).state.power.domains &&& 4091#12 = s.power.domains &&& 4091#12 := by unfold axisStatusOf; simp

@[simp] theorem execAxisStatus_kept (c : Cmd) (s : State) :
    (outOr s (execAxisStatus c s)).pending = s.pending ∧ (outOr s (execAxisStatus c s)).power.domains &&& 4091#12 = s.power.domains &&& 4091#12 := by unfold execAxisStatus; simp

@[simp] theorem safeConnStatusOf_kept (q : Req) (s : State) :
    (safeConnStatusOf q s).state.pending = s.pending ∧ (safeConnStatusOf q s).state.power.domains &&& 4091#12 = s.power.domains &&& 4091#12 := by unfold safeConnStatusOf; simp

@[simp] theorem execSafeConnStatus_kept (c : Cmd) (s : State) :
    (outOr s (execSafeConnStatus c s)).pending = s.pending ∧ (outOr s (execSafeConnStatus c s)).power.domains &&& 4091#12 = s.power.domains &&& 4091#12 := by unfold execSafeConnStatus; simp

end Sys2Proof.Machine
end

