-- ==== Sys2Proof/Laws/KeptLoops.lean ====
section
/-! SUPPORT. What the operations of Loops.lean keep: the waiting commands, and the power domains (all but PD2, on which
no domain depends). -/

namespace Sys2Proof.Machine

@[simp] theorem setWorking_kept (k : Nat) (m : Mem) (s : State) :
    (setWorking k m s).pending = s.pending ∧ (setWorking k m s).power.domains &&& 4091#12 = s.power.domains &&& 4091#12 := by unfold setWorking; simp

@[simp] theorem slotEnable_kept (k : Nat) (s : State) :
    (slotEnable k s).pending = s.pending ∧ (slotEnable k s).power.domains &&& 4091#12 = s.power.domains &&& 4091#12 := by unfold slotEnable; simp

@[simp] theorem presetNext_kept (k : Nat) (s : State) :
    (presetNext k s).pending = s.pending ∧ (presetNext k s).power.domains &&& 4091#12 = s.power.domains &&& 4091#12 := by unfold presetNext; simp

@[simp] theorem geyserValue_kept (k : Nat) (s : State) :
    (geyserValue k s).2.pending = s.pending ∧ (geyserValue k s).2.power.domains &&& 4091#12 = s.power.domains &&& 4091#12 := by unfold geyserValue; simp

@[simp] theorem endElapsed_kept (s : State) :
    (endElapsed s).pending = s.pending ∧ (endElapsed s).power.domains &&& 4091#12 = s.power.domains &&& 4091#12 := by unfold endElapsed; simp

@[simp] theorem execGeyserDone_kept (s : State) :
    (outOr s (execGeyserDone s)).pending = s.pending ∧ (outOr s (execGeyserDone s)).power.domains &&& 4091#12 = s.power.domains &&& 4091#12 := by unfold execGeyserDone; simp

@[simp] theorem captureStep_kept (k : Nat) (s : State) :
    (captureStep k s).pending = s.pending ∧ (captureStep k s).power.domains &&& 4091#12 = s.power.domains &&& 4091#12 := by unfold captureStep; simp

@[simp] theorem renew_kept (k : Nat) (codes : List (Nat × Int)) (s : State) :
    (renew k codes s).pending = s.pending ∧ (renew k codes s).power.domains &&& 4091#12 = s.power.domains &&& 4091#12 := by
  unfold renew; simp

@[simp] theorem fallback_kept (k : Nat) (s : State) :
    (fallback k s).pending = s.pending ∧ (fallback k s).power.domains &&& 4091#12 = s.power.domains &&& 4091#12 := by unfold fallback; simp

@[simp] theorem numericFault_kept (k : Nat) (code : Nat) (s : State) :
    (numericFault k code s).pending = s.pending ∧ (numericFault k code s).power.domains &&& 4091#12 = s.power.domains &&& 4091#12 := by
  unfold numericFault; simp

@[simp] theorem loseMeas_kept (k : Nat) (s : State) :
    (loseMeas k s).pending = s.pending ∧ (loseMeas k s).power.domains &&& 4091#12 = s.power.domains &&& 4091#12 := by unfold loseMeas; simp

@[simp] theorem execLoopMeasLost_kept (k : Nat) (s : State) :
    (outOr s (execLoopMeasLost k s)).pending = s.pending ∧ (outOr s (execLoopMeasLost k s)).power.domains &&& 4091#12 = s.power.domains &&& 4091#12 := by unfold execLoopMeasLost; simp

@[simp] theorem nativeLaw_kept (k : Nat) (injOut : Word) (ts : Word) (s : State) :
    (nativeLaw k injOut ts s).2.pending = s.pending ∧ (nativeLaw k injOut ts s).2.power.domains &&& 4091#12 = s.power.domains &&& 4091#12 := by unfold nativeLaw; simp

@[simp] theorem biquadLaw_kept (k : Nat) (injOut : Word) (s : State) :
    (biquadLaw k injOut s).2.pending = s.pending ∧ (biquadLaw k injOut s).2.power.domains &&& 4091#12 = s.power.domains &&& 4091#12 := by unfold biquadLaw; simp

@[simp] theorem measure_kept (k : Nat) (injSp : Word) (s : State) :
    (measure k injSp s).pending = s.pending ∧ (measure k injSp s).power.domains &&& 4091#12 = s.power.domains &&& 4091#12 := by
  unfold measure; simp

@[simp] theorem superviseError_kept (k : Nat) (s : State) :
    (superviseError k s).pending = s.pending ∧ (superviseError k s).power.domains &&& 4091#12 = s.power.domains &&& 4091#12 := by unfold superviseError; simp

@[simp] theorem autoSample_kept (k : Nat) (cycles : Nat) (s : State) :
    (autoSample k cycles s).pending = s.pending ∧ (autoSample k cycles s).power.domains &&& 4091#12 = s.power.domains &&& 4091#12 := by
  unfold autoSample; simp

@[simp] theorem manualSample_kept (k : Nat) (s : State) :
    (manualSample k s).pending = s.pending ∧ (manualSample k s).power.domains &&& 4091#12 = s.power.domains &&& 4091#12 := by
  unfold manualSample; simp

@[simp] theorem fallbackSample_kept (k : Nat) (lost : Bool) (s : State) :
    (fallbackSample k lost s).pending = s.pending ∧ (fallbackSample k lost s).power.domains &&& 4091#12 = s.power.domains &&& 4091#12 := by
  unfold fallbackSample; simp

@[simp] theorem installEntry_kept (k : Nat) (new : Mem) (s : State) :
    (installEntry k new s).pending = s.pending ∧ (installEntry k new s).power.domains &&& 4091#12 = s.power.domains &&& 4091#12 := by
  unfold installEntry; simp

@[simp] theorem takeEntry_kept (k : Nat) (s : State) :
    (takeEntry k s).pending = s.pending ∧ (takeEntry k s).power.domains &&& 4091#12 = s.power.domains &&& 4091#12 := by unfold takeEntry; simp

@[simp] theorem applyReverts_kept (k : Nat) (s : State) : (applyReverts k s).pending = s.pending ∧ (applyReverts k s).power.domains &&& 4091#12 = s.power.domains &&& 4091#12 := by
  unfold applyReverts; simp

@[simp] theorem applyWrite_kept (k : Nat) (s : State) : (applyWrite k s).pending = s.pending ∧ (applyWrite k s).power.domains &&& 4091#12 = s.power.domains &&& 4091#12 := by
  unfold applyWrite; split <;> simp

@[simp] theorem setMode_kept (k : Nat) (ps : List Word) (s : State) :
    (setMode k ps s).pending = s.pending ∧ (setMode k ps s).power.domains &&& 4091#12 = s.power.domains &&& 4091#12 := by unfold setMode; simp

@[simp] theorem applyModes_kept (k : Nat) (lost : Bool) (s : State) : (applyModes k lost s).pending = s.pending ∧ (applyModes k lost s).power.domains &&& 4091#12 = s.power.domains &&& 4091#12 := by
  unfold applyModes
  refine overL_from s _ _ _ (fun a t => commitLive_kept _ _ _ fun u => ?_) (by simp)
  dsimp only; repeat' split
  all_goals simp

@[simp] theorem applySetpoints_kept (k : Nat) (s : State) : (applySetpoints k s).pending = s.pending ∧ (applySetpoints k s).power.domains &&& 4091#12 = s.power.domains &&& 4091#12 := by
  unfold applySetpoints; simp

@[simp] theorem startInjection_kept (k : Nat) (s : State) : (startInjection k s).pending = s.pending ∧ (startInjection k s).power.domains &&& 4091#12 = s.power.domains &&& 4091#12 := by
  unfold startInjection; split <;> simp

@[simp] theorem latchMdat_kept (codes : List (Nat × Int)) (s : State) :
    (latchMdat codes s).pending = s.pending ∧ (latchMdat codes s).power.domains &&& 4091#12 = s.power.domains &&& 4091#12 := by
  unfold latchMdat; simp

@[simp] theorem sampleBegin_kept (k : Nat) (s : State) :
    (sampleBegin k s).pending = s.pending ∧ (sampleBegin k s).power.domains &&& 4091#12 = s.power.domains &&& 4091#12 := by
  unfold sampleBegin; simp; (repeat' split) <;> simp

@[simp] theorem samplePending_kept (k : Nat) (gone : Bool) (s : State) :
    (samplePending k gone s).pending = s.pending ∧ (samplePending k gone s).power.domains &&& 4091#12 = s.power.domains &&& 4091#12 := by unfold samplePending; simp

@[simp] theorem sampleRun_kept (k : Nat) (gone : Bool) (cycles : Nat) (s : State) :
    (sampleRun k gone cycles s).pending = s.pending ∧ (sampleRun k gone cycles s).power.domains &&& 4091#12 = s.power.domains &&& 4091#12 := by
  unfold sampleRun; simp

@[simp] theorem execSlotSample_kept (d : State) (k : Nat) (codes : List (Nat × Int)) (lost : Bool) (cycles : Nat) (s : State) :
    (outOr d (execSlotSample k codes lost cycles s)).pending = s.pending ∧ (outOr d (execSlotSample k codes lost cycles s)).power.domains &&& 4091#12 = s.power.domains &&& 4091#12 := by
  unfold execSlotSample; simp

@[simp] theorem outOfTurn_kept (k : Nat) (s : State) :
    (outOfTurn k s).pending = s.pending ∧ (outOfTurn k s).power.domains &&& 4091#12 = s.power.domains &&& 4091#12 := by unfold outOfTurn; simp

@[simp] theorem grantTaken_kept (o : Nat) (s : State) :
    (grantTaken o s).pending = s.pending ∧ (grantTaken o s).power.domains &&& 4091#12 = s.power.domains &&& 4091#12 := by unfold grantTaken; simp

@[simp] theorem execLoopFollowing_kept (k : Nat) (s : State) :
    (outOr s (execLoopFollowing k s)).pending = s.pending ∧ (outOr s (execLoopFollowing k s)).power.domains &&& 4091#12 = s.power.domains &&& 4091#12 := by unfold execLoopFollowing; simp

@[simp] theorem loopStatusOf_kept (q : Req) (s : State) :
    (loopStatusOf q s).state.pending = s.pending ∧ (loopStatusOf q s).state.power.domains &&& 4091#12 = s.power.domains &&& 4091#12 := by unfold loopStatusOf; simp

@[simp] theorem execLoopStatus_kept (c : Cmd) (s : State) :
    (outOr s (execLoopStatus c s)).pending = s.pending ∧ (outOr s (execLoopStatus c s)).power.domains &&& 4091#12 = s.power.domains &&& 4091#12 := by unfold execLoopStatus; simp

@[simp] theorem loopModeOf_kept (q : Req) (s : State) :
    (loopModeOf q s).state.pending = s.pending ∧ (loopModeOf q s).state.power.domains &&& 4091#12 = s.power.domains &&& 4091#12 := by unfold loopModeOf; (repeat' split) <;> simp

@[simp] theorem execLoopMode_kept (c : Cmd) (s : State) :
    (outOr s (execLoopMode c s)).pending = s.pending ∧ (outOr s (execLoopMode c s)).power.domains &&& 4091#12 = s.power.domains &&& 4091#12 := by unfold execLoopMode; simp

@[simp] theorem loopSetpointOf_kept (q : Req) (s : State) :
    (loopSetpointOf q s).state.pending = s.pending ∧ (loopSetpointOf q s).state.power.domains &&& 4091#12 = s.power.domains &&& 4091#12 := by unfold loopSetpointOf; simp

@[simp] theorem execLoopSetpoint_kept (c : Cmd) (s : State) :
    (outOr s (execLoopSetpoint c s)).pending = s.pending ∧ (outOr s (execLoopSetpoint c s)).power.domains &&& 4091#12 = s.power.domains &&& 4091#12 := by unfold execLoopSetpoint; simp

@[simp] theorem loopCoefWriteOf_kept (q : Req) (s : State) :
    (loopCoefWriteOf q s).state.pending = s.pending ∧ (loopCoefWriteOf q s).state.power.domains &&& 4091#12 = s.power.domains &&& 4091#12 := by unfold loopCoefWriteOf; simp

@[simp] theorem execLoopCoefWrite_kept (c : Cmd) (s : State) :
    (outOr s (execLoopCoefWrite c s)).pending = s.pending ∧ (outOr s (execLoopCoefWrite c s)).power.domains &&& 4091#12 = s.power.domains &&& 4091#12 := by unfold execLoopCoefWrite; simp

@[simp] theorem loopCoefReadOf_kept (q : Req) (s : State) :
    (loopCoefReadOf q s).state.pending = s.pending ∧ (loopCoefReadOf q s).state.power.domains &&& 4091#12 = s.power.domains &&& 4091#12 := by unfold loopCoefReadOf; simp

@[simp] theorem execLoopCoefRead_kept (c : Cmd) (s : State) :
    (outOr s (execLoopCoefRead c s)).pending = s.pending ∧ (outOr s (execLoopCoefRead c s)).power.domains &&& 4091#12 = s.power.domains &&& 4091#12 := by unfold execLoopCoefRead; simp

@[simp] theorem loopRevertOf_kept (q : Req) (s : State) :
    (loopRevertOf q s).state.pending = s.pending ∧ (loopRevertOf q s).state.power.domains &&& 4091#12 = s.power.domains &&& 4091#12 := by unfold loopRevertOf; simp

@[simp] theorem execLoopRevert_kept (c : Cmd) (s : State) :
    (outOr s (execLoopRevert c s)).pending = s.pending ∧ (outOr s (execLoopRevert c s)).power.domains &&& 4091#12 = s.power.domains &&& 4091#12 := by unfold execLoopRevert; simp

@[simp] theorem loopConfigSetOf_kept (q : Req) (s : State) :
    (loopConfigSetOf q s).state.pending = s.pending ∧ (loopConfigSetOf q s).state.power.domains &&& 4091#12 = s.power.domains &&& 4091#12 := by unfold loopConfigSetOf; simp

@[simp] theorem execLoopConfigSet_kept (c : Cmd) (s : State) :
    (outOr s (execLoopConfigSet c s)).pending = s.pending ∧ (outOr s (execLoopConfigSet c s)).power.domains &&& 4091#12 = s.power.domains &&& 4091#12 := by unfold execLoopConfigSet; simp

@[simp] theorem loopCountersOf_kept (q : Req) (s : State) :
    (loopCountersOf q s).state.pending = s.pending ∧ (loopCountersOf q s).state.power.domains &&& 4091#12 = s.power.domains &&& 4091#12 := by unfold loopCountersOf; simp

@[simp] theorem execLoopCounters_kept (c : Cmd) (s : State) :
    (outOr s (execLoopCounters c s)).pending = s.pending ∧ (outOr s (execLoopCounters c s)).power.domains &&& 4091#12 = s.power.domains &&& 4091#12 := by unfold execLoopCounters; simp

@[simp] theorem geyserInjectOf_kept (q : Req) (s : State) :
    (geyserInjectOf q s).state.pending = s.pending ∧ (geyserInjectOf q s).state.power.domains &&& 4091#12 = s.power.domains &&& 4091#12 := by unfold geyserInjectOf; simp

@[simp] theorem execGeyserInject_kept (c : Cmd) (s : State) :
    (outOr s (execGeyserInject c s)).pending = s.pending ∧ (outOr s (execGeyserInject c s)).power.domains &&& 4091#12 = s.power.domains &&& 4091#12 := by unfold execGeyserInject; simp

@[simp] theorem geyserArmOf_kept (q : Req) (s : State) :
    (geyserArmOf q s).state.pending = s.pending ∧ (geyserArmOf q s).state.power.domains &&& 4091#12 = s.power.domains &&& 4091#12 := by unfold geyserArmOf; simp

@[simp] theorem execGeyserArm_kept (c : Cmd) (s : State) :
    (outOr s (execGeyserArm c s)).pending = s.pending ∧ (outOr s (execGeyserArm c s)).power.domains &&& 4091#12 = s.power.domains &&& 4091#12 := by unfold execGeyserArm; simp

@[simp] theorem geyserStatusOf_kept (q : Req) (s : State) :
    (geyserStatusOf q s).state.pending = s.pending ∧ (geyserStatusOf q s).state.power.domains &&& 4091#12 = s.power.domains &&& 4091#12 := by
  unfold geyserStatusOf; simp

@[simp] theorem execGeyserStatus_kept (c : Cmd) (s : State) :
    (outOr s (execGeyserStatus c s)).pending = s.pending ∧ (outOr s (execGeyserStatus c s)).power.domains &&& 4091#12 = s.power.domains &&& 4091#12 := by unfold execGeyserStatus; simp

@[simp] theorem geyserReadOf_kept (q : Req) (s : State) : (geyserReadOf q s).state.pending = s.pending ∧ (geyserReadOf q s).state.power.domains &&& 4091#12 = s.power.domains &&& 4091#12 := by
  unfold geyserReadOf; dsimp only; repeat' split
  all_goals first | (simp; done) | (rename_i h; exact writeBuf_kept _ _ _ _ h)

@[simp] theorem execGeyserRead_kept (c : Cmd) (s : State) :
    (outOr s (execGeyserRead c s)).pending = s.pending ∧ (outOr s (execGeyserRead c s)).power.domains &&& 4091#12 = s.power.domains &&& 4091#12 := by unfold execGeyserRead; simp

@[simp] theorem geyserStopOf_kept (q : Req) (s : State) :
    (geyserStopOf q s).state.pending = s.pending ∧ (geyserStopOf q s).state.power.domains &&& 4091#12 = s.power.domains &&& 4091#12 := by unfold geyserStopOf; simp

@[simp] theorem execGeyserStop_kept (c : Cmd) (s : State) :
    (outOr s (execGeyserStop c s)).pending = s.pending ∧ (outOr s (execGeyserStop c s)).power.domains &&& 4091#12 = s.power.domains &&& 4091#12 := by unfold execGeyserStop; simp

end Sys2Proof.Machine
end

