-- ==== Sys2Proof/Laws/KeptTree.lean ====
section
/-! SUPPORT. What the operations of Tree.lean keep: the waiting commands, and the power domains (all but PD2, on which
no domain depends). -/

namespace Sys2Proof.Machine

@[simp] theorem State.under_kept (s : State) (c : SiteCfg) :
    (State.under s c).pending = s.pending ∧ (State.under s c).power.domains &&& 4091#12 = s.power.domains &&& 4091#12 := by unfold State.under; simp

@[simp] theorem dropCurtail_kept (n : Nat) (dir : Nat) (s : State) :
    (dropCurtail n dir s).pending = s.pending ∧ (dropCurtail n dir s).power.domains &&& 4091#12 = s.power.domains &&& 4091#12 := by unfold dropCurtail; simp

@[simp] theorem nodeReadOf_kept (q : Req) (s : State) :
    (nodeReadOf q s).state.pending = s.pending ∧ (nodeReadOf q s).state.power.domains &&& 4091#12 = s.power.domains &&& 4091#12 := by unfold nodeReadOf; simp

@[simp] theorem execNodeRead_kept (c : Cmd) (s : State) :
    (outOr s (execNodeRead c s)).pending = s.pending ∧ (outOr s (execNodeRead c s)).power.domains &&& 4091#12 = s.power.domains &&& 4091#12 := by unfold execNodeRead; simp

@[simp] theorem nodeStateOf_kept (q : Req) (s : State) :
    (nodeStateOf q s).state.pending = s.pending ∧ (nodeStateOf q s).state.power.domains &&& 4091#12 = s.power.domains &&& 4091#12 := by unfold nodeStateOf; simp

@[simp] theorem execNodeState_kept (c : Cmd) (s : State) :
    (outOr s (execNodeState c s)).pending = s.pending ∧ (outOr s (execNodeState c s)).power.domains &&& 4091#12 = s.power.domains &&& 4091#12 := by unfold execNodeState; simp

@[simp] theorem treeInvalid_kept (n : Nat) (reason : Nat) (s : State) :
    (treeInvalid n reason s).state.pending = s.pending ∧ (treeInvalid n reason s).state.power.domains &&& 4091#12 = s.power.domains &&& 4091#12 := by unfold treeInvalid; simp

@[simp] theorem pushed_kept (e : Edit) (s : State) :
    (pushed e s).state.pending = s.pending ∧ (pushed e s).state.power.domains &&& 4091#12 = s.power.domains &&& 4091#12 := by
  unfold pushed; split
  · simp
  · rename_i h; exact State.pushEdit_kept _ _ _ h

@[simp] theorem editNode_kept (n : Nat) (m : Mem) (inUse : Bool) (e : Edit) (s : State) :
    (editNode n m inUse e s).state.pending = s.pending ∧ (editNode n m inUse e s).state.power.domains &&& 4091#12 = s.power.domains &&& 4091#12 := by unfold editNode; (repeat' split) <;> simp

@[simp] theorem nodeAddOf_kept (q : Req) (s : State) :
    (nodeAddOf q s).state.pending = s.pending ∧ (nodeAddOf q s).state.power.domains &&& 4091#12 = s.power.domains &&& 4091#12 := by unfold nodeAddOf; simp

@[simp] theorem execNodeAdd_kept (c : Cmd) (s : State) :
    (outOr s (execNodeAdd c s)).pending = s.pending ∧ (outOr s (execNodeAdd c s)).power.domains &&& 4091#12 = s.power.domains &&& 4091#12 := by unfold execNodeAdd; simp

@[simp] theorem nodeRemoveOf_kept (q : Req) (s : State) :
    (nodeRemoveOf q s).state.pending = s.pending ∧ (nodeRemoveOf q s).state.power.domains &&& 4091#12 = s.power.domains &&& 4091#12 := by unfold nodeRemoveOf; simp

@[simp] theorem execNodeRemove_kept (c : Cmd) (s : State) :
    (outOr s (execNodeRemove c s)).pending = s.pending ∧ (outOr s (execNodeRemove c s)).power.domains &&& 4091#12 = s.power.domains &&& 4091#12 := by unfold execNodeRemove; simp

@[simp] theorem nodeSetOf_kept (q : Req) (s : State) :
    (nodeSetOf q s).state.pending = s.pending ∧ (nodeSetOf q s).state.power.domains &&& 4091#12 = s.power.domains &&& 4091#12 := by unfold nodeSetOf; simp

@[simp] theorem execNodeSet_kept (c : Cmd) (s : State) :
    (outOr s (execNodeSet c s)).pending = s.pending ∧ (outOr s (execNodeSet c s)).power.domains &&& 4091#12 = s.power.domains &&& 4091#12 := by unfold execNodeSet; simp

@[simp] theorem nodeMoveOf_kept (q : Req) (s : State) :
    (nodeMoveOf q s).state.pending = s.pending ∧ (nodeMoveOf q s).state.power.domains &&& 4091#12 = s.power.domains &&& 4091#12 := by unfold nodeMoveOf; simp

@[simp] theorem execNodeMove_kept (c : Cmd) (s : State) :
    (outOr s (execNodeMove c s)).pending = s.pending ∧ (outOr s (execNodeMove c s)).power.domains &&& 4091#12 = s.power.domains &&& 4091#12 := by unfold execNodeMove; simp

@[simp] theorem treeCheckOf_kept (q : Req) (s : State) :
    (treeCheckOf q s).state.pending = s.pending ∧ (treeCheckOf q s).state.power.domains &&& 4091#12 = s.power.domains &&& 4091#12 := by unfold treeCheckOf; simp

@[simp] theorem execTreeCheck_kept (c : Cmd) (s : State) :
    (outOr s (execTreeCheck c s)).pending = s.pending ∧ (outOr s (execTreeCheck c s)).power.domains &&& 4091#12 = s.power.domains &&& 4091#12 := by unfold execTreeCheck; simp

@[simp] theorem treeListOf_kept (q : Req) (s : State) :
    (treeListOf q s).state.pending = s.pending ∧ (treeListOf q s).state.power.domains &&& 4091#12 = s.power.domains &&& 4091#12 := by unfold treeListOf; simp

@[simp] theorem execTreeList_kept (c : Cmd) (s : State) :
    (outOr s (execTreeList c s)).pending = s.pending ∧ (outOr s (execTreeList c s)).power.domains &&& 4091#12 = s.power.domains &&& 4091#12 := by unfold execTreeList; simp

end Sys2Proof.Machine
end

