-- ==== Sys2Proof/Laws/KeptAlloc.lean ====
section
/-! SUPPORT. What the operations of Alloc.lean keep: the waiting commands, and the power domains (all but PD2, on which
no domain depends). -/

namespace Sys2Proof.Machine

@[simp] theorem alignPeriod_kept (s : State) :
    (alignPeriod s).pending = s.pending ∧ (alignPeriod s).power.domains &&& 4091#12 = s.power.domains &&& 4091#12 := by unfold alignPeriod; simp

@[simp] theorem unalignPeriod_kept (s : State) :
    (unalignPeriod s).pending = s.pending ∧ (unalignPeriod s).power.domains &&& 4091#12 = s.power.domains &&& 4091#12 := by unfold unalignPeriod; simp

@[simp] theorem senseStep_kept (n : Nat) (k : Nat) (s : State) :
    (senseStep n k s).pending = s.pending ∧ (senseStep n k s).power.domains &&& 4091#12 = s.power.domains &&& 4091#12 := by unfold senseStep; simp; (repeat' split) <;> simp

@[simp] theorem execSensorRetired_kept (n : Nat) (k : Nat) (s : State) :
    (outOr s (execSensorRetired n k s)).pending = s.pending ∧ (outOr s (execSensorRetired n k s)).power.domains &&& 4091#12 = s.power.domains &&& 4091#12 := by unfold execSensorRetired; simp

@[simp] theorem thermStep_kept (n : Nat) (s : State) :
    (thermStep n s).pending = s.pending ∧ (thermStep n s).power.domains &&& 4091#12 = s.power.domains &&& 4091#12 := by unfold thermStep; simp

@[simp] theorem windowStep_kept (n : Nat) (s : State) :
    (windowStep n s).pending = s.pending ∧ (windowStep n s).power.domains &&& 4091#12 = s.power.domains &&& 4091#12 := by unfold windowStep; simp

@[simp] theorem voltStep_kept (n : Nat) (s : State) :
    (voltStep n s).pending = s.pending ∧ (voltStep n s).power.domains &&& 4091#12 = s.power.domains &&& 4091#12 := by unfold voltStep; simp; (repeat' split) <;> simp

@[simp] theorem sendGrants_kept (b : Block) (g : Nat) (s : State) :
    (sendGrants b g s).pending = s.pending ∧ (sendGrants b g s).power.domains &&& 4091#12 = s.power.domains &&& 4091#12 := by
 
  unfold sendGrants; dsimp only; split
  · simp
  · exact State.via_kept _ _ _ _ fun t => by simp

@[simp] theorem dropGrants_kept (n : Nat) (s : State) :
    (dropGrants n s).pending = s.pending ∧ (dropGrants n s).power.domains &&& 4091#12 = s.power.domains &&& 4091#12 := by unfold dropGrants; simp

@[simp] theorem islandGrant_kept (b : Block) (o : Nat) (s : State) :
    (islandGrant b o s).pending = s.pending ∧ (islandGrant b o s).power.domains &&& 4091#12 = s.power.domains &&& 4091#12 := by unfold islandGrant; (repeat' split) <;> simp

@[simp] theorem takeForce_kept (b : Block) (s : State) :
    (takeForce b s).pending = s.pending ∧ (takeForce b s).power.domains &&& 4091#12 = s.power.domains &&& 4091#12 := by unfold takeForce; simp

@[simp] theorem takeEntries_kept (s : State) :
    (takeEntries s).2.pending = s.pending ∧ (takeEntries s).2.power.domains &&& 4091#12 = s.power.domains &&& 4091#12 := by unfold takeEntries; simp

@[simp] theorem postBlock_kept (b : Block) (s : State) :
    (postBlock b s).pending = s.pending ∧ (postBlock b s).power.domains &&& 4091#12 = s.power.domains &&& 4091#12 := by unfold postBlock; simp

@[simp] theorem supersede_kept (s : State) :
    (supersede s).pending = s.pending ∧ (supersede s).power.domains &&& 4091#12 = s.power.domains &&& 4091#12 := by unfold supersede; simp

@[simp] theorem overrun_kept (late : Block) (n : Nat) (s : State) :
    (overrun late n s).pending = s.pending ∧ (overrun late n s).power.domains &&& 4091#12 = s.power.domains &&& 4091#12 := by unfold overrun; simp

@[simp] theorem execAllocOverrun_kept (s : State) :
    (outOr s (execAllocOverrun s)).pending = s.pending ∧ (outOr s (execAllocOverrun s)).power.domains &&& 4091#12 = s.power.domains &&& 4091#12 := by unfold execAllocOverrun; (repeat' split) <;> simp

@[simp] theorem execGrantBlockPublish_kept (solve : Nat) (s : State) :
    (outOr s (execGrantBlockPublish solve s)).pending = s.pending ∧ (outOr s (execGrantBlockPublish solve s)).power.domains &&& 4091#12 = s.power.domains &&& 4091#12 := by unfold execGrantBlockPublish; (repeat' split) <;> simp

@[simp] theorem snapApply_kept (age : Nat) (e : SnapEntry) (s : State) : (snapApply age e s).2.pending = s.pending ∧ (snapApply age e s).2.power.domains &&& 4091#12 = s.power.domains &&& 4091#12 := by
  unfold snapApply; split <;> exact ⟨rfl, rfl⟩

theorem snapFold_kept (age : Nat) (l : List SnapEntry) (a : Nat × Nat × State) :
    Kept a.2.2 (l.foldl (fun (a : Nat × Nat × State) e =>
      let x := snapApply age e a.2.2
      if x.1 then (a.1 + 1, a.2.1, x.2) else (a.1, a.2.1 + 1, x.2)) a).2.2 := by
  induction l generalizing a with
  | nil => simp
  | cons e r ih =>
    rw [List.foldl_cons]
    refine ⟨(ih _).1.trans ?_, (ih _).2.trans ?_⟩ <;> (dsimp only; split <;> simp)

@[simp] theorem snapCommit_kept (s : State) : (snapCommit s).pending = s.pending ∧ (snapCommit s).power.domains &&& 4091#12 = s.power.domains &&& 4091#12 := by
  unfold snapCommit
  refine overL_from _ _ _ _ (fun l t => commitLive_kept _ _ _ fun u => ?_) (overL_from _ _ _ _ (fun l t => by simp) (by simp))
  dsimp only; split
  · simp
  · split
    · simp
    · split
      · simp
      · have h := snapFold_kept (u.time - leNat ((List.drop 8 (l.keep.map fun x => BitVec.ofNat 8 x.toNat)).take 8))
          ((snapParse (l.keep.map fun x => BitVec.ofNat 8 x.toNat)).getD []) (0, 0, u)
        exact ⟨(State.finish_kept ..).1.trans h.1, (State.finish_kept ..).2.trans h.2⟩

@[simp] theorem solve_kept (s : State) :
    (solve s).pending = s.pending ∧ (solve s).power.domains &&& 4091#12 = s.power.domains &&& 4091#12 := by unfold solve; simp

@[simp] theorem applyHeld_kept (fuel : Nat) (s : State) : (applyHeld fuel s).pending = s.pending ∧ (applyHeld fuel s).power.domains &&& 4091#12 = s.power.domains &&& 4091#12 := by
  induction fuel generalizing s with
  | zero => simp [applyHeld]
  | succ k ih =>
    unfold applyHeld; dsimp only; split
    · simp
    · split
      · simp
      · split <;> simp [ih]

@[simp] theorem periodBoundary_kept (s : State) :
    (periodBoundary s).pending = s.pending ∧ (periodBoundary s).power.domains &&& 4091#12 = s.power.domains &&& 4091#12 := by
  unfold periodBoundary; (repeat' split) <;> simp

@[simp] theorem execPeriodBoundary_kept (s : State) :
    (outOr s (execPeriodBoundary s)).pending = s.pending ∧ (outOr s (execPeriodBoundary s)).power.domains &&& 4091#12 = s.power.domains &&& 4091#12 := by unfold execPeriodBoundary; (repeat' split) <;> simp

@[simp] theorem afterSnapshot_kept (s : State) :
    (afterSnapshot s).pending = s.pending ∧ (afterSnapshot s).power.domains &&& 4091#12 = s.power.domains &&& 4091#12 := by
  unfold afterSnapshot; simp

@[simp] theorem execCurtailExpire_kept (d : State) (n : Nat) (dir : Nat) (s : State) :
    (outOr d (execCurtailExpire n dir s)).pending = s.pending ∧ (outOr d (execCurtailExpire n dir s)).power.domains &&& 4091#12 = s.power.domains &&& 4091#12 := by
  unfold execCurtailExpire; (repeat' split) <;> simp

@[simp] theorem nodeCurtailOf_kept (q : Req) (s : State) :
    (nodeCurtailOf q s).state.pending = s.pending ∧ (nodeCurtailOf q s).state.power.domains &&& 4091#12 = s.power.domains &&& 4091#12 := by
  unfold nodeCurtailOf; (repeat' split) <;> simp

@[simp] theorem execNodeCurtail_kept (d : State) (c : Cmd) (s : State) :
    (outOr d (execNodeCurtail c s)).pending = s.pending ∧ (outOr d (execNodeCurtail c s)).power.domains &&& 4091#12 = s.power.domains &&& 4091#12 := by
  unfold execNodeCurtail; simp

@[simp] theorem execGrantExceeded_kept (o : Nat) (s : State) :
    (outOr s (execGrantExceeded o s)).pending = s.pending ∧ (outOr s (execGrantExceeded o s)).power.domains &&& 4091#12 = s.power.domains &&& 4091#12 := by unfold execGrantExceeded; simp

@[simp] theorem allocStatusOf_kept (q : Req) (s : State) :
    (allocStatusOf q s).state.pending = s.pending ∧ (allocStatusOf q s).state.power.domains &&& 4091#12 = s.power.domains &&& 4091#12 := by unfold allocStatusOf; simp

@[simp] theorem execAllocStatus_kept (c : Cmd) (s : State) :
    (outOr s (execAllocStatus c s)).pending = s.pending ∧ (outOr s (execAllocStatus c s)).power.domains &&& 4091#12 = s.power.domains &&& 4091#12 := by unfold execAllocStatus; simp

@[simp] theorem snapshotSaveOf_kept (q : Req) (s : State) :
    (snapshotSaveOf q s).state.pending = s.pending ∧ (snapshotSaveOf q s).state.power.domains &&& 4091#12 = s.power.domains &&& 4091#12 := by unfold snapshotSaveOf; (repeat' split) <;> simp

@[simp] theorem execSnapshotSave_kept (c : Cmd) (s : State) :
    (outOr s (execSnapshotSave c s)).pending = s.pending ∧ (outOr s (execSnapshotSave c s)).power.domains &&& 4091#12 = s.power.domains &&& 4091#12 := by unfold execSnapshotSave; simp

@[simp] theorem snapshotRestoreOf_kept (q : Req) (s : State) :
    (snapshotRestoreOf q s).state.pending = s.pending ∧ (snapshotRestoreOf q s).state.power.domains &&& 4091#12 = s.power.domains &&& 4091#12 := by unfold snapshotRestoreOf; (repeat' split) <;> simp

@[simp] theorem execSnapshotRestore_kept (c : Cmd) (s : State) :
    (outOr s (execSnapshotRestore c s)).pending = s.pending ∧ (outOr s (execSnapshotRestore c s)).power.domains &&& 4091#12 = s.power.domains &&& 4091#12 := by unfold execSnapshotRestore; simp

@[simp] theorem sensorStateOf_kept (q : Req) (s : State) :
    (sensorStateOf q s).state.pending = s.pending ∧ (sensorStateOf q s).state.power.domains &&& 4091#12 = s.power.domains &&& 4091#12 := by unfold sensorStateOf; simp

@[simp] theorem execSensorState_kept (c : Cmd) (s : State) :
    (outOr s (execSensorState c s)).pending = s.pending ∧ (outOr s (execSensorState c s)).power.domains &&& 4091#12 = s.power.domains &&& 4091#12 := by unfold execSensorState; simp

@[simp] theorem windowReadOf_kept (q : Req) (s : State) :
    (windowReadOf q s).state.pending = s.pending ∧ (windowReadOf q s).state.power.domains &&& 4091#12 = s.power.domains &&& 4091#12 := by unfold windowReadOf; simp

@[simp] theorem execWindowRead_kept (c : Cmd) (s : State) :
    (outOr s (execWindowRead c s)).pending = s.pending ∧ (outOr s (execWindowRead c s)).power.domains &&& 4091#12 = s.power.domains &&& 4091#12 := by unfold execWindowRead; simp

end Sys2Proof.Machine
end

