-- ==== Sys2Proof/Laws/KeptMeter.lean ====
section
/-! SUPPORT. What the operations of Meter.lean keep: the waiting commands, and the power domains (all but PD2, on which
no domain depends). -/

namespace Sys2Proof.Machine

@[simp] theorem stepChannel_kept (codes : List Int) (quiet : BitVec 48) (c : Nat) (s : State) :
    (stepChannel codes quiet c s).pending = s.pending ∧ (stepChannel codes quiet c s).power.domains &&& 4091#12 = s.power.domains &&& 4091#12 := by unfold stepChannel; simp

@[simp] theorem markRecord_kept (p : Nat) (flags : Half) (s : State) :
    (markRecord p flags s).pending = s.pending ∧ (markRecord p flags s).power.domains &&& 4091#12 = s.power.domains &&& 4091#12 := by unfold markRecord; simp

@[simp] theorem stepFault_kept (p : Nat) (s : State) :
    (stepFault p s).pending = s.pending ∧ (stepFault p s).power.domains &&& 4091#12 = s.power.domains &&& 4091#12 := by unfold stepFault; (repeat' split) <;> simp

@[simp] theorem stepShunt_kept (p : Nat) (s : State) :
    (stepShunt p s).pending = s.pending ∧ (stepShunt p s).power.domains &&& 4091#12 = s.power.domains &&& 4091#12 := by unfold stepShunt; simp

@[simp] theorem sampleDc_kept (p : Nat) (codes : List Int) (s : State) :
    (sampleDc p codes s).pending = s.pending ∧ (sampleDc p codes s).power.domains &&& 4091#12 = s.power.domains &&& 4091#12 := by unfold sampleDc; simp

@[simp] theorem sampleAc_kept (p : Nat) (codes : List Int) (s : State) :
    (sampleAc p codes s).pending = s.pending ∧ (sampleAc p codes s).power.domains &&& 4091#12 = s.power.domains &&& 4091#12 := by unfold sampleAc; simp

@[simp] theorem addReg_kept (p : Nat) (k : Nat) (e : Nat) (s : State) :
    (addReg p k e s).pending = s.pending ∧ (addReg p k e s).power.domains &&& 4091#12 = s.power.domains &&& 4091#12 := by unfold addReg; simp

@[simp] theorem countSample_kept (p : Nat) (s : State) :
    (countSample p s).pending = s.pending ∧ (countSample p s).power.domains &&& 4091#12 = s.power.domains &&& 4091#12 := by unfold countSample; simp

@[simp] theorem stepPoint_kept (codes : List Int) (p : Nat) (s : State) :
    (stepPoint codes p s).pending = s.pending ∧ (stepPoint codes p s).power.domains &&& 4091#12 = s.power.domains &&& 4091#12 := by unfold stepPoint; simp; (repeat' split) <;> simp

@[simp] theorem readReset_kept (p : Nat) (s : State) :
    (readReset p s).pending = s.pending ∧ (readReset p s).power.domains &&& 4091#12 = s.power.domains &&& 4091#12 := by unfold readReset; simp

@[simp] theorem serveReads_kept (p : Nat) (s : State) :
    (serveReads p s).2.pending = s.pending ∧ (serveReads p s).2.power.domains &&& 4091#12 = s.power.domains &&& 4091#12 := by unfold serveReads; simp; (repeat' split) <;> simp

@[simp] theorem openRecord_kept (p : Nat) (s : State) :
    (openRecord p s).pending = s.pending ∧ (openRecord p s).power.domains &&& 4091#12 = s.power.domains &&& 4091#12 := by unfold openRecord; simp

@[simp] theorem staleRecord_kept (s : State) :
    (staleRecord s).pending = s.pending ∧ (staleRecord s).power.domains &&& 4091#12 = s.power.domains &&& 4091#12 := by unfold staleRecord; simp

@[simp] theorem closeRecord_kept (p : Nat) (s : State) :
    (closeRecord p s).pending = s.pending ∧ (closeRecord p s).power.domains &&& 4091#12 = s.power.domains &&& 4091#12 := by unfold closeRecord; simp

@[simp] theorem stepRecord_kept (p : Nat) (served : Bool) (s : State) :
    (stepRecord p served s).pending = s.pending ∧ (stepRecord p served s).power.domains &&& 4091#12 = s.power.domains &&& 4091#12 := by unfold stepRecord; simp

@[simp] theorem storeRecord_kept (r : MRecord) (counter : Bool) (s : State) :
    (storeRecord r counter s).pending = s.pending ∧ (storeRecord r counter s).power.domains &&& 4091#12 = s.power.domains &&& 4091#12 := by
  unfold storeRecord; simp

@[simp] theorem execRecordSigned_kept (recno : Nat) (s : State) :
    (outOr s (execRecordSigned recno s)).pending = s.pending ∧ (outOr s (execRecordSigned recno s)).power.domains &&& 4091#12 = s.power.domains &&& 4091#12 := by
 
  unfold execRecordSigned; split
  · simp
  · dsimp only; split
    · simp
    · exact State.via_kept _ _ _ _ fun _ => State.via_kept _ _ _ _ fun _ => State.via_kept _ _ _ _ fun _ => storeRecord_kept ..

@[simp] theorem measureOut_kept (o : Nat) (s : State) :
    (measureOut o s).pending = s.pending ∧ (measureOut o s).power.domains &&& 4091#12 = s.power.domains &&& 4091#12 := by
  unfold measureOut; simp

@[simp] theorem sequenceOut_kept (o : Nat) (s : State) :
    (sequenceOut o s).pending = s.pending ∧ (sequenceOut o s).power.domains &&& 4091#12 = s.power.domains &&& 4091#12 := by
  unfold sequenceOut; simp

@[simp] theorem islandOut_kept (o : Nat) (s : State) :
    (islandOut o s).pending = s.pending ∧ (islandOut o s).power.domains &&& 4091#12 = s.power.domains &&& 4091#12 := by
  unfold islandOut; (repeat' split) <;> simp

@[simp] theorem samplePoints_kept (codes : List Int) (quiet : BitVec 48) (s : State) :
    (samplePoints codes quiet s).pending = s.pending ∧ (samplePoints codes quiet s).power.domains &&& 4091#12 = s.power.domains &&& 4091#12 := by unfold samplePoints; simp

@[simp] theorem sampleReads_kept (s : State) :
    (sampleReads s).pending = s.pending ∧ (sampleReads s).power.domains &&& 4091#12 = s.power.domains &&& 4091#12 := by unfold sampleReads; simp

@[simp] theorem samplePosts_kept (s : State) :
    (samplePosts s).pending = s.pending ∧ (samplePosts s).power.domains &&& 4091#12 = s.power.domains &&& 4091#12 := by unfold samplePosts; simp

@[simp] theorem meteringStrobe_kept (s : State) :
    (meteringStrobe s).pending = s.pending ∧ (meteringStrobe s).power.domains &&& 4091#12 = s.power.domains &&& 4091#12 := by unfold meteringStrobe; simp

@[simp] theorem storeSave_kept (reason : Nat) (s : State) :
    (storeSave reason s).pending = s.pending ∧ (storeSave reason s).power.domains &&& 4091#12 = s.power.domains &&& 4091#12 := by
  unfold storeSave; (repeat' split) <;> simp

@[simp] theorem writeSave_kept (reason : Nat) (s : State) :
    (writeSave reason s).pending = s.pending ∧ (writeSave reason s).power.domains &&& 4091#12 = s.power.domains &&& 4091#12 := by unfold writeSave; (repeat' split) <;> simp

@[simp] theorem saveAtBoundary_kept (s : State) :
    (saveAtBoundary s).pending = s.pending ∧ (saveAtBoundary s).power.domains &&& 4091#12 = s.power.domains &&& 4091#12 := by
  unfold saveAtBoundary; (repeat' split) <;> simp

@[simp] theorem nextBoundary_kept (s : State) :
    (nextBoundary s).pending = s.pending ∧ (nextBoundary s).power.domains &&& 4091#12 = s.power.domains &&& 4091#12 := by unfold nextBoundary; simp

@[simp] theorem execSampleBoundary_kept (codes : List Int) (quiet : BitVec 48) (s : State) :
    (outOr s (execSampleBoundary codes quiet s)).pending = s.pending ∧ (outOr s (execSampleBoundary codes quiet s)).power.domains &&& 4091#12 = s.power.domains &&& 4091#12 := by unfold execSampleBoundary; simp

@[simp] theorem writeAnchor_kept (s : State) :
    (writeAnchor s).pending = s.pending ∧ (writeAnchor s).power.domains &&& 4091#12 = s.power.domains &&& 4091#12 := by unfold writeAnchor; simp

@[simp] theorem orderlySave_kept (s : State) :
    (orderlySave s).pending = s.pending ∧ (orderlySave s).power.domains &&& 4091#12 = s.power.domains &&& 4091#12 := by unfold orderlySave; simp

@[simp] theorem noteSkipped_kept (s : State) :
    (noteSkipped s).pending = s.pending ∧ (noteSkipped s).power.domains &&& 4091#12 = s.power.domains &&& 4091#12 := by unfold noteSkipped; simp

@[simp] theorem execPeriodicSave_kept (s : State) :
    (outOr s (execPeriodicSave s)).pending = s.pending ∧ (outOr s (execPeriodicSave s)).power.domains &&& 4091#12 = s.power.domains &&& 4091#12 := by unfold execPeriodicSave; simp

@[simp] theorem execTotaliserAnchorWrite_kept (s : State) :
    (outOr s (execTotaliserAnchorWrite s)).pending = s.pending ∧ (outOr s (execTotaliserAnchorWrite s)).power.domains &&& 4091#12 = s.power.domains &&& 4091#12 := by unfold execTotaliserAnchorWrite; simp

@[simp] theorem execPowerFailWarning_kept (d : State) (external : Bool) (held : Nat) (s : State) :
    (outOr d (execPowerFailWarning external s held)).pending = s.pending ∧ (outOr d (execPowerFailWarning external s held)).power.domains &&& 4091#12 = s.power.domains &&& 4091#12 := by
  unfold execPowerFailWarning; simp

@[simp] theorem execPowerFailRepeatSave_kept (s : State) :
    (outOr s (execPowerFailRepeatSave s)).pending = s.pending ∧ (outOr s (execPowerFailRepeatSave s)).power.domains &&& 4091#12 = s.power.domains &&& 4091#12 := by unfold execPowerFailRepeatSave; simp

@[simp] theorem execPowerFailWithdrawn_kept (d : State) (clear : Nat) (s : State) :
    (outOr d (execPowerFailWithdrawn s clear)).pending = s.pending ∧ (outOr d (execPowerFailWithdrawn s clear)).power.domains &&& 4091#12 = s.power.domains &&& 4091#12 := by
  unfold execPowerFailWithdrawn; (repeat' split) <;> simp

@[simp] theorem metroGap_kept (reason : Nat) (time : Nat) (bound : Nat → Option Nat) (s : State) :
    (metroGap reason time bound s).pending = s.pending ∧ (metroGap reason time bound s).power.domains &&& 4091#12 = s.power.domains &&& 4091#12 := by unfold metroGap; simp

@[simp] theorem pushGaps_kept (time : Nat) (bound : Nat → Option Nat) (s : State) :
    (pushGaps time bound s).pending = s.pending ∧ (pushGaps time bound s).power.domains &&& 4091#12 = s.power.domains &&& 4091#12 := by unfold pushGaps; simp

@[simp] theorem metroRestart_kept (s : State) :
    (metroRestart s).pending = s.pending ∧ (metroRestart s).power.domains &&& 4091#12 = s.power.domains &&& 4091#12 := by
  unfold metroRestart; split
  · simp only [metroGap_kept, pushGaps_kept, State.fresh_pending, State.fresh_power, State.setPoint_pending,
      State.setPoint_power, overL_kept, and_self, implies_true]
  · dsimp only; split
    · split
      · rw [(pushGaps_kept _ _ _).1, (pushGaps_kept _ _ _).2]; exact ⟨rfl, rfl⟩
      · exact ⟨rfl, rfl⟩
    · split
      · rw [(metroGap_kept _ _ _ _).1, (metroGap_kept _ _ _ _).2, (pushGaps_kept _ _ _).1, (pushGaps_kept _ _ _).2]
        exact ⟨rfl, rfl⟩
      · rw [(metroGap_kept _ _ _ _).1, (metroGap_kept _ _ _ _).2, (pushGaps_kept _ _ _).1, (pushGaps_kept _ _ _).2]
        exact ⟨rfl, rfl⟩

@[simp] theorem gapResolve_kept (s : State) : (gapResolve s).pending = s.pending ∧ (gapResolve s).power.domains &&& 4091#12 = s.power.domains &&& 4091#12 := by
  unfold gapResolve; split
  · simp
  · split
    · simp
    · refine ⟨(metroGap_kept ..).1.trans ?_, (metroGap_kept ..).2.trans ?_⟩
      · exact (overL_from s _ _ _ (fun a t => by dsimp only; split <;> simp) (by simp)).1
      · exact (overL_from s _ _ _ (fun a t => by dsimp only; split <;> simp) (by simp)).2

@[simp] theorem metroStatusOf_kept (q : Req) (s : State) :
    (metroStatusOf q s).state.pending = s.pending ∧ (metroStatusOf q s).state.power.domains &&& 4091#12 = s.power.domains &&& 4091#12 := by unfold metroStatusOf; simp

@[simp] theorem execMetroStatus_kept (c : Cmd) (s : State) :
    (outOr s (execMetroStatus c s)).pending = s.pending ∧ (outOr s (execMetroStatus c s)).power.domains &&& 4091#12 = s.power.domains &&& 4091#12 := by unfold execMetroStatus; simp

@[simp] theorem metroReadOf_kept (q : Req) (s : State) :
    (metroReadOf q s).state.pending = s.pending ∧ (metroReadOf q s).state.power.domains &&& 4091#12 = s.power.domains &&& 4091#12 := by unfold metroReadOf; simp

@[simp] theorem execMetroRead_kept (c : Cmd) (s : State) :
    (outOr s (execMetroRead c s)).pending = s.pending ∧ (outOr s (execMetroRead c s)).power.domains &&& 4091#12 = s.power.domains &&& 4091#12 := by unfold execMetroRead; simp

@[simp] theorem metroReadResetOf_kept (q : Req) (s : State) :
    (metroReadResetOf q s).state.pending = s.pending ∧ (metroReadResetOf q s).state.power.domains &&& 4091#12 = s.power.domains &&& 4091#12 := by unfold metroReadResetOf; simp

@[simp] theorem execMetroReadReset_kept (c : Cmd) (s : State) :
    (outOr s (execMetroReadReset c s)).pending = s.pending ∧ (outOr s (execMetroReadReset c s)).power.domains &&& 4091#12 = s.power.domains &&& 4091#12 := by unfold execMetroReadReset; simp

@[simp] theorem metroCaptureReadOf_kept (q : Req) (s : State) :
    (metroCaptureReadOf q s).state.pending = s.pending ∧ (metroCaptureReadOf q s).state.power.domains &&& 4091#12 = s.power.domains &&& 4091#12 := by unfold metroCaptureReadOf; (repeat' split) <;> simp

@[simp] theorem execMetroCaptureRead_kept (c : Cmd) (s : State) :
    (outOr s (execMetroCaptureRead c s)).pending = s.pending ∧ (outOr s (execMetroCaptureRead c s)).power.domains &&& 4091#12 = s.power.domains &&& 4091#12 := by unfold execMetroCaptureRead; simp

@[simp] theorem meterRecordListOf_kept (q : Req) (s : State) :
    (meterRecordListOf q s).state.pending = s.pending ∧ (meterRecordListOf q s).state.power.domains &&& 4091#12 = s.power.domains &&& 4091#12 := by
  unfold meterRecordListOf; simp

@[simp] theorem execMeterRecordList_kept (c : Cmd) (s : State) :
    (outOr s (execMeterRecordList c s)).pending = s.pending ∧ (outOr s (execMeterRecordList c s)).power.domains &&& 4091#12 = s.power.domains &&& 4091#12 := by unfold execMeterRecordList; simp

@[simp] theorem markDamaged_kept (recno : Nat) (p : Nat) (s : State) :
    (markDamaged recno p s).pending = s.pending ∧ (markDamaged recno p s).power.domains &&& 4091#12 = s.power.domains &&& 4091#12 := by
  unfold markDamaged; simp

@[simp] theorem meterRecordReadOf_kept (q : Req) (s : State) : (meterRecordReadOf q s).state.pending = s.pending ∧ (meterRecordReadOf q s).state.power.domains &&& 4091#12 = s.power.domains &&& 4091#12 := by
 
  have hm : Kept s (if q.mram then markDamaged (if q.buf.isSome then q.w 4 else q.w 0) q.idx s else s) := by split <;> simp
  unfold meterRecordReadOf; dsimp only
  generalize (if q.mram then markDamaged (if q.buf.isSome then q.w 4 else q.w 0) q.idx s else s) = t at hm ⊢
  split
  · split
    · exact hm
    · split
      · exact hm
      · rename_i h; exact ⟨(writeBuf_kept _ _ _ _ h).1.trans hm.1, (writeBuf_kept _ _ _ _ h).2.trans hm.2⟩
  · split
    · exact hm
    · split <;> exact hm

@[simp] theorem execMeterRecordRead_kept (c : Cmd) (s : State) :
    (outOr s (execMeterRecordRead c s)).pending = s.pending ∧ (outOr s (execMeterRecordRead c s)).power.domains &&& 4091#12 = s.power.domains &&& 4091#12 := by unfold execMeterRecordRead; simp

@[simp] theorem meterRecordAckOf_kept (q : Req) (s : State) :
    (meterRecordAckOf q s).state.pending = s.pending ∧ (meterRecordAckOf q s).state.power.domains &&& 4091#12 = s.power.domains &&& 4091#12 := by unfold meterRecordAckOf; (repeat' split) <;> simp

@[simp] theorem execMeterRecordAck_kept (c : Cmd) (s : State) :
    (outOr s (execMeterRecordAck c s)).pending = s.pending ∧ (outOr s (execMeterRecordAck c s)).power.domains &&& 4091#12 = s.power.domains &&& 4091#12 := by unfold execMeterRecordAck; simp

@[simp] theorem metroConfigSetOf_kept (q : Req) (s : State) :
    (metroConfigSetOf q s).state.pending = s.pending ∧ (metroConfigSetOf q s).state.power.domains &&& 4091#12 = s.power.domains &&& 4091#12 := by unfold metroConfigSetOf; simp

@[simp] theorem execMetroConfigSet_kept (c : Cmd) (s : State) :
    (outOr s (execMetroConfigSet c s)).pending = s.pending ∧ (outOr s (execMetroConfigSet c s)).power.domains &&& 4091#12 = s.power.domains &&& 4091#12 := by unfold execMetroConfigSet; simp

@[simp] theorem metroSealOf_kept (q : Req) (s : State) :
    (metroSealOf q s).state.pending = s.pending ∧ (metroSealOf q s).state.power.domains &&& 4091#12 = s.power.domains &&& 4091#12 := by
  unfold metroSealOf; simp

@[simp] theorem execMetroSeal_kept (c : Cmd) (s : State) :
    (outOr s (execMetroSeal c s)).pending = s.pending ∧ (outOr s (execMetroSeal c s)).power.domains &&& 4091#12 = s.power.domains &&& 4091#12 := by unfold execMetroSeal; simp

@[simp] theorem metroSaveStatusOf_kept (q : Req) (s : State) :
    (metroSaveStatusOf q s).state.pending = s.pending ∧ (metroSaveStatusOf q s).state.power.domains &&& 4091#12 = s.power.domains &&& 4091#12 := by
  unfold metroSaveStatusOf; (repeat' split) <;> simp

@[simp] theorem execMetroSaveStatus_kept (c : Cmd) (s : State) :
    (outOr s (execMetroSaveStatus c s)).pending = s.pending ∧ (outOr s (execMetroSaveStatus c s)).power.domains &&& 4091#12 = s.power.domains &&& 4091#12 := by unfold execMetroSaveStatus; simp

@[simp] theorem metroGapReadOf_kept (q : Req) (s : State) :
    (metroGapReadOf q s).state.pending = s.pending ∧ (metroGapReadOf q s).state.power.domains &&& 4091#12 = s.power.domains &&& 4091#12 := by unfold metroGapReadOf; (repeat' split) <;> simp

@[simp] theorem execMetroGapRead_kept (c : Cmd) (s : State) :
    (outOr s (execMetroGapRead c s)).pending = s.pending ∧ (outOr s (execMetroGapRead c s)).power.domains &&& 4091#12 = s.power.domains &&& 4091#12 := by unfold execMetroGapRead; simp

@[simp] theorem metroStrobeReadOf_kept (q : Req) (s : State) :
    (metroStrobeReadOf q s).state.pending = s.pending ∧ (metroStrobeReadOf q s).state.power.domains &&& 4091#12 = s.power.domains &&& 4091#12 := by unfold metroStrobeReadOf; (repeat' split) <;> simp

@[simp] theorem execMetroStrobeRead_kept (c : Cmd) (s : State) :
    (outOr s (execMetroStrobeRead c s)).pending = s.pending ∧ (outOr s (execMetroStrobeRead c s)).power.domains &&& 4091#12 = s.power.domains &&& 4091#12 := by unfold execMetroStrobeRead; simp

end Sys2Proof.Machine
end

