-- ==== Sys2Proof/Laws/KeptField.lean ====
section
/-! SUPPORT. What the operations of Field.lean keep: the waiting commands, and the power domains (all but PD2, on which
no domain depends). -/

namespace Sys2Proof.Machine

@[simp] theorem refreshRoot_kept (s : State) :
    (refreshRoot s).pending = s.pending ∧ (refreshRoot s).power.domains &&& 4091#12 = s.power.domains &&& 4091#12 := by unfold refreshRoot; simp

@[simp] theorem judgeDigest_kept (kind : Nat) (i : Nat) (s : State) :
    (judgeDigest kind i s).pending = s.pending ∧ (judgeDigest kind i s).power.domains &&& 4091#12 = s.power.domains &&& 4091#12 := by unfold judgeDigest; (repeat' split) <;> simp

@[simp] theorem setReported_kept (kind : Nat) (i : Nat) (d : Digest) (s : State) :
    (setReported kind i d s).pending = s.pending ∧ (setReported kind i d s).power.domains &&& 4091#12 = s.power.domains &&& 4091#12 := by unfold setReported; simp

@[simp] theorem endHostFrame_kept (p : Nat) (b : Nat) (status : Nat) (r : Res) (s : State) :
    (endHostFrame p b status r s).pending = s.pending ∧ (endHostFrame p b status r s).power.domains &&& 4091#12 = s.power.domains &&& 4091#12 := by unfold endHostFrame; simp

@[simp] theorem endHostFrames_kept (p : Nat) (f : TxFrame → Bool) (status : Nat) (r : Res) (s : State) :
    (endHostFrames p f status r s).pending = s.pending ∧ (endHostFrames p f status r s).power.domains &&& 4091#12 = s.power.domains &&& 4091#12 := by
  unfold endHostFrames
  refine overL_from s _ _ _ (fun a t => ?_) (by simp)
  split
  · simp
  · split <;> simp

@[simp] theorem portReset_kept (p : Nat) (s : State) :
    (portReset p s).pending = s.pending ∧ (portReset p s).power.domains &&& 4091#12 = s.power.domains &&& 4091#12 := by unfold portReset; simp

@[simp] theorem commitPortResets_kept (p : Nat) (s : State) : (commitPortResets p s).pending = s.pending ∧ (commitPortResets p s).power.domains &&& 4091#12 = s.power.domains &&& 4091#12 := by
  unfold commitPortResets; simp

@[simp] theorem drainBound_kept (n : Nat) (s : State) :
    (drainBound n s).pending = s.pending ∧ (drainBound n s).power.domains &&& 4091#12 = s.power.domains &&& 4091#12 := by unfold drainBound; simp

@[simp] theorem retireNode_kept (n : Nat) (count : Nat) (s : State) :
    (retireNode n count s).pending = s.pending ∧ (retireNode n count s).power.domains &&& 4091#12 = s.power.domains &&& 4091#12 := by unfold retireNode; simp

@[simp] theorem nodeGone_kept (n : Nat) (cause : Nat) (s : State) :
    (nodeGone n cause s).pending = s.pending ∧ (nodeGone n cause s).power.domains &&& 4091#12 = s.power.domains &&& 4091#12 := by unfold nodeGone; simp

@[simp] theorem nodePresent_kept (n : Nat) (s : State) :
    (nodePresent n s).pending = s.pending ∧ (nodePresent n s).power.domains &&& 4091#12 = s.power.domains &&& 4091#12 := by unfold nodePresent; simp

@[simp] theorem sendRecord_kept (n : Nat) (c : SiteCfg) (all : Bool) (s : State) :
    (sendRecord n c all s).pending = s.pending ∧ (sendRecord n c all s).power.domains &&& 4091#12 = s.power.domains &&& 4091#12 := by unfold sendRecord; simp

@[simp] theorem sendCommit_kept (ports : List Nat) (dst : Nat) (op : Nat) (epoch : Word) (tick : Nat) (s : State) :
    (sendCommit ports dst op epoch tick s).pending = s.pending ∧ (sendCommit ports dst op epoch tick s).power.domains &&& 4091#12 = s.power.domains &&& 4091#12 := by unfold sendCommit; simp

@[simp] theorem sendAgain_kept (n : Nat) (s : State) :
    (sendAgain n s).pending = s.pending ∧ (sendAgain n s).power.domains &&& 4091#12 = s.power.domains &&& 4091#12 := by unfold sendAgain; simp

@[simp] theorem singleCommit_kept (n : Nat) (s : State) :
    (singleCommit n s).pending = s.pending ∧ (singleCommit n s).power.domains &&& 4091#12 = s.power.domains &&& 4091#12 := by unfold singleCommit; simp

@[simp] theorem quarantine_kept (n : Nat) (same : Bool) (s : State) :
    (quarantine n same s).pending = s.pending ∧ (quarantine n same s).power.domains &&& 4091#12 = s.power.domains &&& 4091#12 := by unfold quarantine; simp

@[simp] theorem countFrame_kept (p : Nat) (ident : Word) (n : Nat) (checkOk : Bool) (s : State) :
    (countFrame p ident n checkOk s).pending = s.pending ∧ (countFrame p ident n checkOk s).power.domains &&& 4091#12 = s.power.domains &&& 4091#12 := by
  unfold countFrame; (repeat' split) <;> simp

@[simp] theorem judgeBeat_kept (n : Nat) (hb : NodeBeat) (s : State) :
    (judgeBeat n hb s).pending = s.pending ∧ (judgeBeat n hb s).power.domains &&& 4091#12 = s.power.domains &&& 4091#12 := by unfold judgeBeat; simp

@[simp] theorem beatSeen_kept (n : Nat) (hb : NodeBeat) (s : State) :
    (beatSeen n hb s).pending = s.pending ∧ (beatSeen n hb s).power.domains &&& 4091#12 = s.power.domains &&& 4091#12 := by unfold beatSeen; simp

@[simp] theorem execHbNode_kept (n : Nat) (hb : NodeBeat) (s : State) :
    (outOr s (execHbNode n hb s)).pending = s.pending ∧ (outOr s (execHbNode n hb s)).power.domains &&& 4091#12 = s.power.domains &&& 4091#12 := by unfold execHbNode; simp

@[simp] theorem execNodeAbsent_kept (n : Nat) (s : State) :
    (outOr s (execNodeAbsent n s)).pending = s.pending ∧ (outOr s (execNodeAbsent n s)).power.domains &&& 4091#12 = s.power.domains &&& 4091#12 := by unfold execNodeAbsent; simp

@[simp] theorem execNodeReport_kept (n : Nat) (r : NodeReport) (s : State) :
    (outOr s (execNodeReport n r s)).pending = s.pending ∧ (outOr s (execNodeReport n r s)).power.domains &&& 4091#12 = s.power.domains &&& 4091#12 := by
 
  unfold execNodeReport; dsimp only; split
  · simp
  · split
    · simp
    · exact State.via_from _ _ _ _ _ (fun t => by split <;> simp) (by simp)

@[simp] theorem sendBeat_kept (s : State) :
    (sendBeat s).pending = s.pending ∧ (sendBeat s).power.domains &&& 4091#12 = s.power.domains &&& 4091#12 := by unfold sendBeat; simp

@[simp] theorem execHbCtrlSend_kept (s : State) :
    (outOr s (execHbCtrlSend s)).pending = s.pending ∧ (outOr s (execHbCtrlSend s)).power.domains &&& 4091#12 = s.power.domains &&& 4091#12 := by unfold execHbCtrlSend; simp

@[simp] theorem stageDone_kept (s : State) :
    (stageDone s).pending = s.pending ∧ (stageDone s).power.domains &&& 4091#12 = s.power.domains &&& 4091#12 := by unfold stageDone; simp

@[simp] theorem takeResult_kept (n : Nat) (result : Nat) (digest : Digest) (s : State) :
    (takeResult n result digest s).pending = s.pending ∧ (takeResult n result digest s).power.domains &&& 4091#12 = s.power.domains &&& 4091#12 := by
  unfold takeResult; dsimp only; (repeat' split) <;> simp

@[simp] theorem execStageResult_kept (d : State) (n : Nat) (h : FieldHead) (result : Nat) (digest : Digest) (s : State) :
    (outOr d (execStageResult n result digest s h)).pending = s.pending ∧ (outOr d (execStageResult n result digest s h)).power.domains &&& 4091#12 = s.power.domains &&& 4091#12 := by
  unfold execStageResult; simp

@[simp] theorem execCommitAck_kept (d : State) (n : Nat) (h : FieldHead) (op : Nat) (newEpoch : Word) (s : State) :
    (outOr d (execCommitAck n op newEpoch s h)).pending = s.pending ∧ (outOr d (execCommitAck n op newEpoch s h)).power.domains &&& 4091#12 = s.power.domains &&& 4091#12 := by
  unfold execCommitAck; simp

@[simp] theorem sendAnnounce_kept (s : State) :
    (sendAnnounce s).pending = s.pending ∧ (sendAnnounce s).power.domains &&& 4091#12 = s.power.domains &&& 4091#12 := by unfold sendAnnounce; simp

@[simp] theorem execCommitAnnounceResend_kept (s : State) :
    (outOr s (execCommitAnnounceResend s)).pending = s.pending ∧ (outOr s (execCommitAnnounceResend s)).power.domains &&& 4091#12 = s.power.domains &&& 4091#12 := by unfold execCommitAnnounceResend; simp

@[simp] theorem portRetire_kept (p : Nat) (s : State) :
    (portRetire p s).pending = s.pending ∧ (portRetire p s).power.domains &&& 4091#12 = s.power.domains &&& 4091#12 := by unfold portRetire; simp

@[simp] theorem busOff_kept (p : Nat) (s : State) :
    (busOff p s).pending = s.pending ∧ (busOff p s).power.domains &&& 4091#12 = s.power.domains &&& 4091#12 := by unfold busOff; simp

@[simp] theorem duplicate_kept (p : Nat) (i : Word) (own : Bool) (s : State) :
    (duplicate p i own s).pending = s.pending ∧ (duplicate p i own s).power.domains &&& 4091#12 = s.power.domains &&& 4091#12 := by unfold duplicate; simp; (repeat' split) <;> simp

@[simp] theorem execCanBusError_kept (p : Nat) (e : CanError) (s : State) :
    (outOr s (execCanBusError p e s)).pending = s.pending ∧ (outOr s (execCanBusError p e s)).power.domains &&& 4091#12 = s.power.domains &&& 4091#12 := by unfold execCanBusError; simp

@[simp] theorem execBusOffRecovered_kept (p : Nat) (s : State) :
    (outOr s (execBusOffRecovered p s)).pending = s.pending ∧ (outOr s (execBusOffRecovered p s)).power.domains &&& 4091#12 = s.power.domains &&& 4091#12 := by unfold execBusOffRecovered; simp

@[simp] theorem execPortRejoin_kept (p : Nat) (s : State) :
    (outOr s (execPortRejoin p s)).pending = s.pending ∧ (outOr s (execPortRejoin p s)).power.domains &&& 4091#12 = s.power.domains &&& 4091#12 := by unfold execPortRejoin; simp

@[simp] theorem execDuplicateQuietEnd_kept (p : Nat) (ident : Word) (s : State) :
    (outOr s (execDuplicateQuietEnd p ident s)).pending = s.pending ∧ (outOr s (execDuplicateQuietEnd p ident s)).power.domains &&& 4091#12 = s.power.domains &&& 4091#12 := by unfold execDuplicateQuietEnd; simp; (repeat' split) <;> simp

@[simp] theorem frameSent_kept (p : Nat) (f : TxFrame) (s : State) :
    (frameSent p f s).pending = s.pending ∧ (frameSent p f s).power.domains &&& 4091#12 = s.power.domains &&& 4091#12 := by unfold frameSent; simp

@[simp] theorem frameEnds_kept (p : Nat) (b : Nat) (f : TxFrame) (sent : Bool) (retrans : Nat) (age : Nat) (s : State) :
    (frameEnds p b f sent retrans age s).pending = s.pending ∧ (frameEnds p b f sent retrans age s).power.domains &&& 4091#12 = s.power.domains &&& 4091#12 := by
  unfold frameEnds; simp

@[simp] theorem execCanTransmitDone_kept (d : State) (p : Nat) (buffer : Nat) (sent : Bool) (retrans : Nat) (age : Nat) (s : State) :
    (outOr d (execCanTransmitDone p buffer sent retrans s age)).pending = s.pending ∧ (outOr d (execCanTransmitDone p buffer sent retrans s age)).power.domains &&& 4091#12 = s.power.domains &&& 4091#12 := by
  unfold execCanTransmitDone; (repeat' split) <;> simp

@[simp] theorem execHostFrameReceive_kept (p : Nat) (f : CanFrame) (s : State) :
    (outOr s (execHostFrameReceive p f s)).pending = s.pending ∧ (outOr s (execHostFrameReceive p f s)).power.domains &&& 4091#12 = s.power.domains &&& 4091#12 := by unfold execHostFrameReceive; simp; (repeat' split) <;> simp

@[simp] theorem execRxHoldExpire_kept (p : Nat) (object : Nat) (s : State) :
    (outOr s (execRxHoldExpire p object s)).pending = s.pending ∧ (outOr s (execRxHoldExpire p object s)).power.domains &&& 4091#12 = s.power.domains &&& 4091#12 := by unfold execRxHoldExpire; simp

@[simp] theorem portStatusOf_kept (q : Req) (s : State) :
    (portStatusOf q s).state.pending = s.pending ∧ (portStatusOf q s).state.power.domains &&& 4091#12 = s.power.domains &&& 4091#12 := by unfold portStatusOf; simp

@[simp] theorem execPortStatus_kept (c : Cmd) (s : State) :
    (outOr s (execPortStatus c s)).pending = s.pending ∧ (outOr s (execPortStatus c s)).power.domains &&& 4091#12 = s.power.domains &&& 4091#12 := by unfold execPortStatus; simp

@[simp] theorem portCountersOf_kept (q : Req) (s : State) :
    (portCountersOf q s).state.pending = s.pending ∧ (portCountersOf q s).state.power.domains &&& 4091#12 = s.power.domains &&& 4091#12 := by unfold portCountersOf; simp

@[simp] theorem execPortCounters_kept (c : Cmd) (s : State) :
    (outOr s (execPortCounters c s)).pending = s.pending ∧ (outOr s (execPortCounters c s)).power.domains &&& 4091#12 = s.power.domains &&& 4091#12 := by unfold execPortCounters; simp

@[simp] theorem nodeStatusOf_kept (q : Req) (s : State) :
    (nodeStatusOf q s).state.pending = s.pending ∧ (nodeStatusOf q s).state.power.domains &&& 4091#12 = s.power.domains &&& 4091#12 := by unfold nodeStatusOf; simp

@[simp] theorem execNodeStatus_kept (c : Cmd) (s : State) :
    (outOr s (execNodeStatus c s)).pending = s.pending ∧ (outOr s (execNodeStatus c s)).power.domains &&& 4091#12 = s.power.domains &&& 4091#12 := by unfold execNodeStatus; simp

@[simp] theorem frameSendOf_kept (q : Req) (s : State) :
    (frameSendOf q s).state.pending = s.pending ∧ (frameSendOf q s).state.power.domains &&& 4091#12 = s.power.domains &&& 4091#12 := by unfold frameSendOf; simp; (repeat' split) <;> simp

@[simp] theorem execFrameSend_kept (c : Cmd) (s : State) :
    (outOr s (execFrameSend c s)).pending = s.pending ∧ (outOr s (execFrameSend c s)).power.domains &&& 4091#12 = s.power.domains &&& 4091#12 := by unfold execFrameSend; simp

@[simp] theorem rxObjectSetOf_kept (q : Req) (s : State) :
    (rxObjectSetOf q s).state.pending = s.pending ∧ (rxObjectSetOf q s).state.power.domains &&& 4091#12 = s.power.domains &&& 4091#12 := by unfold rxObjectSetOf; simp

@[simp] theorem execRxObjectSet_kept (c : Cmd) (s : State) :
    (outOr s (execRxObjectSet c s)).pending = s.pending ∧ (outOr s (execRxObjectSet c s)).power.domains &&& 4091#12 = s.power.domains &&& 4091#12 := by unfold execRxObjectSet; simp

@[simp] theorem rxObjectReadOf_kept (q : Req) (s : State) :
    (rxObjectReadOf q s).state.pending = s.pending ∧ (rxObjectReadOf q s).state.power.domains &&& 4091#12 = s.power.domains &&& 4091#12 := by unfold rxObjectReadOf; simp; (repeat' split) <;> simp

@[simp] theorem execRxObjectRead_kept (c : Cmd) (s : State) :
    (outOr s (execRxObjectRead c s)).pending = s.pending ∧ (outOr s (execRxObjectRead c s)).power.domains &&& 4091#12 = s.power.domains &&& 4091#12 := by unfold execRxObjectRead; simp

@[simp] theorem duplicateReadOf_kept (q : Req) (s : State) :
    (duplicateReadOf q s).state.pending = s.pending ∧ (duplicateReadOf q s).state.power.domains &&& 4091#12 = s.power.domains &&& 4091#12 := by unfold duplicateReadOf; simp

@[simp] theorem execDuplicateRead_kept (c : Cmd) (s : State) :
    (outOr s (execDuplicateRead c s)).pending = s.pending ∧ (outOr s (execDuplicateRead c s)).power.domains &&& 4091#12 = s.power.domains &&& 4091#12 := by unfold execDuplicateRead; simp

end Sys2Proof.Machine
end

