-- ==== Sys2Proof/Laws/KeptEpoch.lean ====
section
/-! SUPPORT. What the operations of Epoch.lean keep: the waiting commands, and the power domains (all but PD2, on which
no domain depends). -/

namespace Sys2Proof.Machine

@[simp] theorem reformConns_kept (s : State) :
    (reformConns s).pending = s.pending ∧ (reformConns s).power.domains &&& 4091#12 = s.power.domains &&& 4091#12 := by unfold reformConns; simp

@[simp] theorem withdrawCommit_kept (s : State) :
    (withdrawCommit s).pending = s.pending ∧ (withdrawCommit s).power.domains &&& 4091#12 = s.power.domains &&& 4091#12 := by unfold withdrawCommit; simp

@[simp] theorem setTai_kept (t : Nat) (s : State) :
    (setTai t s).pending = s.pending ∧ (setTai t s).power.domains &&& 4091#12 = s.power.domains &&& 4091#12 := by unfold setTai; simp

@[simp] theorem timeValidNow_kept (s : State) :
    (timeValidNow s).pending = s.pending ∧ (timeValidNow s).power.domains &&& 4091#12 = s.power.domains &&& 4091#12 := by unfold timeValidNow; simp

@[simp] theorem timeInvalidNow_kept (s : State) :
    (timeInvalidNow s).pending = s.pending ∧ (timeInvalidNow s).power.domains &&& 4091#12 = s.power.domains &&& 4091#12 := by unfold timeInvalidNow; simp

@[simp] theorem ptpSync_kept (port : Nat) (offset : Int) (tai : Nat) (s : State) :
    (ptpSync port offset tai s).pending = s.pending ∧ (ptpSync port offset tai s).power.domains &&& 4091#12 = s.power.domains &&& 4091#12 := by
  unfold ptpSync; simp

@[simp] theorem ptpAnnounce_kept (port : Nat) (sender : Nat) (dataset : List Nat) (steps : Nat) (s : State) :
    (ptpAnnounce port sender dataset steps s).pending = s.pending ∧ (ptpAnnounce port sender dataset steps s).power.domains &&& 4091#12 = s.power.domains &&& 4091#12 := by
  unfold ptpAnnounce; simp

@[simp] theorem execPtpMessage_kept (m : PtpMsg) (s : State) :
    (outOr s (execPtpMessage m s)).pending = s.pending ∧ (outOr s (execPtpMessage m s)).power.domains &&& 4091#12 = s.power.domains &&& 4091#12 := by
  unfold execPtpMessage; simp; (repeat' split) <;> simp

@[simp] theorem execHoldoverExpire_kept (s : State) :
    (outOr s (execHoldoverExpire s)).pending = s.pending ∧ (outOr s (execHoldoverExpire s)).power.domains &&& 4091#12 = s.power.domains &&& 4091#12 := by unfold execHoldoverExpire; simp

@[simp] theorem ppsLabelled_kept (sec : Nat) (s : State) :
    (ppsLabelled sec s).pending = s.pending ∧ (ppsLabelled sec s).power.domains &&& 4091#12 = s.power.domains &&& 4091#12 := by unfold ppsLabelled; simp

@[simp] theorem ppsRound_kept (s : State) :
    (ppsRound s).pending = s.pending ∧ (ppsRound s).power.domains &&& 4091#12 = s.power.domains &&& 4091#12 := by unfold ppsRound; simp

@[simp] theorem execPpsInEdge_kept (s : State) :
    (outOr s (execPpsInEdge s)).pending = s.pending ∧ (outOr s (execPpsInEdge s)).power.domains &&& 4091#12 = s.power.domains &&& 4091#12 := by unfold execPpsInEdge; (repeat' split) <;> simp

@[simp] theorem timeSetOf_kept (q : Req) (s : State) :
    (timeSetOf q s).state.pending = s.pending ∧ (timeSetOf q s).state.power.domains &&& 4091#12 = s.power.domains &&& 4091#12 := by unfold timeSetOf; simp

@[simp] theorem execTimeSet_kept (c : Cmd) (s : State) :
    (outOr s (execTimeSet c s)).pending = s.pending ∧ (outOr s (execTimeSet c s)).power.domains &&& 4091#12 = s.power.domains &&& 4091#12 := by unfold execTimeSet; simp

@[simp] theorem execDigestReadback_kept (s : State) :
    (outOr s (execDigestReadback s)).pending = s.pending ∧ (outOr s (execDigestReadback s)).power.domains &&& 4091#12 = s.power.domains &&& 4091#12 := by unfold execDigestReadback; simp

@[simp] theorem digestReadOf_kept (q : Req) (s : State) :
    (digestReadOf q s).state.pending = s.pending ∧ (digestReadOf q s).state.power.domains &&& 4091#12 = s.power.domains &&& 4091#12 := by unfold digestReadOf; simp; (repeat' split) <;> simp

@[simp] theorem execDigestRead_kept (c : Cmd) (s : State) :
    (outOr s (execDigestRead c s)).pending = s.pending ∧ (outOr s (execDigestRead c s)).power.domains &&& 4091#12 = s.power.domains &&& 4091#12 := by unfold execDigestRead; simp

@[simp] theorem dropStage_kept (s : State) :
    (dropStage s).pending = s.pending ∧ (dropStage s).power.domains &&& 4091#12 = s.power.domains &&& 4091#12 := by unfold dropStage; simp

@[simp] theorem imageWriteOf_kept (q : Req) (s : State) :
    (imageWriteOf q s).state.pending = s.pending ∧ (imageWriteOf q s).state.power.domains &&& 4091#12 = s.power.domains &&& 4091#12 := by unfold imageWriteOf; simp

@[simp] theorem execImageWrite_kept (c : Cmd) (s : State) :
    (outOr s (execImageWrite c s)).pending = s.pending ∧ (outOr s (execImageWrite c s)).power.domains &&& 4091#12 = s.power.domains &&& 4091#12 := by unfold execImageWrite; simp

@[simp] theorem stageRefused_kept (f : Nat × Res) (s : State) :
    (stageRefused f s).state.pending = s.pending ∧ (stageRefused f s).state.power.domains &&& 4091#12 = s.power.domains &&& 4091#12 := by
  unfold stageRefused; simp

@[simp] theorem beginStage_kept (c : SiteCfg) (image : Bool) (s : State) :
    (beginStage c image s).pending = s.pending ∧ (beginStage c image s).power.domains &&& 4091#12 = s.power.domains &&& 4091#12 := by unfold beginStage; simp

@[simp] theorem epochStageOf_kept (q : Req) (s : State) :
    (epochStageOf q s).state.pending = s.pending ∧ (epochStageOf q s).state.power.domains &&& 4091#12 = s.power.domains &&& 4091#12 := by unfold epochStageOf; (repeat' split) <;> simp

@[simp] theorem execEpochStage_kept (c : Cmd) (s : State) :
    (outOr s (execEpochStage c s)).pending = s.pending ∧ (outOr s (execEpochStage c s)).power.domains &&& 4091#12 = s.power.domains &&& 4091#12 := by unfold execEpochStage; simp

@[simp] theorem execStageTimeout_kept (s : State) :
    (outOr s (execStageTimeout s)).pending = s.pending ∧ (outOr s (execStageTimeout s)).power.domains &&& 4091#12 = s.power.domains &&& 4091#12 := by unfold execStageTimeout; simp

@[simp] theorem epochDiscardOf_kept (q : Req) (s : State) :
    (epochDiscardOf q s).state.pending = s.pending ∧ (epochDiscardOf q s).state.power.domains &&& 4091#12 = s.power.domains &&& 4091#12 := by
  unfold epochDiscardOf; simp

@[simp] theorem execEpochDiscard_kept (c : Cmd) (s : State) :
    (outOr s (execEpochDiscard c s)).pending = s.pending ∧ (outOr s (execEpochDiscard c s)).power.domains &&& 4091#12 = s.power.domains &&& 4091#12 := by unfold execEpochDiscard; simp

@[simp] theorem epochStatusOf_kept (q : Req) (s : State) :
    (epochStatusOf q s).state.pending = s.pending ∧ (epochStatusOf q s).state.power.domains &&& 4091#12 = s.power.domains &&& 4091#12 := by
  unfold epochStatusOf; simp

@[simp] theorem execEpochStatus_kept (c : Cmd) (s : State) :
    (outOr s (execEpochStatus c s)).pending = s.pending ∧ (outOr s (execEpochStatus c s)).power.domains &&& 4091#12 = s.power.domains &&& 4091#12 := by unfold execEpochStatus; simp

@[simp] theorem configExportOf_kept (q : Req) (s : State) : (configExportOf q s).state.pending = s.pending ∧ (configExportOf q s).state.power.domains &&& 4091#12 = s.power.domains &&& 4091#12 := by
  unfold configExportOf; dsimp only; split
  · simp
  · split
    · simp
    · split
      · simp
      · rename_i h; exact writeBuf_kept _ _ _ _ h

@[simp] theorem execConfigExport_kept (c : Cmd) (s : State) :
    (outOr s (execConfigExport c s)).pending = s.pending ∧ (outOr s (execConfigExport c s)).power.domains &&& 4091#12 = s.power.domains &&& 4091#12 := by unfold execConfigExport; simp

@[simp] theorem announce_kept (tick : Nat) (s : State) :
    (announce tick s).pending = s.pending ∧ (announce tick s).power.domains &&& 4091#12 = s.power.domains &&& 4091#12 := by unfold announce; simp

@[simp] theorem epochCommitOf_kept (q : Req) (s : State) :
    (epochCommitOf q s).state.pending = s.pending ∧ (epochCommitOf q s).state.power.domains &&& 4091#12 = s.power.domains &&& 4091#12 := by unfold epochCommitOf; simp

@[simp] theorem execEpochCommit_kept (c : Cmd) (s : State) :
    (outOr s (execEpochCommit c s)).pending = s.pending ∧ (outOr s (execEpochCommit c s)).power.domains &&& 4091#12 = s.power.domains &&& 4091#12 := by unfold execEpochCommit; simp

@[simp] theorem undoLive_kept (l : Live) (s : State) :
    (undoLive l s).pending = s.pending ∧ (undoLive l s).power.domains &&& 4091#12 = s.power.domains &&& 4091#12 := by unfold undoLive; (repeat' split) <;> simp

@[simp] theorem resetSeat_kept (n : Nat) (how : Nat) (s : State) :
    (resetSeat n how s).pending = s.pending ∧ (resetSeat n how s).power.domains &&& 4091#12 = s.power.domains &&& 4091#12 := by unfold resetSeat; simp

@[simp] theorem carryNode_kept (old : SiteCfg) (new : SiteCfg) (n : Nat) (s : State) :
    (carryNode old new n s).pending = s.pending ∧ (carryNode old new n s).power.domains &&& 4091#12 = s.power.domains &&& 4091#12 := by unfold carryNode; (repeat' split) <;> simp

@[simp] theorem dropCurtails_kept (new : SiteCfg) (s : State) :
    (dropCurtails new s).pending = s.pending ∧ (dropCurtails new s).power.domains &&& 4091#12 = s.power.domains &&& 4091#12 := by unfold dropCurtails; simp

@[simp] theorem carryCaldera_kept (old : SiteCfg) (new : SiteCfg) (s : State) :
    (carryCaldera old new s).pending = s.pending ∧ (carryCaldera old new s).power.domains &&& 4091#12 = s.power.domains &&& 4091#12 := by unfold carryCaldera; simp

@[simp] theorem carrySlots_kept (old : SiteCfg) (new : SiteCfg) (s : State) :
    (carrySlots old new s).pending = s.pending ∧ (carrySlots old new s).power.domains &&& 4091#12 = s.power.domains &&& 4091#12 := by unfold carrySlots; simp

@[simp] theorem carryPorts_kept (old : SiteCfg) (new : SiteCfg) (s : State) :
    (carryPorts old new s).pending = s.pending ∧ (carryPorts old new s).power.domains &&& 4091#12 = s.power.domains &&& 4091#12 := by unfold carryPorts; simp

@[simp] theorem newSource_kept (k : Nat) (s : State) :
    (newSource k s).pending = s.pending ∧ (newSource k s).power.domains &&& 4091#12 = s.power.domains &&& 4091#12 := by unfold newSource; simp

@[simp] theorem carryLoads_kept (old : SiteCfg) (new : SiteCfg) (s : State) :
    (carryLoads old new s).pending = s.pending ∧ (carryLoads old new s).power.domains &&& 4091#12 = s.power.domains &&& 4091#12 := by unfold carryLoads; simp

@[simp] theorem carryPoints_kept (old : SiteCfg) (new : SiteCfg) (s : State) :
    (carryPoints old new s).pending = s.pending ∧ (carryPoints old new s).power.domains &&& 4091#12 = s.power.domains &&& 4091#12 := by unfold carryPoints; simp

@[simp] theorem carryOwners_kept (old : SiteCfg) (new : SiteCfg) (s : State) :
    (carryOwners old new s).pending = s.pending ∧ (carryOwners old new s).power.domains &&& 4091#12 = s.power.domains &&& 4091#12 := by unfold carryOwners; simp

@[simp] theorem carryLive_kept (old : SiteCfg) (new : SiteCfg) (s : State) :
    (carryLive old new s).pending = s.pending ∧ (carryLive old new s).power.domains &&& 4091#12 = s.power.domains &&& 4091#12 := by unfold carryLive; simp

@[simp] theorem carrySeats_kept (old : SiteCfg) (new : SiteCfg) (was : Nat → Option SeatCfg) (s : State) :
    (carrySeats old new was s).pending = s.pending ∧ (carrySeats old new was s).power.domains &&& 4091#12 = s.power.domains &&& 4091#12 := by unfold carrySeats; simp

@[simp] theorem carry_kept (old : SiteCfg) (was : Nat → Option SeatCfg) (s : State) :
    (carry old was s).pending = s.pending ∧ (carry old was s).power.domains &&& 4091#12 = s.power.domains &&& 4091#12 := by unfold carry; simp

@[simp] theorem refCheck_kept (s : State) :
    (refCheck s).pending = s.pending ∧ (refCheck s).power.domains &&& 4091#12 = s.power.domains &&& 4091#12 := by unfold refCheck; simp

@[simp] theorem lockParams_kept (s : State) :
    (lockParams s).pending = s.pending ∧ (lockParams s).power.domains &&& 4091#12 = s.power.domains &&& 4091#12 := by
  unfold lockParams; simp

@[simp] theorem tickNow_kept (s : State) :
    (tickNow s).pending = s.pending ∧ (tickNow s).power.domains &&& 4091#12 = s.power.domains &&& 4091#12 := by unfold tickNow; simp

@[simp] theorem execEpochTick_kept (s : State) :
    (outOr s (execEpochTick s)).pending = s.pending ∧ (outOr s (execEpochTick s)).power.domains &&& 4091#12 = s.power.domains &&& 4091#12 := by unfold execEpochTick; simp

@[simp] theorem markWritten_kept (s : State) :
    (markWritten s).pending = s.pending ∧ (markWritten s).power.domains &&& 4091#12 = s.power.domains &&& 4091#12 := by
  unfold markWritten; simp

@[simp] theorem execEpochMarkWrite_kept (s : State) :
    (outOr s (execEpochMarkWrite s)).pending = s.pending ∧ (outOr s (execEpochMarkWrite s)).power.domains &&& 4091#12 = s.power.domains &&& 4091#12 := by unfold execEpochMarkWrite; (repeat' split) <;> simp

end Sys2Proof.Machine
end

