-- ==== Sys2Proof/Laws/KeptSeats.lean ====
section
/-! SUPPORT. What the operations of Seats.lean keep: the waiting commands, and the power domains (all but PD2, on which
no domain depends). -/

namespace Sys2Proof.Machine

@[simp] theorem nopOf_kept (q : Req) (s : State) :
    (nopOf q s).state.pending = s.pending ∧ (nopOf q s).state.power.domains &&& 4091#12 = s.power.domains &&& 4091#12 := by unfold nopOf; simp

@[simp] theorem execNop_kept (c : Cmd) (s : State) :
    (outOr s (execNop c s)).pending = s.pending ∧ (outOr s (execNop c s)).power.domains &&& 4091#12 = s.power.domains &&& 4091#12 := by unfold execNop; simp

@[simp] theorem getInfoOf_kept (q : Req) (s : State) :
    (getInfoOf q s).state.pending = s.pending ∧ (getInfoOf q s).state.power.domains &&& 4091#12 = s.power.domains &&& 4091#12 := by
  unfold getInfoOf; simp

@[simp] theorem execGetInfo_kept (c : Cmd) (s : State) :
    (outOr s (execGetInfo c s)).pending = s.pending ∧ (outOr s (execGetInfo c s)).power.domains &&& 4091#12 = s.power.domains &&& 4091#12 := by unfold execGetInfo; simp

@[simp] theorem getTimeOf_kept (q : Req) (s : State) :
    (getTimeOf q s).state.pending = s.pending ∧ (getTimeOf q s).state.power.domains &&& 4091#12 = s.power.domains &&& 4091#12 := by
  unfold getTimeOf; simp

@[simp] theorem execGetTime_kept (c : Cmd) (s : State) :
    (outOr s (execGetTime c s)).pending = s.pending ∧ (outOr s (execGetTime c s)).power.domains &&& 4091#12 = s.power.domains &&& 4091#12 := by unfold execGetTime; simp

@[simp] theorem getHealthOf_kept (q : Req) (s : State) :
    (getHealthOf q s).state.pending = s.pending ∧ (getHealthOf q s).state.power.domains &&& 4091#12 = s.power.domains &&& 4091#12 := by
  unfold getHealthOf; simp

@[simp] theorem execGetHealth_kept (c : Cmd) (s : State) :
    (outOr s (execGetHealth c s)).pending = s.pending ∧ (outOr s (execGetHealth c s)).power.domains &&& 4091#12 = s.power.domains &&& 4091#12 := by unfold execGetHealth; simp

@[simp] theorem seatOpenOf_kept (q : Req) (s : State) :
    (seatOpenOf q s).state.pending = s.pending ∧ (seatOpenOf q s).state.power.domains &&& 4091#12 = s.power.domains &&& 4091#12 := by unfold seatOpenOf; simp

@[simp] theorem execSeatOpen_kept (c : Cmd) (s : State) :
    (outOr s (execSeatOpen c s)).pending = s.pending ∧ (outOr s (execSeatOpen c s)).power.domains &&& 4091#12 = s.power.domains &&& 4091#12 := by unfold execSeatOpen; simp

@[simp] theorem seatCloseOf_kept (q : Req) (s : State) :
    (seatCloseOf q s).state.pending = s.pending ∧ (seatCloseOf q s).state.power.domains &&& 4091#12 = s.power.domains &&& 4091#12 := by
  unfold seatCloseOf; simp

@[simp] theorem execSeatClose_kept (c : Cmd) (s : State) :
    (outOr s (execSeatClose c s)).pending = s.pending ∧ (outOr s (execSeatClose c s)).power.domains &&& 4091#12 = s.power.domains &&& 4091#12 := by unfold execSeatClose; simp

@[simp] theorem seatQueryOf_kept (q : Req) (s : State) :
    (seatQueryOf q s).state.pending = s.pending ∧ (seatQueryOf q s).state.power.domains &&& 4091#12 = s.power.domains &&& 4091#12 := by unfold seatQueryOf; simp

@[simp] theorem execSeatQuery_kept (c : Cmd) (s : State) :
    (outOr s (execSeatQuery c s)).pending = s.pending ∧ (outOr s (execSeatQuery c s)).power.domains &&& 4091#12 = s.power.domains &&& 4091#12 := by unfold execSeatQuery; simp

@[simp] theorem abortOf_kept (q : Req) (s : State) :
    (abortOf q s).state.pending = s.pending ∧ (abortOf q s).state.power.domains &&& 4091#12 = s.power.domains &&& 4091#12 := by unfold abortOf; (repeat' split) <;> simp

@[simp] theorem execAbortCmd_kept (c : Cmd) (s : State) :
    (outOr s (execAbortCmd c s)).pending = s.pending ∧ (outOr s (execAbortCmd c s)).power.domains &&& 4091#12 = s.power.domains &&& 4091#12 := by unfold execAbortCmd; simp

@[simp] theorem eventSubscribeOf_kept (q : Req) (s : State) :
    (eventSubscribeOf q s).state.pending = s.pending ∧ (eventSubscribeOf q s).state.power.domains &&& 4091#12 = s.power.domains &&& 4091#12 := by unfold eventSubscribeOf; (repeat' split) <;> simp

@[simp] theorem execEventSubscribe_kept (c : Cmd) (s : State) :
    (outOr s (execEventSubscribe c s)).pending = s.pending ∧ (outOr s (execEventSubscribe c s)).power.domains &&& 4091#12 = s.power.domains &&& 4091#12 := by unfold execEventSubscribe; simp

@[simp] theorem objectReassignOf_kept (q : Req) (s : State) :
    (objectReassignOf q s).state.pending = s.pending ∧ (objectReassignOf q s).state.power.domains &&& 4091#12 = s.power.domains &&& 4091#12 := by unfold objectReassignOf; simp

@[simp] theorem execObjectReassign_kept (c : Cmd) (s : State) :
    (outOr s (execObjectReassign c s)).pending = s.pending ∧ (outOr s (execObjectReassign c s)).power.domains &&& 4091#12 = s.power.domains &&& 4091#12 := by unfold execObjectReassign; simp

@[simp] theorem objectListOf_kept (q : Req) (s : State) :
    (objectListOf q s).state.pending = s.pending ∧ (objectListOf q s).state.power.domains &&& 4091#12 = s.power.domains &&& 4091#12 := by unfold objectListOf; simp

@[simp] theorem execObjectList_kept (c : Cmd) (s : State) :
    (outOr s (execObjectList c s)).pending = s.pending ∧ (outOr s (execObjectList c s)).power.domains &&& 4091#12 = s.power.domains &&& 4091#12 := by unfold execObjectList; simp

@[simp] theorem queueStatusOf_kept (q : Req) (s : State) :
    (queueStatusOf q s).state.pending = s.pending ∧ (queueStatusOf q s).state.power.domains &&& 4091#12 = s.power.domains &&& 4091#12 := by unfold queueStatusOf; (repeat' split) <;> simp

@[simp] theorem execQueueStatus_kept (c : Cmd) (s : State) :
    (outOr s (execQueueStatus c s)).pending = s.pending ∧ (outOr s (execQueueStatus c s)).power.domains &&& 4091#12 = s.power.domains &&& 4091#12 := by unfold execQueueStatus; simp

@[simp] theorem counterReadOf_kept (q : Req) (s : State) :
    (counterReadOf q s).state.pending = s.pending ∧ (counterReadOf q s).state.power.domains &&& 4091#12 = s.power.domains &&& 4091#12 := by unfold counterReadOf; simp

@[simp] theorem execCounterRead_kept (c : Cmd) (s : State) :
    (outOr s (execCounterRead c s)).pending = s.pending ∧ (outOr s (execCounterRead c s)).power.domains &&& 4091#12 = s.power.domains &&& 4091#12 := by unfold execCounterRead; simp

@[simp] theorem counterClearOf_kept (q : Req) (s : State) :
    (counterClearOf q s).state.pending = s.pending ∧ (counterClearOf q s).state.power.domains &&& 4091#12 = s.power.domains &&& 4091#12 := by unfold counterClearOf; simp

@[simp] theorem execCounterClear_kept (c : Cmd) (s : State) :
    (outOr s (execCounterClear c s)).pending = s.pending ∧ (outOr s (execCounterClear c s)).power.domains &&& 4091#12 = s.power.domains &&& 4091#12 := by unfold execCounterClear; simp

@[simp] theorem sramStatusOf_kept (q : Req) (s : State) :
    (sramStatusOf q s).state.pending = s.pending ∧ (sramStatusOf q s).state.power.domains &&& 4091#12 = s.power.domains &&& 4091#12 := by
  unfold sramStatusOf; simp

@[simp] theorem execSramStatus_kept (c : Cmd) (s : State) :
    (outOr s (execSramStatus c s)).pending = s.pending ∧ (outOr s (execSramStatus c s)).power.domains &&& 4091#12 = s.power.domains &&& 4091#12 := by unfold execSramStatus; simp

@[simp] theorem seatResetReg_kept (n : Nat) (s : State) :
    (seatResetReg n s).pending = s.pending ∧ (seatResetReg n s).power.domains &&& 4091#12 = s.power.domains &&& 4091#12 := by unfold seatResetReg; simp

@[simp] theorem heartbeatReg_kept (n : Nat) (v : Word) (s : State) :
    (heartbeatReg n v s).pending = s.pending ∧ (heartbeatReg n v s).power.domains &&& 4091#12 = s.power.domains &&& 4091#12 := by unfold heartbeatReg; simp

@[simp] theorem intClearReg_kept (n : Nat) (v : Word) (s : State) :
    (intClearReg n v s).pending = s.pending ∧ (intClearReg n v s).power.domains &&& 4091#12 = s.power.domains &&& 4091#12 := by unfold intClearReg; simp

@[simp] theorem overrunBell_kept (n : Nat) (s : State) :
    (overrunBell n s).pending = s.pending ∧ (overrunBell n s).power.domains &&& 4091#12 = s.power.domains &&& 4091#12 := by unfold overrunBell; simp

@[simp] theorem doorbellReg_kept (n : Nat) (k : Nat) (index : Half) (s : State) :
    (doorbellReg n k index s).pending = s.pending ∧ (doorbellReg n k index s).power.domains &&& 4091#12 = s.power.domains &&& 4091#12 := by unfold doorbellReg; (repeat' split) <;> simp

@[simp] theorem plainReg_kept (n : Nat) (off : Nat) (v : Word) (s : State) :
    (plainReg n off v s).pending = s.pending ∧ (plainReg n off v s).power.domains &&& 4091#12 = s.power.domains &&& 4091#12 := by unfold plainReg; simp; (repeat' split) <;> simp

@[simp] theorem writeReg_kept (n : Nat) (off : Nat) (v : Word) (s : State) :
    (writeReg n off v s).pending = s.pending ∧ (writeReg n off v s).power.domains &&& 4091#12 = s.power.domains &&& 4091#12 := by unfold writeReg; simp

@[simp] theorem readMore_kept (n : Nat) (off : Nat) (s : State) :
    (readMore n off s).pending = s.pending ∧ (readMore n off s).power.domains &&& 4091#12 = s.power.domains &&& 4091#12 := by
  unfold readMore; simp

@[simp] theorem readRegs_kept (n : Nat) (off : Nat) (count : Nat) (s : State) :
    (readRegs n off count s).pending = s.pending ∧ (readRegs n off count s).power.domains &&& 4091#12 = s.power.domains &&& 4091#12 := by
  unfold readRegs; simp

@[simp] theorem execSeatReset_kept (n : Nat) (s : State) :
    (outOr s (execSeatReset n s)).pending = s.pending ∧ (outOr s (execSeatReset n s)).power.domains &&& 4091#12 = s.power.domains &&& 4091#12 := by unfold execSeatReset; simp

@[simp] theorem execHeartbeatWrite_kept (n : Nat) (v : Word) (s : State) :
    (outOr s (execHeartbeatWrite n v s)).pending = s.pending ∧ (outOr s (execHeartbeatWrite n v s)).power.domains &&& 4091#12 = s.power.domains &&& 4091#12 := by unfold execHeartbeatWrite; simp

@[simp] theorem execDoorbell_kept (n : Nat) (k : Nat) (index : Half) (s : State) :
    (outOr s (execDoorbell n k index s)).pending = s.pending ∧ (outOr s (execDoorbell n k index s)).power.domains &&& 4091#12 = s.power.domains &&& 4091#12 := by unfold execDoorbell; simp

@[simp] theorem execIntStatusClear_kept (n : Nat) (v : Word) (s : State) :
    (outOr s (execIntStatusClear n v s)).pending = s.pending ∧ (outOr s (execIntStatusClear n v s)).power.domains &&& 4091#12 = s.power.domains &&& 4091#12 := by unfold execIntStatusClear; simp

@[simp] theorem execResetCauseRead_kept (n : Nat) (s : State) :
    (outOr s (execResetCauseRead n s)).pending = s.pending ∧ (outOr s (execResetCauseRead n s)).power.domains &&& 4091#12 = s.power.domains &&& 4091#12 := by unfold execResetCauseRead; simp

@[simp] theorem execRegisterWrite_kept (n : Nat) (off : Nat) (v : Word) (s : State) :
    (outOr s (execRegisterWrite n off v s)).pending = s.pending ∧ (outOr s (execRegisterWrite n off v s)).power.domains &&& 4091#12 = s.power.domains &&& 4091#12 := by unfold execRegisterWrite; simp

@[simp] theorem execSgmiiSeatFrame_kept (f : SeatFrame) (s : State) :
    (outOr s (execSgmiiSeatFrame f s)).pending = s.pending ∧ (outOr s (execSgmiiSeatFrame f s)).power.domains &&& 4091#12 = s.power.domains &&& 4091#12 := by unfold execSgmiiSeatFrame; (repeat' split) <;> simp

@[simp] theorem execCompletionResend_kept (n : Nat) (s : State) :
    (outOr s (execCompletionResend n s)).pending = s.pending ∧ (outOr s (execCompletionResend n s)).power.domains &&& 4091#12 = s.power.domains &&& 4091#12 := by unfold execCompletionResend; simp

@[simp] theorem execSpiBadOpcode_kept (_port : Nat) (byte0 : Byte) (s : State) :
    (outOr s (execSpiBadOpcode _port byte0 s)).pending = s.pending ∧ (outOr s (execSpiBadOpcode _port byte0 s)).power.domains &&& 4091#12 = s.power.domains &&& 4091#12 := by unfold execSpiBadOpcode; simp

@[simp] theorem execContTimeout_kept (n : Nat) (k : Nat) (s : State) :
    (outOr s (execContTimeout n k s)).pending = s.pending ∧ (outOr s (execContTimeout n k s)).power.domains &&& 4091#12 = s.power.domains &&& 4091#12 := by unfold execContTimeout; (repeat' split) <;> simp

@[simp] theorem execExecTimeout_kept (n : Nat) (tag : Word) (s : State) :
    (outOr s (execExecTimeout n tag s)).pending = s.pending ∧ (outOr s (execExecTimeout n tag s)).power.domains &&& 4091#12 = s.power.domains &&& 4091#12 := by unfold execExecTimeout; (repeat' split) <;> simp

@[simp] theorem seatGone_kept (n : Nat) (s : State) :
    (seatGone n s).pending = s.pending ∧ (seatGone n s).power.domains &&& 4091#12 = s.power.domains &&& 4091#12 := by unfold seatGone; simp

@[simp] theorem seatEnds_kept (n : Nat) (s : State) :
    (seatEnds n s).pending = s.pending ∧ (seatEnds n s).power.domains &&& 4091#12 = s.power.domains &&& 4091#12 := by unfold seatEnds; simp

@[simp] theorem execSeatAbsent_kept (n : Nat) (s : State) :
    (outOr s (execSeatAbsent n s)).pending = s.pending ∧ (outOr s (execSeatAbsent n s)).power.domains &&& 4091#12 = s.power.domains &&& 4091#12 := by unfold execSeatAbsent; simp

@[simp] theorem execCqStall_kept (n : Nat) (k : Nat) (s : State) :
    (outOr s (execCqStall n k s)).pending = s.pending ∧ (outOr s (execCqStall n k s)).power.domains &&& 4091#12 = s.power.domains &&& 4091#12 := by unfold execCqStall; (repeat' split) <;> simp

@[simp] theorem execEventsLost_kept (n : Nat) (s : State) :
    (outOr s (execEventsLost n s)).pending = s.pending ∧ (outOr s (execEventsLost n s)).power.domains &&& 4091#12 = s.power.domains &&& 4091#12 := by unfold execEventsLost; simp

@[simp] theorem execBadOpcode_kept (opcode : Half) (c : Cmd) (s : State) : (outOr s (execBadOpcode opcode c s)).pending = s.pending ∧ (outOr s (execBadOpcode opcode c s)).power.domains &&& 4091#12 = s.power.domains &&& 4091#12 := by
  unfold execBadOpcode; split
  · simp
  · exact host_kept _ _ _ _ _ fun q t => by simp

end Sys2Proof.Machine
end

