-- ==== Sys2Proof/Laws/KeptTrust.lean ====
section
/-! SUPPORT. What the operations of Trust.lean keep: the waiting commands, and the power domains (all but PD2, on which
no domain depends). -/

namespace Sys2Proof.Machine

@[simp] theorem freeKey_kept (k : Nat) (s : State) :
    (freeKey k s).pending = s.pending ∧ (freeKey k s).power.domains &&& 4091#12 = s.power.domains &&& 4091#12 := by unfold freeKey; simp

@[simp] theorem clearDueKeys_kept (s : State) :
    (clearDueKeys s).pending = s.pending ∧ (clearDueKeys s).power.domains &&& 4091#12 = s.power.domains &&& 4091#12 := by unfold clearDueKeys; simp

@[simp] theorem staleLevel_kept (s : State) :
    (staleLevel s).pending = s.pending ∧ (staleLevel s).power.domains &&& 4091#12 = s.power.domains &&& 4091#12 := by unfold staleLevel; simp

@[simp] theorem markStale_kept (s : State) :
    (markStale s).2.pending = s.pending ∧ (markStale s).2.power.domains &&& 4091#12 = s.power.domains &&& 4091#12 := by unfold markStale; simp

@[simp] theorem draw_kept (n : Nat) (s : State) :
    (draw n s).2.pending = s.pending ∧ (draw n s).2.power.domains &&& 4091#12 = s.power.domains &&& 4091#12 := by unfold draw; simp

@[simp] theorem remask_kept (k : Nat) (s : State) :
    (remask k s).pending = s.pending ∧ (remask k s).power.domains &&& 4091#12 = s.power.domains &&& 4091#12 := by
  unfold remask; simp

@[simp] theorem powerCells_kept (s : State) :
    (powerCells s).pending = s.pending ∧ (powerCells s).power.domains &&& 4091#12 = s.power.domains &&& 4091#12 := by
  unfold powerCells; simp

@[simp] theorem readBack_kept (s : State) :
    (readBack s).2.pending = s.pending ∧ (readBack s).2.power.domains &&& 4091#12 = s.power.domains &&& 4091#12 := by unfold readBack; simp

@[simp] theorem writeRecord_kept (k : Nat) (v : KeySlot) (s : State) :
    (writeRecord k v s).2.pending = s.pending ∧ (writeRecord k v s).2.power.domains &&& 4091#12 = s.power.domains &&& 4091#12 := by unfold writeRecord; simp

@[simp] theorem engine_kept (q : Req) (f : State → Reply) (s : State) (hf : ∀ t, (f t).state.pending = t.pending ∧ (f t).state.power.domains &&& 4091#12 = t.power.domains &&& 4091#12) :
    (engine q f s).state.pending = s.pending ∧ (engine q f s).state.power.domains &&& 4091#12 = s.power.domains &&& 4091#12 := by
  unfold engine; simp [hf]

@[simp] theorem mramWrite_kept (q : Req) (f : State → Reply) (s : State) (hf : ∀ t, (f t).state.pending = t.pending ∧ (f t).state.power.domains &&& 4091#12 = t.power.domains &&& 4091#12) :
    (mramWrite q f s).state.pending = s.pending ∧ (mramWrite q f s).state.power.domains &&& 4091#12 = s.power.domains &&& 4091#12 := by
  unfold mramWrite; simp [hf]

/-- Storing a key keeps where what follows it does. -/
theorem storeKey_from (s0 : State) (q : Req) (v : KeySlot) (s : State) (f : State → Nat → Reply)
    (h : ∀ t n, Kept t (f t n).state) (h0 : Kept s0 s) : Kept s0 (storeKey q v s f).state := by
  have hs : ∀ t, Kept t (f (markStale (remask q.idx t)).2 (markStale (remask q.idx t)).1).state := fun t =>
    ⟨(h _ _).1.trans (by simp), (h _ _).2.trans (by simp)⟩
  unfold storeKey; dsimp only; split
  · have hm := mramWrite_kept q (fun t => if (writeRecord q.idx v t).1 = true
        then f (markStale (remask q.idx (writeRecord q.idx v t).2)).2 (markStale (remask q.idx (writeRecord q.idx v t).2)).1
        else rej 0x08D2 (writeRecord q.idx v t).2) s fun t => by
      split
      · exact ⟨(hs _).1.trans (by simp), (hs _).2.trans (by simp)⟩
      · simp
    exact ⟨hm.1.trans h0.1, hm.2.trans h0.2⟩
  · exact ⟨(hs _).1.trans (by simp [h0.1]), (hs _).2.trans (by simp [h0.2])⟩

@[simp] theorem keyRej_kept (st : Nat) (s : State) :
    (keyRej st s).state.pending = s.pending ∧ (keyRej st s).state.power.domains &&& 4091#12 = s.power.domains &&& 4091#12 := by unfold keyRej; simp

@[simp] theorem keyWait_kept (q : Req) (s : State) :
    (keyWait q s).state.pending = s.pending ∧ (keyWait q s).state.power.domains &&& 4091#12 = s.power.domains &&& 4091#12 := by unfold keyWait; simp

@[simp] theorem makeKey_kept (q : Req) (value : List Byte) (s : State) : (makeKey q value s).state.pending = s.pending ∧ (makeKey q value s).state.power.domains &&& 4091#12 = s.power.domains &&& 4091#12 := by
 
  unfold makeKey; exact storeKey_from s _ _ _ _ (fun t n => by simp) (by simp)

@[simp] theorem keyGenerateOf_kept (q : Req) (s : State) :
    (keyGenerateOf q s).state.pending = s.pending ∧ (keyGenerateOf q s).state.power.domains &&& 4091#12 = s.power.domains &&& 4091#12 := by unfold keyGenerateOf; simp; (repeat' split) <;> simp

@[simp] theorem execKeyGenerate_kept (c : Cmd) (s : State) :
    (outOr s (execKeyGenerate c s)).pending = s.pending ∧ (outOr s (execKeyGenerate c s)).power.domains &&& 4091#12 = s.power.domains &&& 4091#12 := by unfold execKeyGenerate; simp

@[simp] theorem importKey_kept (q : Req) (s : State) :
    (importKey q s).state.pending = s.pending ∧ (importKey q s).state.power.domains &&& 4091#12 = s.power.domains &&& 4091#12 := by
 
  unfold importKey; dsimp only; (repeat' split) <;> simp

@[simp] theorem keyImportOf_kept (q : Req) (s : State) :
    (keyImportOf q s).state.pending = s.pending ∧ (keyImportOf q s).state.power.domains &&& 4091#12 = s.power.domains &&& 4091#12 := by
 
  unfold keyImportOf; dsimp only; (repeat' split) <;> simp

@[simp] theorem execKeyImport_kept (c : Cmd) (s : State) :
    (outOr s (execKeyImport c s)).pending = s.pending ∧ (outOr s (execKeyImport c s)).power.domains &&& 4091#12 = s.power.domains &&& 4091#12 := by unfold execKeyImport; simp

@[simp] theorem raiseGen_kept (q : Req) (value : List Byte) (s : State) : (raiseGen q value s).state.pending = s.pending ∧ (raiseGen q value s).state.power.domains &&& 4091#12 = s.power.domains &&& 4091#12 := by
 
  unfold raiseGen; exact storeKey_from s _ _ _ _ (fun t n => by simp) (by simp)

@[simp] theorem keyUpdateOf_kept (q : Req) (s : State) :
    (keyUpdateOf q s).state.pending = s.pending ∧ (keyUpdateOf q s).state.power.domains &&& 4091#12 = s.power.domains &&& 4091#12 := by unfold keyUpdateOf; (repeat' split) <;> simp

@[simp] theorem execKeyUpdate_kept (c : Cmd) (s : State) :
    (outOr s (execKeyUpdate c s)).pending = s.pending ∧ (outOr s (execKeyUpdate c s)).power.domains &&& 4091#12 = s.power.domains &&& 4091#12 := by unfold execKeyUpdate; simp

@[simp] theorem keyInvalidateOf_kept (q : Req) (s : State) :
    (keyInvalidateOf q s).state.pending = s.pending ∧ (keyInvalidateOf q s).state.power.domains &&& 4091#12 = s.power.domains &&& 4091#12 := by unfold keyInvalidateOf; (repeat' split) <;> simp

@[simp] theorem execKeyInvalidate_kept (c : Cmd) (s : State) :
    (outOr s (execKeyInvalidate c s)).pending = s.pending ∧ (outOr s (execKeyInvalidate c s)).power.domains &&& 4091#12 = s.power.domains &&& 4091#12 := by unfold execKeyInvalidate; simp

@[simp] theorem destroyKey_kept (q : Req) (s : State) :
    (destroyKey q s).state.pending = s.pending ∧ (destroyKey q s).state.power.domains &&& 4091#12 = s.power.domains &&& 4091#12 := by
 
  unfold destroyKey; simp only [Reply.state_done]
  refine ⟨(markStale_kept _).1.trans ?_, (markStale_kept _).2.trans ?_⟩ <;> split <;> simp

@[simp] theorem keyDestroyOf_kept (q : Req) (s : State) : (keyDestroyOf q s).state.pending = s.pending ∧ (keyDestroyOf q s).state.power.domains &&& 4091#12 = s.power.domains &&& 4091#12 := by
 
  unfold keyDestroyOf; dsimp only; repeat' split
  all_goals first
    | exact engine_kept _ _ _ fun t => by split <;> simp
    | simp

@[simp] theorem execKeyDestroy_kept (c : Cmd) (s : State) :
    (outOr s (execKeyDestroy c s)).pending = s.pending ∧ (outOr s (execKeyDestroy c s)).power.domains &&& 4091#12 = s.power.domains &&& 4091#12 := by unfold execKeyDestroy; simp

@[simp] theorem keyStatusOf_kept (q : Req) (s : State) :
    (keyStatusOf q s).state.pending = s.pending ∧ (keyStatusOf q s).state.power.domains &&& 4091#12 = s.power.domains &&& 4091#12 := by unfold keyStatusOf; simp

@[simp] theorem execKeyStatus_kept (c : Cmd) (s : State) :
    (outOr s (execKeyStatus c s)).pending = s.pending ∧ (outOr s (execKeyStatus c s)).power.domains &&& 4091#12 = s.power.domains &&& 4091#12 := by unfold execKeyStatus; simp

@[simp] theorem publicOut_kept (q : Req) (key : List Byte) (s : State) :
    (publicOut q key s).state.pending = s.pending ∧ (publicOut q key s).state.power.domains &&& 4091#12 = s.power.domains &&& 4091#12 := by
 
  unfold publicOut; dsimp only; repeat' split
  all_goals first
    | (rename_i h; exact ⟨(writeBuf_kept _ _ _ _ h).1.trans (by simp), (writeBuf_kept _ _ _ _ h).2.trans (by simp)⟩)
    | simp

@[simp] theorem keyPublicReadOf_kept (q : Req) (s : State) : (keyPublicReadOf q s).state.pending = s.pending ∧ (keyPublicReadOf q s).state.power.domains &&& 4091#12 = s.power.domains &&& 4091#12 := by
 
  unfold keyPublicReadOf; simp

@[simp] theorem execKeyPublicRead_kept (c : Cmd) (s : State) :
    (outOr s (execKeyPublicRead c s)).pending = s.pending ∧ (outOr s (execKeyPublicRead c s)).power.domains &&& 4091#12 = s.power.domains &&& 4091#12 := by unfold execKeyPublicRead; simp

@[simp] theorem admitUse_kept (k : Nat) (outcome : List Byte) (s : State) :
    (admitUse k outcome s).state.pending = s.pending ∧ (admitUse k outcome s).state.power.domains &&& 4091#12 = s.power.domains &&& 4091#12 := by unfold admitUse; simp

@[simp] theorem keySignOf_kept (q : Req) (s : State) :
    (keySignOf q s).state.pending = s.pending ∧ (keySignOf q s).state.power.domains &&& 4091#12 = s.power.domains &&& 4091#12 := by unfold keySignOf; (repeat' split) <;> simp

@[simp] theorem execKeySign_kept (c : Cmd) (s : State) :
    (outOr s (execKeySign c s)).pending = s.pending ∧ (outOr s (execKeySign c s)).power.domains &&& 4091#12 = s.power.domains &&& 4091#12 := by unfold execKeySign; simp

@[simp] theorem keyKmacOf_kept (q : Req) (s : State) :
    (keyKmacOf q s).state.pending = s.pending ∧ (keyKmacOf q s).state.power.domains &&& 4091#12 = s.power.domains &&& 4091#12 := by unfold keyKmacOf; (repeat' split) <;> simp

@[simp] theorem execKeyKmac_kept (c : Cmd) (s : State) :
    (outOr s (execKeyKmac c s)).pending = s.pending ∧ (outOr s (execKeyKmac c s)).power.domains &&& 4091#12 = s.power.domains &&& 4091#12 := by unfold execKeyKmac; simp

@[simp] theorem deliverKey_kept (l : Live) (s : State) :
    (deliverKey l s).pending = s.pending ∧ (deliverKey l s).power.domains &&& 4091#12 = s.power.domains &&& 4091#12 := by unfold deliverKey; simp

@[simp] theorem postResult_kept (l : Live) (s : State) :
    (postResult l s).pending = s.pending ∧ (postResult l s).power.domains &&& 4091#12 = s.power.domains &&& 4091#12 := by
  unfold postResult; simp

@[simp] theorem execKeyOperationDone_kept (k : Nat) (s : State) :
    (outOr s (execKeyOperationDone k s)).pending = s.pending ∧ (outOr s (execKeyOperationDone k s)).power.domains &&& 4091#12 = s.power.domains &&& 4091#12 := by unfold execKeyOperationDone; simp; (repeat' split) <;> simp

@[simp] theorem deliverResults_kept (s : State) : (deliverResults s).pending = s.pending ∧ (deliverResults s).power.domains &&& 4091#12 = s.power.domains &&& 4091#12 := by
  unfold deliverResults
  refine overL_from s _ _ _ (fun a t => ?_) (by simp)
  split <;> simp

@[simp] theorem execCryptoResultDiscard_kept (s : State) :
    (outOr s (execCryptoResultDiscard s)).pending = s.pending ∧ (outOr s (execCryptoResultDiscard s)).power.domains &&& 4091#12 = s.power.domains &&& 4091#12 := by unfold execCryptoResultDiscard; simp; (repeat' split) <;> simp

@[simp] theorem execStaleKeyFree_kept (k : Nat) (s : State) :
    (outOr s (execStaleKeyFree k s)).pending = s.pending ∧ (outOr s (execStaleKeyFree k s)).power.domains &&& 4091#12 = s.power.domains &&& 4091#12 := by unfold execStaleKeyFree; simp

@[simp] theorem attestChallengeOf_kept (q : Req) (s : State) :
    (attestChallengeOf q s).state.pending = s.pending ∧ (attestChallengeOf q s).state.power.domains &&& 4091#12 = s.power.domains &&& 4091#12 := by unfold attestChallengeOf; simp; (repeat' split) <;> simp

@[simp] theorem execAttestChallenge_kept (c : Cmd) (s : State) :
    (outOr s (execAttestChallenge c s)).pending = s.pending ∧ (outOr s (execAttestChallenge c s)).power.domains &&& 4091#12 = s.power.domains &&& 4091#12 := by unfold execAttestChallenge; simp

@[simp] theorem attestOut_kept (q : Req) (s : State) :
    (attestOut q s).state.pending = s.pending ∧ (attestOut q s).state.power.domains &&& 4091#12 = s.power.domains &&& 4091#12 := by
 
  unfold attestOut; dsimp only; split
  · simp
  · rename_i h; exact ⟨(writeBuf_kept _ _ _ _ h).1.trans (by simp), (writeBuf_kept _ _ _ _ h).2.trans (by simp)⟩

@[simp] theorem attestReportOf_kept (q : Req) (s : State) : (attestReportOf q s).state.pending = s.pending ∧ (attestReportOf q s).state.power.domains &&& 4091#12 = s.power.domains &&& 4091#12 := by
 
  unfold attestReportOf; (repeat' split) <;> simp

@[simp] theorem execAttestReport_kept (c : Cmd) (s : State) :
    (outOr s (execAttestReport c s)).pending = s.pending ∧ (outOr s (execAttestReport c s)).power.domains &&& 4091#12 = s.power.domains &&& 4091#12 := by unfold execAttestReport; simp

@[simp] theorem loseCells_kept (s : State) :
    (loseCells s).pending = s.pending ∧ (loseCells s).power.domains &&& 4091#12 = s.power.domains &&& 4091#12 := by unfold loseCells; simp

@[simp] theorem keyLost_kept (k : Nat) (s : State) :
    (keyLost k s).pending = s.pending ∧ (keyLost k s).power.domains &&& 4091#12 = s.power.domains &&& 4091#12 := by unfold keyLost; simp

@[simp] theorem loadKey_kept (k : Nat) (s : State) :
    (loadKey k s).pending = s.pending ∧ (loadKey k s).power.domains &&& 4091#12 = s.power.domains &&& 4091#12 := by unfold loadKey; simp; (repeat' split) <;> simp

@[simp] theorem keyMeaning_kept (opcode : Nat) (x1 : Req) (x2 : State) :
    (keyMeaning opcode x1 x2).state.pending = x2.pending ∧ (keyMeaning opcode x1 x2).state.power.domains &&& 4091#12 = x2.power.domains &&& 4091#12 := by unfold keyMeaning; (repeat' split) <;> simp

@[simp] theorem rerunKey_kept (l : Live) (s : State) : (rerunKey l s).pending = s.pending ∧ (rerunKey l s).power.domains &&& 4091#12 = s.power.domains &&& 4091#12 := by
  unfold rerunKey
  refine commitLive_kept _ _ _ fun t => ?_
  have hm : ∀ (n : Nat) (q : Req), Kept t
      (match keyMeaning n q t with
        | .done st r u => u.finish l st r
        | .live committed keep u => (if committed then u.commit l.order else u).setKeep l.order keep) := by
    intro n q
    have hk := keyMeaning_kept n q t
    generalize keyMeaning n q t = r at hk
    cases r with
    | done st r u => simpa using hk
    | live c k u => cases c <;> simpa using hk
  exact hm _ _

@[simp] theorem reloadKeys_kept (s : State) :
    (reloadKeys s).pending = s.pending ∧ (reloadKeys s).power.domains &&& 4091#12 = s.power.domains &&& 4091#12 := by unfold reloadKeys; simp

@[simp] theorem execKeyReload_kept (s : State) :
    (outOr s (execKeyReload s)).pending = s.pending ∧ (outOr s (execKeyReload s)).power.domains &&& 4091#12 = s.power.domains &&& 4091#12 := by unfold execKeyReload; simp

@[simp] theorem execKeyMaskRefresh_kept (k : Nat) (tagOk : Bool) (s : State) :
    (outOr s (execKeyMaskRefresh k tagOk s)).pending = s.pending ∧ (outOr s (execKeyMaskRefresh k tagOk s)).power.domains &&& 4091#12 = s.power.domains &&& 4091#12 := by unfold execKeyMaskRefresh; simp

@[simp] theorem execDrbgReseed_kept (health : Nat) (s : State) :
    (outOr s (execDrbgReseed health s)).pending = s.pending ∧ (outOr s (execDrbgReseed health s)).power.domains &&& 4091#12 = s.power.domains &&& 4091#12 := by unfold execDrbgReseed; simp

@[simp] theorem execRandomResume_kept (s : State) :
    (outOr s (execRandomResume s)).pending = s.pending ∧ (outOr s (execRandomResume s)).power.domains &&& 4091#12 = s.power.domains &&& 4091#12 := by unfold execRandomResume; simp

@[simp] theorem randomOf_kept (q : Req) (s : State) :
    (randomOf q s).state.pending = s.pending ∧ (randomOf q s).state.power.domains &&& 4091#12 = s.power.domains &&& 4091#12 := by
  unfold randomOf; simp

@[simp] theorem execRandomCmd_kept (c : Cmd) (s : State) :
    (outOr s (execRandomCmd c s)).pending = s.pending ∧ (outOr s (execRandomCmd c s)).power.domains &&& 4091#12 = s.power.domains &&& 4091#12 := by unfold execRandomCmd; simp

@[simp] theorem certWriteOf_kept (q : Req) (s : State) :
    (certWriteOf q s).state.pending = s.pending ∧ (certWriteOf q s).state.power.domains &&& 4091#12 = s.power.domains &&& 4091#12 := by unfold certWriteOf; (repeat' split) <;> simp

@[simp] theorem execCertWrite_kept (c : Cmd) (s : State) :
    (outOr s (execCertWrite c s)).pending = s.pending ∧ (outOr s (execCertWrite c s)).power.domains &&& 4091#12 = s.power.domains &&& 4091#12 := by unfold execCertWrite; simp

@[simp] theorem certReadOf_kept (q : Req) (s : State) :
    (certReadOf q s).state.pending = s.pending ∧ (certReadOf q s).state.power.domains &&& 4091#12 = s.power.domains &&& 4091#12 := by unfold certReadOf; simp

@[simp] theorem execCertRead_kept (c : Cmd) (s : State) :
    (outOr s (execCertRead c s)).pending = s.pending ∧ (outOr s (execCertRead c s)).power.domains &&& 4091#12 = s.power.domains &&& 4091#12 := by unfold execCertRead; simp

@[simp] theorem ownerKeySetOf_kept (q : Req) (s : State) :
    (ownerKeySetOf q s).state.pending = s.pending ∧ (ownerKeySetOf q s).state.power.domains &&& 4091#12 = s.power.domains &&& 4091#12 := by unfold ownerKeySetOf; simp

@[simp] theorem execOwnerKeySet_kept (c : Cmd) (s : State) :
    (outOr s (execOwnerKeySet c s)).pending = s.pending ∧ (outOr s (execOwnerKeySet c s)).power.domains &&& 4091#12 = s.power.domains &&& 4091#12 := by unfold execOwnerKeySet; simp

@[simp] theorem fwWriteOf_kept (q : Req) (s : State) :
    (fwWriteOf q s).state.pending = s.pending ∧ (fwWriteOf q s).state.power.domains &&& 4091#12 = s.power.domains &&& 4091#12 := by unfold fwWriteOf; simp; (repeat' split) <;> simp

@[simp] theorem execFwWrite_kept (c : Cmd) (s : State) :
    (outOr s (execFwWrite c s)).pending = s.pending ∧ (outOr s (execFwWrite c s)).power.domains &&& 4091#12 = s.power.domains &&& 4091#12 := by unfold execFwWrite; simp

@[simp] theorem fwActivateOf_kept (q : Req) (s : State) :
    (fwActivateOf q s).state.pending = s.pending ∧ (fwActivateOf q s).state.power.domains &&& 4091#12 = s.power.domains &&& 4091#12 := by unfold fwActivateOf; simp

@[simp] theorem execFwActivate_kept (c : Cmd) (s : State) :
    (outOr s (execFwActivate c s)).pending = s.pending ∧ (outOr s (execFwActivate c s)).power.domains &&& 4091#12 = s.power.domains &&& 4091#12 := by unfold execFwActivate; simp

@[simp] theorem fwConfirmOf_kept (q : Req) (s : State) :
    (fwConfirmOf q s).state.pending = s.pending ∧ (fwConfirmOf q s).state.power.domains &&& 4091#12 = s.power.domains &&& 4091#12 := by
  unfold fwConfirmOf; simp

@[simp] theorem execFwConfirm_kept (c : Cmd) (s : State) :
    (outOr s (execFwConfirm c s)).pending = s.pending ∧ (outOr s (execFwConfirm c s)).power.domains &&& 4091#12 = s.power.domains &&& 4091#12 := by unfold execFwConfirm; simp

@[simp] theorem fwStatusOf_kept (q : Req) (s : State) :
    (fwStatusOf q s).state.pending = s.pending ∧ (fwStatusOf q s).state.power.domains &&& 4091#12 = s.power.domains &&& 4091#12 := by
  unfold fwStatusOf; simp

@[simp] theorem execFwStatus_kept (c : Cmd) (s : State) :
    (outOr s (execFwStatus c s)).pending = s.pending ∧ (outOr s (execFwStatus c s)).power.domains &&& 4091#12 = s.power.domains &&& 4091#12 := by unfold execFwStatus; simp

end Sys2Proof.Machine
end

