-- ==== Sys2Proof/Laws/KeptJournal.lean ====
section
/-! SUPPORT. What the operations of Journal.lean keep: the waiting commands, and the power domains (all but PD2, on which
no domain depends). -/

namespace Sys2Proof.Machine

@[simp] theorem wrapBlock_kept (b : Nat) (s : State) :
    (wrapBlock b s).pending = s.pending ∧ (wrapBlock b s).power.domains &&& 4091#12 = s.power.domains &&& 4091#12 := by unfold wrapBlock; simp

@[simp] theorem writeSlot_kept (e : Option JEntry) (s : State) :
    (writeSlot e s).pending = s.pending ∧ (writeSlot e s).power.domains &&& 4091#12 = s.power.domains &&& 4091#12 := by unfold writeSlot; simp

@[simp] theorem writeEntry_kept (verified : Bool) (s : State) :
    (writeEntry verified s).pending = s.pending ∧ (writeEntry verified s).power.domains &&& 4091#12 = s.power.domains &&& 4091#12 := by
  unfold writeEntry; simp; (repeat' split) <;> simp

@[simp] theorem execJournalEntryWrite_kept (verified : Bool) (s : State) :
    (outOr s (execJournalEntryWrite verified s)).pending = s.pending ∧ (outOr s (execJournalEntryWrite verified s)).power.domains &&& 4091#12 = s.power.domains &&& 4091#12 := by
  unfold execJournalEntryWrite; simp

@[simp] theorem deferEntries_kept (s : State) :
    (deferEntries s).pending = s.pending ∧ (deferEntries s).power.domains &&& 4091#12 = s.power.domains &&& 4091#12 := by unfold deferEntries; simp

@[simp] theorem journalStatusOf_kept (q : Req) (s : State) : (journalStatusOf q s).state.pending = s.pending ∧ (journalStatusOf q s).state.power.domains &&& 4091#12 = s.power.domains &&& 4091#12 := by
  unfold journalStatusOf; dsimp only
  split <;> exact ⟨rfl, rfl⟩

@[simp] theorem execJournalStatus_kept (c : Cmd) (s : State) :
    (outOr s (execJournalStatus c s)).pending = s.pending ∧ (outOr s (execJournalStatus c s)).power.domains &&& 4091#12 = s.power.domains &&& 4091#12 := by unfold execJournalStatus; simp

@[simp] theorem journalReadOf_kept (q : Req) (s : State) : (journalReadOf q s).state.pending = s.pending ∧ (journalReadOf q s).state.power.domains &&& 4091#12 = s.power.domains &&& 4091#12 := by
  unfold journalReadOf; dsimp only; repeat' split
  all_goals first | (simp; done) | (rename_i h; exact writeBuf_kept _ _ _ _ h)

@[simp] theorem execJournalRead_kept (c : Cmd) (s : State) :
    (outOr s (execJournalRead c s)).pending = s.pending ∧ (outOr s (execJournalRead c s)).power.domains &&& 4091#12 = s.power.domains &&& 4091#12 := by unfold execJournalRead; simp

@[simp] theorem journalAckOf_kept (q : Req) (s : State) :
    (journalAckOf q s).state.pending = s.pending ∧ (journalAckOf q s).state.power.domains &&& 4091#12 = s.power.domains &&& 4091#12 := by unfold journalAckOf; simp

@[simp] theorem execJournalAck_kept (c : Cmd) (s : State) :
    (outOr s (execJournalAck c s)).pending = s.pending ∧ (outOr s (execJournalAck c s)).power.domains &&& 4091#12 = s.power.domains &&& 4091#12 := by unfold execJournalAck; simp

@[simp] theorem execRetireMapWrite_kept (s : State) :
    (outOr s (execRetireMapWrite s)).pending = s.pending ∧ (outOr s (execRetireMapWrite s)).power.domains &&& 4091#12 = s.power.domains &&& 4091#12 := by unfold execRetireMapWrite; simp

@[simp] theorem retireListOf_kept (q : Req) (s : State) :
    (retireListOf q s).state.pending = s.pending ∧ (retireListOf q s).state.power.domains &&& 4091#12 = s.power.domains &&& 4091#12 := by unfold retireListOf; simp

@[simp] theorem execRetireList_kept (c : Cmd) (s : State) :
    (outOr s (execRetireList c s)).pending = s.pending ∧ (outOr s (execRetireList c s)).power.domains &&& 4091#12 = s.power.domains &&& 4091#12 := by unfold execRetireList; simp

@[simp] theorem resume_kept (cls : Nat) (i : Nat) (sub : Nat) (s : State) :
    (resume cls i sub s).pending = s.pending ∧ (resume cls i sub s).power.domains &&& 4091#12 = s.power.domains &&& 4091#12 := by unfold resume; (repeat' split) <;> simp

@[simp] theorem retireClearOf_kept (q : Req) (s : State) :
    (retireClearOf q s).state.pending = s.pending ∧ (retireClearOf q s).state.power.domains &&& 4091#12 = s.power.domains &&& 4091#12 := by unfold retireClearOf; simp

@[simp] theorem execRetireClear_kept (c : Cmd) (s : State) :
    (outOr s (execRetireClear c s)).pending = s.pending ∧ (outOr s (execRetireClear c s)).power.domains &&& 4091#12 = s.power.domains &&& 4091#12 := by unfold execRetireClear; simp

@[simp] theorem execRecoveryContextTaken_kept (s : State) :
    (outOr s (execRecoveryContextTaken s)).pending = s.pending ∧ (outOr s (execRecoveryContextTaken s)).power.domains &&& 4091#12 = s.power.domains &&& 4091#12 := by unfold execRecoveryContextTaken; simp; (repeat' split) <;> simp

@[simp] theorem recoveryStatusOf_kept (q : Req) (s : State) :
    (recoveryStatusOf q s).state.pending = s.pending ∧ (recoveryStatusOf q s).state.power.domains &&& 4091#12 = s.power.domains &&& 4091#12 := by unfold recoveryStatusOf; (repeat' split) <;> simp

@[simp] theorem execRecoveryStatus_kept (c : Cmd) (s : State) :
    (outOr s (execRecoveryStatus c s)).pending = s.pending ∧ (outOr s (execRecoveryStatus c s)).power.domains &&& 4091#12 = s.power.domains &&& 4091#12 := by unfold execRecoveryStatus; simp

@[simp] theorem checkCountersOf_kept (q : Req) (s : State) :
    (checkCountersOf q s).state.pending = s.pending ∧ (checkCountersOf q s).state.power.domains &&& 4091#12 = s.power.domains &&& 4091#12 := by unfold checkCountersOf; simp

@[simp] theorem execCheckCounters_kept (c : Cmd) (s : State) :
    (outOr s (execCheckCounters c s)).pending = s.pending ∧ (outOr s (execCheckCounters c s)).power.domains &&& 4091#12 = s.power.domains &&& 4091#12 := by unfold execCheckCounters; simp

end Sys2Proof.Machine
end

