-- ==== Sys2Proof/Laws/KeptFumarole.lean ====
section
/-! SUPPORT. What the operations of Fumarole.lean keep: the waiting commands, and the power domains (all but PD2, on which
no domain depends). -/

namespace Sys2Proof.Machine

@[simp] theorem startWake_kept (cause : Nat) (rule : Nat) (value : Int) (mask : BitVec 12) (s : State) :
    (startWake cause rule value mask s).pending = s.pending ∧ (startWake cause rule value mask s).power.domains &&& 4091#12 = s.power.domains &&& 4091#12 := by unfold startWake; simp

@[simp] theorem execWakeN_kept (held : Nat) (s : State) :
    (outOr s (execWakeN s held)).pending = s.pending ∧ (outOr s (execWakeN s held)).power.domains &&& 4091#12 = s.power.domains &&& 4091#12 := by unfold execWakeN; simp

@[simp] theorem execWakeTime_kept (s : State) :
    (outOr s (execWakeTime s)).pending = s.pending ∧ (outOr s (execWakeTime s)).power.domains &&& 4091#12 = s.power.domains &&& 4091#12 := by unfold execWakeTime; (repeat' split) <;> simp

@[simp] theorem fumBuffer_kept (e : FumEntry) (s : State) :
    (fumBuffer e s).pending = s.pending ∧ (fumBuffer e s).power.domains &&& 4091#12 = s.power.domains &&& 4091#12 := by unfold fumBuffer; simp

@[simp] theorem ruleEdge_kept (e : FumEntry) (s : State) :
    (ruleEdge e s).pending = s.pending ∧ (ruleEdge e s).power.domains &&& 4091#12 = s.power.domains &&& 4091#12 := by unfold ruleEdge; simp

@[simp] theorem execRuleSample_kept (r : Nat) (conn : Nat) (raw : Int) (s : State) :
    (outOr s (execRuleSample r conn raw s)).pending = s.pending ∧ (outOr s (execRuleSample r conn raw s)).power.domains &&& 4091#12 = s.power.domains &&& 4091#12 := by unfold execRuleSample; simp; (repeat' split) <;> simp

@[simp] theorem drainOne_kept (s : State) :
    (drainOne s).pending = s.pending ∧ (drainOne s).power.domains &&& 4091#12 = s.power.domains &&& 4091#12 := by unfold drainOne; (repeat' split) <;> simp

@[simp] theorem drainAll_kept (s : State) :
    (drainAll s).pending = s.pending ∧ (drainAll s).power.domains &&& 4091#12 = s.power.domains &&& 4091#12 := by unfold drainAll; simp

@[simp] theorem execFumaroleBufferDrain_kept (s : State) :
    (outOr s (execFumaroleBufferDrain s)).pending = s.pending ∧ (outOr s (execFumaroleBufferDrain s)).power.domains &&& 4091#12 = s.power.domains &&& 4091#12 := by unfold execFumaroleBufferDrain; simp

@[simp] theorem execIdleEntry_kept (s : State) :
    (outOr s (execIdleEntry s)).pending = s.pending ∧ (outOr s (execIdleEntry s)).power.domains &&& 4091#12 = s.power.domains &&& 4091#12 := by unfold execIdleEntry; simp

@[simp] theorem islandOff_pending (s : State) : (islandOff s).pending = s.pending := by unfold islandOff; simp

@[simp] theorem arrayOff_kept (s : State) :
    (arrayOff s).pending = s.pending ∧ (arrayOff s).power.domains &&& 4091#12 = s.power.domains &&& 4091#12 := by unfold arrayOff; simp

@[simp] theorem reapply_kept (s : State) : (reapply s).pending = s.pending ∧ (reapply s).power.domains &&& 4091#12 = s.power.domains &&& 4091#12 := by
  unfold reapply
  refine overL_from s _ _ _ (fun a t => ?_) (by simp)
  dsimp only; split <;> (try split) <;> simp

@[simp] theorem coldReset_kept (s : State) :
    (coldReset s).pending = s.pending ∧ (coldReset s).power.domains &&& 4091#12 = s.power.domains &&& 4091#12 := by unfold coldReset; simp

@[simp] theorem keepChannels_kept (keep : BitVec 24) (s : State) :
    (keepChannels keep s).pending = s.pending ∧ (keepChannels keep s).power.domains &&& 4091#12 = s.power.domains &&& 4091#12 := by unfold keepChannels; simp

@[simp] theorem flushJournal_kept (s : State) :
    (flushJournal s).pending = s.pending ∧ (flushJournal s).power.domains &&& 4091#12 = s.power.domains &&& 4091#12 := by unfold flushJournal; simp

@[simp] theorem powerStateSetOf_kept (q : Req) (s : State) :
    (powerStateSetOf q s).state.pending = s.pending ∧ (powerStateSetOf q s).state.power.domains &&& 4091#12 = s.power.domains &&& 4091#12 := by unfold powerStateSetOf; simp; (repeat' split) <;> simp

@[simp] theorem finishEntry_pending (old : Nat) (s : State) : (finishEntry old s).pending = s.pending := by
  unfold finishEntry; split
  · simp
  · split <;> simp

@[simp] theorem execPowerStateSet_pending (c : Cmd) (s : State) :
    (outOr s (execPowerStateSet c s)).pending = s.pending := by unfold execPowerStateSet; simp

@[simp] theorem onRelease_kept (d : Nat) (s : State) :
    (onRelease d s).pending = s.pending ∧ (onRelease d s).power.domains &&& 4091#12 = s.power.domains &&& 4091#12 := by
  unfold onRelease; dsimp only; split
  · split
    · exact ⟨rfl, rfl⟩
    · split <;> simp
  · exact ⟨rfl, rfl⟩
  · split
    · exact ⟨(metroRestart_kept _).1, (metroRestart_kept _).2⟩
    · exact ⟨rfl, rfl⟩
  · split
    · exact ⟨rfl, rfl⟩
    · simp
  · exact powerCells_kept _
  · exact ⟨rfl, rfl⟩

@[simp] theorem execDomainReleased_pending (d : Nat) (s : State) : (outOr s (execDomainReleased d s)).pending = s.pending := by
  unfold execDomainReleased; split
  · rw [outOr_next]
  · rw [outOr_next]; dsimp only; split
    · rw [(updateHeater_kept _).1, (powerTo_kept _ _ _ _).1, (onRelease_kept _ _).1]
    · rw [(onRelease_kept _ _).1]

@[simp] theorem powerStatusOf_kept (x0 : Req) (s : State) :
    (powerStatusOf x0 s).state.pending = s.pending ∧ (powerStatusOf x0 s).state.power.domains &&& 4091#12 = s.power.domains &&& 4091#12 := by unfold powerStatusOf; simp

@[simp] theorem execPowerStatus_kept (c : Cmd) (s : State) :
    (outOr s (execPowerStatus c s)).pending = s.pending ∧ (outOr s (execPowerStatus c s)).power.domains &&& 4091#12 = s.power.domains &&& 4091#12 := by unfold execPowerStatus; simp

@[simp] theorem ruleStatusOf_kept (q : Req) (s : State) :
    (ruleStatusOf q s).state.pending = s.pending ∧ (ruleStatusOf q s).state.power.domains &&& 4091#12 = s.power.domains &&& 4091#12 := by unfold ruleStatusOf; simp

@[simp] theorem execRuleStatus_kept (c : Cmd) (s : State) :
    (outOr s (execRuleStatus c s)).pending = s.pending ∧ (outOr s (execRuleStatus c s)).power.domains &&& 4091#12 = s.power.domains &&& 4091#12 := by unfold execRuleStatus; simp

@[simp] theorem ruleConfigSetOf_kept (q : Req) (s : State) :
    (ruleConfigSetOf q s).state.pending = s.pending ∧ (ruleConfigSetOf q s).state.power.domains &&& 4091#12 = s.power.domains &&& 4091#12 := by unfold ruleConfigSetOf; simp

@[simp] theorem execRuleConfigSet_kept (c : Cmd) (s : State) :
    (outOr s (execRuleConfigSet c s)).pending = s.pending ∧ (outOr s (execRuleConfigSet c s)).power.domains &&& 4091#12 = s.power.domains &&& 4091#12 := by unfold execRuleConfigSet; simp

@[simp] theorem heaterForceOf_kept (q : Req) (s : State) :
    (heaterForceOf q s).state.pending = s.pending ∧ (heaterForceOf q s).state.power.domains &&& 4091#12 = s.power.domains &&& 4091#12 := by unfold heaterForceOf; simp

@[simp] theorem execHeaterForce_kept (c : Cmd) (s : State) :
    (outOr s (execHeaterForce c s)).pending = s.pending ∧ (outOr s (execHeaterForce c s)).power.domains &&& 4091#12 = s.power.domains &&& 4091#12 := by unfold execHeaterForce; simp

@[simp] theorem execHeaterForceEnd_kept (s : State) :
    (outOr s (execHeaterForceEnd s)).pending = s.pending ∧ (outOr s (execHeaterForceEnd s)).power.domains &&& 4091#12 = s.power.domains &&& 4091#12 := by unfold execHeaterForceEnd; simp

@[simp] theorem wakeLogReadOf_kept (q : Req) (s : State) :
    (wakeLogReadOf q s).state.pending = s.pending ∧ (wakeLogReadOf q s).state.power.domains &&& 4091#12 = s.power.domains &&& 4091#12 := by unfold wakeLogReadOf; (repeat' split) <;> simp

@[simp] theorem execWakeLogRead_kept (c : Cmd) (s : State) :
    (outOr s (execWakeLogRead c s)).pending = s.pending ∧ (outOr s (execWakeLogRead c s)).power.domains &&& 4091#12 = s.power.domains &&& 4091#12 := by unfold execWakeLogRead; simp

end Sys2Proof.Machine
end

