-- ==== Sys2Proof/Laws/KeptThermal.lean ====
section
/-! SUPPORT. What the operations of Thermal.lean keep: the waiting commands, and the power domains (all but PD2, on which
no domain depends). -/

namespace Sys2Proof.Machine

@[simp] theorem convert_kept (c : Nat) (code : Nat) (period : Option Nat) (s : State) :
    (convert c code period s).pending = s.pending ∧ (convert c code period s).power.domains &&& 4091#12 = s.power.domains &&& 4091#12 := by unfold convert; simp

@[simp] theorem execAinConversion_kept (c : Nat) (code : Nat) (s : State) :
    (outOr s (execAinConversion c code s)).pending = s.pending ∧ (outOr s (execAinConversion c code s)).power.domains &&& 4091#12 = s.power.domains &&& 4091#12 := by unfold execAinConversion; simp

@[simp] theorem execCompareTrigger_kept (p : Nat) (entry : Nat) (counter : Nat) (code : Nat) (s : State) :
    (outOr s (execCompareTrigger p entry code s counter)).pending = s.pending ∧ (outOr s (execCompareTrigger p entry code s counter)).power.domains &&& 4091#12 = s.power.domains &&& 4091#12 := by
  unfold execCompareTrigger; simp; (repeat' split) <;> simp

@[simp] theorem tempReport_kept (k : Nat) (entered : Bool) (s : State) :
    (tempReport k entered s).pending = s.pending ∧ (tempReport k entered s).power.domains &&& 4091#12 = s.power.domains &&& 4091#12 := by unfold tempReport; simp

@[simp] theorem shutDown_pending (s : State) : (shutDown s).pending = s.pending := by
  unfold shutDown; dsimp only; split
  · simp
  · refine (updateHeater_kept _).1.trans ?_; simp

@[simp] theorem tempEnter_pending (k : Nat) (s : State) : (tempEnter k s).pending = s.pending := by
  unfold tempEnter; dsimp only; split <;> (try split) <;> simp

@[simp] theorem tempLeave_kept (k : Nat) (s : State) :
    (tempLeave k s).pending = s.pending ∧ (tempLeave k s).power.domains &&& 4091#12 = s.power.domains &&& 4091#12 := by unfold tempLeave; simp

@[simp] theorem tempJudge_pending (fault : Bool) (first : Bool) (t : Int) (k : Nat) (s : State) :
    (tempJudge fault first t k s).pending = s.pending := by unfold tempJudge; simp

@[simp] theorem diodeFault_pending (how : Nat) (s : State) : (diodeFault how s).pending = s.pending := by
  unfold diodeFault; dsimp only; split
  · rfl
  · exact (overL_pending _ _ _ fun a t => tempEnter_pending a t).trans (by simp)

@[simp] theorem execDieTempSample_pending (temp : Option Int) (s : State) : (outOr s (execDieTempSample temp s)).pending = s.pending := by
  unfold execDieTempSample; dsimp only; split
  · simp
  · split
    · simp
    · rw [outOr_next, overL_pending _ _ _ fun a t => tempJudge_pending _ _ _ a t]; simp

@[simp] theorem execQueueStall_kept (q : Nat) (s : State) :
    (outOr s (execQueueStall q s)).pending = s.pending ∧ (outOr s (execQueueStall q s)).power.domains &&& 4091#12 = s.power.domains &&& 4091#12 := by unfold execQueueStall; simp

end Sys2Proof.Machine
end

