-- ==== Sys2Proof/Laws/KeptResets.lean ====
section
/-! SUPPORT. What the operations of Resets.lean keep: the waiting commands, and the power domains (all but PD2, on which
no domain depends). -/

namespace Sys2Proof.Machine

@[simp] theorem setCause_kept (b : Nat) (s : State) :
    (setCause b s).pending = s.pending ∧ (setCause b s).power.domains &&& 4091#12 = s.power.domains &&& 4091#12 := by unfold setCause; simp

@[simp] theorem bootSelect_kept (fuel : Nat) (s : State) : (bootSelect fuel s).pending = s.pending ∧ (bootSelect fuel s).power.domains &&& 4091#12 = s.power.domains &&& 4091#12 := by
  induction fuel generalizing s with
  | zero => simp [bootSelect]
  | succ n ih =>
    unfold bootSelect; dsimp only; split
    · simp
    · split
      · simp
      · split <;> simp [ih]

@[simp] theorem legalCheck_kept (s : State) :
    (legalCheck s).pending = s.pending ∧ (legalCheck s).power.domains &&& 4091#12 = s.power.domains &&& 4091#12 := by unfold legalCheck; simp

@[simp] theorem firmwareReady_kept (s : State) :
    (firmwareReady s).pending = s.pending ∧ (firmwareReady s).power.domains &&& 4091#12 = s.power.domains &&& 4091#12 := by unfold firmwareReady; simp

@[simp] theorem siteLoad_kept (power : Bool) (s : State) :
    (siteLoad power s).pending = s.pending ∧ (siteLoad power s).power.domains &&& 4091#12 = s.power.domains &&& 4091#12 := by
  unfold siteLoad; split
  · simp
  · simp [apply_ite State.pending, apply_ite State.power, apply_ite Power.domains]

@[simp] theorem bootRun_kept (power : Bool) (s : State) :
    (bootRun power s).pending = s.pending ∧ (bootRun power s).power.domains &&& 4091#12 = s.power.domains &&& 4091#12 := by
  unfold bootRun; simp

@[simp] theorem bootUp_pending (power : Bool) (s : State) : (bootUp power s).pending = s.pending := (bootRun_kept ..).1

@[simp] theorem powerLoss_pending (cause : BitVec 6) (s : State) : (powerLoss cause s).pending = s.pending := by
  unfold powerLoss; simp

@[simp] theorem frontEndTest_kept (ok : BitVec 16) (s : State) :
    (frontEndTest ok s).pending = s.pending ∧ (frontEndTest ok s).power.domains &&& 4091#12 = s.power.domains &&& 4091#12 := by unfold frontEndTest; simp

@[simp] theorem porSample_pending (b : BootInputs) (s : State) : (porSample b s).pending = s.pending := by
  unfold porSample; simp

@[simp] theorem spoilSave_kept (s : State) :
    (spoilSave s).pending = s.pending ∧ (spoilSave s).power.domains &&& 4091#12 = s.power.domains &&& 4091#12 := ⟨rfl, rfl⟩

@[simp] theorem mramFaults_kept (bad : BitVec 12) (s : State) :
    (mramFaults bad s).pending = s.pending ∧ (mramFaults bad s).power.domains &&& 4091#12 = s.power.domains &&& 4091#12 := by
  unfold mramFaults; simp

@[simp] theorem porBoot_pending (b : BootInputs) (s : State) : (porBoot b s).pending = s.pending := by
  unfold porBoot; simp

@[simp] theorem rootUp_kept (s : State) :
    (rootUp s).pending = s.pending ∧ (rootUp s).power.domains &&& 4091#12 = s.power.domains &&& 4091#12 := by unfold rootUp; simp

@[simp] theorem execPowerOnReset_pending (b : BootInputs) (s : State) : (outOr s (execPowerOnReset b s)).pending = s.pending := by
  unfold execPowerOnReset; dsimp only; split
  · simp
  · split
    · simp
    · simp only [outOr_next]; split
      · exact (State.report_kept ..).1.trans ((porBoot_pending ..).trans (by simp))
      · exact (porBoot_pending ..).trans (by simp)

@[simp] theorem execPorstNAsserted_pending (s : State) :
    (outOr s (execPorstNAsserted s)).pending = s.pending := by unfold execPorstNAsserted; simp

@[simp] theorem execSupplyBrownout_pending (rail : Nat) (millivolts : Nat) (s : State) :
    (outOr s (execSupplyBrownout rail millivolts s)).pending = s.pending := by unfold execSupplyBrownout; simp

@[simp] theorem execClockMonitorFault_kept (clock a b : Nat) (s : State) :
    (outOr s (execClockMonitorFault clock s a b)).pending = s.pending ∧ (outOr s (execClockMonitorFault clock s a b)).power.domains &&& 4091#12 = s.power.domains &&& 4091#12 := by unfold execClockMonitorFault; simp

@[simp] theorem execClockFaultReset_pending (s : State) : (outOr s (execClockFaultReset s)).pending = s.pending := by
  unfold execClockFaultReset; split <;> simp

@[simp] theorem execMultiplierLock_pending (error cycles : Nat) (s : State) :
    (outOr s (execMultiplierLock s error cycles)).pending = s.pending := by unfold execMultiplierLock; simp; (repeat' split) <;> simp

@[simp] theorem execReferenceReturn_kept (s : State) :
    (outOr s (execReferenceReturn s)).pending = s.pending ∧ (outOr s (execReferenceReturn s)).power.domains &&& 4091#12 = s.power.domains &&& 4091#12 := by unfold execReferenceReturn; simp

@[simp] theorem dropOutput_kept (o : Nat) (s : State) :
    (dropOutput o s).pending = s.pending ∧ (dropOutput o s).power.domains &&& 4091#12 = s.power.domains &&& 4091#12 := by unfold dropOutput; simp

@[simp] theorem soutDrop_kept (s : State) :
    (soutDrop s).pending = s.pending ∧ (soutDrop s).power.domains &&& 4091#12 = s.power.domains &&& 4091#12 := by unfold soutDrop; simp

@[simp] theorem execVoterSafeSoutDrop_pending (s : State) : (outOr s (execVoterSafeSoutDrop s)).pending = s.pending := by
  unfold execVoterSafeSoutDrop; dsimp only; split
  · split <;> simp
  · simp

@[simp] theorem coreReset_kept (cause : Nat) (s : State) :
    (coreReset cause s).pending = s.pending ∧ (coreReset cause s).power.domains &&& 4091#12 = s.power.domains &&& 4091#12 := by unfold coreReset; simp

@[simp] theorem execCoreWatchdog_kept (s : State) :
    (outOr s (execCoreWatchdog s)).pending = s.pending ∧ (outOr s (execCoreWatchdog s)).power.domains &&& 4091#12 = s.power.domains &&& 4091#12 := by unfold execCoreWatchdog; simp

@[simp] theorem postEnded_kept (s : State) :
    (postEnded s).pending = s.pending ∧ (postEnded s).power.domains &&& 4091#12 = s.power.domains &&& 4091#12 := by unfold postEnded; simp

@[simp] theorem reown_kept (s : State) :
    (reown s).pending = s.pending ∧ (reown s).power.domains &&& 4091#12 = s.power.domains &&& 4091#12 := by unfold reown; simp

@[simp] theorem execFirmwareStart_kept (s : State) :
    (outOr s (execFirmwareStart s)).pending = s.pending ∧ (outOr s (execFirmwareStart s)).power.domains &&& 4091#12 = s.power.domains &&& 4091#12 := by unfold execFirmwareStart; simp

@[simp] theorem resetOf_kept (q : Req) (s : State) :
    (resetOf q s).state.pending = s.pending ∧ (resetOf q s).state.power.domains &&& 4091#12 = s.power.domains &&& 4091#12 := by unfold resetOf; (repeat' split) <;> simp

@[simp] theorem afterReset_pending (was : State) (s : State) :
    (afterReset was s).pending = s.pending := by unfold afterReset; simp

@[simp] theorem execResetCmd_pending (c : Cmd) (s : State) :
    (outOr s (execResetCmd c s)).pending = s.pending := by unfold execResetCmd; simp

end Sys2Proof.Machine
end

