-- ==== Sys2Proof/Laws/DomainsSound.lean ====
section
/-! SUPPORT. The operations that switch power domains keep every domain's dependencies (R409, R410). -/

namespace Sys2Proof.Machine

/-- PD2 plays no part: no domain depends on it, and it depends on none. -/
theorem soundMask_masked (d : BitVec 12) : soundMask (d &&& 4091#12) = soundMask d := by
  simp [soundMask, upTo, List.range, List.range.loop, domainNeeds]

/-- What keeps the domains but PD2 keeps their soundness. -/
theorem Kept.sound {s t : State} (h : Kept s t) : t.domainsSound = s.domainsSound := by
  unfold State.domainsSound
  rw [← soundMask_masked t.power.domains, h.2, soundMask_masked]

/-- A domain whose needs are on may be switched on. -/
theorem soundMask_release (m : BitVec 12) (d : Nat) (hd : d < 12) (h : soundMask m = true)
    (hn : (domainNeeds d).all (fun k => m.getLsbD k) = true) : soundMask (m ||| BitVec.ofNat 12 (2 ^ d)) = true := by
  revert h hn
  interval_cases d <;> simp [soundMask, upTo, List.range, List.range.loop, domainNeeds] <;> grind

/-- A state that keeps the domains of one whose set is sound is sound. -/
theorem Kept.soundOf {s t : State} (h : Kept s t) (hs : soundMask s.power.domains = true) : t.domainsSound = true :=
  (Kept.sound h).trans hs

theorem soundMask_pd0 : soundMask 1 = true := by decide
theorem soundMask_standby : soundMask 0xE99 = true := by decide
theorem soundMask_run : soundMask runMask = true := by decide

theorem updateHeater_sound (s : State) : (updateHeater s).domainsSound = s.domainsSound := Kept.sound (updateHeater_kept s)

/-- A fold of steps that keep soundness keeps it. -/
theorem overL_sound {α : Type} (l : List α) (f : α → State → State) (s : State)
    (h : ∀ a t, t.domainsSound = true → (f a t).domainsSound = true) (hs : s.domainsSound = true) :
    (overL l f s).domainsSound = true := by
  unfold overL
  induction l generalizing s with
  | nil => exact hs
  | cons a r ih => exact ih _ (h a s hs)

theorem standbyStart_sound (u : State) :
    (updateHeater (powerTo 2 0 0 (overL (upTo 16) linkStart u))).domainsSound = u.domainsSound :=
  Kept.sound (by simp)

theorem dormantStart_sound (u : State) : (updateHeater (forgetRules u)).domainsSound = u.domainsSound := Kept.sound (by simp)

theorem finishEntry_sound (old : Nat) (s : State) (h : s.domainsSound = true) : (finishEntry old s).domainsSound = true := by
  unfold finishEntry; split
  · exact h
  · split
    · rw [standbyStart_sound]; exact soundMask_standby
    · rw [dormantStart_sound]; exact soundMask_pd0

theorem execPowerStateSet_sound (c : Cmd) (s : State) (h : s.domainsSound = true) :
    (outOr s (execPowerStateSet c s)).domainsSound = true := by
  unfold execPowerStateSet
  rw [outOr_next]
  refine finishEntry_sound _ _ ?_
  rw [Kept.sound (hostStep_kept _ _ _ _ fun q t => powerStateSetOf_kept q t)]
  exact h

theorem execDomainReleased_sound (d : Nat) (s : State) (h : s.domainsSound = true) :
    (outOr s (execDomainReleased d s)).domainsSound = true := by
  unfold execDomainReleased; split
  · exact h
  · rename_i hr
    have hr : s.releasable d = true := by simpa using hr
    have hd : runMask.getLsbD d = true ∧ (domainNeeds d).all (fun k => s.power.domains.getLsbD k) = true := by
      simp only [State.releasable, Bool.and_eq_true] at hr
      exact ⟨hr.1.1.1.2, hr.1.2⟩
    have hlt : d < 12 := BitVec.lt_of_getLsbD hd.1
    rw [outOr_next]
    refine Kept.soundOf (s := { s with power := { s.power with domains := s.power.domains ||| BitVec.ofNat 12 (2 ^ d) } }) ?_
      (soundMask_release _ _ hlt h hd.2)
    dsimp only; split <;> simp

theorem shutDown_sound (s : State) (h : s.domainsSound = true) : (shutDown s).domainsSound = true := by
  unfold shutDown; dsimp only; split
  · have k : ∀ u : State, Kept u (enterVoterSafe 6 (overL (upTo 8) (fun p t => if t.podFitted p then tripPod p 6 0 t else t) u)) :=
      fun u => by simp
    exact Kept.soundOf (k _) h
  · rw [updateHeater_sound]; exact soundMask_pd0

theorem tempEnter_sound (k : Nat) (s : State) (h : s.domainsSound = true) : (tempEnter k s).domainsSound = true := by
  unfold tempEnter; dsimp only; split
  · exact Kept.soundOf (tempReport_kept _ _ _) (Kept.soundOf (deferEntries_kept _) h)
  · exact Kept.soundOf (tempReport_kept _ _ _) (Kept.soundOf (deferEntries_kept _) h)
  · exact Kept.soundOf (tempReport_kept _ _ _) h
  · exact Kept.soundOf (tempReport_kept _ _ _) h
  · refine Kept.soundOf (tempReport_kept _ _ _) ?_
    split
    · exact Kept.soundOf (State.drain_kept _) h
    · exact h
  · exact shutDown_sound _ h
  · split
    · exact Kept.soundOf (writeSave_kept _ _) h
    · exact h

theorem tempJudge_sound (fault first : Bool) (t : Int) (k : Nat) (s : State) (h : s.domainsSound = true) :
    (tempJudge fault first t k s).domainsSound = true := by
  unfold tempJudge; dsimp only
  split
  · exact h
  · repeat' split
    all_goals first
      | exact h
      | exact Kept.soundOf (tempLeave_kept _ _) h
      | exact tempEnter_sound _ _ h

theorem diodeFault_sound (how : Nat) (s : State) (h : s.domainsSound = true) : (diodeFault how s).domainsSound = true := by
  unfold diodeFault; dsimp only; split
  · exact h
  · exact overL_sound _ _ _ (fun k t ht => tempEnter_sound k t ht) (Kept.soundOf (State.event_kept _ _ _ _) h)

theorem execDieTempSample_sound (temp : Option Int) (s : State) (h : s.domainsSound = true) :
    (outOr s (execDieTempSample temp s)).domainsSound = true := by
  have h : (afterSnapshot s).domainsSound = true := Kept.soundOf (afterSnapshot_kept s) h
  unfold execDieTempSample; dsimp only; split
  · rw [outOr_next]; split
    · exact h
    · exact diodeFault_sound _ _ h
  · split
    · exact diodeFault_sound _ _ h
    · exact overL_sound _ _ _ (fun k t ht => tempJudge_sound _ _ _ k t ht) h

theorem powerLoss_sound (cause : BitVec 6) (s : State) : (powerLoss cause s).domainsSound = true := by
  exact soundMask_pd0

theorem porSample_sound (b : BootInputs) (s : State) : (porSample b s).domainsSound = true := by
  unfold porSample
  have h := powerLoss_sound (if b.brownout then 0x21 else 1) s
  generalize powerLoss (if b.brownout then 0x21 else 1) s = t at h ⊢
  exact h

theorem bootUp_sound (power : Bool) (s : State) : (bootUp power s).domainsSound = true :=
  Kept.soundOf (bootRun_kept _ _) soundMask_run

theorem porBoot_sound (b : BootInputs) (s : State) : (porBoot b s).domainsSound = true :=
  Kept.soundOf (mramFaults_kept _ _) (Kept.soundOf (frontEndTest_kept _ _) (bootUp_sound _ _))

theorem execPowerOnReset_sound (b : BootInputs) (s : State) : (outOr s (execPowerOnReset b s)).domainsSound = true := by
  unfold execPowerOnReset; dsimp only; split
  · rw [outOr_next]
    refine Kept.soundOf (lsAllOff_kept _) ?_
    dsimp only; split
    · exact soundMask_run
    · exact soundMask_pd0
  · split
    · have h : (rootUp (porSample b s)).domainsSound = true := Kept.soundOf (rootUp_kept _) (porSample_sound b s)
      generalize rootUp (porSample b s) = t at h ⊢
      exact h
    · rw [outOr_next]; split
      · exact Kept.soundOf (State.report_kept _ _ _ _ _) (porBoot_sound _ _)
      · exact porBoot_sound _ _

theorem execMultiplierLock_sound (error cycles : Nat) (s : State) (h : s.domainsSound = true) :
    (outOr s (execMultiplierLock s error cycles)).domainsSound = true := by
  unfold execMultiplierLock; split
  · exact h
  · dsimp only; split
    · exact h
    · split
      · rw [outOr_next]; exact bootUp_sound _ _
      · rw [outOr_next]; exact Kept.soundOf (State.report_kept _ _ _ _ _) (bootUp_sound _ _)

theorem execClockFaultReset_sound (s : State) (h : s.domainsSound = true) : (outOr s (execClockFaultReset s)).domainsSound = true := by
  unfold execClockFaultReset; split
  · exact h
  · exact soundMask_pd0

theorem execVoterSafeSoutDrop_sound (s : State) (h : s.domainsSound = true) :
    (outOr s (execVoterSafeSoutDrop s)).domainsSound = true := by
  unfold execVoterSafeSoutDrop; dsimp only; split
  · split
    · rw [outOr_next, updateHeater_sound]; exact soundMask_pd0
    · rw [outOr_next]; exact Kept.soundOf (soutDrop_kept _) h
  · exact h

theorem afterReset_sound (was s : State) (h : s.domainsSound = true) : (afterReset was s).domainsSound = true := by
  unfold afterReset; split
  · exact bootUp_sound _ _
  · split
    · exact Kept.soundOf (coreReset_kept _ _) h
    · exact h

theorem execResetCmd_sound (c : Cmd) (s : State) (h : s.domainsSound = true) : (outOr s (execResetCmd c s)).domainsSound = true := by
  unfold execResetCmd
  rw [outOr_next]
  refine afterReset_sound _ _ ?_
  rw [Kept.sound (hostStep_kept _ _ _ _ fun q t => resetOf_kept q t)]
  exact h

end Sys2Proof.Machine
end

