-- ==== Sys2Proof/Laws/Memory.lean ====
section
/-! SUPPORT. The byte memories: every operation keeps the canonical form, and what is read after a write. -/

namespace Sys2Proof.Machine

/-- The canonical form of a list with a first entry. -/
theorem Memory.wf_cons (a : Nat) (b : Byte) (r : Mem) :
    Memory.wf ((a, b) :: r) = true ↔ b ≠ 0 ∧ (∀ e ∈ r, a < e.1) ∧ Memory.wf r = true := by
  induction r generalizing a b with
  | nil => simp [Memory.wf]
  | cons e r ih =>
    obtain ⟨c, d⟩ := e
    simp only [Memory.wf, Bool.and_eq_true, decide_eq_true_eq, bne_iff_ne, List.mem_cons, forall_eq_or_imp]
    constructor
    · rintro ⟨⟨hb, ha⟩, hw⟩
      exact ⟨hb, ⟨ha, fun e he => Nat.lt_trans ha (((ih c d).1 hw).2.1 e he)⟩, hw⟩
    · rintro ⟨hb, ⟨ha, -⟩, hw⟩
      exact ⟨⟨hb, ha⟩, hw⟩

/-- A byte below every listed address reads 0. -/
theorem mget_below {m : Mem} {a : Nat} (h : ∀ e ∈ m, a < e.1) : mget m a = 0 := by
  induction m with
  | nil => rfl
  | cons e r ih =>
    have := h e (by simp)
    rw [mget, if_neg (by omega), ih fun e he => h e (by simp [he])]

/-- Every address that a write leaves listed is listed before it, or is the written one. -/
theorem mem_mput {m : Mem} {a : Nat} {b : Byte} {e : Nat × Byte} (h : e ∈ mput m a b) : e.1 = a ∨ e ∈ m := by
  induction m with
  | nil => unfold mput at h; split at h <;> simp_all
  | cons f r ih =>
    unfold mput at h
    repeat' split at h
    all_goals simp only [List.mem_cons] at h ⊢
    · exact .inr h
    · rcases h with rfl | h
      · exact .inl rfl
      · exact .inr h
    · exact .inr (.inr h)
    · rcases h with rfl | h
      · exact .inl rfl
      · exact .inr (.inr h)
    · rcases h with rfl | h
      · exact .inr (.inl rfl)
      · rcases ih h with h | h
        · exact .inl h
        · exact .inr (.inr h)

/-- A write of one byte keeps the canonical form. -/
theorem mput_wf {m : Mem} (a : Nat) (b : Byte) (h : Memory.wf m = true) : Memory.wf (mput m a b) = true := by
  induction m with
  | nil => unfold mput; split <;> simp_all [Memory.wf]
  | cons e r ih =>
    obtain ⟨k, c⟩ := e
    have hw := (Memory.wf_cons k c r).1 h
    unfold mput
    repeat' split
    · exact h
    · rename_i ha hb
      refine (Memory.wf_cons _ _ _).2 ⟨hb, fun e he => ?_, h⟩
      rcases List.mem_cons.1 he with rfl | he
      · exact ha
      · exact Nat.lt_trans ha (hw.2.1 e he)
    · exact hw.2.2
    · rename_i hk hb
      exact (Memory.wf_cons _ _ _).2 ⟨hb, fun e he => hk ▸ hw.2.1 e he, hw.2.2⟩
    · refine (Memory.wf_cons _ _ _).2 ⟨hw.1, fun e he => ?_, ih hw.2.2⟩
      rcases mem_mput he with h | h
      · omega
      · exact hw.2.1 e h

/-- A write of consecutive bytes keeps the canonical form. -/
theorem mputs_wf {m : Mem} (a : Nat) (bs : List Byte) (h : Memory.wf m = true) : Memory.wf (mputs m a bs) = true := by
  induction bs generalizing m a with
  | nil => exact h
  | cons b r ih => exact ih (a + 1) (mput_wf a b h)

/-- What a byte reads after a write of one byte. -/
theorem mget_mput {m : Mem} (a k : Nat) (b : Byte) (h : Memory.wf m = true) :
    mget (mput m a b) k = if k = a then b else mget m k := by
  induction m with
  | nil =>
    unfold mput
    by_cases hb : b = 0
    · subst hb; simp [mget]
    · rw [if_neg hb]
      by_cases hk : k = a
      · subst hk; simp [mget]
      · rw [if_neg hk]; simp [mget, Ne.symm hk]
  | cons e r ih =>
    obtain ⟨j, c⟩ := e
    have hw := (Memory.wf_cons j c r).1 h
    unfold mput
    repeat' split
    · rename_i ha hb hk
      subst hk; subst hb
      refine mget_below fun e he => ?_
      rcases List.mem_cons.1 he with rfl | he
      · exact ha
      · exact Nat.lt_trans ha (hw.2.1 e he)
    · rfl
    · rename_i hk; subst hk; simp [mget]
    · rename_i hk; rw [mget, if_neg (by omega)]
    · rename_i hj hb hk; subst hk; subst hb; exact mget_below fun e he => hj ▸ hw.2.1 e he
    · rename_i hj hb hk; rw [mget, if_neg (by omega)]
    · rename_i hk; subst hk; simp [mget]
    · rename_i hk; rw [mget, mget, if_neg (by omega), if_neg (by omega)]
    · rename_i hj hk; subst hk; rw [mget, if_neg hj, ih hw.2.2, if_pos rfl]
    · rename_i hj hk; rw [mget, mget, ih hw.2.2, if_neg hk]

/-- What a byte reads after a write of consecutive bytes: the byte written there, or what it read before. -/
theorem mget_mputs {m : Mem} (a k : Nat) (bs : List Byte) (h : Memory.wf m = true) :
    mget (mputs m a bs) k = if a ≤ k ∧ k < a + bs.length then bs.getD (k - a) 0 else mget m k := by
  induction bs generalizing m a with
  | nil => rw [if_neg (by rw [List.length_nil]; omega)]; rfl
  | cons b r ih =>
    rw [mputs, ih (a + 1) (mput_wf a b h), mget_mput a k b h]
    by_cases h1 : k = a
    · subst h1; simp
    · by_cases h2 : a + 1 ≤ k ∧ k < a + 1 + r.length
      · obtain ⟨j, rfl⟩ : ∃ j, k = a + 1 + j := ⟨k - (a + 1), by omega⟩
        rw [if_pos h2, if_pos ⟨by omega, by rw [List.length_cons]; omega⟩, show a + 1 + j - a = j + 1 by omega,
          show a + 1 + j - (a + 1) = j by omega]
        simp
      · rw [if_neg h2, if_neg h1, if_neg (by rw [List.length_cons]; omega)]

/-- Equal reads make equal memories: the canonical form is one for each content. -/
theorem mem_ext {m n : Mem} (hm : Memory.wf m = true) (hn : Memory.wf n = true) (h : ∀ a, mget m a = mget n a) :
    m = n := by
  induction m generalizing n with
  | nil =>
    cases n with
    | nil => rfl
    | cons e r =>
      have := h e.1
      simp only [mget, if_true] at this
      exact absurd this.symm ((Memory.wf_cons e.1 e.2 r).1 hn).1
  | cons e r ih =>
    obtain ⟨a, b⟩ := e
    have hwm := (Memory.wf_cons a b r).1 hm
    cases n with
    | nil =>
      have := h a
      simp only [mget, if_true] at this
      exact absurd this hwm.1
    | cons f t =>
      obtain ⟨c, d⟩ := f
      have hwn := (Memory.wf_cons c d t).1 hn
      have hac : a = c := by
        rcases Nat.lt_trichotomy a c with hl | he | hl
        · have hh := h a
          rw [mget, if_pos rfl, mget_below (m := (c, d) :: t) (a := a)] at hh
          · exact absurd hh hwm.1
          · intro e he
            rcases List.mem_cons.1 he with rfl | he
            · exact hl
            · exact Nat.lt_trans hl (hwn.2.1 e he)
        · exact he
        · have hh := h c
          rw [mget_below (m := (a, b) :: r) (a := c), mget, if_pos rfl] at hh
          · exact absurd hh.symm hwn.1
          · intro e he
            rcases List.mem_cons.1 he with rfl | he
            · exact hl
            · exact Nat.lt_trans hl (hwm.2.1 e he)
      subst hac
      have hbd : b = d := by have := h a; simpa [mget] using this
      subst hbd
      rw [ih hwm.2.2 hwn.2.2]
      intro k
      have hk := h k
      by_cases hka : a = k
      · subst hka; rw [mget_below hwm.2.1, mget_below hwn.2.1]
      · rwa [mget, mget, if_neg hka, if_neg hka] at hk

end Sys2Proof.Machine
end

