-- ==== Sys2Proof/WellFormed.lean ====
section
/-! DEFINITION. Well-formed commands: a packet in the layout of Table 2-1 with its twelve parameter words, and object
numbers inside the ranges of Table 2-3. A meaning is defined for every term; a term that is not well formed names an
object the part does not have. -/

namespace Sys2Proof

/-- A host command's shape: a seat and one of its queues (R18), twelve parameter words (R33), at most 1 MiB of buffer
(R42). -/
def cmdOk (c : Cmd) : Bool :=
  decide (c.seat < 8 ∧ c.queue < 4 ∧ c.pkt.params.length = 12 ∧ c.buf.length ≤ 1048576)

/-- Well-formed commands. -/
def Instr.wf (i : Instr) : Bool :=
  match i with
  | .nop c => cmdOk c
  | .getInfo c => cmdOk c
  | .getTime c => cmdOk c
  | .getHealth c => cmdOk c
  | .resetCmd c => cmdOk c
  | .seatOpen c => cmdOk c
  | .seatClose c => cmdOk c
  | .seatQuery c => cmdOk c
  | .abortCmd c => cmdOk c
  | .eventSubscribe c => cmdOk c
  | .objectReassign c => cmdOk c
  | .objectList c => cmdOk c
  | .queueStatus c => cmdOk c
  | .counterRead c => cmdOk c
  | .counterClear c => cmdOk c
  | .sramStatus c => cmdOk c
  | .imageWrite c => cmdOk c
  | .epochStage c => cmdOk c
  | .epochCommit c => cmdOk c
  | .epochDiscard c => cmdOk c
  | .epochStatus c => cmdOk c
  | .digestRead c => cmdOk c
  | .configExport c => cmdOk c
  | .timeSet c => cmdOk c
  | .nodeRead c => cmdOk c
  | .nodeState c => cmdOk c
  | .nodeAdd c => cmdOk c
  | .nodeRemove c => cmdOk c
  | .nodeSet c => cmdOk c
  | .nodeMove c => cmdOk c
  | .treeCheck c => cmdOk c
  | .treeList c => cmdOk c
  | .nodeCurtail c => cmdOk c
  | .allocStatus c => cmdOk c
  | .snapshotSave c => cmdOk c
  | .snapshotRestore c => cmdOk c
  | .sensorState c => cmdOk c
  | .windowRead c => cmdOk c
  | .outputStatus c => cmdOk c
  | .outputStart c => cmdOk c
  | .outputSet c => cmdOk c
  | .outputStop c => cmdOk c
  | .podAssign c => cmdOk c
  | .matrixStatus c => cmdOk c
  | .outputCounters c => cmdOk c
  | .podStatus c => cmdOk c
  | .phaseStatus c => cmdOk c
  | .podEnable c => cmdOk c
  | .podDisable c => cmdOk c
  | .podShadow c => cmdOk c
  | .tripClear c => cmdOk c
  | .pwmHaltEnable c => cmdOk c
  | .podCounters c => cmdOk c
  | .loopStatus c => cmdOk c
  | .loopMode c => cmdOk c
  | .loopSetpoint c => cmdOk c
  | .loopCoefWrite c => cmdOk c
  | .loopCoefRead c => cmdOk c
  | .loopRevert c => cmdOk c
  | .loopConfigSet c => cmdOk c
  | .loopCounters c => cmdOk c
  | .geyserInject c => cmdOk c
  | .geyserArm c => cmdOk c
  | .geyserStatus c => cmdOk c
  | .geyserRead c => cmdOk c
  | .geyserStop c => cmdOk c
  | .connStatus c => cmdOk c
  | .connPilot c => cmdOk c
  | .linkCounters c => cmdOk c
  | .tonemapRefresh c => cmdOk c
  | .slacRead c => cmdOk c
  | .noiseRead c => cmdOk c
  | .sessionStatus c => cmdOk c
  | .sessionAnswer c => cmdOk c
  | .sessionTariff c => cmdOk c
  | .questionRead c => cmdOk c
  | .sessionStop c => cmdOk c
  | .sessionLimit c => cmdOk c
  | .sessionCounters c => cmdOk c
  | .metroStatus c => cmdOk c
  | .metroRead c => cmdOk c
  | .metroReadReset c => cmdOk c
  | .metroCaptureRead c => cmdOk c
  | .meterRecordList c => cmdOk c
  | .meterRecordRead c => cmdOk c
  | .meterRecordAck c => cmdOk c
  | .metroConfigSet c => cmdOk c
  | .metroSeal c => cmdOk c
  | .metroSaveStatus c => cmdOk c
  | .metroGapRead c => cmdOk c
  | .metroStrobeRead c => cmdOk c
  | .safetyStatus c => cmdOk c
  | .functionStatus c => cmdOk c
  | .ioStatus c => cmdOk c
  | .safeAck c => cmdOk c
  | .safeStateRequest c => cmdOk c
  | .safeRelease c => cmdOk c
  | .maintEnter c => cmdOk c
  | .maintExit c => cmdOk c
  | .proofTest c => cmdOk c
  | .axisStatus c => cmdOk c
  | .safeConnStatus c => cmdOk c
  | .lsStatus c => cmdOk c
  | .lsSet c => cmdOk c
  | .lsClear c => cmdOk c
  | .lsCurrents c => cmdOk c
  | .lsCounters c => cmdOk c
  | .lsConfigSet c => cmdOk c
  | .portStatus c => cmdOk c
  | .portCounters c => cmdOk c
  | .nodeStatus c => cmdOk c
  | .frameSend c => cmdOk c
  | .rxObjectSet c => cmdOk c
  | .rxObjectRead c => cmdOk c
  | .duplicateRead c => cmdOk c
  | .keyStatus c => cmdOk c
  | .keyGenerate c => cmdOk c
  | .keyImport c => cmdOk c
  | .keyUpdate c => cmdOk c
  | .keyInvalidate c => cmdOk c
  | .keyDestroy c => cmdOk c
  | .keyPublicRead c => cmdOk c
  | .keySign c => cmdOk c
  | .keyKmac c => cmdOk c
  | .attestChallenge c => cmdOk c
  | .attestReport c => cmdOk c
  | .certWrite c => cmdOk c
  | .certRead c => cmdOk c
  | .ownerKeySet c => cmdOk c
  | .fwWrite c => cmdOk c
  | .fwActivate c => cmdOk c
  | .fwConfirm c => cmdOk c
  | .fwStatus c => cmdOk c
  | .randomCmd c => cmdOk c
  | .journalStatus c => cmdOk c
  | .journalRead c => cmdOk c
  | .journalAck c => cmdOk c
  | .retireList c => cmdOk c
  | .retireClear c => cmdOk c
  | .recoveryStatus c => cmdOk c
  | .checkCounters c => cmdOk c
  | .powerStatus c => cmdOk c
  | .powerStateSet c => cmdOk c
  | .ruleStatus c => cmdOk c
  | .ruleConfigSet c => cmdOk c
  | .heaterForce c => cmdOk c
  | .wakeLogRead c => cmdOk c
  | .seatReset seat => decide (seat < 8)
  | .heartbeatWrite seat _ => decide (seat < 8)
  | .doorbell seat queue _ => decide (seat < 8 ∧ queue < 4)
  | .intStatusClear seat _ => decide (seat < 8)
  | .resetCauseRead seat => decide (seat < 8)
  | .registerWrite seat _ _ => decide (seat < 8)
  | .sgmiiSeatFrame frame => decide (frame.port < 2 ∧ frame.seat < 8)
  | .completionResend seat => decide (seat < 8)
  | .contTimeout seat queue => decide (seat < 8 ∧ queue < 4)
  | .execTimeout seat _ => decide (seat < 8)
  | .seatAbsent seat => decide (seat < 8)
  | .cqStall seat queue => decide (seat < 8 ∧ queue < 4)
  | .eventsLost seat => decide (seat < 8)
  | .queueStall q => decide (32 ≤ q ∧ q < 64)
  | .ptpMessage m => decide (m.port < 2)
  | .holdoverExpire => true
  | .ppsInEdge => true
  | .digestReadback => true
  | .stageTimeout => true
  | .epochTick => true
  | .epochMarkWrite => true
  | .periodBoundary => true
  | .grantBlockPublish _ => true
  | .allocOverrun => true
  | .curtailExpire node dir => decide (node < 1024 ∧ dir < 2)
  | .sensorRetired node sensor => decide (node < 1024 ∧ sensor < 5)
  | .grantExceeded output => decide (output < 16)
  | .reloadPoint pod _ _ => decide (pod < 8)
  | .q39ReferenceEntry => true
  | .phaseTurnOn phase _ => decide (phase < 48)
  | .comparatorTurnOff phase _ _ => decide (phase < 48)
  | .maxonEnd phase => decide (phase < 48)
  | .blankingEnd phase _ => decide (phase < 48)
  | .podTrip pod source _ _ _ => decide (pod < 8 ∧ 1 ≤ source ∧ source ≤ 6)
  | .syncInEdge pod _ _ => decide (pod < 8)
  | .syncLost pod => decide (pod < 8)
  | .compareTrigger pod entry code _ => decide (pod < 8 ∧ entry < 4 ∧ code < 65536)
  | .phaseShed pod => decide (pod < 8)
  | .phaseRestore pod => decide (pod < 8)
  | .signHoldEnd pod => decide (pod < 8)
  | .podDisableRampEnd pod => decide (pod < 8)
  | .debugHalt _ => true
  | .contactorCloseRequest output => decide (output < 16)
  | .contactorTimeout output => decide (output < 16)
  | .softStartDone output => decide (output < 16)
  | .outputShort output => decide (output < 16)
  | .stopRampEnd output => decide (output < 16)
  | .outputRetry output => decide (output < 16)
  | .podPoll pod => decide (pod < 8)
  | .podReply r => decide (r.pod < 8)
  | .reassignRampOutDone pod => decide (pod < 8)
  | .swAnswerTimeout pod => decide (pod < 8)
  | .matchTimeout pod => decide (pod < 8)
  | .reassignRampInDone pod => decide (pod < 8)
  | .slotSample slot _ _ _ => decide (slot < 64)
  | .loopFollowing slot => decide (slot < 64)
  | .loopMeasLost slot => decide (slot < 64)
  | .geyserDone => true
  | .pilotChange conn _ _ _ => decide (conn < 16)
  | .proximityWithoutPilot conn _ _ => decide (conn < 16)
  | .vehicleFrame conn _ => decide (conn < 16)
  | .slacMessage conn _ => decide (conn < 16)
  | .slacFailed conn => decide (conn < 16)
  | .restartFStepEnd conn => decide (conn < 16)
  | .toneMapRefreshDue conn => decide (conn < 16)
  | .linkIdleTimeout conn => decide (conn < 16)
  | .relinkTimeout conn => decide (conn < 16)
  | .linkDriverFault conn _ => decide (conn < 16)
  | .linkFaultBackoffEnd conn => decide (conn < 16)
  | .v2gMessage conn _ => decide (conn < 16)
  | .reqPeriodExpire conn => decide (conn < 16)
  | .questionTimeout conn => decide (conn < 16)
  | .vehicleStopTimeout conn => decide (conn < 16)
  | .sampleBoundary codes _ => decide (codes.length = 48)
  | .recordSigned _ => true
  | .periodicSave => true
  | .totaliserAnchorWrite => true
  | .powerFailWarning _ _ => true
  | .powerFailRepeatSave => true
  | .powerFailWithdrawn _ => true
  | .safetyFrameBoundary signatures => decide (signatures.length ≤ 4)
  | .checkpointValid => true
  | .voteMismatch _ _ _ _ _ => true
  | .voterSafeSoutDrop => true
  | .sparePowered => true
  | .spareSelfTestDone _ => true
  | .spareCheckpointLoaded _ => true
  | .spareCaughtUp => true
  | .sparePromoted _ => true
  | .spareFailed => true
  | .parkedSelfTestDone channel _ => decide (channel < 4)
  | .safetyStartupTestDone _ => true
  | .safetyInputChange input _ _ _ => decide (input < 24)
  | .inputDiscrepancy input => decide (input < 24)
  | .testPulse sout _ _ => decide (sout < 32)
  | .vehicleLimitRegister output _ => decide (output < 16)
  | .vehicleLimit output => decide (output < 16)
  | .insulationPassed output => decide (output < 16)
  | .encoderEdge axis _ _ _ => decide (axis < 4)
  | .safeMessageTransmit conn => decide (conn < 64)
  | .safeMessageReceive m => decide (m.conn < 64)
  | .safeMsgSkewExpire conn => decide (conn < 64)
  | .safeMsgLost conn => decide (conn < 64)
  | .normalSafeStateEscalate output => decide (output < 16)
  | .emergencyContactorOpen output => decide (output < 16)
  | .tHoldExpire output => decide (output < 16)
  | .hbCtrlSend => true
  | .hbNode node _ => decide (node < 512)
  | .nodeAbsent node => decide (node < 512)
  | .nodeReport node _ => decide (node < 512)
  | .stageResult node _ _ h => decide (node < 512 ∧ h.port < 16)
  | .commitAck node _ _ h => decide (node < 512 ∧ h.port < 16)
  | .commitAnnounceResend => true
  | .canBusError port _ => decide (port < 16)
  | .busOffRecovered port => decide (port < 16)
  | .portRejoin port => decide (port < 16)
  | .duplicateQuietEnd port _ => decide (port < 16)
  | .hostFrameReceive port _ => decide (port < 16)
  | .rxHoldExpire port object => decide (port < 16 ∧ object < 16)
  | .canTransmitDone port buffer _ _ _ => decide (port < 16 ∧ buffer ≤ 4)
  | .lsShort channel _ _ => decide (channel < 24)
  | .lsOverload channel _ => decide (channel < 24)
  | .lsThermal channel _ => decide (channel < 24)
  | .lsThermalRestart channel _ => decide (channel < 24)
  | .lsDieOvertemp _ => true
  | .lsOpenLoad channel _ => decide (channel < 24)
  | .lsSupply _ => true
  | .inrushWindowEnd channel _ => decide (channel < 24)
  | .vlsDroop _ => true
  | .lsBurstRetry channel => decide (channel < 24)
  | .lsBackoffExpire channel => decide (channel < 24)
  | .lsLinkLost => true
  | .lsLinkRestored => true
  | .lsLimp _ => true
  | .lhinChange k _ => decide (k < 8)
  | .keyMaskRefresh slot _ => decide (slot < 256)
  | .keyReload => true
  | .keyOperationDone slot => decide (slot < 256)
  | .staleKeyFree slot => decide (slot < 256)
  | .drbgReseed _ => true
  | .randomResume => true
  | .cryptoResultDiscard => true
  | .ruleSample rule _ _ => decide (rule < 32)
  | .wakeN _ => true
  | .wakeTime => true
  | .domainReleased domain => decide (domain < 12)
  | .idleEntry => true
  | .heaterForceEnd => true
  | .fumaroleBufferDrain => true
  | .multiplierLock _ _ => true
  | .clockMonitorFault clock a b => decide (clock < 10 ∧ a < 2 ^ 32 ∧ b < 2 ^ 32)
  | .clockFaultReset => true
  | .ainConversion channel code => decide (channel < 32 ∧ code < 65536)
  | .dieTempSample _ => true
  | .coreWatchdog => true
  | .firmwareStart => true
  | .powerOnReset _ => true
  | .supplyBrownout _ _ => true
  | .journalEntryWrite _ => true
  | .retireMapWrite => true
  | .recoveryContextTaken => true
  | .badOpcode _ c => cmdOk c
  | .spiBadOpcode port _ => decide (port < 2)
  | .switchTimeout pod => decide (pod < 8)
  | .pilotReadbackFault conn _ => decide (conn < 16)
  | .soutStuck sout _ _ => decide (sout < 32)
  | .testPulseMissed input => decide (input < 24)
  | .vehicleLimitLowered output => decide (output < 16)
  | .lsBurstEnd channel _ => decide (channel < 24)
  | .droopPauseEnd channel => decide (channel < 24)
  | .referenceReturn => true
  | .porstNAsserted => true

end Sys2Proof
end

