-- ==== Sys2Proof/Tests/Slice0.lean ====
section
/-! SUPPORT. Tests: for every entry of the lists of cases and events, a concrete state and operands that meet its
condition; for every other statement with hypotheses, one that meets those; a few effects worked out from the rules; and
an ill-formed command for each check of WellFormed. -/

namespace Sys2Proof.Tests

set_option Elab.async false

open Sys2Proof Sys2Proof.Machine

/-! ### A small site -/

/-- An ADMIN seat on PCIe with one command queue, one completion queue, and every opcode in its mask. -/
def seat0 : SeatCfg :=
  { role := 0, transport := 0, port := 0, mac := 0, queues := [⟨0, 1, 4, 1⟩, ⟨1, 2, 4, 0⟩], mask := groupMask (upTo 17),
    owns := [], hbTimeout := 1000 }

/-- A SITE_FEED as node 0 (Table 4-2). -/
def root : Mem := mputs [] 0 (leBytes 1 2 ++ leBytes 0xFFFF 2 ++ [0, 0] ++ leBytes 1 2 ++ leBytes 0xFFFF 2 ++ [0, 0] ++
  leBytes 100000 4 ++ leBytes 0 12 ++ leBytes 0 4 ++ leBytes 1000 4 ++ leBytes 1000 4)

/-- A device that runs, all domains on, a configuration in force, with seat 0 OPEN. -/
def base : State :=
  let s := State.reset
  { s with
    boot := { s.boot with stage := 4, coreReset := false }
    power := { s.power with domains := 0xFFF, state := 0 }
    ep := { s.ep with loaded := true, cfg := { s.ep.cfg with seats := ⟨[(0, seat0)], []⟩, nodes := [(0, root)] } }
    hostIf := { s.hostIf with seats := [(0, { state := 1 })] } }

/-- Bytes of a configuration block. -/
def cfgB (k o : Nat) (bs : List Byte) (s : State) : State :=
  let c := s.ep.cfg
  { s with ep := { s.ep with cfg := { c with blocks := tset c.blocks k (mputs (tget c.blocks k []) o bs) } } }
/-- A tree node of the configuration. -/
def cfgN (n : Nat) (m : Mem) (s : State) : State :=
  let c := s.ep.cfg
  { s with ep := { s.ep with cfg := { c with nodes := tset c.nodes n m } } }
/-- A field node of the configuration. -/
def cfgF (n : Nat) (m : Mem) (s : State) : State :=
  let c := s.ep.cfg
  { s with ep := { s.ep with cfg := { c with fields := tset c.fields n m } } }

/-- The epoch unit in a phase. -/
def phase (n : Nat) (s : State) : State := { s with ep := { s.ep with phase := n } }
/-- Site time is valid. -/
def valid (s : State) : State := { s with clk := { s.clk with timeValid := true } }

/-- The blocks of a site in which every field lies in its range and nothing is fitted (Tables 3-3 to 18-6). -/
def site (s : State) : State :=
  let c := s.ep.cfg
  let b (k : Nat) (l : List Byte) : Nat × Mem := (k, mputs [] 0 l)
  let l4 (l : List Nat) : List Byte := l.flatMap fun v => leBytes v 4
  let l2 (l : List Nat) : List Byte := l.flatMap fun v => leBytes v 2
  let none8 : List Byte := [0xFF, 0, 0, 0, 0, 0, 0, 0]
  { s with ep := { s.ep with cfg := { c with blocks := [
    b 0 ([1, 0] ++ l2 [1000] ++ l4 [100000]),
    b 2 (l4 [100000] ++ l2 [0, 60] ++ l4 [1000, 0, 0, 1]),
    b 5 (l2 [0, 100, 10, 10] ++ l4 [1000] ++ l2 [50]),
    b 6 (l2 [1000] ++ [50, 0, 0, 0xFF]),
    b 7 (l2 [0, 10] ++ l4 [0, 1000] ++ l2 [1000, 0xFFFF] ++ List.replicate 464 0 ++ (List.replicate 16 none8).flatten),
    b 8 (l2 [50, 64] ++ [10, 10, 3, 10]), b 9 (l2 [100] ++ [10, 10]), b 10 [8, 60], b 11 (l2 [160, 120]),
    b 12 ([0, 1, 2] ++ List.replicate 13 0 ++ (List.replicate 16 none8).flatten ++
      (List.replicate 16 [(0xFF : Byte), 0, 0, 0]).flatten),
    b 13 (l2 [60]), b 14 (l4 ([1000, 1000, 30000] ++ List.replicate 13 1000) ++
      l2 [100, 1000, 500, 10, 100, 2000, 2000, 1000, 20000, 10000, 5000]),
    b 15 ([0, 16] ++ l2 [1000, 1000, 100])] } } }

/-- A packet with its check (R38). -/
def mkPkt (op : Nat) (fl : Byte) (h : Word) (ps : List Word) : Packet :=
  let p : Packet := ⟨fl, BitVec.ofNat 8 ps.length, 7, h, (ps ++ List.replicate 12 0).take 12, 0⟩
  { p with check := BitVec.ofNat 32 (packetCheck 0 0 op p) }
/-- A command of seat 0. -/
def mkCmd (op : Nat) (fl : Byte) (h : Word) (ps : List Word) (buf : List Byte) : Cmd :=
  { seat := 0, queue := 0, pkt := mkPkt op fl h ps, buf := buf, busError := false }
/-- The state with a packet doorbelled in slot 0 of seat 0's command queue. -/
def put (op : Nat) (c : Cmd) (s : State) : State :=
  s.setRing 0 0 { s.ring 0 0 with tail := 1, slots := (pktRaw op c.pkt).zipIdx.map fun e => (e.2, e.1) }
/-- The state with the first `ps` words of a continued command already taken (R41). -/
def putCont (op : Nat) (h : Word) (ps : List Word) (s : State) : State :=
  s.setRing 0 0 { s.ring 0 0 with cont := some ⟨BitVec.ofNat 16 op, 7, h, 1, ps, 1, false, false, 0, 0, 0⟩ }
/-- A buffer descriptor (R42) with the right CRC. -/
def descr (addr : Word) (b : List Byte) : List Word := [addr, 0, BitVec.ofNat 32 b.length, BitVec.ofNat 32 (crc 7 b)]

/-- A live command of seat 0. -/
def lv (op : Half) (tag h : Word) (committed : Bool) : Live :=
  { seat := 0, queue := 0, tag := tag, opcode := op, handle := h, params := [], committed := committed, needsOwner := false,
    discard := false, deadline := none, order := 1000, keep := [], ended := none, commitTime := none }
/-- The state with a live command. -/
def withLive (l : Live) (s : State) : State := { s with hostIf := { s.hostIf with live := [l] } }

/-- A witness: handle, words, what the state has beside `base`, FLAGS, a buffer, and what the packet's operands show. -/
structure Wit where
  h : Word := 0
  ps : List Word := []
  f : State → State := id
  fl : Byte := 0
  buf : List Byte := []
  c : Cmd → Cmd := id

/-- The witness meets its case: the command runs from the witness's state, and the case's condition holds there. -/
def met (e : Case) (w : Wit) : Bool :=
  let op := e.info.opcode
  let c := w.c (if 12 < w.ps.length then mkCmd op w.fl w.h (w.ps.drop 12) w.buf else mkCmd op w.fl w.h w.ps w.buf)
  let s := if 12 < w.ps.length then putCont op w.h (w.ps.take 12) (w.f base) else w.f base
  match admitted e.info c (put op c s) with
  | none => false
  | some p => e.ok p.1 p.2

/-- Every case of a list has its witness. -/
def allMet (l : List Case) (ws : List Wit) : Bool := decide (l.length = ws.length) && (l.zip ws).all fun p => met p.1 p.2

def seatCasesW : List Wit := [{}, {}, { f := cfgB 0 0 [4] }, { f := cfgB 0 0 [1] }, {},
  { h := handle 1 0, ps := [1], f := fun s => s.setSeat 0 { s.seat 0 with state := 2 } }, { h := handle 1 0, ps := [1] },
  { h := handle 1 0, ps := [2] }, { h := handle 1 0 }, { h := handle 1 0 }, { h := handle 1 0, ps := [9] },
  { h := handle 1 0, ps := [9], f := fun s => s.setRing 0 1 { s.ring 0 1 with posted := [⟨9, 0, 0x0100, 0, 0, 0⟩] } },
  { h := handle 1 0, ps := [7] },
  { h := handle 1 0, ps := [9], f := withLive (lv 0x0A01 9 0 false) },
  { h := handle 1 0, ps := [9], f := withLive (lv 0x0300 9 0 true) },
  { h := handle 1 0, ps := [0xFFFF, 0, 1] }, { h := handle 1 0, ps := [0xFFFF, 0, 0] }, { ps := [0xFF] }, { ps := [3] },
  { h := handle 1 0, ps := [0] }, { h := handle 2 32 }, { h := handle 2 0 }, { ps := [25] }, { ps := [26] },
      { ps := [25] },
  { ps := [26] }, {}]
/-- Every entry of seatCases runs from a state that meets its condition. -/
theorem test_seatCases_met : allMet seatCases seatCasesW = true := by decide +kernel

/-- A field node of kind 1 on port 1 (Table 14-3). -/
def fieldNode : Mem := mputs [] 0 ([1, 0, 0, 0, 0xFF, 50] ++ leBytes 1000 2 ++ leBytes 0 2)

def epochCasesW : List Wit := [{ ps := [1, 2], f := cfgB 0 0 [4] }, { ps := [1, 2] }, { ps := [0, 0] }, { ps := [0, 3] },
  { ps := [17] }, { ps := [0, 1] }, { ps := [1048576, 1] },
  { ps := [0, 1], f := fun s => { s with clk := { s.clk with inForce := [0] } } }, { ps := [1], f := site },
  { ps := [1], f := fun s => cfgF 0 fieldNode (site s) },
      { ps := [1], f := site, c := fun c => { c with shadowFault := true } }, { ps := [0] },
      { ps := [1], f := phase 3 }, { ps := [2] },
  { ps := [300000, 0, 1], f := fun s => phase 2 (valid s) }, { ps := [0, 0] }, { ps := [0, 0], f := valid },
  { ps := [0, 0], f := fun s => phase 2 (valid s) },
  { ps := [300000, 0], f := fun s => let t := phase 2 (valid s); { t with ep := { t.ep with answers := [(0, 0)] } } },
  { f := phase 2 }, { f := phase 3 }, {}, {},
      { ps := [1, 0, 64, 0, 0], fl := 2, f := fun s => { s with ep := { s.ep with loaded := false } } },
  { ps := [1, 0, 64, 0, 0], fl := 2 }, { ps := [1, 0, 64, 0, 100000000], fl := 2 }]

/-- A part of a list: `n` entries from the entry `k`. -/
def part {α : Type} (k n : Nat) (l : List α) : List α := (l.drop k).take n

/-! Every entry of epochCases runs from a state that meets its condition: the list in parts, since a check of a whole
configuration is long. -/

theorem test_epochCases_first : allMet (part 0 8 epochCases) (part 0 8 epochCasesW) = true := by decide +kernel
theorem test_epochCases_staged : allMet (part 8 1 epochCases) (part 8 1 epochCasesW) = true := by decide +kernel
theorem test_epochCases_stagedNodes : allMet (part 9 1 epochCases) (part 9 1 epochCasesW) = true := by decide +kernel
theorem test_epochCases_notRead : allMet (part 10 1 epochCases) (part 10 1 epochCasesW) = true := by decide +kernel
theorem test_epochCases_next : allMet (part 11 6 epochCases) (part 11 6 epochCasesW) = true := by decide +kernel
theorem test_epochCases_last : allMet (part 17 9 epochCases) (part 17 9 epochCasesW) = true := by decide +kernel
theorem test_epochCases_all : epochCases.length = 26 ∧ epochCasesW.length = 26 := by decide +kernel

/-- A group of kind 2 below node 0. -/
def child : List Byte := leBytes 2 2 ++ leBytes 0 2 ++ [0, 0] ++ leBytes 1 2 ++ leBytes 0xFFFF 2 ++ [0, 0] ++ leBytes
      100000 4 ++
  leBytes 0 12 ++ leBytes 0 4 ++ leBytes 1000 4 ++ leBytes 1000 4 ++ List.replicate 48 0
/-- Bytes as words. -/
def toWords (bs : List Byte) : List Word := (upTo (bs.length / 4)).map fun i => BitVec.ofNat 32 (leNat ((bs.drop (4 *
      i)).take 4))
def node1 : State → State := cfgN 1 (mputs [] 0 child)

def treeCasesW : List Wit := [{ h := handle 3 0, ps := [0] }, { h := handle 3 0, ps := [0, 1] },
      { h := handle 3 0, ps := [2] },
  { h := handle 3 0 }, { h := handle 3 1, ps := toWords child }, { h := handle 3 1, ps := toWords (child.set 10 1) },
  { h := handle 3 1, ps := toWords child, f := fun s =>
    let c := s.ep.cfg
    { s with ep := { s.ep with cfg := { c with nodes := (upTo 1024).map fun n => (n, []) } } } },
  { h := handle 3 1, f := node1 }, { h := handle 3 0, f := node1 }, { h := handle 3 0, ps := [12, 1, 200000] },
  { h := handle 3 0, ps := [0, 1, 5] }, { h := handle 3 1, ps := [0], f := node1 },
      { h := handle 3 1, ps := [1], f := node1 }, {},
  { ps := [1], f := cfgN 1 [] }, { h := handle 3 0, ps := [0] }, { h := handle 3 0, ps := [5] },
  { h := handle 3 0, ps := [0xFFFFFFFF], f := fun s => { s with cal := { s.cal with periodEnd := 100 } } },
      { h := handle 3 0, ps := [5, 2] },
  { h := handle 3 0, ps := [5], f := fun s => { s with cal := { s.cal with curtails := List.replicate 64 (1000, 0, 0, none) } } }]
/-- Every entry of treeCases runs from a state that meets its condition. -/
theorem test_treeCases_met : allMet treeCases treeCasesW = true := by decide +kernel

/-- A snapshot without nodes (Table 5-9). -/
def snap : List Byte :=
  let b := leBytes 0x50414E53 4 ++ leBytes 1 2 ++ leBytes 0 2 ++ List.replicate 40 0 ++ leBytes 68 4 ++ List.replicate
      12 0
  b ++ leBytes (crc 0 b) 4
def allocCasesW : List Wit := [{}, { ps := [1] }, { ps := [0, 0, 0, 0] }, { ps := [1, 0, 64, 0], fl := 2 },
  { h := handle 3 0, ps := descr 0 snap, fl := 2, buf := snap, f := valid },
      { h := handle 3 0, ps := descr 0 snap, fl := 2, buf := snap },
  { h := handle 3 0, ps := descr 0 snap, fl := 2, buf := snap, f := fun s => { valid s with cal := { s.cal with restored := true } } },
  { h := handle 3 0, ps := [0], f := cfgN 0 (mputs (mputs root 5 [4]) 68 (leBytes 0x1000 2)) },
      { h := handle 3 0, ps := [0] },
  { h := handle 3 0, ps := [5] }, { h := handle 3 0, f := cfgN 0 (mputs root 5 [2]) }, { h := handle 3 0 }]
/-- Every entry of allocCases runs from a state that meets its condition. -/
theorem test_allocCases_met : allMet allocCases allocCasesW = true := by decide +kernel

/-- Pod 0 fitted with phase 0, verified. -/
def podFit (s : State) : State :=
  let t := cfgB 4 530 [1] (s.setMtx 0 { s.mtx 0 with verified := true })
  { t with isl := { t.isl with podStop := 0 } }
def pod0 (f : Pod → Pod) (s : State) : State := s.setPod 0 (f (s.pod 0))
def maint (s : State) : State := { s with isl := { s.isl with maintenance := true } }
def phaseCasesW : List Wit :=
  let h := handle 5 0
  [{ h := h }, { h := handle 6 0 }, { h := handle 6 0, ps := [1] }, { h := h, f := podFit },
  { h := h, f := fun s => let t := podFit s; { t with power := { t.power with state := 1 } } },
  { h := h, f := fun s => let t := podFit s; { t with power := { t.power with domains := 0xE99 } } },
  { h := h, f := pod0 ({ · with state := 4 }) }, { h := h, f := pod0 ({ · with state := 2 }) },
  { h := h, f := fun s => pod0 ({ · with state := 1 }) (podFit s) },
      { h := h, ps := [1], f := pod0 ({ · with state := 1 }) },
  { h := h, ps := [0], f := pod0 ({ · with state := 1 }) }, { h := h, ps := [0] }, { h := h, ps := [4, 0, 0, 0, 5] },
  { h := h, ps := [3, 0, 1500, 100] }, { h := h, ps := [0, 0] },
      { h := h, ps := [4, 0, 0, 0, 5], f := fun s => s.setMtx 0 { s.mtx 0 with step := 4 } },
  { h := h, f := pod0 ({ · with state := 2 }) },
      { h := h, f := pod0 ({ · with state := 2, sources := [1], podTripLow := true }) }, { h := h },
  { h := h, ps := [1], f := maint }, { h := h, ps := [1] }, { h := h }, { h := h, ps := [1] }]
/-- Every entry of phaseCases runs from a state that meets its condition. -/
theorem test_phaseCases_met : allMet phaseCases phaseCasesW = true := by decide +kernel

/-- Output 0 fitted, under the host's control (Table 7-2), with pod 0 assigned. -/
def outFit (s : State) : State := cfgB 5 16 [5, 0xFF] (s.setMtx 0 { s.mtx 0 with assigned := some 0, verified := true })
def outp (f : Output → Output) (s : State) : State := s.setOutput 0 (f (s.output 0))
def outputCasesW : List Wit :=
  let h := handle 4 0
  let p := handle 5 0
  [{ h := h, f := fun s => outp ({ · with state := 3 }) (outFit s) }, { h := h, ps := [4000, 1000], f := outFit },
  { h := h, ps := [4000, 1000], f := fun s => outp ({ · with busV := 100 }) (outFit s) }, { h := h, ps := [0, 0] },
  { h := h, ps := [4000, 1000], f := fun s => outp ({ · with state := 6 }) (outFit s) }, { h := h, ps := [4000, 1000] },
  { h := h, ps := [4000, 1000], f := fun s => outp ({ · with state := 3 }) (outFit s) }, { h := h, ps := [4000, 1000] },
  { h := h, f := fun s => outp ({ · with state := 3 }) (outFit s) }, { h := h, f := outFit },
  { h := p, ps := [0xFF], f := outFit }, { h := p, ps := [0xFF], f := fun s => s.setMtx 0 { s.mtx 0 with step := 2 } },
  { h := p, ps := [0xFF], f := fun s => let t := outFit s; { t with jnl := { t.jnl with retired := [handleSub 5 0 0x10] } } },
  { h := p, ps := [0xFF], f := cfgB 5 14 [1] }, { h := p, ps := [3] }, { h := p }, { h := h }, { h := h, ps := [1] }]
/-- Every entry of outputCases runs from a state that meets its condition. -/
theorem test_outputCases_met : allMet outputCases outputCasesW = true := by decide +kernel

def slot0 (f : Slot → Slot) (s : State) : State := s.setSlot 0 (f (s.slot 0))
/-- Slot 0 enabled with law 1 and its host-write flag, its clamps and scales in order (Table 8-3). -/
def slotOn : State → State :=
  let one := leBytes 0x3F800000 4
  let m := mputs (mputs [(0, 1), (1, 8)] 28 (one ++ leBytes 0xBF800000 4)) 56 (one ++ one)
  slot0 ({ · with working := m })
def geyMode (s : State) : State := cfgB 3 0 [1] s
def gey (f : Geyser → Geyser) (s : State) : State := { s with geyser := f s.geyser }
def captured (s : State) : State := gey ({ · with capture := 3, signals := [0], record := [[1, 2], [3, 4]] }) s
def loopCasesW : List Wit :=
  let h := handle 7 0
  [{ h := h }, { h := h, ps := [1], f := slotOn }, { h := h, ps := [3] }, { h := h, ps := [1] },
      { h := h, ps := [0], f := slotOn },
  { h := h, ps := [0] }, { h := h, ps := [20, 0x3F800000], f := slotOn },
      { h := h, ps := [20, 0], f := slot0 ({ · with working := [(0, 1)] }) },
  { h := h, ps := [21, 0], f := slotOn }, { h := h, ps := [20] }, { h := h, ps := [20, 1] }, { h := h, ps := [21] },
  { h := h, f := slotOn }, { h := h }, { h := h, ps := [0, 1, 1] }, { h := h }, { h := h, ps := [1] },
  { h := h, ps := [1, 4, 0, 0, 0, 0], f := fun s => geyMode (maint (slot0 ({ · with mode := 1 }) (slotOn s))) },
  { h := h, ps := [1, 4, 0, 0, 0, 0], f := slotOn }, { h := h, ps := [1, 4, 0, 0, 0, 0] },
  { ps := [0, 0xFFFFFFFF, 0xFFFFFFFF, 0xFFFFFFFF, 0, 0], f := fun s => geyMode (slotOn s) }, { ps := [0, 0, 0, 0, 0, 0] },
  { ps := [0, 0, 0, 0, 0, 0], f := fun s => geyMode (gey ({ · with capture := 2 }) s) }, {},
  { ps := [0, 1], f := captured }, { ps := [1, 0, 64, 0, 0, 0], fl := 2, f := captured }, { ps := [0, 1] },
  { ps := [1], f := gey ({ · with running := true }) }, { ps := [2], f := gey ({ · with capture := 2 }) }, { ps := [1] }]
/-- Every entry of loopCases runs from a state that meets its condition. -/
theorem test_loopCases_met : allMet loopCases loopCasesW = true := by decide +kernel

def conn0 (f : Conn → Conn) (s : State) : State := s.setConn 0 (f (s.conn 0))
def retired (h : Word) (s : State) : State := { s with jnl := { s.jnl with retired := [h] } }
def linkCasesW : List Wit :=
  let h := handle 9 0
  [{ h := h }, { h := h, ps := [3], f := maint }, { h := h, ps := [4, 500], f := maint }, { h := h, ps := [5] },
      { h := h, ps := [3] },
  { h := h, ps := [3], f := fun s => retired (handle 9 0) (maint s) }, { h := h }, { h := h, ps := [1] },
  { h := h, f := fun s => cfgB 8 16 [1] (conn0 ({ · with link := 3 }) s) }, { h := h }, { h := h }, { h := h },
      { h := h, ps := [1] }]
/-- Every entry of linkCases runs from a state that meets its condition. -/
theorem test_linkCases_met : allMet linkCases linkCasesW = true := by decide +kernel

def ses (f : Session → Session) (s : State) : State := s.setSession 0 (f (s.session 0))
/-- A session with a pending question of a kind. -/
def asked (k : Nat) : State → State := fun s => cfgB 14 80 [1,0,1,0,1,0] (ses
      ({ · with state := 2, question := some (k, [], 0, []), qid := 5 }) s)
def sessionCasesW : List Wit :=
  let h := handle 9 0
  let on := ses ({ · with state := 4 })
  [{ h := h }, { h := h, f := on }, { h := h, ps := [5, 0], f := asked 1 }, { h := h, ps := [5, 1], f := asked 1 },
  { h := h, ps := [5, 0], f := ses ({ · with expired := [5] }) },
      { h := h, ps := [5, 0], f := ses ({ · with qid := 5 }) },
  { h := h, ps := [5, 1, 0, 0, 0], f := asked 2 },
      { h := h, ps := [5, 1, 0, 0, 0], f := ses ({ · with expired := [5] }) },
  { h := h, ps := [5, 16], f := asked 2 }, { h := h, ps := [5, 16] }, { h := h, ps := [5, 128], f := on },
      { h := h, f := on }, { h := h },
  { h := h, ps := [100], f := on }, { h := h, ps := [100] }, { h := h }, { h := h, ps := [1] }]
/-- Every entry of sessionCases runs from a state that meets its condition. -/
theorem test_sessionCases_met : allMet sessionCases sessionCasesW = true := by decide +kernel

def pt (f : Point → Point) (s : State) : State := s.setPoint 0 (f (s.point 0))
def kind1 : State → State := cfgB 6 32 [1]
/-- A signed and stored record of point 0. -/
def rec1 : MRecord := ⟨1, 0, 0, 0, 0, 0, [], [], 0, 0, 0, 0, 0, 0, 0, 0, 0, 0, 0, 0, 0, 3, [], false⟩
def withRec (s : State) : State := { s with metro := { s.metro with records := [rec1] } }
def cap0 : Point → Point := ({ · with capture := some ⟨[], 0, 0, 1⟩ })
def grade0 (s : State) : State := { s with boot := { s.boot with grade := 0 } }
def meterCasesW : List Wit :=
  let h := handle 8 0
  [{ h := h }, { h := h, f := kind1 }, { h := h, ps := [0], f := kind1 }, { h := h, ps := [0] },
      { h := h, f := kind1 }, { h := h },
  { h := h, ps := [6], f := pt cap0 }, { h := h, ps := [0], f := fun s => kind1 (pt cap0 s) },
      { h := h, ps := [0], f := kind1 }, {},
  { h := h, ps := [1, 0], f := withRec }, { h := h, ps := [1, 0] },
      { h := h, ps := [1, 0, 4096, 0, 1], fl := 2, f := withRec },
  { h := h, ps := [1, 0, 4096, 0, 1], fl := 2 },
  { h := h, ps := [1, 0], f := withRec, c := fun c => { c with mram := true } }, { h := h, ps := [1], f := withRec },
      { h := h, ps := [1] },
  { ps := [0, 1, 1], f := grade0 }, {}, { f := grade0 },
  { f := fun s => { s with metro := { s.metro with sealed := some ([], 0) } } },
  { f := fun s => { s with metro := { s.metro with saveA := some ⟨1, 0, 0, [], [], 1, true⟩ } } }, {},
  { h := h, ps := [0], f := pt ({ · with gaps := [(0, none)] }) }, { h := h, ps := [0] },
  { h := h, f := pt ({ · with strobe := some (0, 0, 0) }) }, { h := h }]
/-- Every entry of meterCases runs from a state that meets its condition. -/
theorem test_meterCases_met : allMet meterCases meterCasesW = true := by decide +kernel

def sfn0 (s : State) : State := s.setSfn 0 { s.sfn 0 with demand := true }
def safetyCasesW : List Wit :=
  let h := handle 14 0
  [{}, { h := h }, {}, { ps := [1] }, { ps := [2] }, { h := h, f := sfn0 },
  { h := h, f := fun s => cfgB 7 1760 [1, 0] ((sfn0 s).setSin 0 { s.sin 0 with demand := true }) }, { h := h },
      { ps := [0, 1] },
  { ps := [0, 2] }, { ps := [0, 0] }, { ps := [0] }, { ps := [1] }, { f := cfgB 7 14 [0xFF] }, { f := maint },
  { f := fun s => outp ({ · with state := 3 }) (outFit s) }, { f := maint },
  { f := fun s => let t := maint s; { t with sup := { t.sup with proof := true } } }, {},
  { ps := [0], f := fun s => let t := maint s; { t with sup := { t.sup with mode := 0, spare := some 3, active := [0, 1, 2] } } },
  { ps := [0] }, { ps := [4] }, { ps := [0], f := cfgB 7 608 [1] }, { ps := [0] }, { ps := [0], f := cfgB 7 736 [1] },
  { ps := [0, 1], f := cfgB 7 736 [1] }, { ps := [64] }]
/-- Every entry of safetyCases runs from a state that meets its condition. -/
theorem test_safetyCases_met : allMet safetyCases safetyCasesW = true := by decide +kernel

def port0 (f : Port → Port) (s : State) : State := s.setPort 0 (f (s.port 0))
/-- Port 0 runs the profile and is up. -/
def portOn (s : State) : State := cfgB 10 16 [1] (port0 ({ · with state := 1 }) s)
def txb : TxBuf := ⟨⟨0x100, [], 1, 0⟩, 0, 9, 0⟩
def fieldCasesW : List Wit :=
  let h := handle 10 0
  [{ h := h }, { h := h }, { h := h, ps := [1] }, { h := handle 11 0, f := cfgF 0 fieldNode },
      { h := h, ps := [0x100, 0x100], f := portOn },
  { h := h, ps := [0x1000, 0x100] }, { h := h, ps := [0x100, 0x100], f := port0 ({ · with state := 5 }) },
  { h := h, ps := [0x100, 0x100], f := fun s => port0 ({ · with quiet := [(0x100, 0, 0)] }) (portOn s) },
  { h := h, ps := [0x100, 0x100], f := fun s => port0 ({ · with tx := (upTo 4).map fun b => (b, some txb) }) (portOn s) },
  { h := h, ps := [0, 0, 0, 0] }, { h := h, ps := [16, 0, 0, 0] },
      { h := h, ps := [0, 0, 0, 0], f := port0 ({ · with state := 5 }) },
  { h := h, ps := [0, 0] }, { h := h, ps := [0, 0], f := port0 ({ · with rx := [(0, { main := some { ident := 0x100, data := [1] } })] }) },
  { h := h, ps := [16, 0] }, { h := h, ps := [0, 8] }, { h := h }]
/-- Every entry of fieldCases runs from a state that meets its condition. -/
theorem test_fieldCases_met : allMet fieldCases fieldCasesW = true := by decide +kernel

def chan0 (f : LsChan → LsChan) (s : State) : State := s.setChan 0 (f (s.chan 0))
def lost (s : State) : State := { s with ls := { s.ls with linkLost := some 0 } }
def lsCasesW : List Wit :=
  let h := handle 12 0
  let on := cfgB 11 16 [2]
  [{ h := h }, { h := h, ps := [1000], f := on }, { h := h, ps := [1000], f := fun s => lost (on s) },
      { h := h, ps := [1001] },
  { h := h, ps := [1], f := chan0 ({ · with state := 5 }) },
      { h := h, ps := [1], f := fun s => on (chan0 ({ · with state := 4 }) s) },
  { h := h, f := chan0 ({ · with state := 4 }) }, { h := h }, { h := h, f := chan0 ({ · with state := 5 }) },
      { ps := [1] }, { h := h },
  { h := h, ps := [1] }, { ps := [396, 1, 1] }, { ps := [397, 1, 1] }]
/-- Every entry of lsCases runs from a state that meets its condition. -/
theorem test_lsCases_met : allMet lsCases lsCasesW = true := by decide +kernel

def key0 (k : Nat) (f : KeySlot → KeySlot) (s : State) : State := s.setKey k (f (s.key k))
def rng (s : State) : State := { s with trust := { s.trust with rngFault := 1 } }
def owned (s : State) : State := { s with trust := { s.trust with owner := some 1 } }
def trial (s : State) : State := { s with trust := { s.trust with trial := true, preferred := s.boot.image } }
def unloaded (s : State) : State := { s with ep := { s.ep with loaded := false } }
def trustCasesW : List Wit :=
  let h := handle 13 2
  let z : List Word := List.replicate 8 0
  let big : List Word := [1, 0, 4096, 0]
  [{ h := h, ps := [0x100005] }, { h := h, ps := [0x100005], f := key0 2 ({ · with state := 3 }) },
  { h := h, ps := [0x100005], f := key0 2 ({ · with state := 1 }) },
  { h := h, ps := [0x100005, 3] ++ List.replicate 15 0, f := key0 3 ({ · with state := 1, type := 6, use := 0x40 }) },
  { h := h, f := key0 2 ({ · with state := 1 }) }, { h := h, f := key0 2 ({ · with state := 2 }) },
  { h := h, f := key0 2 ({ · with state := 1 }) }, { h := h }, { h := h, f := key0 2 ({ · with state := 1 }) },
  { h := h, f := key0 2 ({ · with state := 1, refs := 1 }) }, { h := handle 13 0 }, { h := h },
  { h := h, ps := [0], f := key0 2 ({ · with state := 1, type := 1 }) },
  { h := h, ps := [5], f := key0 2 ({ · with state := 1, type := 1 }) },
  { h := h, ps := big, fl := 2, f := key0 2 ({ · with state := 1, type := 1 }) },
  { h := h, ps := [0], f := key0 2 ({ · with state := 1, type := 5 }) },
  { h := h, ps := big ++ z, fl := 2, f := key0 2 ({ · with state := 1, type := 1, use := 4, seats := 1 }) },
  { h := h, ps := big ++ z, f := key0 2 ({ · with state := 1, type := 1 }) },
  { h := h, ps := [8, 0, 0], f := key0 2 ({ · with state := 1, type := 5, use := 0x10, seats := 1 }) },
  { h := h, ps := [41], f := key0 2 ({ · with state := 1, type := 5, use := 0x10, seats := 1 }) },
  { ps := [0, 0, 0, 0], f := fun s => cfgB 12 0 [2] (key0 2 ({ · with state := 1, type := 5, use := 0x20, seats := 1 }) s) },
  { ps := [0, 0, 0, 0], f := unloaded }, { ps := big ++ z, fl := 2, f := key0 1 ({ · with state := 1, use := 2 }) },
  { ps := big ++ z, fl := 2, f := fun s => rng (key0 1 ({ · with state := 1, use := 2 }) s) }, {}, { f := rng },
  { ps := descr 0 [1, 2, 3, 4] ++ [0, 4], fl := 2, buf := [1, 2, 3, 4] },
  { ps := descr 0 [1, 2, 3, 4] ++ [0, 4], fl := 2, buf := [1, 2, 3, 4], f := fun s => { s with clk := { s.clk with inForce := [0] } } },
  { ps := descr 0 [1, 2, 3, 4] ++ [0, 0], fl := 2, buf := [1, 2, 3, 4] },
  { ps := descr 0 [1, 2, 3, 4] ++ [32, 4], fl := 2, buf := [1, 2, 3, 4] },
  { ps := [0, 0] }, { ps := [0xFF, 0] }, { ps := [32, 0] }, { ps := big ++ z }, { ps := big ++ z, f := owned },
  { ps := descr 0 [1, 2, 3, 4] ++ z, fl := 2, buf := [1, 2, 3, 4], f := owned }, { ps := [0, 0, 5] }, { ps := [0, 1, 5] },
  { ps := [0, 0, 5], f := trial }, { ps := [0, 2, 5], f := fun s => { s with boot := { s.boot with recovery := true } } },
  { ps := [2, 0, 5] }, { ps := [0], f := fun s => s.setFw 0 { s.fw 0 with valid := true } }, { ps := [1] }, { ps := [2] },
  { f := trial }, {}, {}]
/-- Every entry of trustCases runs from a state that meets its condition. -/
theorem test_trustCases_met : allMet trustCases trustCasesW = true := by decide +kernel

def five (s : State) : State := { s with jnl := { s.jnl with nextSeq := 5 } }
def gatedS (s : State) : State := { s with clk := { s.clk with inForce := [0] } }
def journalCasesW : List Wit :=
  let h := handle 6 0
  [{ ps := [0] }, { ps := [1] }, { ps := [2] }, { ps := [3] }, { ps := [4] }, { ps := [0, 0], f := five },
      { ps := [0, 0, 1], f := five },
  { ps := [0, 0] }, { ps := [1, 0, 64, 0, 0, 1], fl := 2 }, { ps := [1, 0, 64, 0, 128, 1], fl := 2 },
      { ps := [4, 0], f := five },
  { ps := [0, 0] }, { ps := [0] }, { h := h, ps := [0], f := retired h }, { ps := [0] }, { h := h, ps := [0] },
  { h := h, ps := [0], f := fun s => gatedS (retired h s) },
  { h := handle 10 0, ps := [0], f := fun s => retired (handle 10 0) (port0 ({ · with txErrors := 256 }) s) },
  { ps := [7] }, { ps := [0], f := fun s => { s with jnl := { s.jnl with contexts := [⟨h, 0, 0, 0, none⟩] } } },
      { ps := [8] },
  { ps := [11] }, { ps := [1, 1] }, { ps := [0] }]
/-- Every entry of journalCases runs from a state that meets its condition. -/
theorem test_journalCases_met : allMet journalCases journalCasesW = true := by decide +kernel

def powerCasesW : List Wit :=
  let h := handle 12 0
  let src := cfgB 11 18 [2]
  [{}, { h := handle 15 0 }, { h := handle 15 0, ps := [1] }, { ps := [524, 1, 1] }, { h := h, ps := [1, 1], f := src },
  { h := h, ps := [1, 1] }, { h := h, ps := [3, 1], f := src },
  { ps := [0], f := fun s => { s with power := { s.power with log := [⟨1, 0, 0, 0, 0⟩] } } }, { ps := [16] }]
/-- Every entry of powerCases runs from a state that meets its condition. -/
theorem test_powerCases_met : allMet powerCases powerCasesW = true := by decide +kernel

def sleepCasesW : List Wit := [{ ps := [2] }, { ps := [3] },
      { ps := [0], f := fun s => { s with power := { s.power with state := 2 } } },
  { ps := [0] }, { ps := [2], f := conn0 ({ · with link := 3 }) }, { ps := [2], f := gatedS }, { ps := [4] }]
/-- Every entry of sleepCases runs from a state that meets its condition. -/
theorem test_sleepCases_met : allMet sleepCases sleepCasesW = true := by decide +kernel

def seats2 (s : State) : State :=
  let c := s.ep.cfg
  { s with ep := { s.ep with cfg := { c with seats := ⟨[(0, seat0), (1, seat0)], []⟩ } } }
def resetCasesW : List Wit := [{ ps := [1] }, { ps := [1], f := outp ({ · with state := 3 }) }, { ps := [2] },
  { h := handle 1 1, ps := [3], f := seats2 }, { h := handle 9 0, ps := [4] },
  { h := handle 9 0, ps := [4], f := fun s => s.setConn 0 { s.conn 0 with link := 3, pilot := 1 } },
      { h := handle 10 0, ps := [4], f := port0 ({ · with state := 1 }) },
  { ps := [5] }]
/-- Every entry of resetCases runs from a state that meets its condition. -/
theorem test_resetCases_met : allMet resetCases resetCasesW = true := by decide +kernel

/-! ### The events -/

/-- Much later. -/
def late (s : State) : State := { s with clk := { s.clk with uptime := 100000000000 } }
/-- PD0 alone is on. -/
def dark (s : State) : State := { s with power := { s.power with domains := 1 } }
def clkS (f : Clock → Clock) (s : State) : State := { s with clk := f s.clk }
def calS (f : Caldera → Caldera) (s : State) : State := { s with cal := f s.cal }
def ring00 (f : Ring → Ring) (s : State) : State := s.setRing 0 0 (f (s.ring 0 0))
def ring01 (f : Ring → Ring) (s : State) : State := s.setRing 0 1 (f (s.ring 0 1))
/-- Seat 0 reaches the part through an SGMII port. -/
def onSgmii (s : State) : State :=
  let c := s.ep.cfg
  { s with ep := { s.ep with cfg := { c with seats := ⟨[(0, { seat0 with transport := 1 })], []⟩ } } }
def sframe : SeatFrame := ⟨0, 0, 1, 0, 2, 0, 0, 0, []⟩
def cont1 : ContCmd := ⟨0x0700, 7, 0, 1, [], 1, false, false, 0, 0, 0⟩
def ph0 (f : Phase → Phase) (s : State) : State := s.setPhase 0 (f (s.phase 0))
/-- Pod 0 runs with phase 0 fitted. -/
def run0 (s : State) : State := pod0 ({ · with state := 1, period := 1500, posPeriod := 1500, stop := 1500 }) (cfgB 4
      530 [1] s)
def preply : PodReply := ⟨0, false, 0, 0, 0, 0, 0⟩
def mtx0 (f : Matrix → Matrix) (s : State) : State := s.setMtx 0 (f (s.mtx 0))
/-- The auxiliary contacts of output 0, both on input 0. -/
def auxs (b : Bool) (s : State) : State := s.setSin 0 { s.sin 0 with demand := b }
/-- The auxiliary contacts of output 0 on two inputs. -/
def aux1 (a b : Bool) (s : State) : State :=
  let t := (cfgB 5 21 [1] s).setSin 0 { s.sin 0 with demand := a }
  t.setSin 1 { t.sin 1 with demand := b }
/-- Output 0 is in FAULT and its retry is due. -/
def retryDue (s : State) : State :=
  let t := outp ({ · with state := 5 }) s
  { t with jnl := { t.jnl with contexts := [⟨handle 4 0, 0, 1, 0, some 0⟩] } }
/-- A poll that port B has answered. -/
def poll0 : SwPoll := ⟨0, 0, none, some preply, false⟩
/-- Connector 0 matches (R239). -/
def slacOn (s : State) : State := cfgB 8 16 [1] (conn0 ({ · with link := 2, form := 1, pilot := 1 }) s)
/-- Connector 0 is linked, its output is under the session service, and a frame of the vehicle waits in its queue. -/
def v2g (s : State) : State := (cfgB 5 16 [3, 0] (conn0 ({ · with link := 3 }) s)).post 52 [0]
/-- A tree node of output 0 (Table 4-1). -/
def outChild : Mem := mputs (mputs (mputs [] 0 child) 0 [6, 0]) 8 [0, 0]

def warned (s : State) : State := { s with metro := { s.metro with warning := some 0 } }
def supS (f : Supervisor → Supervisor) (s : State) : State := { s with sup := f s.sup }
/-- Channels A, B and C vote. -/
def tmr (s : State) : State := supS ({ · with started := true, mode := 0, active := [0, 1, 2] }) s
def sc0 (f : SafeConn → SafeConn) (s : State) : State := s.setSconn 0 (f (s.sconn 0))
/-- A message on connection 0 with its check (Table 13-11). -/
def smsg : SafeMsg :=
  let m : SafeMsg := ⟨0, false, 1, 0, 0, 0⟩
  { m with check := BitVec.ofNat 32 (safeCheck m) }
def fnode0 (f : FNode → FNode) (s : State) : State := cfgF 0 fieldNode (portOn (s.setFnode 0 (f (s.fnode 0))))
def beat1 : NodeBeat := ⟨0, 1, 0, 0, 0, 0, true⟩
def rep1 : NodeReport := ⟨0, 1, 0, 0, 0, 0, 0, [], true⟩
def pw (f : Power → Power) (s : State) : State := { s with power := f s.power }
def lockS (s : State) : State := clkS ({ · with locked := true }) s
def boot1 : BootInputs := ⟨0, 0, true, true, 0, false, 0, false, 0, 0⟩

/-- The condition of entry `k` of a list of events holds in a state. -/
def holdsAt (l : List Event) (k : Nat) (s : State) : Bool := (l[k]?).any fun e => e.ok s

/-- The condition of every entry of seatEvents holds in some state. -/
theorem test_seatEvents_met : (
    holdsAt (seatEvents 0 0 0 0 7 1 sframe 0 ⟨0, 1, 4, 1⟩ cont1 (lv 0x0A01 7 0 true) 0) 0 (base) &&
    holdsAt (seatEvents 3 0 0 0 7 1 sframe 0 ⟨0, 1, 4, 1⟩ cont1 (lv 0x0A01 7 0 true) 0) 1 (base) &&
    holdsAt (seatEvents 0 0 0 5 7 1 sframe 0 ⟨0, 1, 4, 1⟩ cont1 (lv 0x0A01 7 0 true) 0) 2 (base) &&
    holdsAt (seatEvents 0 0 0 0 7 1 sframe 0 ⟨0, 1, 4, 1⟩ cont1 (lv 0x0A01 7 0 true) 0) 3 (base) &&
    holdsAt (seatEvents 0 0 0 0 7 1 sframe 0 ⟨0, 1, 4, 1⟩ cont1 (lv 0x0A01 7 0 true) 0) 4 (base) &&
    holdsAt (seatEvents 0 0 0 0 7 0 sframe 0 ⟨0, 1, 4, 1⟩ cont1 (lv 0x0A01 7 0 true) 0) 5 (base) &&
    holdsAt (seatEvents 0 0 0 0 7 17 sframe 0 ⟨0, 1, 4, 1⟩ cont1 (lv 0x0A01 7 0 true) 0) 6 (base) &&
    holdsAt (seatEvents 0 1 0 0 7 1 sframe 0 ⟨1, 2, 4, 0⟩ cont1 (lv 0x0A01 7 0 true) 0) 7 (ring01
        ({ · with tail := 1 }) base) &&
    holdsAt (seatEvents 0 3 0 0 7 1 sframe 0 ⟨0, 1, 4, 1⟩ cont1 (lv 0x0A01 7 0 true) 0) 8 (base) &&
    holdsAt (seatEvents 0 0 0 0 7 1 sframe 0 ⟨0, 1, 4, 1⟩ cont1 (lv 0x0A01 7 0 true) 0) 9 (base) &&
    holdsAt (seatEvents 0 0 0 0 7 1 sframe 0 ⟨0, 1, 4, 1⟩ cont1 (lv 0x0A01 7 0 true) 0) 10 (dark base) &&
    holdsAt (seatEvents 0 0 0 0 7 1 sframe 0 ⟨0, 1, 4, 1⟩ cont1 (lv 0x0A01 7 0 true) 0) 11 (base) &&
    holdsAt (seatEvents 0 0 0 0 7 1 sframe 0 ⟨0, 1, 4, 1⟩ cont1 (lv 0x0A01 7 0 true) 0) 12 (base) &&
    holdsAt (seatEvents 0 0 16 0 7 1 sframe 0 ⟨0, 1, 4, 1⟩ cont1 (lv 0x0A01 7 0 true) 0) 13 (base) &&
    holdsAt (seatEvents 0 0 255 0 7 1 sframe 0 ⟨0, 1, 4, 1⟩ cont1 (lv 0x0A01 7 0 true) 0) 14 (base) &&
    holdsAt (seatEvents 0 0 0 0 7 1 sframe 0 ⟨0, 1, 4, 1⟩ cont1 (lv 0x0A01 7 0 true) 0) 15 (onSgmii base) &&
    holdsAt (seatEvents 0 0 0 0 7 1 { sframe with kind := 5 } 0 ⟨0, 1, 4, 1⟩ cont1 (lv 0x0A01 7 0 true) 0) 16 (onSgmii
        base) &&
    holdsAt (seatEvents 0 0 0 0 7 1 { sframe with seat := 3 } 0 ⟨0, 1, 4, 1⟩ cont1 (lv 0x0A01 7 0 true) 0) 17 (base) &&
    holdsAt (seatEvents 0 0 0 0 7 1 sframe 0 ⟨0, 1, 4, 1⟩ cont1 (lv 0x0A01 7 0 true) 0) 18 (ring01
        ({ · with posted := [⟨7, 0, 0, 0, 0, 0⟩] }) (onSgmii base)) &&
    holdsAt (seatEvents 0 0 0 0 7 1 sframe 0 ⟨0, 1, 4, 1⟩ cont1 (lv 0x0A01 7 0 true) 0) 19 (base) &&
    holdsAt (seatEvents 0 0 0 0 7 1 sframe 0 ⟨0, 1, 4, 1⟩ cont1 (lv 0x0A01 7 0 true) 0) 20 (base) &&
    holdsAt (seatEvents 0 0 0 0 7 1 sframe 4 ⟨0, 1, 4, 1⟩ cont1 (lv 0x0A01 7 0 true) 0) 21 (base) &&
    holdsAt (seatEvents 0 0 0 0 7 1 sframe 0 ⟨0, 1, 4, 1⟩ cont1 (lv 0x0A01 7 0 true) 0) 22 (late (ring00
        ({ · with cont := some cont1 }) base)) &&
    holdsAt (seatEvents 0 0 0 0 7 1 sframe 0 ⟨0, 1, 4, 1⟩ cont1 (lv 0x0A01 7 0 true) 0) 23 (base) &&
    holdsAt (seatEvents 0 0 0 0 7 1 sframe 0 ⟨0, 1, 4, 1⟩ cont1 { lv 0x0A01 7 0 true with deadline := some 0 } 0) 24
        (withLive { lv 0x0A01 7 0 true with deadline := some 0 } base) &&
    holdsAt (seatEvents 0 0 0 0 7 1 sframe 0 ⟨0, 1, 4, 1⟩ cont1 { lv 0x0A01 7 0 false with deadline := some 0 } 0) 25
        (withLive { lv 0x0A01 7 0 false with deadline := some 0 } base) &&
    holdsAt (seatEvents 0 0 0 0 7 1 sframe 0 ⟨0, 1, 4, 1⟩ cont1 (lv 0x0A01 7 0 true) 0) 26 (base) &&
    holdsAt (seatEvents 0 0 0 0 7 1 sframe 0 ⟨0, 1, 4, 1⟩ cont1 (lv 0x0A01 7 0 true) 0) 27 (late base) &&
    holdsAt (seatEvents 0 0 0 0 7 1 sframe 0 ⟨0, 1, 4, 1⟩ cont1 (lv 0x0A01 7 0 true) 0) 28 (base |> fun s => s.setSeat
        0 { s.seat 0 with state := 2 }) &&
    holdsAt (seatEvents 0 1 0 0 7 1 sframe 0 ⟨1, 2, 4, 0⟩ cont1 (lv 0x0A01 7 0 true) 0) 29 (late (ring01
        ({ · with posted := [⟨7, 0, 0, 0, 0, 0⟩] }) base)) &&
    holdsAt (seatEvents 0 0 0 0 7 1 sframe 0 ⟨0, 1, 4, 1⟩ cont1 (lv 0x0A01 7 0 true) 0) 30 (base) &&
    holdsAt (seatEvents 0 0 0 0 7 1 sframe 0 ⟨0, 1, 4, 1⟩ cont1 (lv 0x0A01 7 0 true) 0) 31 (base)) = true := by
        decide +kernel

/-- The condition of every entry of epochEvents holds in some state. -/
theorem test_epochEvents_met : (
    holdsAt (epochEvents 0 0 0 5 0 7 0 [] 0) 0 (clkS
        ({ · with syncs := 15, ptpPort := some 0, masters := [((0, 0), [], 0, 0)] }) (cfgB 0 0 [3] (site base)) |> cfgB
        0 0 [3]) &&
    holdsAt (epochEvents 0 0 0 5 0 7 5000 [] 0) 1 (clkS ({ · with masters := [((0, 0), [], 0, 0)] }) (cfgB 0 0 [3]
        (site base))) &&
    holdsAt (epochEvents 0 0 0 5 0 7 0 [] 0) 2 (cfgB 0 0 [3] (site base)) &&
    holdsAt (epochEvents 0 0 0 5 0 7 0 [] 0) 3 (cfgB 0 0 [3] (site base)) &&
    holdsAt (epochEvents 0 0 0 5 0 7 0 [] 0) 4 (cfgB 0 0 [2] base) &&
    holdsAt (epochEvents 0 0 0 5 0 7 0 [] 0) 5 (late (valid base)) &&
    holdsAt (epochEvents 0 0 0 5 0 7 0 [] 0) 6 (base) &&
    holdsAt (epochEvents 0 0 0 5 0 7 0 [] 0) 7 (clkS ({ · with ppsSeconds := some 7 }) (cfgB 0 0 [4] base)) &&
    holdsAt (epochEvents 0 0 0 5 0 7 0 [] 0) 8 (valid (cfgB 0 0 [4] base)) &&
    holdsAt (epochEvents 0 0 0 5 0 7 0 [] 0) 9 (clkS ({ · with tai := 700000 }) (valid (cfgB 0 0 [4] base))) &&
    holdsAt (epochEvents 0 0 0 5 0 7 0 [] 0) 10 (cfgB 0 0 [1] base) &&
    holdsAt (epochEvents 0 0 0 5 0 7 0 [] 0) 11 (base) &&
    holdsAt (epochEvents 0 0 0 5 0 7 0 [] 0) 12 (dark base) &&
    holdsAt (epochEvents 0 0 0 5 0 7 0 [] 0) 13 (late (phase 1 base)) &&
    holdsAt (epochEvents 0 0 0 5 0 7 0 [] 0) 14 (base) &&
    holdsAt (epochEvents 0 0 0 5 0 7 0 [] 0) 15 (phase 3 (valid base) |> fun s =>
        { s with ep := { s.ep with tick := some 0 } }) &&
    holdsAt (epochEvents 0 0 0 5 0 7 0 [] 0) 16 (base) &&
    holdsAt (epochEvents 0 0 0 5 0 7 0 [] 0) 17 (base |> fun s => { s with ep := { s.ep with markDue := true } }) &&
    holdsAt (epochEvents 0 0 0 5 0 7 0 [] 0) 18 (base)) = true := by decide +kernel

/-- The condition of every entry of allocEvents holds in some state. -/
theorem test_allocEvents_met : (
    holdsAt (allocEvents 0 0 0 0 0 0 ⟨0, []⟩) 0 (dark base) &&
    holdsAt (allocEvents 0 0 0 0 0 0 ⟨0, []⟩) 1 (base) &&
    holdsAt (allocEvents 0 0 0 0 0 0 ⟨0, []⟩) 2 (calS ({ · with aligned := true }) base) &&
    holdsAt (allocEvents 0 0 0 0 0 0 ⟨0, []⟩) 3 (calS ({ · with solved := some ⟨0, []⟩ }) base) &&
    holdsAt (allocEvents 0 0 0 0 0 0 ⟨0, []⟩) 4 (base) &&
    holdsAt (allocEvents 0 0 0 0 0 0 ⟨0, []⟩) 5 (calS ({ · with solved := some ⟨0, []⟩ }) base) &&
    holdsAt (allocEvents 0 0 0 0 0 0 ⟨0, []⟩) 6 (base) &&
    holdsAt (allocEvents 0 0 0 0 0 0 ⟨0, []⟩) 7 (calS ({ · with curtails := [(0, 0, 0, some 0)] }) base) &&
    holdsAt (allocEvents 0 0 5 0 0 0 ⟨0, []⟩) 8 (calS ({ · with curtails := [(0, 0, 0, some 5)] }) base) &&
    holdsAt (allocEvents 0 0 0 0 0 0 ⟨0, []⟩) 9 (late (cfgN 0 (mputs (mputs root 5 [4]) 68 (leBytes 0x1000 2)) base) |>
        fun s => s.setNode 0 { s.node 0 with sensors := [(0, { faultSince := some 0 })] }) &&
    holdsAt (allocEvents 0 0 0 0 0 0 ⟨0, []⟩) 10 (base) &&
    holdsAt (allocEvents 0 0 0 0 0 0 ⟨0, []⟩) 11 (late (outp ({ · with amps := 1000, outside := some 0 }) (outFit
        base))) &&
    holdsAt (allocEvents 0 0 0 0 0 0 ⟨0, []⟩) 12 (outp ({ · with safe := 1 }) base)) = true := by decide +kernel

/-- The condition of every entry of phaseEvents holds in some state. -/
theorem test_phaseEvents_met : (
    holdsAt (phaseEvents 0 0 0 0 0 0 false) 0 (run0 base) &&
    holdsAt (phaseEvents 0 0 0 0 0 0 false) 1 (base) &&
    holdsAt (phaseEvents 0 0 0 0 0 0 false) 2 (ph0 ({ · with on := true }) base) &&
    holdsAt (phaseEvents 0 0 0 0 0 0 false) 3 (ph0 ({ · with blanking := true }) base) &&
    holdsAt (phaseEvents 0 0 0 0 0 0 false) 4 (ph0 ({ · with on := true }) base) &&
    holdsAt (phaseEvents 0 0 0 0 0 (-1) false) 5 (ph0 ({ · with on := true, blanking := true }) base) &&
    holdsAt (phaseEvents 0 0 0 0 0 0 false) 6 (ph0 ({ · with on := true, blanking := true }) base) &&
    holdsAt (phaseEvents 0 0 0 0 0 0 false) 7 (base) &&
    holdsAt (phaseEvents 0 0 0 0 0 0 false) 8 (cfgB 4 34 [1] base) &&
    holdsAt (phaseEvents 0 0 0 0 0 0 false) 9 (base) &&
    holdsAt (phaseEvents 0 0 0 0 0 0 false) 10 (cfgB 4 0 [1] base) &&
    holdsAt (phaseEvents 0 0 0 0 0 0 false) 11 (cfgB 4 5 [1] (cfgB 4 18 [8] (run0 base)) |> pod0
        ({ · with edgeSeen := true })) &&
    holdsAt (phaseEvents 0 0 3 0 0 0 false) 12 (cfgB 4 18 [8] (run0 base)) &&
    holdsAt (phaseEvents 0 0 0 0 0 0 false) 13 (cfgB 4 18 [8] (run0 base)) &&
    holdsAt (phaseEvents 0 0 0 0 0 0 false) 14 (cfgB 4 18 [4] (run0 base)) &&
    holdsAt (phaseEvents 0 0 0 0 0 0 false) 15 (ph0 ({ · with state := 2 }) (cfgB 4 18 [4] (pod0
        ({ · with above := 1 }) (run0 base)))) &&
    holdsAt (phaseEvents 0 0 0 0 0 0 false) 16 (pod0 ({ · with signHold := true }) (run0 base)) &&
    holdsAt (phaseEvents 0 0 0 0 0 0 false) 17 (pod0 ({ · with ramp := some (0, 32) }) base) &&
    holdsAt (phaseEvents 0 0 0 0 0 0 false) 18 (base) &&
    holdsAt (phaseEvents 0 0 0 0 0 0 false) 19 (run0 base) &&
    holdsAt (phaseEvents 0 0 0 0 0 0 false) 20 (cfgB 4 18 [1] (run0 base)) &&
    holdsAt (phaseEvents 0 0 750 0 0 0 false) 21 (cfgB 4 18 [1] (run0 base)) &&
    holdsAt (phaseEvents 0 0 750 0 0 0 false) 22 (run0 base) &&
    holdsAt (phaseEvents 0 0 0 0 0 0 false) 23 (base) &&
    holdsAt (phaseEvents 0 0 0 5 0 0 false) 24 ((base.post 39 [0, 0, 0, 0, 0, 5])) &&
    holdsAt (phaseEvents 0 0 0 5 0 0 false) 25 ((base.post 39 [3, 0, 0, 0, 0, 5])) &&
    holdsAt (phaseEvents 0 0 0 5 0 0 false) 26 (calS ({ · with period := 6 }) (base.post 39 [0, 0, 0, 0, 0, 5]))) =
        true := by decide +kernel

/-- The condition of every entry of outputEvents holds in some state. -/
theorem test_outputEvents_met : (
    holdsAt (outputEvents 0 0 0 preply) 0 (outp ({ · with state := 1 }) base) &&
    holdsAt (outputEvents 0 0 0 preply) 1 (outp ({ · with busV := 100 }) base) &&
    holdsAt (outputEvents 0 0 0 preply) 2 (late (outp ({ · with contactWait := some (0, true) }) (auxs true base))) &&
    holdsAt (outputEvents 0 0 0 preply) 3 (late (outp ({ · with contactWait := some (0, false) }) (auxs false base))) &&
    holdsAt (outputEvents 0 0 0 preply) 4 (late (outp ({ · with contactWait := some (0, true) }) (auxs false base))) &&
    holdsAt (outputEvents 0 0 0 preply) 5 (late (outp ({ · with contactWait := some (0, true) }) (aux1 true false
        base))) &&
    holdsAt (outputEvents 0 0 0 preply) 6 (late (outp ({ · with contactWait := some (0, false) }) (auxs true base))) &&
    holdsAt (outputEvents 0 0 0 preply) 7 (late (outp ({ · with contactWait := some (0, false) }) (aux1 false true
        base))) &&
    holdsAt (outputEvents 0 0 0 preply) 8 (late (outp ({ · with state := 2, inBand := some 0 }) base)) &&
    holdsAt (outputEvents 0 0 0 preply) 9 (late (outp ({ · with state := 2, shortSince := some 0 }) base)) &&
    holdsAt (outputEvents 0 0 0 preply) 10 (late (outp ({ · with state := 4, stopRamp := some (0, 0) }) base)) &&
    holdsAt (outputEvents 0 0 0 preply) 11 (retryDue base) &&
    holdsAt (outputEvents 0 0 0 preply) 12 (outp ({ · with busV := 100 }) (retryDue base)) &&
    holdsAt (outputEvents 0 0 0 preply) 13 ((podFit base) |> mtx0 ({ · with step := 2 })) &&
    holdsAt (outputEvents 0 0 0 preply) 14 ((podFit base) |> mtx0 ({ · with step := 4 })) &&
    holdsAt (outputEvents 0 0 0 preply) 15 (dark base) &&
    holdsAt (outputEvents 0 0 0 { preply with seq := 3 }) 16 (portOn (cfgF 0 fieldNode base)) &&
    holdsAt (outputEvents 0 0 0 preply) 17 (mtx0 ({ · with polls := [poll0] }) (cfgB 14 70 [10] <| portOn (cfgF 0
        fieldNode base) |> fun s => s.setFnode 0 { s.fnode 0 with state := 1 })) &&
    holdsAt (outputEvents 0 0 0 preply) 18 (late (mtx0 ({ · with step := 1, ramping := true }) base)) &&
    holdsAt (outputEvents 0 0 0 preply) 19 (late (mtx0 ({ · with step := 2 }) base)) &&
    holdsAt (outputEvents 0 0 0 preply) 20 (late (mtx0 ({ · with step := 4 }) base)) &&
    holdsAt (outputEvents 0 0 0 preply) 21 (late (mtx0 ({ · with step := 3 }) base)) &&
    holdsAt (outputEvents 0 0 0 preply) 22 (late (mtx0 ({ · with step := 3, assigned := some 0 }) base)) &&
    holdsAt (outputEvents 0 0 0 preply) 23 (late (mtx0 ({ · with step := 6 }) base))) = true := by decide +kernel

/-- The condition of every entry of loopEvents holds in some state. -/
theorem test_loopEvents_met : (
    holdsAt (loopEvents 0 [] false 0) 0 (base) &&
    holdsAt (loopEvents 0 [] false 0) 1 (slotOn base) &&
    holdsAt (loopEvents 0 [] false 3000) 2 (slotOn base) &&
    holdsAt (loopEvents 0 [] false 0) 3 (late (slot0 ({ · with mode := 2, following := some 0 }) base)) &&
    holdsAt (loopEvents 0 [] false 0) 4 (base) &&
    holdsAt (loopEvents 0 [] false 0) 5 (slot0 ({ · with mode := 2 }) (slot0 (fun x =>
        { x with working := mputs x.working 12 [1] }) (slotOn base))) &&
    holdsAt (loopEvents 0 [] false 0) 6 (base) &&
    holdsAt (loopEvents 0 [] false 0) 7 (late (gey ({ · with running := true, duration := 1 }) base)) &&
    holdsAt (loopEvents 0 [] false 0) 8 (base)) = true := by decide +kernel

/-- The condition of every entry of linkEvents holds in some state. -/
theorem test_linkEvents_met : (
    holdsAt (linkEvents 0 0 0 0 0 0 0 0 0 ⟨0, 0, 0, 0, 0, 0, 0, 0⟩) 0 (conn0 ({ · with pilot := 9 }) base) &&
    holdsAt (linkEvents 0 0 0 0 0 0 0 0 0 ⟨0, 0, 0, 0, 0, 0, 0, 0⟩) 1 (base |> fun s => conn0
        ({ · with pilot := s.pilotRaw 0 0 0 }) s) &&
    holdsAt (linkEvents 0 0 0 0 0 0 5 0 0 ⟨0, 0, 0, 0, 0, 0, 0, 0⟩) 2 (late (cfgB 8 16 [1] (conn0
        ({ · with form := 2, highSince := some 0 }) base))) &&
    holdsAt (linkEvents 0 0 0 0 0 0 0 0 0 ⟨0, 0, 0, 0, 0, 0, 0, 0⟩) 3 (base) &&
    holdsAt (linkEvents 0 0 0 0 0 0 0 0 0 ⟨0, 0, 0, 0, 0, 0, 0, 0⟩) 4 (late (conn0 ({ · with proxSince := some 0 })
        (cfgB 8 17 [1] base))) &&
    holdsAt (linkEvents 0 0 0 0 0 0 0 0 0 ⟨0, 0, 0, 0, 0, 0, 0, 0⟩) 5 (cfgB 8 17 [1] base) &&
    holdsAt (linkEvents 0 0 0 0 0 0 0 0 0 ⟨0, 0, 0, 0, 0, 0, 0, 0⟩) 6 (cfgB 8 16 [2] (conn0 ({ · with link := 3 })
        base)) &&
    holdsAt (linkEvents 0 0 0 0 0 0 0 0 0 ⟨0, 0, 0, 0, 0, 0, 0, 0⟩) 7 (conn0 ({ · with inReset := true }) base) &&
    holdsAt (linkEvents 0 0 0 0 0 0 0 0 0 ⟨0, 0, 0, 0, 0, 0, 0, 0⟩) 8 (slacOn base) &&
    holdsAt (linkEvents 0 0 0 0 0 0 0 0 0 ⟨0, 0, 0, 0, 0, 0, 0, 0⟩) 9 (conn0
        ({ · with answered := true, lastSlac := 2 }) (slacOn base)) &&
    holdsAt (linkEvents 0 0 0 0 0 0 0 0 0 ⟨0, 0, 0, 0, 0, 0, 0, 0⟩) 10 (conn0
        ({ · with answered := true, lastSlac := 2 }) (slacOn base)) &&
    holdsAt (linkEvents 0 0 0 0 0 0 0 0 5 ⟨0, 0, 0, 0, 0, 0, 0, 0⟩) 11 (base) &&
    holdsAt (linkEvents 0 0 0 0 0 0 0 0 0 ⟨0, 0, 0, 0, 0, 0, 0, 0⟩) 12 (cfgB 8 16 [1] (conn0 ({ · with link := 3 })
        base)) &&
    holdsAt (linkEvents 0 0 0 0 0 0 0 0 0 ⟨0, 0, 0, 0, 0, 0, 0, 0⟩) 13 (conn0
        ({ · with answered := true, lastSlac := 2 }) (slacOn base)) &&
    holdsAt (linkEvents 0 0 0 0 0 0 0 0 0 ⟨0, 0, 0, 0, 0, 0, 0, 0⟩) 14 (cfgB 8 16 [1] (conn0 ({ · with link := 2 })
        base)) &&
    holdsAt (linkEvents 0 0 0 0 0 0 0 0 0 ⟨0, 0, 0, 0, 0, 0, 0, 0⟩) 15 (cfgB 8 16 [1] (conn0
        ({ · with link := 2, form := 1 }) base)) &&
    holdsAt (linkEvents 0 0 0 0 0 0 0 0 0 ⟨0, 0, 0, 0, 0, 0, 0, 0⟩) 16 (late (conn0 ({ · with link := 5 }) base)) &&
    holdsAt (linkEvents 0 0 0 0 0 0 0 0 0 ⟨0, 0, 0, 0, 0, 0, 0, 0⟩) 17 (late base) &&
    holdsAt (linkEvents 0 0 0 0 0 0 0 0 0 ⟨0, 0, 0, 0, 0, 0, 0, 0⟩) 18 (late (conn0 ({ · with link := 3 }) base)) &&
    holdsAt (linkEvents 0 0 0 0 0 0 0 0 0 ⟨0, 0, 0, 0, 0, 0, 0, 0⟩) 19 (late (conn0 ({ · with link := 4 }) base)) &&
    holdsAt (linkEvents 0 0 0 0 0 0 0 0 0 ⟨0, 0, 0, 0, 0, 0, 0, 0⟩) 20 (cfgB 8 16 [1] base) &&
    holdsAt (linkEvents 0 0 0 0 0 0 0 0 0 ⟨0, 0, 0, 0, 0, 0, 0, 0⟩) 21 (cfgB 8 16 [1] base) &&
    holdsAt (linkEvents 0 0 0 0 0 0 0 0 0 ⟨0, 0, 0, 0, 0, 0, 0, 0⟩) 22 (conn0 ({ · with link := 6 }) base |> fun s =>
        { s with jnl := { s.jnl with contexts := [⟨handle 9 0, 0, 0, 0, some 0⟩] } })) = true := by decide +kernel

/-- The condition of every entry of sessionEvents holds in some state. -/
theorem test_sessionEvents_met : (
    holdsAt (sessionEvents 0 0 0 0 0 0 0 [] [] [] false true false false [] ⟨none, none, 0, 0, none, none, 0, 0⟩ 0) 0
        (v2g base) &&
    holdsAt (sessionEvents 0 0 0 0 0 0 0 [] [] [] false true false false [] ⟨none, none, 0, 0, none, none, 0, 0⟩ 0) 1
        (v2g base) &&
    holdsAt (sessionEvents 0 0 0 0 0 0 0 [] [] [] false true false false [] ⟨none, none, 0, 0, none, none, 0, 0⟩ 0) 2
        (ses ({ · with state := 1, tls := true }) (v2g (cfgB 9 16 [4] base))) &&
    holdsAt (sessionEvents 0 0 0 0 0 0 0 [] [] [] false true false false [] ⟨none, none, 0, 0, none, none, 0, 0⟩ 0) 3
        (v2g base) &&
    holdsAt (sessionEvents 0 0 0 0 0 0 0 [] [] [] false true false false [] ⟨none, none, 0, 0, none, none, 0, 0⟩ 0) 4
        (v2g base) &&
    holdsAt (sessionEvents 0 0 0 0 0 0 0 [] [] [] false true false false [] ⟨none, none, 0, 0, none, none, 0, 0⟩ 0) 5
        (ses ({ · with state := 2, authorised := true }) (v2g base)) &&
    holdsAt (sessionEvents 0 0 0 0 0 0 0 [] [] [] false true false false [] ⟨none, none, 0, 0, none, none, 0, 0⟩ 0) 6
        (v2g base) &&
    holdsAt (sessionEvents 0 0 0 0 0 0 0 [] [] [] false true false false [] ⟨none, none, 0, 0, none, none, 0, 0⟩ 0) 7
        (v2g base) &&
    holdsAt (sessionEvents 0 0 0 0 0 0 0 [] [] [] false true false false [] ⟨none, none, 0, 0, none, none, 0, 0⟩ 0) 8
        (ses ({ · with state := 3, schedules := [[]] }) (v2g base)) &&
    holdsAt (sessionEvents 0 0 0 0 0 0 0 [] [] [] false true false false [] ⟨none, none, 0, 0, none, none, 0, 0⟩ 0) 9
        (v2g base) &&
    holdsAt (sessionEvents 0 0 0 0 0 0 0 [] [] [] false true false false [] ⟨none, none, 0, 0, none, none, 0, 0⟩ 0) 10
        (outp ({ · with state := 3, imdPassed := true }) (ses ({ · with state := 4 }) (v2g base))) &&
    holdsAt (sessionEvents 0 0 0 0 0 0 0 [] [] [] false true false false [] ⟨none, none, 0, 0, none, none, 0, 0⟩ 0) 11
        (v2g base) &&
    holdsAt (sessionEvents 0 0 0 0 0 0 0 [] [] [] false true false false [] ⟨none, none, 0, 0, none, none, 0, 0⟩ 0) 12
        (ses ({ · with state := 5 }) (v2g base)) &&
    holdsAt (sessionEvents 0 0 0 0 0 0 0 [] [] [] false true false false [] ⟨none, none, 0, 0, none, none, 0, 0⟩ 0) 13
        (ses ({ · with state := 6 }) (v2g base)) &&
    holdsAt (sessionEvents 0 0 0 0 0 0 0 [] [] [] false true false false [] ⟨none, none, 0, 0, none, none, 0, 0⟩ 0) 14
        (v2g base) &&
    holdsAt (sessionEvents 0 0 0 0 0 0 0 [] [] [] false true false false [] ⟨none, none, 0, 0, none, none, 0, 0⟩ 0) 15
        (ses ({ · with state := 8 }) (v2g base)) &&
    holdsAt (sessionEvents 0 0 0 0 0 0 0 [] [] [] false true false false [] ⟨none, none, 0, 0, none, none, 0, 0⟩ 0) 16
        (v2g base) &&
    holdsAt (sessionEvents 0 0 0 0 0 0 0 [] [] [] false true false false [] ⟨none, none, 0, 0, none, none, 0, 0⟩ 0) 17
        (v2g base) &&
    holdsAt (sessionEvents 0 0 0 0 0 0 0 [] [] [] false true false false [] ⟨none, none, 0, 0, none, none, 0, 0⟩ 0) 18
        (v2g base) &&
    holdsAt (sessionEvents 0 0 0 0 0 0 0 [] [] [] false true false false [] ⟨none, none, 0, 0, none, none, 0, 0⟩ 0) 19
        (v2g base) &&
    holdsAt (sessionEvents 0 0 0 0 0 0 0 [] [] [] false true false false [] ⟨none, none, 0, 0, none, none, 0, 0⟩ 0) 20
        (base) &&
    holdsAt (sessionEvents 0 0 0 0 0 0 1 [] [] [] false true false false [] ⟨none, none, 0, 0, none, none, 0, 0⟩ 0) 21
        (late (ses ({ · with state := 4 }) (cfgN 1 outChild (v2g base)))) &&
    holdsAt (sessionEvents 0 0 0 0 0 0 0 [] [] [] false true false false [] ⟨none, none, 0, 0, none, none, 0, 0⟩ 0) 22
        (late (asked 1 base)) &&
    holdsAt (sessionEvents 0 0 0 0 0 0 0 [] [] [] false true false false [] ⟨none, none, 0, 0, none, none, 0, 0⟩ 0) 23
        (base) &&
    holdsAt (sessionEvents 0 0 0 0 0 0 0 [] [] [] false true false false [] ⟨none, none, 0, 0, none, none, 0, 0⟩ 0) 24
        (late (ses ({ · with state := 5, stopping := some (0, 0) }) base))) = true := by decide +kernel

/-- The condition of every entry of meterEvents holds in some state. -/
theorem test_meterEvents_met : (
    holdsAt (meterEvents [] 0 1 0 10 { rec1 with stage := 2 } true) 0 (base) &&
    holdsAt (meterEvents [] 0 1 0 10 { rec1 with stage := 2 } true) 1 (unloaded base) &&
    holdsAt (meterEvents [] 0 1 0 10 { rec1 with stage := 2 } true) 2 (base |> fun s => key0 0 ({ · with state := 1 })
        { s with metro := { s.metro with records := [{ rec1 with stage := 2 }] } }) &&
    holdsAt (meterEvents [] 0 1 0 10 { rec1 with stage := 2 } true) 3 (base) &&
    holdsAt (meterEvents [] 0 1 0 10 { rec1 with stage := 2 } true) 4 (late base) &&
    holdsAt (meterEvents [] 0 1 0 10 { rec1 with stage := 2 } true) 5 (late (warned base)) &&
    holdsAt (meterEvents [] 0 1 0 10 { rec1 with stage := 2 } true) 6 (late base) &&
    holdsAt (meterEvents [] 0 1 0 10 { rec1 with stage := 2 } true) 7 (base) &&
    holdsAt (meterEvents [] 0 1 0 10 { rec1 with stage := 2 } true) 8 (cfgB 6 3 [1] base) &&
    holdsAt (meterEvents [] 0 1 0 10 { rec1 with stage := 2 } true) 9 (late (warned base)) &&
    holdsAt (meterEvents [] 0 1 0 10 { rec1 with stage := 2 } true) 10 (base) &&
    holdsAt (meterEvents [] 0 1 0 10000 { rec1 with stage := 2 } true) 11 (late (warned base)) &&
    holdsAt (meterEvents [] 0 1 0 10 { rec1 with stage := 2 } true) 12 (warned base)) = true := by decide +kernel

/-- The condition of every entry of supervisorEvents holds in some state. -/
theorem test_supervisorEvents_met : (
    holdsAt (supervisorEvents 0 1 0 0 0 1 7 []) 0 (base) &&
    holdsAt (supervisorEvents 0 1 0 0 0 1 7 []) 1 (late base) &&
    holdsAt (supervisorEvents 0 1 0 0 0 1 7 []) 2 (late (supS ({ · with started := true, mode := 0, frame := 9 })
        base)) &&
    holdsAt (supervisorEvents 0 1 0 0 0 1 7 []) 3 (late (supS ({ · with streaming := some 0 }) base)) &&
    holdsAt (supervisorEvents 0 1 0 0 0 1 7 []) 4 (tmr base) &&
    holdsAt (supervisorEvents 0 1 0 0 0 3 7 []) 5 (tmr base) &&
    holdsAt (supervisorEvents 0 1 0 0 0 1 7 []) 6 (supS ({ · with mode := 2 }) (tmr base)) &&
    holdsAt (supervisorEvents 0 1 0 0 0 1 7 []) 7 (tmr base) &&
    holdsAt (supervisorEvents 0 1 0 0 0 1 7 []) 8 (late (supS ({ · with dropped := false }) base)) &&
    holdsAt (supervisorEvents 0 1 0 0 0 1 7 []) 9 (supS ({ · with promotion := some (3, 0, 0, 0, 0) }) base) &&
    holdsAt (supervisorEvents 0 1 0 0 0 1 7 []) 10 (supS ({ · with promotion := some (3, 0, 0, 0, 1) }) base) &&
    holdsAt (supervisorEvents 0 1 0 0 0 1 7 []) 11 (supS ({ · with promotion := some (3, 0, 0, 0, 1) }) base) &&
    holdsAt (supervisorEvents 0 1 0 0 0 1 7 []) 12 (supS ({ · with promotion := some (3, 0, 0, 0, 2) }) base) &&
    holdsAt (supervisorEvents 0 1 0 0 0 1 7 []) 13 (supS ({ · with promotion := some (3, 0, 0, 0, 2) }) base) &&
    holdsAt (supervisorEvents 0 1 0 0 0 1 7 []) 14 (supS ({ · with promotion := some (3, 0, 0, 0, 3) }) base) &&
    holdsAt (supervisorEvents 0 1 0 0 0 1 7 []) 15 (supS ({ · with promotion := some (3, 0, 0, 0, 4), parked := [0] })
        base) &&
    holdsAt (supervisorEvents 0 1 0 0 0 1 7 []) 16 (supS ({ · with promotion := some (3, 0, 0, 0, 4) }) base) &&
    holdsAt (supervisorEvents 0 1 0 0 0 1 7 []) 17 (late (supS ({ · with promotion := some (3, 0, 0, 0, 1) }) base)) &&
    holdsAt (supervisorEvents 0 1 0 0 0 1 7 []) 18 (supS ({ · with parked := [0] }) (tmr base)) &&
    holdsAt (supervisorEvents 0 1 0 0 0 1 7 []) 19 (supS ({ · with parked := [0] }) (tmr base)) &&
    holdsAt (supervisorEvents 0 1 0 0 0 1 7 []) 20 (tmr base) &&
    holdsAt (supervisorEvents 0 1 0 0 0 1 7 []) 21 (base)) = true := by decide +kernel

/-- The condition of every entry of safetyEvents holds in some state. -/
theorem test_safetyEvents_met : (
    holdsAt (safetyEvents 0 0 0 0 0 true false false 0 0 ⟨1, 2, 0, 0, false⟩ ⟨3, 4, 0, 0, false⟩ smsg smsg) 0 (base) &&
    holdsAt (safetyEvents 0 0 0 0 0 true false false 0 0 ⟨1, 2, 0, 0, false⟩ ⟨3, 4, 0, 0, false⟩ smsg smsg) 1 (cfgB 7
        288 [1] (tmr base)) &&
    holdsAt (safetyEvents 0 0 0 0 0 true false false 0 0 ⟨1, 2, 0, 0, false⟩ ⟨3, 4, 0, 0, false⟩ smsg smsg) 2 (cfgB 7
        288 [1] (tmr base)) &&
    holdsAt (safetyEvents 0 0 0 0 0 true false false 0 0 ⟨1, 2, 0, 0, false⟩ ⟨3, 4, 0, 0, false⟩ smsg smsg) 3 (late
        (cfgB 7 288 [1] (base |> fun s => s.setSin 0 { s.sin 0 with differs := some 0 }))) &&
    holdsAt (safetyEvents 0 0 0 0 0 true false false 0 0 ⟨1, 2, 0, 0, false⟩ ⟨3, 4, 0, 0, false⟩ smsg smsg) 4 (late
        (cfgB 7 32 [1] (cfgB 7 288 [1] (base |> fun s => s.setSout 0 { s.sout 0 with pulseTime := 1 })))) &&
    holdsAt (safetyEvents 0 0 0 0 0 true false false 0 0 ⟨1, 2, 0, 0, false⟩ ⟨3, 4, 0, 0, false⟩ smsg smsg) 5 (base) &&
    holdsAt (safetyEvents 0 0 0 0 0 true false false 0 0 ⟨1, 2, 0, 0, false⟩ ⟨3, 4, 0, 0, false⟩ smsg smsg) 6 (cfgB 7
        32 [1] (base |> fun s => s.setSout 0 { s.sout 0 with energised := true })) &&
    holdsAt (safetyEvents 0 0 0 0 0 true false false 0 0 ⟨1, 2, 0, 0, false⟩ ⟨3, 4, 0, 0, false⟩ smsg smsg) 7 (cfgB 7
        32 [1] (base |> fun s => s.setSout 0 { s.sout 0 with energised := true })) &&
    holdsAt (safetyEvents 0 0 0 0 0 true false false 0 0 ⟨1, 2, 0, 0, false⟩ ⟨3, 4, 0, 0, false⟩ smsg smsg) 8 (base) &&
    holdsAt (safetyEvents 0 0 0 0 1000 true false false 0 0 ⟨1, 2, 0, 0, false⟩ ⟨3, 4, 0, 0, false⟩ smsg smsg) 9 (cfgB
        7 32 [1] base) &&
    holdsAt (safetyEvents 0 0 0 0 1000 true false false 0 0 ⟨1, 2, 0, 0, false⟩ ⟨3, 4, 0, 0, false⟩ smsg smsg) 10 (late
        (cfgB 7 32 [1] (base |> fun s => s.setSout 0 { s.sout 0 with energised := true }))) &&
    holdsAt (safetyEvents 0 0 0 0 0 true false false 0 0 ⟨1, 2, 0, 0, false⟩ ⟨3, 4, 0, 0, false⟩ smsg smsg) 11
        (base.post 43 [0]) &&
    holdsAt (safetyEvents 0 0 0 0 0 true false false 0 0 ⟨1, 2, 0, 0, false⟩ ⟨3, 4, 0, 0, false⟩ smsg smsg) 12 (base) &&
    holdsAt (safetyEvents 0 0 0 0 0 true false false 0 0 ⟨1, 2, 0, 0, false⟩ ⟨3, 4, 0, 0, false⟩ smsg smsg) 13 (late
        (outp ({ · with lowered := some (⟨1, 2, 0, 0, false⟩, 0), limits := some ⟨3, 4, 0, 0, false⟩ }) base)) &&
    holdsAt (safetyEvents 0 0 0 0 0 true false false 0 0 ⟨1, 2, 0, 0, false⟩ ⟨3, 4, 0, 0, false⟩ smsg smsg) 14 (late
        (outp ({ · with limitSince := some (0, 0) }) base)) &&
    holdsAt (safetyEvents 0 0 0 0 0 true false false 0 0 ⟨1, 2, 0, 0, false⟩ ⟨3, 4, 0, 0, false⟩ smsg smsg) 15 (late
        (outp ({ · with state := 3, imdSince := some 0 }) base)) &&
    holdsAt (safetyEvents 0 0 0 0 0 true false false 0 0 ⟨1, 2, 0, 0, false⟩ ⟨3, 4, 0, 0, false⟩ smsg smsg) 16 (cfgB 7
        608 [1] (cfgB 7 15 [0xFF] (tmr base))) &&
    holdsAt (safetyEvents 0 0 0 0 0 true false false 0 0 ⟨1, 2, 0, 0, false⟩ ⟨3, 4, 0, 0, false⟩ smsg smsg) 17 (late
        (cfgB 7 736 [2] (tmr base))) &&
    holdsAt (safetyEvents 0 0 0 0 0 true false false 0 0 ⟨1, 2, 0, 0, false⟩ ⟨3, 4, 0, 0, false⟩ smsg smsg) 18 (cfgB 7
        736 [1] (cfgB 7 739 [100] (portOn (tmr base)))) &&
    holdsAt (safetyEvents 0 0 0 0 0 true false false 0 0 ⟨1, 2, 0, 0, false⟩ ⟨3, 4, 0, 0, false⟩ smsg
        { smsg with portB := true }) 19 (sc0 ({ · with waiting := [({ smsg with portB := true }, 0)] }) (cfgB 7 736 [1]
        (cfgB 7 739 [100] (portOn (tmr base))))) &&
    holdsAt (safetyEvents 0 0 0 0 0 true false false 0 0 ⟨1, 2, 0, 0, false⟩ ⟨3, 4, 0, 0, false⟩ smsg
        { smsg with portB := true, data := 1 }) 20 (sc0
        ({ · with waiting := [({ smsg with portB := true, data := 1 }, 0)] }) (cfgB 7 736 [1] (cfgB 7 739 [100] (portOn
        (tmr base))))) &&
    holdsAt (safetyEvents 0 0 0 0 0 true false false 0 0 ⟨1, 2, 0, 0, false⟩ ⟨3, 4, 0, 0, false⟩ smsg smsg) 21 (base) &&
    holdsAt (safetyEvents 0 0 0 0 0 true false false 0 0 ⟨1, 2, 0, 0, false⟩ ⟨3, 4, 0, 0, false⟩ smsg smsg) 22 (late
        (sc0 ({ · with waiting := [(smsg, 0)] }) base)) &&
    holdsAt (safetyEvents 0 0 0 0 0 true false false 0 0 ⟨1, 2, 0, 0, false⟩ ⟨3, 4, 0, 0, false⟩ smsg smsg) 23 (late
        (cfgB 7 736 [1] (tmr base))) &&
    holdsAt (safetyEvents 0 0 0 0 0 true false false 0 0 ⟨1, 2, 0, 0, false⟩ ⟨3, 4, 0, 0, false⟩ smsg smsg) 24 (late
        (outp ({ · with safe := 1, amps := 5000 }) base)) &&
    holdsAt (safetyEvents 0 0 0 0 0 true false false 0 0 ⟨1, 2, 0, 0, false⟩ ⟨3, 4, 0, 0, false⟩ smsg smsg) 25 (late
        (outp ({ · with safe := 2 }) base)) &&
    holdsAt (safetyEvents 0 0 0 0 0 true false false 0 0 ⟨1, 2, 0, 0, false⟩ ⟨3, 4, 0, 0, false⟩ smsg smsg) 26 (late
        (outp ({ · with hold := some 0 }) base))) = true := by decide +kernel

/-- The condition of every entry of fieldEvents holds in some state. -/
theorem test_fieldEvents_met : (
    holdsAt (fieldEvents 0 0 0 0 0 0 beat1 rep1 0 0 0x100 ⟨0, 0, true, false, 0x100⟩ { ident := 0x100, data := [] }
        ⟨0x100, [], 1, 0⟩ ⟨0, 1, true⟩) 0 (valid (base |> fun s =>
        { s with field := { s.field with beat := some 5 } })) &&
    holdsAt (fieldEvents 0 0 0 0 0 0 beat1 rep1 0 0 0x100 ⟨0, 0, true, false, 0x100⟩ { ident := 0x100, data := [] }
        ⟨0x100, [], 1, 0⟩ ⟨0, 1, true⟩) 1 (late base) &&
    holdsAt (fieldEvents 0 0 0 0 0 0 beat1 rep1 0 0 0x100 ⟨0, 0, true, false, 0x100⟩ { ident := 0x100, data := [] }
        ⟨0x100, [], 1, 0⟩ ⟨0, 1, true⟩) 2 (dark base) &&
    holdsAt (fieldEvents 0 0 0 0 0 0 beat1 rep1 0 0 0x100 ⟨0, 0, true, false, 0x100⟩ { ident := 0x100, data := [] }
        ⟨0x100, [], 1, 0⟩ ⟨0, 1, true⟩) 3 (fnode0 (fun x => x) base) &&
    holdsAt (fieldEvents 0 0 0 0 0 0 { beat1 with checkOk := false } rep1 0 0 0x100 ⟨0, 0, true, false, 0x100⟩
        { ident := 0x100, data := [] } ⟨0x100, [], 1, 0⟩ ⟨0, 1, true⟩) 4 (fnode0 (fun x => x) base) &&
    holdsAt (fieldEvents 0 0 0 0 0 0 beat1 rep1 0 0 0x100 ⟨0, 0, true, false, 0x100⟩ { ident := 0x100, data := [] }
        ⟨0x100, [], 1, 0⟩ ⟨0, 1, true⟩) 5 (base) &&
    holdsAt (fieldEvents 0 0 0 0 0 0 beat1 rep1 0 0 0x100 ⟨0, 0, true, false, 0x100⟩ { ident := 0x100, data := [] }
        ⟨0x100, [], 1, 0⟩ ⟨0, 1, true⟩) 6 (late (cfgF 0 fieldNode base)) &&
    holdsAt (fieldEvents 0 0 0 0 0 0 beat1 rep1 0 0 0x100 ⟨0, 0, true, false, 0x100⟩ { ident := 0x100, data := [] }
        ⟨0x100, [], 1, 0⟩ ⟨0, 1, true⟩) 7 (base) &&
    holdsAt (fieldEvents 0 0 1 0 0 0 beat1 rep1 0 0 0x100 ⟨0, 0, true, false, 0x100⟩ { ident := 0x100, data := [] }
        ⟨0x100, [], 1, 0⟩ ⟨0, 1, true⟩) 8 (calS ({ · with periodEnd := 100 }) (cfgN 1 (mputs (mputs (mputs [] 0 child)
        0 [3, 0]) 8 [0, 0]) (fnode0 (fun x => x) base))) &&
    holdsAt (fieldEvents 0 0 0 0 0 0 beat1 { rep1 with checkOk := false } 0 0 0x100 ⟨0, 0, true, false, 0x100⟩
        { ident := 0x100, data := [] } ⟨0x100, [], 1, 0⟩ ⟨0, 1, true⟩) 9 (fnode0 (fun x => x) base) &&
    holdsAt (fieldEvents 0 0 0 0 0 0 beat1 rep1 0 0 0x100 ⟨0, 0, true, false, 0x100⟩ { ident := 0x100, data := [] }
        ⟨0x100, [], 1, 0⟩ ⟨0, 1, true⟩) 10 (phase 1 (fnode0 (fun x => x) base) |> fun s =>
        { s with ep := { s.ep with answers := [(0, 0)] } }) &&
    holdsAt (fieldEvents 0 0 0 0 0 0 beat1 rep1 0 0 0x100 ⟨0, 0, true, false, 0x100⟩ { ident := 0x100, data := [] }
        ⟨0x100, [], 1, 0⟩ ⟨0, 1, true⟩) 11 (phase 1 (fnode0 (fun x => x) base) |> fun s =>
        { s with ep := { s.ep with answers := [(0, 0)] } }) &&
    holdsAt (fieldEvents 0 0 0 0 0 0 beat1 rep1 0 0 0x100 ⟨0, 0, true, false, 0x100⟩ { ident := 0x100, data := [] }
        ⟨0x100, [], 1, 0⟩ ⟨0, 1, true⟩) 12 (base) &&
    holdsAt (fieldEvents 0 0 0 0 0 0 beat1 rep1 0 1 0x100 ⟨0, 0, true, false, 0x100⟩ { ident := 0x100, data := [] }
        ⟨0x100, [], 1, 0⟩ ⟨0, 1, true⟩) 13 (phase 3 (fnode0 (fun x => x) base) |> fun s =>
        { s with ep := { s.ep with answers := [(0, 1)] } }) &&
    holdsAt (fieldEvents 0 0 0 0 0 0 beat1 rep1 0 0 0x100 ⟨0, 0, true, false, 0x100⟩ { ident := 0x100, data := [] }
        ⟨0x100, [], 1, 0⟩ ⟨0, 1, true⟩) 14 (fnode0 (fun x => x) base) &&
    holdsAt (fieldEvents 0 0 0 0 0 0 beat1 rep1 0 0 0x100 ⟨0, 0, true, false, 0x100⟩ { ident := 0x100, data := [] }
        ⟨0x100, [], 1, 0⟩ ⟨0, 1, true⟩) 15 (late (phase 3 base)) &&
    holdsAt (fieldEvents 0 0 0 0 0 0 beat1 rep1 0 0 0x100 ⟨0, 0, true, false, 0x100⟩ { ident := 0x100, data := [] }
        ⟨0x100, [], 1, 0⟩ ⟨0, 1, true⟩) 16 (base) &&
    holdsAt (fieldEvents 0 0 0 0 0 0 beat1 rep1 0 0 0x100 ⟨0, 0, true, false, 0x100⟩ { ident := 0x100, data := [] }
        ⟨0x100, [], 1, 0⟩ ⟨0, 1, true⟩) 17 (portOn base) &&
    holdsAt (fieldEvents 0 0 0 0 0 0 beat1 rep1 0 0 0x100 ⟨256, 0, true, false, 0x100⟩ { ident := 0x100, data := [] }
        ⟨0x100, [], 1, 0⟩ ⟨0, 1, true⟩) 18 (portOn base) &&
    holdsAt (fieldEvents 0 0 0 0 0 0 beat1 rep1 0 0 0x100 ⟨0, 0, true, false, 0x100⟩ { ident := 0x100, data := [] }
        ⟨0x100, [], 1, 0⟩ ⟨0, 1, true⟩) 19 (late (port0 ({ · with state := 3 }) base)) &&
    holdsAt (fieldEvents 0 0 0 0 0 0 beat1 rep1 0 0 0x100 ⟨0, 0, true, false, 0x100⟩ { ident := 0x100, data := [] }
        ⟨0x100, [], 1, 0⟩ ⟨0, 1, true⟩) 20 (base) &&
    holdsAt (fieldEvents 0 0 0 0 0 0 beat1 rep1 0 0 0x100 ⟨0, 0, true, false, 0x100⟩ { ident := 0x100, data := [] }
        ⟨0x100, [], 1, 0⟩ ⟨0, 1, true⟩) 21 (cfgB 10 16 [1] (port0 ({ · with resetting := true }) base)) &&
    holdsAt (fieldEvents 0 0 0 0 0 0 beat1 rep1 0 0 0x100 ⟨0, 0, true, false, 0x100⟩ { ident := 0x100, data := [] }
        ⟨0x100, [], 1, 0⟩ ⟨0, 1, true⟩) 22 (base) &&
    holdsAt (fieldEvents 0 0 0 0 0 0 beat1 rep1 0 0 0x100 ⟨0, 0, true, false, 0x100⟩ { ident := 0x100, data := [] }
        ⟨0x100, [], 1, 0⟩ ⟨0, 1, true⟩) 23 (late (port0 ({ · with quiet := [(0x100, 0, 0)] }) base)) &&
    holdsAt (fieldEvents 0 0 0 0 0 0 beat1 rep1 0 0 0x100 ⟨0, 0, true, false, 0x100⟩ { ident := 0x100, data := [] }
        ⟨0x100, [], 1, 0⟩ ⟨0, 1, true⟩) 24 (port0 ({ · with quiet := [(0x100, 0, 0)] }) base) &&
    holdsAt (fieldEvents 0 0 0 0 0 0 beat1 rep1 0 0 0x100 ⟨0, 0, true, false, 0x100⟩ { ident := 0x100, data := [] }
        ⟨0x100, [], 1, 0⟩ ⟨0, 1, true⟩) 25 (port0 ({ · with rx := [(0, { ident := 0x100, enable := true })] }) (portOn
        base)) &&
    holdsAt (fieldEvents 0 0 0 0 0 0 beat1 rep1 0 0 0x100 ⟨0, 0, true, false, 0x100⟩ { ident := 0x100, data := [] }
        ⟨0x100, [], 1, 0⟩ ⟨0, 1, true⟩) 26 (port0
        ({ · with rx := [(0, { ident := 0x100, enable := true, event := true })] }) (portOn base)) &&
    holdsAt (fieldEvents 0 0 0 0 0 0 beat1 rep1 0 0 0x100 ⟨0, 0, true, false, 0x100⟩
        { ident := 0x100, data := [], remote := true } ⟨0x100, [], 1, 0⟩ ⟨0, 1, true⟩) 27 (portOn base) &&
    holdsAt (fieldEvents 0 0 0 0 0 0 beat1 rep1 0 0 0x100 ⟨0, 0, true, false, 0x100⟩
        { ident := 0x20000000, data := [] } ⟨0x100, [], 1, 0⟩ ⟨0, 1, true⟩) 28 (portOn base) &&
    holdsAt (fieldEvents 0 0 0 0 0 0 beat1 rep1 0 0 0x100 ⟨0, 0, true, false, 0x100⟩ { ident := 0x100, data := [] }
        ⟨0x100, [], 1, 0⟩ ⟨0, 1, true⟩) 29 (portOn base) &&
    holdsAt (fieldEvents 0 0 0 0 0 0 beat1 rep1 0 0 0x100 ⟨0, 0, true, false, 0x100⟩ { ident := 0x100, data := [] }
        ⟨0x100, [], 1, 0⟩ ⟨0, 1, true⟩) 30 (port0 ({ · with state := 5 }) base) &&
    holdsAt (fieldEvents 0 0 0 0 0 0 beat1 rep1 0 0 0x100 ⟨0, 0, true, false, 0x100⟩ { ident := 0x100, data := [] }
        ⟨0x100, [], 1, 0⟩ ⟨0, 1, true⟩) 31 (late (port0 ({ · with rx := [(0, { heldSince := some 0 })] }) base)) &&
    holdsAt (fieldEvents 0 0 0 0 0 0 beat1 rep1 0 0 0x100 ⟨0, 0, true, false, 0x100⟩ { ident := 0x100, data := [] }
        ⟨0x100, [], 1, 0⟩ ⟨0, 1, true⟩) 32 (base) &&
    holdsAt (fieldEvents 0 0 0 0 0 0 beat1 rep1 0 0 0x100 ⟨0, 0, true, false, 0x100⟩ { ident := 0x100, data := [] }
        ⟨0x100, [], 1, 0⟩ ⟨0, 1, true⟩) 33 (port0 ({ · with tx := [(0, some txb)] }) (portOn base)) &&
    holdsAt (fieldEvents 0 0 0 1 0 0 beat1 rep1 0 0 0x100 ⟨0, 0, true, false, 0x100⟩ { ident := 0x100, data := [] }
        ⟨0x100, [], 1, 0⟩ ⟨0, 1, true⟩) 34 (port0 ({ · with tx := [(0, some txb)] }) (portOn base)) &&
    holdsAt (fieldEvents 0 0 0 0 0 0 beat1 rep1 0 0 0x100 ⟨0, 0, true, false, 0x100⟩ { ident := 0x100, data := [] }
        ⟨0x100, [], 1, 0⟩ ⟨0, 1, true⟩) 35 (port0 ({ · with profile := [⟨0x100, [], 1, 0⟩] }) (portOn base)) &&
    holdsAt (fieldEvents 0 0 0 0 0 0 beat1 rep1 0 0 0x100 ⟨0, 0, true, false, 0x100⟩ { ident := 0x100, data := [] }
        ⟨0x100, [], 1, 0⟩ ⟨0, 1, true⟩) 36 (base)) = true := by decide +kernel

/-- The condition of every entry of lsEvents holds in some state. -/
theorem test_lsEvents_met : (
    holdsAt (lsEvents 0 0 0 0 0 20 0 true) 0 (chan0 ({ · with state := 1 }) base |> fun s =>
        { s with ls := { s.ls with vls := 120 } }) &&
    holdsAt (lsEvents 0 0 0 0 0 100 0 true) 1 (chan0 ({ · with state := 1 }) base) &&
    holdsAt (lsEvents 0 0 0 0 0 100 0 true) 2 (chan0 ({ · with state := 2 }) base) &&
    holdsAt (lsEvents 16 0 0 0 0 1000 0 true) 3 (base |> fun s => s.setChan 16 { s.chan 16 with state := 1 }) &&
    holdsAt (lsEvents 16 0 0 0 0 1000 0 true) 4 (cfgB 11 282 [3] (base |> fun s => s.setChan 16
        { s.chan 16 with state := 6 })) &&
    holdsAt (lsEvents 0 0 5 0 0 0 0 true) 5 (chan0 ({ · with state := 1 }) base) &&
    holdsAt (lsEvents 0 0 5 0 0 0 0 true) 6 (chan0 ({ · with state := 1, thermals := List.replicate 15 0 }) base) &&
    holdsAt (lsEvents 0 0 0 0 0 0 0 true) 7 (cfgB 11 24 [100] (chan0 ({ · with state := 3 }) base)) &&
    holdsAt (lsEvents 0 0 0 0 0 0 1600 true) 8 (base) &&
    holdsAt (lsEvents 0 0 0 0 0 0 1400 true) 9 (base |> fun s => { s with ls := { s.ls with overtemp := true } }) &&
    holdsAt (lsEvents 0 0 0 0 0 100000 0 true) 10 (cfgB 11 19 [1] (chan0 ({ · with state := 1, duty := 1000 }) base)) &&
    holdsAt (lsEvents 0 0 0 0 10 0 0 true) 11 (base) &&
    holdsAt (lsEvents 0 0 0 0 400 0 0 true) 12 (base) &&
    holdsAt (lsEvents 0 0 0 0 100 0 0 true) 13 (late (base |> fun s =>
        { s with ls := { s.ls with supplyOk := false, okSince := some 0 } })) &&
    holdsAt (lsEvents 0 0 0 0 0 0 0 true) 14 (chan0 ({ · with state := 2 }) base) &&
    holdsAt (lsEvents 0 0 0 0 0 0 0 true) 15 (cfgB 11 16 [2] (chan0
        ({ · with state := 4, backoff := some (0, 0), command := 1000 }) base)) &&
    holdsAt (lsEvents 0 0 0 0 0 0 0 true) 16 (base) &&
    holdsAt (lsEvents 0 0 0 0 0 0 0 true) 17 (lost base) &&
    holdsAt (lsEvents 0 0 0 0 0 0 0 true) 18 (base) &&
    holdsAt (lsEvents 0 0 0 0 0 0 0 true) 19 (cfgB 11 17 [5] (chan0 ({ · with state := 2 }) base)) &&
    holdsAt (lsEvents 0 0 0 0 0 0 0 true) 20 (base) &&
    holdsAt (lsEvents 0 0 0 0 0 0 0 true) 21 (late (chan0 ({ · with pausedAt := some 0 }) base)) &&
    holdsAt (lsEvents 0 0 0 0 0 0 0 true) 22 (late (chan0 ({ · with state := 6, burstOff := some 0 }) base)) &&
    holdsAt (lsEvents 0 0 0 0 0 10000 0 true) 23 (late (chan0 ({ · with state := 6 }) base)) &&
    holdsAt (lsEvents 0 0 0 0 0 0 0 true) 24 (base) &&
    holdsAt (lsEvents 0 0 0 0 0 0 0 true) 25 (base) &&
    holdsAt (lsEvents 0 0 0 0 0 0 0 true) 26 (base)) = true := by decide +kernel

/-- The condition of every entry of trustEvents holds in some state. -/
theorem test_trustEvents_met : (
    holdsAt (trustEvents 0 5 0 1 { lv 0x0D07 9 (handle 13 0) true with order := 5 }) 0 (late (key0 0
        ({ · with state := 1, value := [1] }) base)) &&
    holdsAt (trustEvents 0 5 0 1 { lv 0x0D07 9 (handle 13 0) true with order := 5 }) 1 (rng (key0 0
        ({ · with state := 1, value := [1] }) base)) &&
    holdsAt (trustEvents 1 5 0 1 { lv 0x0D07 9 (handle 13 0) true with order := 5 }) 2 (key0 1
        ({ · with state := 1, value := [1] }) base) &&
    holdsAt (trustEvents 0 5 0 1 { lv 0x0D07 9 (handle 13 0) true with order := 5 }) 3 (key0 0
        ({ · with state := 1, value := [1] }) base) &&
    holdsAt (trustEvents 0 5 0 1 { lv 0x0D07 9 (handle 13 0) true with order := 5 }) 4 (base) &&
    holdsAt (trustEvents 0 5 0 1 { lv 0x0D07 9 (handle 13 0) true with order := 5 }) 5 (key0 0
        ({ · with state := 1, refs := 2 }) (withLive { lv 0x0D07 9 (handle 13 0) true with order := 5 } base)) &&
    holdsAt (trustEvents 0 5 0 1 { lv 0x0D07 9 (handle 13 0) true with order := 5 }) 6 (key0 0
        ({ · with state := 1, refs := 2 }) (withLive { lv 0x0D07 9 (handle 13 0) true with order := 5 } (base |> fun s
        => { s with boot := { s.boot with coreReset := true } }))) &&
    holdsAt (trustEvents 0 5 0 1 { lv 0x0D07 9 (handle 13 0) true with order := 5 }) 7 (late (withLive
        { lv 0x0D07 9 (handle 13 0) true with order := 5 } (base |> fun s =>
        { s with trust := { s.trust with results := [(5, 0)] } }))) &&
    holdsAt (trustEvents 0 5 0 1 { lv 0x0D07 9 (handle 13 0) true with order := 5 }) 8 (base) &&
    holdsAt (trustEvents 0 5 0 1 { lv 0x0D07 9 (handle 13 0) true with order := 5 }) 9 (late (key0 0
        ({ · with state := 2, staleSince := some 0 }) base)) &&
    holdsAt (trustEvents 0 5 0 1 { lv 0x0D07 9 (handle 13 0) true with order := 5 }) 10 (base) &&
    holdsAt (trustEvents 0 5 0 1 { lv 0x0D07 9 (handle 13 0) true with order := 5 }) 11 (key0 2 ({ · with state := 3 })
        (base |> fun s => { s with trust := { s.trust with root := true } })) &&
    holdsAt (trustEvents 0 5 0 1 { lv 0x0D07 9 (handle 13 0) true with order := 5 }) 12 (base) &&
    holdsAt (trustEvents 0 5 0 1 { lv 0x0D07 9 (handle 13 0) true with order := 5 }) 13 (base) &&
    holdsAt (trustEvents 0 5 0 1 { lv 0x0D07 9 (handle 13 0) true with order := 5 }) 14 (base) &&
    holdsAt (trustEvents 0 5 0 1 { lv 0x0D07 9 (handle 13 0) true with order := 5 }) 15 (base)) = true := by
        decide +kernel

/-- The condition of every entry of journalEvents holds in some state. -/
theorem test_journalEvents_met : (
    holdsAt (journalEvents ⟨0, 0, 0, 0, []⟩ [] 0 0 []) 0 (base |> fun s =>
        { s with jnl := { s.jnl with buffer := [⟨0, 0, 0, 0, []⟩] } }) &&
    holdsAt (journalEvents ⟨0, 0, 0, 0, []⟩ [] 0 0 []) 1 (base |> fun s =>
        { s with jnl := { s.jnl with buffer := [⟨0, 0, 0, 0, []⟩] } }) &&
    holdsAt (journalEvents ⟨0, 0, 0, 0, []⟩ [] 0 0 []) 2 (gatedS base) &&
    holdsAt (journalEvents ⟨0, 0, 0, 0, []⟩ [] 0 0 []) 3 (base) &&
    holdsAt (journalEvents ⟨0, 0, 0, 0, []⟩ [] 0 0 []) 4 (gatedS base) &&
    holdsAt (journalEvents ⟨0, 0, 0, 0, []⟩ [] (handle 12 0) 0 []) 5 (base |> fun s =>
        { s with jnl := { s.jnl with waiting := [(handle 12 0, 0)] } }) &&
    holdsAt (journalEvents ⟨0, 0, 0, 0, []⟩ [] (handle 9 0) 0 []) 6 (base |> fun s =>
        { s with jnl := { s.jnl with waiting := [(handle 9 0, 0)] } }) &&
    holdsAt (journalEvents ⟨0, 0, 0, 0, []⟩ [] 0 0 []) 7 (base)) = true := by decide +kernel

/-- The condition of every entry of powerEvents holds in some state. -/
theorem test_powerEvents_met : (
    holdsAt (powerEvents 0 0 0 3 0 5 5 0 0) 0 (cfgB 13 16 [3, 0, 0, 0, 1] (cfgB 13 30 [0xFF] base)) &&
    holdsAt (powerEvents 0 0 0 3 0 5 5 0 0) 1 (cfgB 13 16 [1] base) &&
    holdsAt (powerEvents 0 0 0 3 0 5 5 0 0) 2 (base) &&
    holdsAt (powerEvents 0 0 0 3 0 5 5 0 100) 3 (cfgB 13 2 [4] (pw ({ · with state := 2 }) base)) &&
    holdsAt (powerEvents 0 0 0 3 0 5 5 0 0) 4 (base) &&
    holdsAt (powerEvents 0 0 0 3 0 5 5 0 0) 5 (pw ({ · with wakeAt := some (0, 0) }) (valid base)) &&
    holdsAt (powerEvents 0 0 0 3 0 5 5 0 0) 6 (pw ({ · with wakeAt := some (0, 0) }) base) &&
    holdsAt (powerEvents 0 0 0 3 0 5 5 0 0) 7 (base) &&
    holdsAt (powerEvents 0 0 0 3 0 5 5 0 0) 8 (lockS (pw ({ · with state := 4, domains := 0x811, wakeMask := 8 })
        base)) &&
    holdsAt (powerEvents 0 0 0 3 0 5 5 0 0) 9 (lockS (pw ({ · with state := 4, domains := 0xFF3, wakeMask := 0xFFF })
        base)) &&
    holdsAt (powerEvents 0 0 0 3 0 5 5 0 0) 10 (base) &&
    holdsAt (powerEvents 0 0 0 3 0 5 5 0 0) 11 (late (cfgB 13 2 [1] base)) &&
    holdsAt (powerEvents 0 0 0 3 0 5 5 0 0) 12 (base) &&
    holdsAt (powerEvents 0 0 0 3 0 5 5 0 0) 13 (late (pw ({ · with force := 1 }) base)) &&
    holdsAt (powerEvents 0 0 0 3 0 5 5 0 0) 14 (base) &&
    holdsAt (powerEvents 0 0 0 3 0 5 5 0 0) 15 (base) &&
    holdsAt (powerEvents 0 0 0 3 0 5 5 0 0) 16 (dark base)) = true := by decide +kernel

/-- The condition of every entry of resetEvents holds in some state. -/
theorem test_resetEvents_met : (
    holdsAt (resetEvents 0 100 0 0 0 0 500 3 32 0 512 250 boot1) 0 (base) &&
    holdsAt (resetEvents 40 100 0 0 0 0 500 3 32 0 512 250 boot1) 1 (base) &&
    holdsAt (resetEvents 0 100 0 0 0 0 500 3 32 0 512 250 boot1) 2 (cfgB 4 66 [32] (run0 base)) &&
    holdsAt (resetEvents 0 100 0 0 0 0 500 3 32 0 512 250 boot1) 3 (cfgB 4 66 [128] (run0 base)) &&
    holdsAt (resetEvents 0 100 0 0 0 0 500 3 32 0 512 250 boot1) 4 (base) &&
    holdsAt (resetEvents 0 100 0 0 0 0 500 3 32 0 512 250 boot1) 5 (base) &&
    holdsAt (resetEvents 0 100 0 0 0 0 500 3 32 0 512 2000 boot1) 6 (base) &&
    holdsAt (resetEvents 0 100 0 0 0 0 500 3 32 0 512 250 boot1) 7 (base) &&
    holdsAt (resetEvents 0 100 0 0 0 0 500 3 32 0 512 250 boot1) 8 (clkS ({ · with missing := 2 }) base) &&
    holdsAt (resetEvents 0 100 0 0 0 0 500 3 32 0 512 250 boot1) 9 (late (base.post 32 [0])) &&
    holdsAt (resetEvents 0 100 0 0 0 0 500 3 32 0 512 250 boot1) 10 (base) &&
    holdsAt (resetEvents 0 100 0 0 0 0 500 3 32 0 512 250 boot1) 11 (dark base) &&
    holdsAt (resetEvents 0 100 0 0 0 0 500 3 32 0 512 250 boot1) 12 (base) &&
    holdsAt (resetEvents 0 100 0 0 0 0 500 3 32 0 512 250 { boot1 with crystalOk := false }) 13 (base) &&
    holdsAt (resetEvents 0 100 0 0 0 0 500 3 32 0 512 250 { boot1 with pufOk := false }) 14 (base) &&
    holdsAt (resetEvents 0 100 0 0 0 0 500 3 32 0 512 250 boot1) 15 (base) &&
    holdsAt (resetEvents 0 100 0 0 0 0 500 3 32 0 512 250 boot1) 16 (base) &&
    holdsAt (resetEvents 0 100 0 0 0 0 800 3 32 0 512 250 boot1) 17 (base) &&
    holdsAt (resetEvents 0 101 0 0 0 0 500 3 32 0 512 250 boot1) 18 (base) &&
    holdsAt (resetEvents 0 100 0 0 0 0 500 3 32 0 512 250 boot1) 19 (base) &&
    holdsAt (resetEvents 0 100 0 0 0 0 500 3 32 0 512 250 boot1) 20 (base |> fun s =>
        { s with boot := { s.boot with porst := true } }) &&
    holdsAt (resetEvents 0 100 0 0 0 0 500 3 32 0 512 250 boot1) 21 (late (clkS ({ · with faultClock := some 0 })
        base)) &&
    holdsAt (resetEvents 0 100 0 0 0 0 500 3 32 0 512 250 boot1) 22 (base) &&
    holdsAt (resetEvents 0 100 0 0 0 0 500 3 32 0 512 250 boot1) 23 (clkS
        ({ · with multOn := true, refPresent := true }) base) &&
    holdsAt (resetEvents 0 100 0 0 0 0 500 3 32 0 512 250 boot1) 24 (clkS
        ({ · with multOn := true, refPresent := true }) (base |> fun s =>
        { s with boot := { s.boot with systemReset := true } })) &&
    holdsAt (resetEvents 0 100 0 0 0 0 500 3 32 0 0 250 boot1) 25 (clkS ({ · with locked := true }) base) &&
    holdsAt (resetEvents 0 100 0 0 0 0 500 3 32 0 512 250 boot1) 26 (base) &&
    holdsAt (resetEvents 0 100 0 0 0 0 500 3 32 0 512 250 boot1) 27 (clkS ({ · with refPresent := true }) base) &&
    holdsAt (resetEvents 0 100 0 0 0 0 500 3 32 0 512 250 boot1) 28 (late (supS ({ · with dropped := false }) base)) &&
    holdsAt (resetEvents 0 100 0 0 0 0 500 3 32 0 512 250 boot1) 29 (tmr base) &&
    holdsAt (resetEvents 0 100 0 0 0 0 500 3 32 0 512 250 boot1) 30 (base) &&
    holdsAt (resetEvents 0 100 0 0 0 0 500 3 32 0 512 250 boot1) 31 (base |> fun s =>
        { s with boot := { s.boot with recovery := true } }) &&
    holdsAt (resetEvents 0 100 0 0 0 0 500 3 32 0 512 250 boot1) 32 (base |> fun s =>
        { s with boot := { s.boot with coreReset := true, stage := 2 }, trust := { s.trust with root := true } }) &&
    holdsAt (resetEvents 0 100 0 0 0 0 500 3 32 0 512 250 boot1) 33 (base)) = true := by decide +kernel


/-! ### What the other statements assume can hold -/

/-- A NOP of seat 0, with a flag byte. -/
def nopC (fl : Byte) : Cmd := mkCmd 0x0100 fl 0 [1, 2, 3, 4] []
/-- Its packet with a wrong check. -/
def nopBad : Cmd := { nopC 0 with pkt := { (nopC 0).pkt with check := (nopC 0).pkt.check + 1 } }
def q0 : QueueDef := ⟨0, 1, 4, 1⟩
/-- The first host command of the cases, NOP, meets a condition. -/
def nopMeets (f : Case → Bool) : Bool := (hostCases[0]?).any f

/-- Seat 0 in a state. -/
def seatAt (n : Nat) (s : State) : State := s.setSeat 0 { s.seat 0 with state := n }

/-- StepTakesFront: a command waits. -/
theorem test_step_front : ({ base with pending := [.nop (nopC 0)] } : State).pending = [.nop (nopC 0)] := rfl
/-- StepIdlesOneMicrosecond, WaitingCommandsAreKept, DomainsStaySound: reset idles, and its domains are sound. -/
theorem test_step_reset : State.reset.pending = [] ∧ State.reset.domainsSound = true ∧
    step State.reset = .next State.reset.idle := ⟨rfl, by decide +kernel, rfl⟩
/-- DomainsStaySound: a state with every domain is sound too. -/
theorem test_base_sound : base.domainsSound = true := by decide +kernel
/-- BadCheckCompletesWithoutEffect: from a ring that does not drain, and from one that drains, a partial command in it. -/
theorem test_bad_check_arrives : nopMeets (fun e =>
    let s := put 0x0100 nopBad base
    let d := ring00 ({ · with absentTo := some 1, cont := some cont1 }) s
    [s, d].all fun u =>
      ready e.info.opcode nopBad u && decide (u.queueDef 0 0 = some q0) && ((u.ring 0 0).draining == decide (u = d)) &&
      decide (packetCheck q0.qnum (u.ring 0 0).seq e.info.opcode nopBad.pkt ≠ nopBad.pkt.check.toNat)) = true := by
  decide +kernel
/-- CommandThatIsNotReadyWaits. -/
theorem test_not_ready : nopMeets (fun e => !ready e.info.opcode (nopC 0) base) = true := by decide +kernel
/-- FirstFailingCheckCompletes: a NOP whose handle is not the device's (BAD_HANDLE, 0x0107). -/
theorem test_check_fails : nopMeets (fun e =>
    let c := mkCmd 0x0100 0 5 [] []
    (arrives e.info c (put 0x0100 c base)).any fun p =>
      decide (firstOf (checkList e.info p.1 (p.1.req e.info c (p.2.hostIf.order - 1)) p.2) = some 0x0107)) = true := by
  decide +kernel
/-- DrainingPacketIsAbsent: a ring that drains to index 1. -/
theorem test_draining : nopMeets (fun e =>
    let s := ring00 ({ · with absentTo := some 1 }) (put 0x0100 (nopC 0) base)
    ready e.info.opcode (nopC 0) s && (s.ring 0 0).draining && checkRight e.info.opcode (nopC 0) s &&
    !(nopC 0).pkt.flags.getLsbD 0 && decide ((s.ring 0 0).cont = none)) = true := by decide +kernel
/-- ContinuedCommandIsHeld: CONT is set. -/
theorem test_continued : nopMeets (fun e =>
    let s := put 0x0100 (nopC 1) base
    ready e.info.opcode (nopC 1) s && !(s.ring 0 0).draining && checkRight e.info.opcode (nopC 1) s &&
    (nopC 1).pkt.flags.getLsbD 0 && decide ((s.ring 0 0).cont = none)) = true := by decide +kernel
/-- A SNAPSHOT_RESTORE whose buffer differs from its descriptor's CRC-32C in one byte. -/
def badBuf : Cmd := mkCmd 0x0412 2 (handle 3 0) (descr 0 snap) (snap.set 0 0)
/-- BufferFaultCompletes. -/
theorem test_buffer_fault : ((allocCases[4]?).any fun e =>
    (arrives e.info badBuf (put 0x0412 badBuf (valid base))).any fun p =>
      let q := p.1.req e.info badBuf (p.2.hostIf.order - 1)
      decide (firstOf (checkList e.info p.1 q p.2) = none) && !eccLost badBuf && p.1.flags.getLsbD 1 && e.info.bufIn &&
      (p.2.seatDef 0).any fun d => decide (firstOf (bufferList badBuf q d) = some 0x0101)) = true := by decide +kernel
/-- UncorrectableErrorEndsTheCommand: a NOP whose state the SRAM shows an uncorrectable error in. -/
theorem test_ecc : nopMeets (fun e =>
    let c := { nopC 0 with sram := some (true, 64) }
    (arrives e.info c (put 0x0100 c base)).any fun p =>
      decide (firstOf (checkList e.info p.1 (p.1.req e.info c (p.2.hostIf.order - 1)) p.2) = none)) = true := by
  decide +kernel
/-- UnknownOpcodeIsBad: an opcode of no group, from a seat that is OPEN and from one that is not; and one that has a
      row. -/
theorem test_unknown_opcode :
    (opcodeUsed 0x01FF = false ∧ opcodeUsed 0x0100 = true) ∧
    ([1, 2].all fun st =>
      let c := mkCmd 0x01FF 0 0 [] []
      (arrives { line 0x01FF .R [0] 0 192 with known := false } c
        (put 0x01FF c (seatAt st base))).any fun p =>
          decide ((p.2.seat 0).state = st)) = true := by decide +kernel
/-- RequestTouchesOnlyTheHostInterface, AnsweringLeavesTheDevice: NOP runs, and leaves the state as it is. -/
theorem test_nop_runs : ∃ q t, Runs { line 0x0100 .R [0] 0 12 with loB := 4 } (nopC 0) (put 0x0100 (nopC 0) base) q t ∧
    nopOf q t = .done 0 (resBytes (((upTo 4).map q.word).flatMap wordBytes)) t := by
  have h : (admitted { line 0x0100 .R [0] 0 12 with loB := 4 } (nopC 0) (put 0x0100 (nopC 0) base)).isSome = true := by
    decide +kernel
  obtain ⟨p, hp⟩ := Option.isSome_iff_exists.mp h
  exact ⟨p.1, p.2, hp, rfl⟩
/-- PostNeedsACredit: both sides, a queue with credits and one that is full. -/
theorem test_credits : 0 < base.credits 39 ∧
    ((upTo (base.iqDepth 39)).foldl (fun s _ => s.post 39 []) base).credits 39 = 0 := by decide +kernel
/-- TakeDiscardsOtherEpochs: an entry of this epoch in sequence, one of another epoch, one after a gap. -/
theorem test_take_entries :
    let e (k : Word) (n : Half) (s : State) : State :=
      { s with hostIf := { s.hostIf with internal := [(39, { entries := [⟨k, n, [7]⟩] })] } }
    ((e 0 0 base).iq 39).entries = [⟨0, 0, [7]⟩] ∧ ((e 0 0 base).take 39).1 = some [7] ∧
    ((e 1 0 base).take 39).1 = none ∧ (((e 1 0 base).take 39).2.iq 39).discards = 1 ∧
    (((e 0 5 base).take 39).2.iq 39).expectSeq = 6 ∧ ((e 0 5 base).take 39).1 = some [7] := by decide +kernel
/-- CheckMismatchIsCountedAndRaised: never raised, and raised just now. -/
theorem test_check_counts : tget base.jnl.checks 5 (0, 0, none) = (0, 0, none) ∧
    tget (base.checkFault 5 0).jnl.checks 5 (0, 0, none) = (1, 0, some 0) ∧ base.after 0 1000000 = false ∧
    (late base).past (some 0) 1000000 = true := by decide +kernel
/-- JournalBufferCountsWhatIsLost: the buffer full, and empty. -/
theorem test_journal_full : base.jnl.buffer.length = 0 ∧
    ({ base.jnl with buffer := List.replicate 256 ⟨0, 0, 0, 0, []⟩ } : Journal).buffer.length = 256 := by decide +kernel
/-- MemoryReadsBackWhatIsWritten: a memory in canonical form; a written zero takes its entry out. -/
theorem test_memory : Memory.wf (mputs [] 8 [1, 2]) = true ∧ mput [(8, 1)] 8 0 = [] ∧
    mget (mputs (mputs [] 8 [1, 2]) 9 [0, 5]) 10 = 5 := by decide +kernel
/-- WaterFillingSharesWhatThereIs, with the numbers of Table 5-8: reserves of 610,000 W, 1,400,000 W for the class, and
      the
grants of the table's last column. -/
theorem test_table_5_8 :
    let l : List FillItem := [(0, 1, 200000, 350000), (1, 1, 150000, 300000), (2, 1, 0, 150000), (3, 1, 210000, 360000),
      (4, 1, 50000, 200000), (5, 1, 0, 90000), (6, 1, 0, 250000)]
    (l.map fun e => e.2.2.2 - e.2.2.1).sum = 1090000 ∧
    fillClass l 790000 = [(0, 240000), (1, 240000), (2, 150000), (3, 240000), (4, 200000), (5, 90000), (6, 240000)] := by
  decide +kernel
/-- TripTurnsTheGatesOff: pod 0, fitted, runs with a gate high, and a trip lowers it; pod 1 is not fitted. -/
theorem test_trip_gates :
    let s := ph0 ({ · with gateH := true }) (run0 base)
    s.podFitted 0 = true ∧ s.podFitted 1 = false ∧ (s.pod 0).state = 1 ∧ podOf 5 = 0 ∧ (s.phase 0).gateH = true ∧
    ((tripCore 0 1 0 s).phase 0).gateH = false ∧ ((tripCore 0 1 0 s).pod 0).state = 2 := by decide +kernel

/-! ### Some effects, worked out from the rules -/

/-- R44: a NOP completes with SUCCESS, its TAG and the four words it carried. -/
theorem test_nop_echoes :
    (match exec (.nop (nopC 0)) (put 0x0100 (nopC 0) base) with
      | .next t => (t.ring 0 1).posted.map fun x => (x.tag, x.status, x.opecho, x.result)
      | _ => []) = [(7, 0, 0x0100, 1 + 2 * 2 ^ 32 + 3 * 2 ^ 64 + 4 * 2 ^ 96)] := by decide +kernel
/-- R40: a packet with a wrong check completes with CHECK_MISMATCH. -/
theorem test_bad_check_status :
    (match exec (.nop nopBad) (put 0x0100 nopBad base) with
      | .next t => (t.ring 0 1).posted.map fun x => (x.tag, x.status)
      | _ => []) = [(7, 0x0101)] := by decide +kernel
/-- R152: the comparator ends the on-time only after blanking. -/
theorem test_comparator :
    (match exec (.comparatorTurnOff 0 0 0) (ph0 ({ · with on := true, blanking := true }) base) with
      | .next t => (t.phase 0).on
      | _ => false) = true ∧
    (match exec (.comparatorTurnOff 0 0 0) (ph0 ({ · with on := true, gateH := true }) base) with
      | .next t => !(t.phase 0).on && !(t.phase 0).gateH && (t.phase 0).gateL
      | _ => false) = true := by decide +kernel
/-- No word of the table spells a command: nothing comes into the queue. -/
theorem test_no_word : decodeTableWord 8 0 = none ∧ (State.reset.withFetchWord 8 0).pending = [] := ⟨rfl, rfl⟩

/-! ### Ill-formed commands are refused -/

theorem test_wf_host : (Instr.nop (nopC 0)).wf = true := by decide +kernel
theorem test_wf_seat : (Instr.nop { nopC 0 with seat := 8 }).wf = false := by decide +kernel
theorem test_wf_queue : (Instr.nop { nopC 0 with queue := 4 }).wf = false := by decide +kernel
theorem test_wf_params : (Instr.nop { nopC 0 with pkt := { (nopC 0).pkt with params := [] } }).wf = false := by
      decide +kernel
theorem test_wf_buffer : (Instr.nop { nopC 0 with buf := List.replicate 1048577 0 }).wf = false := by
  have h : (List.replicate 1048577 (0 : Byte)).length = 1048577 := List.length_replicate
  unfold Instr.wf cmdOk
  refine decide_eq_false fun hc => ?_
  have h2 := hc.2.2.2
  dsimp only at h2
  omega
theorem test_wf_seats : (Instr.seatReset 8).wf = false ∧ (Instr.heartbeatWrite 8 0).wf = false ∧
    (Instr.doorbell 8 0 0).wf = false ∧ (Instr.doorbell 0 4 0).wf = false ∧ (Instr.intStatusClear 8 0).wf = false ∧
    (Instr.resetCauseRead 8).wf = false ∧ (Instr.registerWrite 8 0 0).wf = false ∧ (Instr.completionResend 8).wf = false ∧
    (Instr.sgmiiSeatFrame { sframe with port := 2 }).wf = false ∧ (Instr.sgmiiSeatFrame { sframe with seat := 8 }).wf =
        false ∧
    (Instr.contTimeout 8 0).wf = false ∧ (Instr.contTimeout 0 4).wf = false ∧ (Instr.execTimeout 8 0).wf = false ∧
    (Instr.seatAbsent 8).wf = false ∧ (Instr.cqStall 8 0).wf = false ∧ (Instr.cqStall 0 4).wf = false ∧
    (Instr.eventsLost 8).wf = false ∧ (Instr.spiBadOpcode 2 0).wf = false := by decide +kernel
theorem test_wf_system : (Instr.queueStall 31).wf = false ∧ (Instr.queueStall 64).wf = false ∧
    (Instr.ptpMessage ⟨2, 0, 0, .option 0⟩).wf = false ∧ (Instr.clockMonitorFault 10 0 0).wf = false ∧
    (Instr.ainConversion 32 0).wf = false ∧ (Instr.ainConversion 0 65536).wf = false ∧ (Instr.ruleSample 32 0 0).wf =
        false ∧
    (Instr.domainReleased 12).wf = false ∧ (Instr.keyMaskRefresh 256 true).wf = false ∧
    (Instr.keyOperationDone 256).wf = false ∧ (Instr.staleKeyFree 256).wf = false := by decide +kernel
theorem test_wf_tree : (Instr.curtailExpire 1024 0).wf = false ∧ (Instr.curtailExpire 0 2).wf = false ∧
    (Instr.sensorRetired 1024 0).wf = false ∧ (Instr.sensorRetired 0 5).wf = false ∧ (Instr.grantExceeded 16).wf =
        false := by
  decide +kernel
theorem test_wf_phases : (Instr.reloadPoint 8 0 0).wf = false ∧ (Instr.phaseTurnOn 48 0).wf = false ∧
    (Instr.comparatorTurnOff 48 0 0).wf = false ∧ (Instr.maxonEnd 48).wf = false ∧ (Instr.blankingEnd 48 0).wf = false ∧
    (Instr.podTrip 8 1 0 true 0).wf = false ∧ (Instr.podTrip 0 0 0 true 0).wf = false ∧ (Instr.podTrip 0 7 0 true 0).wf
        = false ∧
    (Instr.syncInEdge 8 0 0).wf = false ∧ (Instr.syncLost 8).wf = false ∧ (Instr.compareTrigger 8 0 0 0).wf = false ∧
    (Instr.compareTrigger 0 4 0 0).wf = false ∧ (Instr.phaseShed 8).wf = false ∧ (Instr.phaseRestore 8).wf = false ∧
    (Instr.signHoldEnd 8).wf = false ∧ (Instr.podDisableRampEnd 8).wf = false := by decide +kernel
theorem test_wf_outputs : (Instr.contactorCloseRequest 16).wf = false ∧ (Instr.contactorTimeout 16).wf = false ∧
    (Instr.softStartDone 16).wf = false ∧ (Instr.outputShort 16).wf = false ∧ (Instr.stopRampEnd 16).wf = false ∧
    (Instr.outputRetry 16).wf = false ∧ (Instr.podPoll 8).wf = false ∧ (Instr.podReply { preply with pod := 8 }).wf =
        false ∧
    (Instr.reassignRampOutDone 8).wf = false ∧ (Instr.swAnswerTimeout 8).wf = false ∧ (Instr.matchTimeout 8).wf = false ∧
    (Instr.reassignRampInDone 8).wf = false ∧ (Instr.switchTimeout 8).wf = false ∧ (Instr.slotSample 64 [] true 0).wf =
        false ∧
    (Instr.loopFollowing 64).wf = false ∧ (Instr.loopMeasLost 64).wf = false := by decide +kernel
theorem test_wf_connectors : (Instr.pilotChange 16 0 0 0).wf = false ∧ (Instr.proximityWithoutPilot 16 0 0).wf = false ∧
    (Instr.vehicleFrame 16 ⟨0, 0, 0, 0, 0, 0, 0, 0⟩).wf = false ∧ (Instr.slacMessage 16 (.param 0)).wf = false ∧
    (Instr.slacFailed 16).wf = false ∧ (Instr.restartFStepEnd 16).wf = false ∧ (Instr.toneMapRefreshDue 16).wf = false ∧
    (Instr.linkIdleTimeout 16).wf = false ∧ (Instr.relinkTimeout 16).wf = false ∧ (Instr.linkDriverFault 16 0).wf =
        false ∧
    (Instr.linkFaultBackoffEnd 16).wf = false ∧ (Instr.v2gMessage 16 .cableCheck).wf = false ∧
    (Instr.reqPeriodExpire 16).wf = false ∧ (Instr.questionTimeout 16).wf = false ∧ (Instr.vehicleStopTimeout 16).wf =
        false ∧
    (Instr.pilotReadbackFault 16 0).wf = false ∧ (Instr.sampleBoundary [] 0).wf = false := by decide +kernel
theorem test_wf_safety : (Instr.safetyFrameBoundary [0, 0, 0, 0, 0]).wf = false ∧ (Instr.parkedSelfTestDone 4 true).wf
      = false ∧
    (Instr.safetyInputChange 24 true true 0).wf = false ∧ (Instr.inputDiscrepancy 24).wf = false ∧
    (Instr.testPulse 32 true 0).wf = false ∧ (Instr.vehicleLimitRegister 16 ⟨0, 0, 0, 0, false⟩).wf = false ∧
    (Instr.vehicleLimit 16).wf = false ∧ (Instr.insulationPassed 16).wf = false ∧ (Instr.encoderEdge 4 0 0 true).wf =
        false ∧
    (Instr.safeMessageTransmit 64).wf = false ∧ (Instr.safeMessageReceive { smsg with conn := 64 }).wf = false ∧
    (Instr.safeMsgSkewExpire 64).wf = false ∧ (Instr.safeMsgLost 64).wf = false ∧
    (Instr.normalSafeStateEscalate 16).wf = false ∧ (Instr.emergencyContactorOpen 16).wf = false ∧
    (Instr.tHoldExpire 16).wf = false ∧ (Instr.soutStuck 32 true 0).wf = false ∧ (Instr.testPulseMissed 24).wf = false ∧
    (Instr.vehicleLimitLowered 16).wf = false := by decide +kernel
theorem test_wf_field : (Instr.hbNode 512 beat1).wf = false ∧ (Instr.nodeAbsent 512).wf = false ∧
    (Instr.nodeReport 512 rep1).wf = false ∧ (Instr.stageResult 512 0 0 ⟨0, 0, true⟩).wf = false ∧ (Instr.commitAck 512
        0 0 ⟨0, 0, true⟩).wf = false ∧
    (Instr.canBusError 16 ⟨0, 0, true, true, 0⟩).wf = false ∧ (Instr.busOffRecovered 16).wf = false ∧
    (Instr.portRejoin 16).wf = false ∧ (Instr.duplicateQuietEnd 16 0).wf = false ∧
    (Instr.hostFrameReceive 16 { ident := 0, data := [] }).wf = false ∧ (Instr.rxHoldExpire 16 0).wf = false ∧
        (Instr.rxHoldExpire 0 16).wf = false ∧
    (Instr.canTransmitDone 16 0 true 0 0).wf = false ∧ (Instr.canTransmitDone 0 5 true 0 0).wf = false := by
        decide +kernel
theorem test_wf_loads : (Instr.lsShort 24 0 0).wf = false ∧ (Instr.lsOverload 24 0).wf = false ∧ (Instr.lsThermal 24
      0).wf = false ∧
    (Instr.lsThermalRestart 24 0).wf = false ∧ (Instr.lsOpenLoad 24 0).wf = false ∧ (Instr.inrushWindowEnd 24 0).wf =
        false ∧
    (Instr.lsBurstRetry 24).wf = false ∧ (Instr.lsBackoffExpire 24).wf = false ∧ (Instr.lhinChange 8 true).wf = false ∧
    (Instr.lsBurstEnd 24 0).wf = false ∧ (Instr.droopPauseEnd 24).wf = false := by decide +kernel

end Sys2Proof.Tests
end

section
/-! The step of the machine on an empty queue (log entries 3 and 115; R12, R480). -/

namespace Sys2Proof.Machine

/-- The modulus of site time, written as the width of its count (R12). -/
theorem wrap64_eq_mod_two_pow (t : Nat) : wrap64 t = t % 2 ^ 64 := rfl

/-- With no command waiting, the step is one idle microsecond (log entry 3). -/
theorem step_of_pending_nil {s : State} (h : s.pending = []) : step s = .next s.idle := by
  simp only [step, h]

/-- What an idle microsecond changes: the pulse of SYNC_OUT, the uptime count and a valid site time. -/
theorem State.idle_eq (s : State) : s.idle = { s with
    syncOut := false
    clk := { s.clk with
      uptime := s.clk.uptime + 1,
      tai := if s.clk.timeValid then (s.clk.tai + 1) % 2 ^ 64 else s.clk.tai } } := by
  simp only [State.idle, wrap64_eq_mod_two_pow]

end Sys2Proof.Machine

open Sys2Proof Sys2Proof.Machine

/-- Settles O2: an empty queue makes the step an idle microsecond, and `State.idle_eq` gives the fields it changes. -/
theorem stepIdlesOneMicrosecond : Obligations.StepIdlesOneMicrosecond := by
  intro s hempty
  rw [step_of_pending_nil hempty, State.idle_eq]

end

section
/-! The internal queues (R20 to R22): what a post and a take do to the queue, to the other queues and to the journal. -/

namespace Sys2Proof.Machine

/-! ### Posting -/

/-- The credits of a queue are at most its free entries (R20). -/
theorem State.credits_le_free (s : State) (q : Nat) : s.credits q ≤ s.iqDepth q - (s.iq q).entries.length := by
  unfold State.credits
  split
  · refine Nat.sub_le_sub_right ?_ _
    split
    · exact Nat.min_le_right ..
    · exact Nat.le_refl _
  · exact Nat.zero_le _

/-- Without a credit a post is refused and counted, and is nothing else. -/
theorem State.post_of_no_credit {s : State} {q : Nat} (body : List Int) (h : s.credits q = 0) :
    s.post q body = s.setIq q { s.iq q with refused := (s.iq q).refused + 1 } := if_pos h

/-- The entry that a post with a credit appends: the current epoch and the queue's next sequence (R21). -/
def State.nextEntry (s : State) (q : Nat) (body : List Int) : QEntry := ⟨s.boot.epoch, (s.iq q).nextSeq, body⟩

/-- Against a credit the entry is put last. -/
theorem State.post_of_credit {s : State} {q : Nat} (body : List Int) (h : 0 < s.credits q) :
    s.post q body = s.setIq q { s.iq q with
      entries := (s.iq q).entries ++ [s.nextEntry q body], tail := (s.iq q).tail + 1, nextSeq := (s.iq q).nextSeq + 1,
      since := if (s.iq q).entries = [] then s.now else (s.iq q).since } := if_neg (Nat.ne_of_gt h)

/-- A post leaves every other queue. -/
theorem State.post_iq_other (s : State) {q k : Nat} (body : List Int) (h : k ≠ q) : (s.post q body).iq k = s.iq k := by
  unfold State.post
  split <;> exact State.setIq_iq_other _ _ _ _ h

/-! ### The journal beside the queues -/

/-- A note changes no internal queue. -/
@[simp] theorem State.note_iq (s : State) (kind : Nat) (obj : Word) (data : List Byte) (q : Nat) :
    (s.note kind obj data).iq q = s.iq q := by
  unfold State.note State.jot
  split <;> rfl

/-- What a note writes does not depend on the internal queues. -/
@[simp] theorem State.setIq_note_jnl (s : State) (q kind : Nat) (v : IQueue) (obj : Word) (data : List Byte) :
    ((s.setIq q v).note kind obj data).jnl = (s.note kind obj data).jnl := by
  unfold State.note State.jot
  rw [State.setIq_jnl]
  split <;> rfl

/-! ### Taking -/

/-- The queue once its oldest entry `e` is taken and `r` remains: its credit is back and the sequence adopted (R22). -/
def IQueue.pop (v : IQueue) (e : QEntry) (r : List QEntry) (now : Nat) : IQueue :=
  { v with entries := r, head := v.head + 1, expectSeq := e.seq + 1, since := now, stalled := false }

/-- The state once the oldest entry is taken, a gap of the sequence journalled (R22). -/
def State.popped (s : State) (q : Nat) (e : QEntry) (r : List QEntry) : State :=
  let t := s.setIq q ((s.iq q).pop e r s.now)
  if e.seq = (s.iq q).expectSeq then t
  else t.note 2 (handle 2 q) (0 :: leBytes (s.iq q).expectSeq.toNat 2 ++ leBytes e.seq.toNat 2)

theorem State.popped_iq (s : State) (q : Nat) (e : QEntry) (r : List QEntry) :
    (s.popped q e r).iq q = (s.iq q).pop e r s.now := by
  unfold State.popped
  split <;> simp

theorem State.popped_jnl_of_expected {s : State} {q : Nat} {e : QEntry} (r : List QEntry)
    (h : e.seq = (s.iq q).expectSeq) : (s.popped q e r).jnl = s.jnl := by
  simp [State.popped, h]

theorem State.popped_jnl_of_gap {s : State} {q : Nat} {e : QEntry} (r : List QEntry)
    (h : e.seq ≠ (s.iq q).expectSeq) : (s.popped q e r).jnl =
      (s.note 2 (handle 2 q) (0 :: leBytes (s.iq q).expectSeq.toNat 2 ++ leBytes e.seq.toNat 2)).jnl := by
  simp only [State.popped, h, if_false, State.setIq_note_jnl]

/-- An entry of the current epoch goes to the consumer. -/
theorem State.take_of_current_epoch {s : State} {q : Nat} {e : QEntry} {r : List QEntry}
    (h : (s.iq q).entries = e :: r) (he : e.epoch = s.boot.epoch) : s.take q = (some e.body, s.popped q e r) := by
  simp only [State.take, h, he, ne_eq, not_true_eq_false, if_false]
  rfl

/-- An entry of another epoch is discarded, and the discard counted. -/
theorem State.take_of_other_epoch {s : State} {q : Nat} {e : QEntry} {r : List QEntry}
    (h : (s.iq q).entries = e :: r) (he : e.epoch ≠ s.boot.epoch) : s.take q = (none, (s.popped q e r).setIq q
      { (s.popped q e r).iq q with discards := ((s.popped q e r).iq q).discards + 1 }) := by
  simp only [State.take, h, ne_eq, he, not_false_eq_true, if_true]
  rfl

end Sys2Proof.Machine

open Sys2Proof Sys2Proof.Machine

/-- Settles O19: the two cases of `post`, by whether the producer holds a credit. -/
theorem postNeedsACredit : Obligations.PostNeedsACredit := by
  intro s q body
  refine ⟨s.credits_le_free q, fun hnone => ?_, fun hsome => ?_, fun k hk => s.post_iq_other body hk⟩
  · simp [State.post_of_no_credit body hnone]
  · exact ⟨s.nextEntry q body, rfl, rfl, rfl, by simp [State.post_of_credit body hsome]⟩

/-- Settles O20: both kinds of entry leave the queue as `popped` has it; one of another epoch is counted on top. -/
theorem takeDiscardsOtherEpochs : Obligations.TakeDiscardsOtherEpochs := by
  intro s q e r hq
  by_cases he : e.epoch = s.boot.epoch
  · rw [State.take_of_current_epoch hq he, State.popped_iq]
    exact ⟨rfl, rfl, fun _ => ⟨rfl, rfl⟩, fun hne => absurd he hne,
      State.popped_jnl_of_expected r, State.popped_jnl_of_gap r⟩
  · rw [State.take_of_other_epoch hq he, State.setIq_iq, State.popped_iq]
    exact ⟨rfl, rfl, fun heq => absurd heq he, fun _ => ⟨rfl, rfl⟩,
      State.popped_jnl_of_expected r, State.popped_jnl_of_gap r⟩

end

section
/-! The events of the allocation cycle: what each does where its condition holds, and where it changes nothing. -/

namespace Sys2Proof.Machine

/-- An entry holds where `exec` of its command does what it says. -/
theorem Event.holds_mk {cmd : Instr} {ok : State → Bool} {after : State → State}
    (h : ∀ s, ok s = true → exec cmd s = .next (after s)) : Event.Holds ⟨cmd, ok, after⟩ := h

/-! ### PERIOD_BOUNDARY (R121, R122) -/

theorem execPeriodBoundary_of_not_due {s : State} (h : s.boundaryDue = false ∨ s.tickDue = true) :
    execPeriodBoundary s = .next s := if_pos h

theorem execPeriodBoundary_of_due {s : State} (hdue : s.boundaryDue = true) (htick : s.tickDue = false) :
    execPeriodBoundary s = .next (periodBoundary s) := if_neg (by simp [hdue, htick])

/-- With no block solved, no solve is late. -/
theorem lateSolve_of_solved_none {s : State} (h : s.cal.solved = none) : s.lateSolve = none := by
  simp [State.lateSolve, h]

/-- Period `n`, which ends at `e`, starts: what is held for it takes force, then REGULATE, solve and snapshot follow. -/
def startPeriod (n e : Nat) (s : State) : State :=
  let t : State := { s with cal := { s.cal with period := n, nextPeriod := n + 1, periodEnd := e } }
  let t := applyHeld 3 (dropGrants n t)
  planPods (alignPeriod (snapCommit (Sys2Proof.Machine.solve (overL t.localOuts regulate t))))

/-- A free-running period takes the next number and ends one PERIOD later. -/
theorem periodBoundary_free_running {s : State} (hlate : s.lateSolve = none) (hfree : s.cal.aligned = false) :
    periodBoundary s = startPeriod s.cal.nextPeriod (s.cal.periodEnd + s.periodUs) s := by
  simp only [periodBoundary, startPeriod, hlate, hfree, Bool.false_eq_true, if_false]

/-- A period that follows site time ends on a multiple of PERIOD, and its number follows (R121). -/
theorem periodBoundary_aligned {s : State} (hlate : s.lateSolve = none) (haligned : s.cal.aligned = true) :
    periodBoundary s = startPeriod (ceilTo s.periodUs (s.cal.periodEnd + s.periodUs) / s.periodUs - 1)
      (ceilTo s.periodUs (s.cal.periodEnd + s.periodUs)) s := by
  simp only [periodBoundary, startPeriod, hlate, haligned, if_true]

/-! ### GRANT_BLOCK_PUBLISH and ALLOC_OVERRUN (R16, R136) -/

/-- The solved block is no longer waiting; its duration is kept. -/
def solveTaken (solveTime : Nat) (s : State) : State :=
  { s with cal := { s.cal with
    solved := none, lastSolve := sat 16 solveTime, maxSolve := max s.cal.maxSolve (sat 16 solveTime) } }

/-- Where both queues have a credit, the block goes to both. -/
theorem execGrantBlockPublish_of_credits (solveTime : Nat) {s : State} {b : Block} (hb : s.cal.solved = some b)
    (hon : s.calOn = true) (h33 : s.credits 33 ≠ 0) (h34 : s.credits 34 ≠ 0) :
    execGrantBlockPublish solveTime s =
      .next (overL ((solveTaken solveTime s).ep.cfg.nodes.map (·.1)) windowStep (postBlock b (solveTaken solveTime s))) := by
  simp only [execGrantBlockPublish, hb, hon, h33, h34, Bool.true_eq_false, or_self, if_false]
  rfl

/-- With no block, no allocation, or a queue without credit, neither queue gets one. -/
theorem execGrantBlockPublish_of_blocked (solveTime : Nat) {s : State}
    (h : s.cal.solved = none ∨ s.calOn = false ∨ s.credits 33 = 0 ∨ s.credits 34 = 0) :
    execGrantBlockPublish solveTime s = .next s := by
  unfold execGrantBlockPublish
  split
  · rfl
  case h_2 b hb => exact if_pos (h.resolve_left (by simp [hb]))

theorem execAllocOverrun_of_late {s : State} {b : Block} (h : s.lateSolve = some b) :
    execAllocOverrun s = .next (overrun b s.cal.nextPeriod s) := by
  simp only [execAllocOverrun, h]

theorem execAllocOverrun_of_none {s : State} (h : s.lateSolve = none) : execAllocOverrun s = .next s := by
  simp only [execAllocOverrun, h]

/-! ### CURTAIL_EXPIRE (R116) -/

/-- The curtailment of a node in one direction, with its cap and the moment at which it ends. -/
def State.curtailUntil (s : State) (n dir cap till : Nat) : Prop :=
  s.cal.curtails.find? (fun c => decide (c.1 = n ∧ c.2.1 = dir)) = some (n, dir, cap, some till)

theorem execCurtailExpire_of_over {s : State} {n dir cap till : Nat} (h : s.curtailUntil n dir cap till)
    (hover : till ≤ s.now) : execCurtailExpire n dir s = .next (dropCurtail n dir (afterSnapshot s)) := by
  unfold State.curtailUntil at h
  simp only [execCurtailExpire, h, hover, if_true]

theorem execCurtailExpire_of_running {s : State} {n dir cap till : Nat} (h : s.curtailUntil n dir cap till)
    (hrun : s.now < till) : execCurtailExpire n dir s = .next s := by
  unfold State.curtailUntil at h
  simp only [execCurtailExpire, h, Nat.not_le.2 hrun, if_false]

/-! ### SENSOR_RETIRED (R142) -/

/-- Sensor `k` of the node is retired, and the node capped at `cap` from the next period. -/
def retireSensor (n k cap : Nat) (s : State) : State :=
  let v := tget (s.node n).sensors k {}
  let t := s.setNode n { s.node n with
    capHeld := some cap, sensors := tset (s.node n).sensors k { v with state := 4, faultSince := none } }
  let h := handleSub 3 n (k + 1)
  ((t.retire h 0x0831).report 4 0x0831 h (res (sensorRes n k v.lastValid ++ [(6, 4, (cap : Int))]))).drain

/-- The first sensor of a thermal node whose fault has stood for SENS_FAULT caps the node at its shown or safe cap,
whichever is lower. -/
theorem execSensorRetired_of_fault {s : State} {n k : Nat} (hk : k < 5) (htherm : nTherm (s.ep.cfg.node n) = true)
    (hfitted : nodeSensor (s.ep.cfg.node n) k / 4096 ≠ 0) (hlive : (tget (s.node n).sensors k {}).state ≠ 4)
    (hbad : (tget (s.node n).sensors k {}).state ≠ 2) (hcap : (s.node n).capHeld = none)
    (hpast : s.past (tget (s.node n).sensors k {}).faultSince s.sensFault = true) :
    execSensorRetired n k s = .next (retireSensor n k (min (fld (s.ep.cfg.node n) 24 4) (s.node n).capShown) s) := by
  have hguard := And.intro hk (And.intro htherm (And.intro hfitted (And.intro hlive (And.intro hbad hpast))))
  simp only [execSensorRetired, if_pos hguard, hcap]
  rfl

theorem execSensorRetired_of_not_thermal {s : State} {n : Nat} (k : Nat) (h : nTherm (s.ep.cfg.node n) = false) :
    execSensorRetired n k s = .next s := if_neg (by simp [h])

/-! ### GRANT_EXCEEDED (R143) -/

/-- An output found above its allowance: the event, the fault of its safety function, and its own transient fault. -/
def exceedsGrant (o : Nat) (s : State) : State :=
  outputFault o 0x0A30 false (judge (addFixed [o] 3 (s.event 4 0x0A30 (res [(0, 1, o), (4, 4, (s.allowance o).2.2.2),
    (8, 4, (s.output o).amps), (12, 4, (s.allowance o).2.2.1.floor)]))))

theorem execGrantExceeded_of_above {s : State} {o : Nat} (hfit : s.outFitted o = true) (hsafe : (s.output o).safe = 0)
    (habove : (s.allowance o).2.2.1 < ((s.output o).amps : Rat)) (hnew : (s.output o).fixed.contains 3 = false)
    (hpast : s.past (s.output o).outside (1000 * s.cfgD 2 20 4 20) = true) :
    execGrantExceeded o s = .next (exceedsGrant o s) := by
  simp only [execGrantExceeded, hfit, hsafe, hnew, hpast, habove, ne_eq, not_true_eq_false, Bool.true_eq_false,
    Bool.false_eq_true, or_self, if_false, decide_true, if_true]
  rfl

theorem execGrantExceeded_of_safe_state {s : State} {o : Nat} (h : (s.output o).safe ≠ 0) :
    execGrantExceeded o s = .next s := if_pos (Or.inr (Or.inl h))

end Sys2Proof.Machine

open Sys2Proof Sys2Proof.Machine

/-- Settles O46: each entry of `allocEvents` is the lemma about its event, whose hypotheses the entry's condition gives. -/
theorem allocationEventsTakeEffect : Obligations.AllocationEventsTakeEffect := by
  intro solveTime n k dir o cap b
  unfold allocEvents
  repeat rw [List.forall_mem_cons]
  refine ⟨?noBoundary, ?freeRunning, ?aligned, ?publish, ?noPublish, ?overrun, ?noOverrun, ?curtailOver, ?curtailRuns,
    ?sensorFault, ?notThermal, ?aboveGrant, ?safeState, List.forall_mem_nil _⟩ <;>
    refine Event.holds_mk fun s h => ?_
  case noBoundary => exact execPeriodBoundary_of_not_due (by simpa using h)
  case freeRunning =>
    simp only [Bool.and_eq_true, Bool.not_eq_true', decide_eq_true_eq] at h
    obtain ⟨⟨⟨hdue, htick⟩, hfree⟩, hsolved⟩ := h
    exact (execPeriodBoundary_of_due hdue htick).trans
      (congrArg Host.Outcome.next (periodBoundary_free_running (lateSolve_of_solved_none hsolved) hfree))
  case aligned =>
    simp only [Bool.and_eq_true, Bool.not_eq_true', decide_eq_true_eq] at h
    obtain ⟨⟨⟨hdue, htick⟩, haligned⟩, hsolved⟩ := h
    exact (execPeriodBoundary_of_due hdue htick).trans
      (congrArg Host.Outcome.next (periodBoundary_aligned (lateSolve_of_solved_none hsolved) haligned))
  case publish =>
    obtain ⟨⟨hb, hon⟩, h33, h34⟩ : (_ ∧ _) ∧ s.credits 33 ≠ 0 ∧ s.credits 34 ≠ 0 := by simpa using h
    exact execGrantBlockPublish_of_credits solveTime hb hon h33 h34
  case noPublish => exact execGrantBlockPublish_of_blocked solveTime (by simpa [or_assoc] using h)
  case overrun => exact execAllocOverrun_of_late (by simpa using h)
  case noOverrun => exact execAllocOverrun_of_none (by simpa using h)
  case curtailOver =>
    obtain ⟨hc, hover⟩ := of_decide_eq_true h
    exact execCurtailExpire_of_over hc hover
  case curtailRuns =>
    obtain ⟨hc, hrun⟩ := of_decide_eq_true h
    exact execCurtailExpire_of_running hc hrun
  case sensorFault =>
    simp only [Bool.and_eq_true, decide_eq_true_eq] at h
    obtain ⟨⟨⟨hk, hfitted, hcap, hlive, hbad⟩, htherm⟩, hpast⟩ := h
    exact execSensorRetired_of_fault hk htherm hfitted hlive hbad hcap hpast
  case notThermal => exact execSensorRetired_of_not_thermal k (by simpa using h)
  case aboveGrant =>
    simp only [Bool.and_eq_true, Bool.not_eq_true', decide_eq_true_eq] at h
    obtain ⟨⟨⟨hfit, hsafe, habove⟩, hnew⟩, hpast⟩ := h
    exact execGrantExceeded_of_above hfit hsafe habove hnew hpast
  case safeState => exact execGrantExceeded_of_safe_state (by simpa using h)

end

section
/-! The events of the ADC, the die diode, the internal queues, clocks, boot and reset: what each does where its condition
holds, and where it changes nothing. -/

namespace Sys2Proof.Machine

/-! ### AIN_CONVERSION and COMPARE_TRIGGER (R162) -/

theorem execAinConversion_of_channel {c code : Nat} (s : State) (hc : c < 32) (hcode : code < 65536) :
    execAinConversion c code s = .next (convert c code none (afterSnapshot s)) := if_pos ⟨hc, hcode⟩

theorem execAinConversion_of_no_channel {c : Nat} (code : Nat) (s : State) (hc : 32 ≤ c) :
    execAinConversion c code s = .next s := if_neg fun h => Nat.not_lt.2 hc h.1

/-- A compare entry of a running pod has not fired yet, and the counter stands at its position (R162). -/
structure State.Fires (s : State) (p entry counter : Nat) : Prop where
  exists_entry : entry < 4
  runs : (s.pod p).state = 1
  first : aget (s.pod p).cmpCount entry = none
  at_position : s.atCompare p entry counter = true

/-- An entry of kind 1 starts a conversion of its channel. -/
theorem execCompareTrigger_conversion {p entry counter code : Nat} {s : State} (h : s.Fires p entry counter)
    (hkind : s.paFld p (50 + 4 * entry) 1 / 32 = 1) (hcode : code < 65536) : execCompareTrigger p entry code s counter =
      .next (convert (s.paFld p (50 + 4 * entry) 1 % 32) code (some (s.pod p).periods) (compareFired p entry counter s)) := by
  obtain ⟨hentry, hrun, hfirst, hat⟩ := h
  have hruns : ¬ (s.pod p).state ≠ 1 := not_not.2 hrun
  simp only [execCompareTrigger, Nat.not_le.2 hentry, hruns, hkind, hfirst, hat, one_ne_zero, Bool.true_eq_false,
    or_self, if_false, hcode, if_true]
  rfl

/-- An entry of kind 4 is one more pulse of SYNC_OUT, where the pin is used. -/
theorem execCompareTrigger_sync {p entry counter : Nat} (code : Nat) {s : State} (h : s.Fires p entry counter)
    (hkind : s.paFld p (50 + 4 * entry) 1 / 32 = 4) (hpin : fld ((compareFired p entry counter s).blk 4) 4 1 ≠ 0xFF) :
    execCompareTrigger p entry code s counter = .next { compareFired p entry counter s with syncOut := true } := by
  obtain ⟨hentry, hrun, hfirst, hat⟩ := h
  have hruns : ¬ (s.pod p).state ≠ 1 := not_not.2 hrun
  simp only [execCompareTrigger, Nat.not_le.2 hentry, hruns, hkind, hfirst, hat, OfNat.ofNat_ne_zero, Bool.true_eq_false,
    or_self, if_false]
  exact congrArg Host.Outcome.next (if_neg hpin)

theorem execCompareTrigger_of_elsewhere {p entry counter : Nat} (code : Nat) {s : State}
    (h : (s.pod p).state ≠ 1 ∨ s.atCompare p entry counter = false) :
    execCompareTrigger p entry code s counter = .next s := by
  refine if_pos ?_
  rcases h with hrun | hat
  · exact .inr (.inl hrun)
  · exact .inr (.inr (.inr (.inr hat)))

/-! ### DIE_TEMP_SAMPLE (R433, R435) -/

/-- A sample within the diode's range is judged against every threshold. -/
theorem execDieTempSample_in_range {s : State} {t : Int} (hdiode : (afterSnapshot s).clk.diodeFault = false)
    (hlow : -600 ≤ t) (hhigh : t ≤ 1600) : execDieTempSample (some t) s =
      .next (overL (upTo 8) (tempJudge false (!(afterSnapshot s).clk.sampled) t) { afterSnapshot s with
        clk := { (afterSnapshot s).clk with
          missing := 0, sampled := true, validRun := 0, diodeFault := false, dieTemp := t } }) := by
  have hrange : ¬(t < -600 ∨ 1600 < t) := by omega
  simp only [execDieTempSample, if_neg hrange, hdiode, Bool.false_and, Bool.false_eq_true, false_and, if_false]

theorem execDieTempSample_out_of_range (s : State) {t : Int} (h : t < -600 ∨ 1600 < t) : execDieTempSample (some t) s =
    .next (diodeFault 1 { afterSnapshot s with clk := { (afterSnapshot s).clk with missing := 0, sampled := true } }) :=
  if_pos h

/-- The state of a missing sample, the `n`-th in a row. -/
def sampleMissing (n : Nat) (s : State) : State := { s with clk := { s.clk with missing := n, validRun := 0 } }

/-- The third missing sample in a row is the diode's fault. -/
theorem execDieTempSample_missing (s : State) : execDieTempSample none s =
    .next (if (afterSnapshot s).clk.missing + 1 < 3
      then sampleMissing ((afterSnapshot s).clk.missing + 1) (afterSnapshot s)
      else diodeFault 2 (sampleMissing ((afterSnapshot s).clk.missing + 1) (afterSnapshot s))) := rfl

/-! ### QUEUE_STALL (R24) -/

/-- The queues up to Q40 carry no request of a command. -/
theorem filter_onQueue_of_le_40 {q : Nat} (h : q ≤ 40) (ls : List Live) : ls.filter (onQueue q) = [] := by
  have h43 : q ≠ 43 := by omega
  have hport : ¬(48 ≤ q ∧ q ≤ 51) := by omega
  have h60 : q ≠ 60 := by omega
  exact List.filter_eq_nil_iff.2 fun l _ => by simp [onQueue, h43, hport, h60]

/-- A stall that is found: counted, reported with a free RESULT, and journalled. -/
def stallFound (q : Nat) (s : State) : State :=
  let t := (s.fresh.2.setIq q { s.iq q with stalled := true, stalls := bump32 (s.iq q).stalls }).event 1 0x0403
    (BitVec.ofNat 128 s.fresh.1)
  t.jot 0x0403 (handle 2 q) ([BitVec.ofNat 8 q, 0] ++ leBytes (t.iqDepth q) 2)

/-- The stall of a queue up to Q40 drops no entry and ends no command. -/
theorem execQueueStall_of_hardware_queue {q : Nat} {s : State} (hlow : 32 ≤ q) (hhigh : q ≤ 40)
    (hentry : (s.iq q).entries ≠ []) (hserves : s.serves q = true) (hnew : (s.iq q).stalled = false)
    (hover : s.after (s.iq q).since (s.stallTime q) = true) :
    execQueueStall q s = .next (stallOver s (stallFound q s)) := by
  have hdrops : ¬(q = 41 ∨ q = 43 ∨ (48 ≤ q ∧ q ≤ 51) ∨ (56 ≤ q ∧ q ≤ 60)) := by omega
  have hrange : ¬ q < 32 ∧ ¬ 64 ≤ q := by omega
  simp only [execQueueStall, hrange, hentry, hserves, hnew, hover, hdrops, Bool.true_eq_false, Bool.false_eq_true,
    false_and, or_self, decide_false, if_false, filter_onQueue_of_le_40 hhigh]
  rfl

theorem execQueueStall_of_empty {q : Nat} {s : State} (hempty : (s.iq q).entries = []) (hkeeps : atOnce q = false) :
    execQueueStall q s = .next s := if_pos (.inr (.inr (.inr (.inl ⟨hempty, hkeeps⟩))))

theorem execQueueStall_of_known {q : Nat} {s : State} (h : s.serves q = false ∨ (s.iq q).stalled = true) :
    execQueueStall q s = .next s := by
  refine if_pos ?_
  rcases h with hserves | hknown
  · exact .inr (.inr (.inl hserves))
  · exact .inr (.inr (.inr (.inr (.inl hknown))))

/-! ### POWER_ON_RESET and SUPPLY_BROWNOUT (R387, R426, R465) -/

theorem execPowerOnReset_boots {b : BootInputs} (s : State) (hpuf : b.pufOk = true) (href : refFound b = true)
    (hbits : b.pufCorrected ≤ 600) : execPowerOnReset b s = .next (porBoot b (rootUp (porSample b s))) := by
  simp only [execPowerOnReset, hpuf, href, Nat.not_lt.2 hbits, Bool.true_eq_false, if_false]

theorem execPowerOnReset_no_reference {b : BootInputs} (s : State) (hpuf : b.pufOk = true) (href : refFound b = false) :
    execPowerOnReset b s = .next { rootUp (porSample b s) with
      boot := { (rootUp (porSample b s)).boot with systemReset := true } } := by
  simp only [execPowerOnReset, hpuf, href, Bool.true_eq_false, if_false, if_true]

theorem execPowerOnReset_no_root {b : BootInputs} (s : State) (hpuf : b.pufOk = false) :
    execPowerOnReset b s = .next (lsAllOff { porSample b s with
      boot := { (porSample b s).boot with stage := 15, failCode := 5 }
      power := { (porSample b s).power with state := 0, domains := if refFound b then runMask else 1 }
      clk := { (porSample b s).clk with locked := refFound b } }) := if_pos hpuf

theorem execSupplyBrownout_of_below {rail mv : Nat} (s : State) (h : mv < railFalling rail) :
    execSupplyBrownout rail mv s = .next (powerLoss 0x20 s) := if_pos h

theorem execSupplyBrownout_of_within {rail mv : Nat} (s : State) (h : railFalling rail ≤ mv) :
    execSupplyBrownout rail mv s = .next s := if_neg (Nat.not_lt.2 h)

/-! ### CLOCK_MONITOR_FAULT and CLOCK_FAULT_RESET (R427 to R430) -/

/-- The first fault of the core clock is kept with its moment, and the voters go to their safe state. -/
theorem execClockMonitorFault_core {s : State} {a b : Nat} (hmeasure : 100 < b) (hporst : s.boot.porst = false)
    (hsystem : s.boot.systemReset = false) (hdown : s.boot.shutdown = false)
    (hpd4 : s.power.domains.getLsbD 4 = true) (hpd1 : s.power.domains.getLsbD 1 = true)
    (hfirst : s.clk.faultClock = none) : execClockMonitorFault 3 s a b = .next (enterVoterSafe 5 { s with
      clk := { s.clk with
        faultClock := some 3, faultSince := s.now, faultTime := if s.clk.timeValid then some s.clk.tai else none } }) := by
  simp [execClockMonitorFault, State.clockBad, hmeasure, hporst, hsystem, hdown, hpd4, hpd1, hfirst]

/-- A phase error of the multiplier that is small or short is no fault (Table 18-1). -/
theorem clockBad_multiplier_of_within {s : State} {error cycles : Nat} (h : error ≤ 4 * s.clk.lockWin ∨ cycles < 4) :
    s.clockBad 1 error cycles = false := by
  have hwithin : ¬(4 * s.clk.lockWin < error ∧ 4 ≤ cycles) := by omega
  simp [State.clockBad, hwithin]

theorem execClockMonitorFault_of_sound {s : State} {clock a b : Nat} (h : s.clockBad clock a b = false) :
    execClockMonitorFault clock s a b = .next s := if_pos (.inr (.inr (.inr (.inr h))))

theorem execClockMonitorFault_of_porst {s : State} (clock a b : Nat) (h : s.boot.porst = true) :
    execClockMonitorFault clock s a b = .next s := if_pos (.inl h)

/-- The cold reset of a clock fault, which MULTIPLIER_LOCK ends. -/
def clockReset (s : State) : State :=
  let t := lsReset (coldReset (setCause 4 s))
  { t with
    boot := { t.boot with systemReset := true }
    clk := { t.clk with multOn := true }
    power := { t.power with domains := 1 } }

theorem execClockFaultReset_of_over {s : State} (hfault : s.clk.faultClock.isSome = true)
    (hsystem : s.boot.systemReset = false) (hover : s.after s.clk.faultSince 20000 = true) :
    execClockFaultReset s = .next (clockReset s) :=
  if_neg (by simp [Option.isSome_iff_ne_none.1 hfault, hsystem, hover])

theorem execClockFaultReset_of_no_fault {s : State} (h : s.clk.faultClock = none) :
    execClockFaultReset s = .next s := if_pos (.inl h)

/-! ### MULTIPLIER_LOCK and REFERENCE_RETURN (R426, R427, R429) -/

/-- The multiplier runs on a present reference, has been within its window long enough, and no reset holds PD0. -/
structure State.Locks (s : State) (error cycles : Nat) : Prop where
  within : error ≤ s.clk.lockWin
  long : s.clk.lockN ≤ cycles
  on : s.clk.multOn = true
  reference : s.clk.refPresent = true
  fresh : s.clk.locked = false
  porst : s.boot.porst = false
  running : s.boot.shutdown = false

/-- The state with the multiplier locked. -/
def lockedNow (s : State) : State := { s with clk := { s.clk with locked := true } }

theorem execMultiplierLock_of_running {s : State} {error cycles : Nat} (h : s.Locks error cycles)
    (hsystem : s.boot.systemReset = false) : execMultiplierLock s error cycles = .next (lockedNow s) := by
  obtain ⟨hin, hlong, hon, href, hfresh, hporst, hrun⟩ := h
  simp [execMultiplierLock, lockedNow, Nat.not_lt.2 hin, Nat.not_lt.2 hlong, hon, href, hfresh, hporst, hrun, hsystem]

/-- A lock that a system reset has waited for boots the device. -/
theorem execMultiplierLock_of_reset {s : State} {error cycles : Nat} (h : s.Locks error cycles)
    (hsystem : s.boot.systemReset = true) (hfault : s.clk.faultClock = none) :
    execMultiplierLock s error cycles = .next (bootUp true (lockedNow s)) := by
  obtain ⟨hin, hlong, hon, href, hfresh, hporst, hrun⟩ := h
  simp [execMultiplierLock, lockedNow, Nat.not_lt.2 hin, Nat.not_lt.2 hlong, hon, href, hfresh, hporst, hrun, hsystem,
    hfault]

theorem execMultiplierLock_of_no_lock {s : State} {error cycles : Nat}
    (h : s.clk.locked = true ∨ s.clk.lockWin < error ∨ cycles < s.clk.lockN) :
    execMultiplierLock s error cycles = .next s := by
  refine if_pos ?_
  rcases h with hlocked | hout | hshort
  · exact .inr (.inr (.inr (.inr (.inl hlocked))))
  · exact .inl hout
  · exact .inr (.inl hshort)

theorem execReferenceReturn_of_absent {s : State} (href : s.clk.refPresent = false) (hporst : s.boot.porst = false) :
    execReferenceReturn s = .next { s with clk := { s.clk with
      refPresent := true, aonRc := false, multOn := s.clk.multOn || s.boot.systemReset } } :=
  if_neg (by simp [href, hporst])

theorem execReferenceReturn_of_present {s : State} (h : s.clk.refPresent = true) :
    execReferenceReturn s = .next s := if_pos (.inl h)

/-! ### VOTER_SAFE_SOUT_DROP, CORE_WATCHDOG and FIRMWARE_START (R306, R436, R439, R440) -/

theorem execVoterSafeSoutDrop_of_over {s : State} (hmode : s.sup.mode = 3) (hnew : s.sup.dropped = false)
    (hover : s.after s.sup.safeSince 20000 = true) (hrun : (soutDrop s).boot.shutdown = false) :
    execVoterSafeSoutDrop s = .next (soutDrop s) :=
  (if_pos ⟨hmode, hnew, hover⟩).trans (if_neg (by simp [hrun]))

theorem execVoterSafeSoutDrop_of_other_mode {s : State} (h : s.sup.mode ≠ 3) : execVoterSafeSoutDrop s = .next s :=
  if_neg fun hsafe => h hsafe.1

theorem execCoreWatchdog_of_running {s : State} (hpd3 : s.power.domains.getLsbD 3 = true)
    (hrecovery : s.boot.recovery = false) (hsystem : s.boot.systemReset = false) (hhalted : s.boot.halted = false) :
    execCoreWatchdog s = .next (coreReset 3 s) := congrArg Host.Outcome.next (if_pos ⟨hpd3, hrecovery, hsystem, hhalted⟩)

theorem execCoreWatchdog_of_paused {s : State} (h : s.boot.recovery = true ∨ s.boot.halted = true) :
    execCoreWatchdog s = .next s := congrArg Host.Outcome.next (if_neg fun hrun => by
  obtain ⟨-, hrecovery, -, hhalted⟩ := hrun
  simp [hrecovery, hhalted] at h)

/-- Firmware takes back what it held: the completions that waited, the partial commands, outputs, links and pilots. -/
def firmwareBack (s : State) : State :=
  let t := postEnded (firmwareReady s)
  let t := overL t.seatList (fun n u => overL (upTo 4) (fun k v => endCont n k 0x0604 v) u) t
  overL (upTo 16) applyForm (deliverKept (reown (deliverResults t)).settleAll)

theorem execFirmwareStart_of_selected {s : State} (hreset : s.boot.coreReset = true)
    (hdomains : s.power.domains &&& runMask = runMask) (hstage : s.boot.stage = 2) (hporst : s.boot.porst = false)
    (hsystem : s.boot.systemReset = false) (hroot : s.trust.root = true) :
    execFirmwareStart s = .next (firmwareBack s) := by
  simp only [execFirmwareStart, firmwareBack, hreset, hdomains, hstage, hporst, hsystem, hroot, ne_eq, not_true_eq_false,
    Bool.true_eq_false, Bool.false_eq_true, or_self, if_false, OfNat.ofNat_ne_zero]

theorem execFirmwareStart_of_running {s : State} (h : s.boot.coreReset = false) : execFirmwareStart s = .next s :=
  if_pos (.inl h)

end Sys2Proof.Machine
open Sys2Proof Sys2Proof.Machine

/-- Settles O60: each entry of `resetEvents` is the lemma about its event, whose hypotheses the entry's condition gives. -/
theorem clockAndResetEventsTakeEffect : Obligations.ClockAndResetEventsTakeEffect := by
  intro c code p entry counter rail mv clock q error cycles t b
  unfold resetEvents
  repeat rw [List.forall_mem_cons]
  refine ⟨?channel, ?noChannel, ?compareConverts, ?compareSync, ?compareElsewhere, ?tempInRange, ?tempOutOfRange,
    ?firstMissing, ?thirdMissing, ?stall, ?stallEmpty, ?stallKnown, ?powerOn, ?noReference, ?noRoot, ?porst, ?brownout,
    ?railWithin, ?coreClock, ?multiplierWithin, ?monitorInPorst, ?faultReset, ?noFault, ?lockRunning, ?lockInReset, ?noLock,
    ?referenceBack, ?referenceThere, ?soutDrop, ?notSafe, ?watchdog, ?watchdogPaused, ?firmware, ?firmwareRuns,
    List.forall_mem_nil _⟩ <;>
    refine Event.holds_mk fun s h => ?_
  case channel =>
    obtain ⟨hc, hcode⟩ := of_decide_eq_true h
    exact execAinConversion_of_channel s hc hcode
  case noChannel => exact execAinConversion_of_no_channel code s (of_decide_eq_true h)
  case compareConverts =>
    simp only [Bool.and_eq_true, decide_eq_true_eq] at h
    obtain ⟨⟨hentry, hrun, hkind, hfirst, hcode⟩, hat⟩ := h
    exact execCompareTrigger_conversion ⟨hentry, hrun, hfirst, hat⟩ hkind hcode
  case compareSync =>
    simp only [Bool.and_eq_true, decide_eq_true_eq] at h
    obtain ⟨⟨hentry, hrun, hkind, hfirst, hpin⟩, hat⟩ := h
    exact execCompareTrigger_sync code ⟨hentry, hrun, hfirst, hat⟩ hkind hpin
  case compareElsewhere => exact execCompareTrigger_of_elsewhere code (by simpa using h)
  case tempInRange =>
    simp only [Bool.and_eq_true, Bool.not_eq_true', decide_eq_true_eq] at h
    obtain ⟨hdiode, hlow, hhigh⟩ := h
    exact execDieTempSample_in_range hdiode hlow hhigh
  case tempOutOfRange => exact execDieTempSample_out_of_range s (of_decide_eq_true h)
  case firstMissing =>
    have hfirst : (afterSnapshot s).clk.missing = 0 := of_decide_eq_true h
    exact (execDieTempSample_missing s).trans (by rw [hfirst]; rfl)
  case thirdMissing =>
    have hthird : (afterSnapshot s).clk.missing = 2 := of_decide_eq_true h
    exact (execDieTempSample_missing s).trans (by rw [hthird]; rfl)
  case stall =>
    simp only [Bool.and_eq_true, Bool.not_eq_true', decide_eq_true_eq] at h
    obtain ⟨⟨⟨⟨hlow, hhigh, hentry⟩, hserves⟩, hnew⟩, hover⟩ := h
    exact execQueueStall_of_hardware_queue hlow hhigh hentry hserves hnew hover
  case stallEmpty =>
    obtain ⟨hempty, hkeeps⟩ : _ ∧ atOnce q = false := by simpa using h
    exact execQueueStall_of_empty hempty hkeeps
  case stallKnown => exact execQueueStall_of_known (by simpa using h)
  case powerOn =>
    obtain ⟨⟨hpuf, href⟩, hbits⟩ : (_ ∧ _) ∧ b.pufCorrected ≤ 600 := by simpa using h
    exact execPowerOnReset_boots s hpuf href hbits
  case noReference =>
    obtain ⟨hpuf, href⟩ : _ ∧ refFound b = false := by simpa using h
    exact execPowerOnReset_no_reference s hpuf href
  case noRoot => exact execPowerOnReset_no_root s (by simpa using h)
  case porst => rfl
  case brownout => exact execSupplyBrownout_of_below s (of_decide_eq_true h)
  case railWithin => exact execSupplyBrownout_of_within s (of_decide_eq_true h)
  case coreClock =>
    simp only [Bool.and_eq_true, Bool.not_eq_true', decide_eq_true_eq] at h
    obtain ⟨⟨⟨⟨⟨⟨hmeasure, hporst⟩, hsystem⟩, hdown⟩, hpd4⟩, hpd1⟩, hfirst⟩ := h
    exact execClockMonitorFault_core hmeasure hporst hsystem hdown hpd4 hpd1 hfirst
  case multiplierWithin =>
    exact execClockMonitorFault_of_sound (clockBad_multiplier_of_within (of_decide_eq_true h))
  case monitorInPorst => exact execClockMonitorFault_of_porst clock c code h
  case faultReset =>
    simp only [Bool.and_eq_true, Bool.not_eq_true'] at h
    obtain ⟨⟨hfault, hsystem⟩, hover⟩ := h
    exact execClockFaultReset_of_over hfault hsystem hover
  case noFault => exact execClockFaultReset_of_no_fault (of_decide_eq_true h)
  case lockRunning =>
    simp only [Bool.and_eq_true, Bool.not_eq_true', decide_eq_true_eq] at h
    obtain ⟨⟨⟨⟨⟨⟨⟨hin, hlong⟩, hon⟩, href⟩, hfresh⟩, hporst⟩, hdown⟩, hsystem⟩ := h
    exact execMultiplierLock_of_running ⟨hin, hlong, hon, href, hfresh, hporst, hdown⟩ hsystem
  case lockInReset =>
    simp only [Bool.and_eq_true, Bool.not_eq_true', decide_eq_true_eq] at h
    obtain ⟨⟨⟨⟨⟨⟨⟨⟨hin, hlong⟩, hon⟩, href⟩, hfresh⟩, hporst⟩, hdown⟩, hsystem⟩, hfault⟩ := h
    exact execMultiplierLock_of_reset ⟨hin, hlong, hon, href, hfresh, hporst, hdown⟩ hsystem hfault
  case noLock => exact execMultiplierLock_of_no_lock (by simpa using h)
  case referenceBack =>
    obtain ⟨href, hporst⟩ : s.clk.refPresent = false ∧ s.boot.porst = false := by simpa using h
    exact execReferenceReturn_of_absent href hporst
  case referenceThere => exact execReferenceReturn_of_present h
  case soutDrop =>
    simp only [Bool.and_eq_true, Bool.not_eq_true', decide_eq_true_eq] at h
    obtain ⟨⟨⟨hmode, hnew⟩, hover⟩, hrun⟩ := h
    exact execVoterSafeSoutDrop_of_over hmode hnew hover hrun
  case notSafe => exact execVoterSafeSoutDrop_of_other_mode (of_decide_eq_true h)
  case watchdog =>
    simp only [Bool.and_eq_true, Bool.not_eq_true'] at h
    obtain ⟨⟨⟨hpd3, hrecovery⟩, hsystem⟩, hhalted⟩ := h
    exact execCoreWatchdog_of_running hpd3 hrecovery hsystem hhalted
  case watchdogPaused => exact execCoreWatchdog_of_paused (by simpa using h)
  case firmware =>
    simp only [Bool.and_eq_true, Bool.not_eq_true', decide_eq_true_eq] at h
    obtain ⟨⟨⟨⟨hreset, hdomains, hstage⟩, hporst⟩, hsystem⟩, hroot⟩ := h
    exact execFirmwareStart_of_selected hreset hdomains hstage hporst hsystem hroot
  case firmwareRuns => exact execFirmwareStart_of_running (by simpa using h)

end

section
/-! The byte memories (R96, R398): a write keeps the canonical form and is read back. -/

open Sys2Proof Sys2Proof.Machine

/-- Settles O23: `mputs_wf` keeps the form, and `mget_mputs` says what each byte reads, within the written span and
outside it. -/
theorem memoryReadsBackWhatIsWritten : Obligations.MemoryReadsBackWhatIsWritten := by
  intro m a bs hm
  refine ⟨mputs_wf a bs hm, fun k hk => ?_, fun k hk => ?_⟩
  · rw [mget_mputs a (a + k) bs hm, if_pos ⟨Nat.le_add_right a k, Nat.add_lt_add_left hk a⟩, Nat.add_sub_cancel_left]
  · rw [mget_mputs a k bs hm, if_neg (by omega)]

end

section
/-! The host commands of configuration, site time and epochs (Table 3-6): what each replies in each of its cases. -/

namespace Sys2Proof.Machine

/-- A case holds where its command's meaning is `host` over a part that replies as the case says. -/
theorem Case.holds_mk {cmd : Cmd → Instr} {info : CmdInfo} {ok : Req → State → Bool} {reply f : Req → State → Reply}
    (hexec : ∀ c s, exec (cmd c) s = host info c f s) (hreply : ∀ q s, ok q s = true → f q s = reply q s) :
    Case.Holds ⟨cmd, info, ok, reply⟩ := Case.holds_of hexec hreply

/-! ### TIME_SET and DIGEST_READ -/

theorem timeSetOf_of_pps {s : State} (q : Req) (h : s.timeSource = 4) :
    timeSetOf q s = .done 0 0 { s with clk := { s.clk with ppsSeconds := some (q.w2 0) } } :=
  if_neg (not_not_intro h)

theorem timeSetOf_of_other_source {s : State} (q : Req) (h : s.timeSource ≠ 4) : timeSetOf q s = rej 0x0301 s :=
  if_pos h

/-- A digest that the parameters name is shown by halves; bit 0 of word 1 picks the half. -/
theorem digestReadOf_of_digest {q : Req} {s : State} {d : Digest}
    (h : s.digestOf (hClass q.hnd) q.idx (q.w 0) (tst (q.w 1) 1) (tst (q.w 1) 2) = some d) :
    digestReadOf q s = .done 0 ((d >>> (if tst (q.w 1) 0 then 128 else 0)).setWidth 128) s := by
  simp only [digestReadOf, h]

theorem digestReadOf_of_no_unit {q : Req} {s : State}
    (h : s.digestOf (hClass q.hnd) q.idx (q.w 0) (tst (q.w 1) 1) (tst (q.w 1) 2) = none) :
    digestReadOf q s = rej 0x0108 s := by
  simp only [digestReadOf, h]

/-- Of the device, number 0 names the ROOT digest of what is intended or reported (R84, R85). -/
theorem State.digestOf_root (s : State) (i : Nat) (intended : Bool) :
    s.digestOf 0 i 0 intended false = some (s.ep.cfg.rootOf (if intended then s.intendedOf else s.reportedOf)) := rfl

/-- Of the device, no number above 16 names a digest: there are 16 blocks. -/
theorem State.digestOf_beyond_blocks (s : State) {which : Nat} (i : Nat) (intended own : Bool) (h : 16 < which) :
    s.digestOf 0 i which intended own = none := by
  have hroot : which ≠ 0 := by omega
  simp only [State.digestOf, if_true, if_neg hroot, if_neg (Nat.not_le.2 h)]

/-! ### IMAGE_WRITE (R89, R96) -/

/-- IMAGE_WRITE refuses in this order, and otherwise drops the stage and writes what it was sent. -/
theorem imageWriteOf_eq (q : Req) (s : State) : imageWriteOf q s =
    if 1048576 < (sent 1 q).1 + (sent 1 q).2.length then rej 0x0510 s
    else if s.ep.phase = 3 then rej 0x0310 s
    else if s.gated then rej 0x0313 s
    else .done 0 (res [(0, 4, (sent 1 q).2.length)]) { dropStage s with
      ep := { (dropStage s).ep with slot := mputs (dropStage s).ep.slot (sent 1 q).1 (sent 1 q).2 } } := by
  unfold imageWriteOf sent
  cases q.buf <;> rfl

theorem imageWriteOf_of_room {q : Req} {s : State} (hroom : (sent 1 q).1 + (sent 1 q).2.length ≤ 1048576)
    (hphase : s.ep.phase ≠ 3) (hopen : s.gated = false) :
    imageWriteOf q s = .done 0 (res [(0, 4, (sent 1 q).2.length)]) { dropStage s with
      ep := { (dropStage s).ep with slot := mputs (dropStage s).ep.slot (sent 1 q).1 (sent 1 q).2 } } := by
  rw [imageWriteOf_eq, if_neg (Nat.not_lt.2 hroom), if_neg hphase, hopen, if_neg Bool.false_ne_true]

theorem imageWriteOf_beyond_slot {q : Req} (s : State) (h : 1048576 < (sent 1 q).1 + (sent 1 q).2.length) :
    imageWriteOf q s = rej 0x0510 s := by
  rw [imageWriteOf_eq, if_pos h]

theorem imageWriteOf_of_gated {q : Req} {s : State} (hroom : (sent 1 q).1 + (sent 1 q).2.length ≤ 1048576)
    (hphase : s.ep.phase ≠ 3) (hgated : s.gated = true) : imageWriteOf q s = rej 0x0313 s := by
  rw [imageWriteOf_eq, if_neg (Nat.not_lt.2 hroom), if_neg hphase, if_pos hgated]

/-! ### EPOCH_STAGE (R87) and EPOCH_DISCARD (R89) -/

/-- The overlay can be staged: word 0 asks for it, no tick is announced, the part is awake, and nothing is wrong with the
configuration (R87). -/
structure State.StagesOverlay (s : State) (q : Req) : Prop where
  asked : q.w 0 = 1
  phase : s.ep.phase ≠ 3
  awake : s.power.state ≠ 2
  sound : s.overlayFault s.overlaid = none

/-- The stage is complete: what is staged waits for its commit (R88). -/
def stageComplete (s : State) : State := { s with ep := { s.ep with phase := 2 } }

/-- With no field node to hear from, the stage is complete at once. -/
theorem epochStageOf_without_nodes {q : Req} {s : State} (h : s.StagesOverlay q) (hshadow : q.shadowFault = false)
    (hnodes : (beginStage s.overlaid false s).ep.answers = []) :
    epochStageOf q s = .done 0 (stageComplete (beginStage s.overlaid false s)).stageRes
      (stageComplete (beginStage s.overlaid false s)) := by
  obtain ⟨hasked, hphase, hawake, hsound⟩ := h
  simp [epochStageOf, stageComplete, hasked, hphase, hawake, hsound, hshadow, hnodes]

/-- While field nodes are to answer, the stage is committed and lives on (R88). -/
theorem epochStageOf_with_nodes {q : Req} {s : State} (h : s.StagesOverlay q) (hshadow : q.shadowFault = false)
    (hnodes : (beginStage s.overlaid false s).ep.answers ≠ []) :
    epochStageOf q s = .live true [] (beginStage s.overlaid false s) := by
  obtain ⟨hasked, hphase, hawake, hsound⟩ := h
  simp [epochStageOf, hasked, hphase, hawake, hsound, hshadow, hnodes]

theorem epochStageOf_of_shadow_fault {q : Req} {s : State} (h : s.StagesOverlay q) (hshadow : q.shadowFault = true) :
    epochStageOf q s = rej 0x0312 (dropStage s) := by
  obtain ⟨hasked, hphase, hawake, hsound⟩ := h
  simp [epochStageOf, hasked, hphase, hawake, hsound, hshadow]

theorem epochStageOf_of_no_image {q : Req} {s : State} (hasked : q.w 0 = 0) (hphase : s.ep.phase ≠ 3)
    (hawake : s.power.state ≠ 2) (himage : readImage s.ep.slot = none) : epochStageOf q s = rej 0x0110 s := by
  simp [epochStageOf, hasked, hphase, hawake, himage]

theorem epochStageOf_of_announced {q : Req} {s : State} (hasked : q.w 0 ≤ 1) (hphase : s.ep.phase = 3) :
    epochStageOf q s = rej 0x0310 s :=
  (if_neg (Nat.not_lt.2 hasked)).trans (if_pos hphase)

theorem epochStageOf_of_bad_word {q : Req} (s : State) (h : 1 < q.w 0) : epochStageOf q s = rej 0x0108 s := if_pos h

theorem epochDiscardOf_of_stage (q : Req) {s : State} (h : s.ep.phase = 1 ∨ s.ep.phase = 2) :
    epochDiscardOf q s = .done 0 0 (dropStage s) :=
  (if_neg (by omega)).trans (if_neg (by omega))

theorem epochDiscardOf_of_announced (q : Req) {s : State} (h : s.ep.phase = 3) : epochDiscardOf q s = rej 0x0310 s :=
  if_pos h

theorem epochDiscardOf_of_nothing (q : Req) {s : State} (h : s.ep.phase = 0) : epochDiscardOf q s = rej 0x0001 s :=
  (if_neg (by omega)).trans (if_pos h)

/-! ### EPOCH_COMMIT (R90) -/

/-- A commit of a running part finds valid site time and a complete stage. -/
structure State.Staged (s : State) : Prop where
  running : s.boot.provisioning = false
  time : s.clk.timeValid = true
  phase : s.ep.phase = 2

/-- The tick that a commit asks for is at least 300 ms and at most one hour away (R90). -/
def State.tickInRange (s : State) (tick : Nat) : Prop := s.clk.tai + 300000 ≤ tick ∧ tick ≤ s.clk.tai + 3600000000

theorem State.tickInRange_iff {s : State} {tick : Nat} :
    s.tickInRange tick ↔ ¬(tick < s.clk.tai + 300000 ∨ s.clk.tai + 3600000000 < tick) := by
  rw [State.tickInRange, not_or, Nat.not_lt, Nat.not_lt]

/-- With QUARANTINE_OK set, the commit is announced whatever the nodes confirmed. -/
theorem epochCommitOf_of_quarantine_ok {q : Req} {s : State} (h : s.Staged) (htick : s.tickInRange (q.w2 0))
    (hquarantine : tst (q.w 2) 0 = true) (hfree : s.commitBusy = false) :
    epochCommitOf q s = .live false [] (announce (ceilTo s.periodUs (q.w2 0)) s) := by
  obtain ⟨hrun, htime, hphase⟩ := h
  simp [epochCommitOf, hrun, htime, hphase, State.tickInRange_iff.1 htick, hquarantine, hfree]

theorem epochCommitOf_without_time (q : Req) {s : State} (hrun : s.boot.provisioning = false)
    (htime : s.clk.timeValid = false) : epochCommitOf q s = rej 0x0311 s := by
  simp [epochCommitOf, hrun, htime]

theorem epochCommitOf_without_stage (q : Req) {s : State} (hrun : s.boot.provisioning = false)
    (htime : s.clk.timeValid = true) (hphase : s.ep.phase ≠ 2 ∧ s.ep.phase ≠ 3) : epochCommitOf q s = rej 0x0314 s := by
  simp [epochCommitOf, hrun, htime, hphase]

theorem epochCommitOf_of_early_tick {q : Req} {s : State} (h : s.Staged) (hearly : q.w2 0 < s.clk.tai + 300000) :
    epochCommitOf q s = rej 0x0108 s := by
  obtain ⟨hrun, htime, hphase⟩ := h
  simp [epochCommitOf, hrun, htime, hphase, hearly]

/-- Without QUARANTINE_OK, every node must have confirmed. -/
theorem epochCommitOf_of_unconfirmed {q : Req} {s : State} (h : s.Staged) (htick : s.tickInRange (q.w2 0))
    (hstrict : tst (q.w 2) 0 = false) (hleft : s.stageCount 1 ≠ s.ep.answers.length) :
    epochCommitOf q s = rej 0x0312 s := by
  obtain ⟨hrun, htime, hphase⟩ := h
  simp [epochCommitOf, hrun, htime, hphase, State.tickInRange_iff.1 htick, hstrict, hleft]

/-! ### CONFIG_EXPORT (R42) -/

theorem writeBuf_of_room {q : Req} {b : Buf} {data : List Byte} (s : State) (hbuf : q.buf = some b)
    (hroom : data.length ≤ b.len) (hok : b.fails = false) :
    writeBuf q data s = .ok { s with hostIf := { s.hostIf with dma := aset s.hostIf.dma b.addr data } } := by
  simp only [writeBuf, hbuf, if_neg (Nat.not_lt.2 hroom), hok, if_neg Bool.false_ne_true]

theorem configExportOf_of_unloaded (q : Req) {s : State} (h : s.ep.loaded = false) :
    configExportOf q s = rej 0x0301 s := if_pos h

theorem configExportOf_beyond_end {q : Req} {s : State} (hloaded : s.ep.loaded = true)
    (hfar : (s.ep.cfg.imageBytes s.ep.root).length < q.w 4) : configExportOf q s = rej 0x0108 s :=
  (if_neg (by simp [hloaded])).trans (if_pos hfar)

/-- As much of the image from the offset on as the buffer holds is written there. -/
theorem configExportOf_of_buffer {q : Req} {s : State} {b : Buf} (hloaded : s.ep.loaded = true)
    (hin : q.w 4 ≤ (s.ep.cfg.imageBytes s.ep.root).length) (hbuf : q.buf = some b) (hok : b.fails = false) :
    configExportOf q s = .done 0
      (res [(0, 4, (((s.ep.cfg.imageBytes s.ep.root).drop (q.w 4)).take b.len).length),
        (4, 4, (s.ep.cfg.imageBytes s.ep.root).length)])
      { s with hostIf := { s.hostIf with
        dma := aset s.hostIf.dma b.addr (((s.ep.cfg.imageBytes s.ep.root).drop (q.w 4)).take b.len) } } := by
  have hwrite := writeBuf_of_room s hbuf (List.length_take_le b.len ((s.ep.cfg.imageBytes s.ep.root).drop (q.w 4))) hok
  simp only [configExportOf, hloaded, Bool.true_eq_false, if_false, if_neg (Nat.not_lt.2 hin), hbuf, hwrite]

end Sys2Proof.Machine

open Sys2Proof Sys2Proof.Machine

/-- Settles O27: each case of `epochCases` is the lemma about its command's reply, whose hypotheses the case's condition
gives. -/
theorem epochCommandsAnswer : Obligations.EpochCommandsAnswer := by
  unfold Obligations.EpochCommandsAnswer epochCases
  repeat rw [List.forall_mem_cons]
  refine ⟨?timeSet, ?timeSetOther, ?digestReported, ?digestIntended, ?digestNoUnit, ?imageWritten, ?imageBeyond,
    ?imageGated, ?stageAlone, ?stageNodes, ?stageShadow, ?stageNoImage, ?stageAnnounced, ?stageBadWord, ?commitQuarantine,
    ?commitNoTime, ?commitNoStage, ?commitEarly, ?commitUnconfirmed, ?discard, ?discardAnnounced, ?discardNothing,
    ?status, ?exportUnloaded, ?exportBuffer, ?exportBeyond, List.forall_mem_nil _⟩ <;>
    refine Case.holds_mk (fun _ _ => rfl) fun q s h => ?_
  case timeSet => exact timeSetOf_of_pps q (of_decide_eq_true h)
  case timeSetOther => exact timeSetOf_of_other_source q (of_decide_eq_true h)
  case digestReported =>
    simp only [Bool.and_eq_true, Bool.not_eq_true', decide_eq_true_eq] at h
    obtain ⟨⟨⟨⟨hdevice, hroot⟩, hlow⟩, hreported⟩, hgroup⟩ := h
    refine (digestReadOf_of_digest (d := s.ep.cfg.rootOf s.reportedOf) ?_).trans ?_
    · rw [hdevice, hroot, hreported, hgroup, State.digestOf_root]; rfl
    · rw [hlow]; rfl
  case digestIntended =>
    simp only [Bool.and_eq_true, Bool.not_eq_true', decide_eq_true_eq] at h
    obtain ⟨⟨⟨⟨hdevice, hroot⟩, hhigh⟩, hintended⟩, hgroup⟩ := h
    refine (digestReadOf_of_digest (d := s.ep.cfg.rootOf s.intendedOf) ?_).trans ?_
    · rw [hdevice, hroot, hintended, hgroup, State.digestOf_root]; rfl
    · rw [hhigh]; rfl
  case digestNoUnit =>
    obtain ⟨hdevice, hbeyond⟩ := of_decide_eq_true h
    exact digestReadOf_of_no_unit (by rw [hdevice]; exact s.digestOf_beyond_blocks _ _ _ hbeyond)
  case imageWritten =>
    simp only [Bool.and_eq_true, Bool.not_eq_true', decide_eq_true_eq] at h
    obtain ⟨⟨hroom, hphase⟩, hopen⟩ := h
    exact imageWriteOf_of_room hroom hphase hopen
  case imageBeyond => exact imageWriteOf_beyond_slot s (of_decide_eq_true h)
  case imageGated =>
    simp only [Bool.and_eq_true, decide_eq_true_eq] at h
    obtain ⟨⟨hroom, hphase⟩, hgated⟩ := h
    exact imageWriteOf_of_gated hroom hphase hgated
  case stageAlone =>
    simp only [Bool.and_eq_true, Bool.not_eq_true', decide_eq_true_eq] at h
    obtain ⟨⟨hasked, hphase, hawake, hsound, hnodes⟩, hshadow⟩ := h
    exact epochStageOf_without_nodes ⟨hasked, hphase, hawake, hsound⟩ hshadow hnodes
  case stageNodes =>
    simp only [Bool.and_eq_true, Bool.not_eq_true', decide_eq_true_eq] at h
    obtain ⟨⟨hasked, hphase, hawake, hsound, hnodes⟩, hshadow⟩ := h
    exact epochStageOf_with_nodes ⟨hasked, hphase, hawake, hsound⟩ hshadow hnodes
  case stageShadow =>
    simp only [Bool.and_eq_true, decide_eq_true_eq] at h
    obtain ⟨⟨hasked, hphase, hawake, hsound⟩, hshadow⟩ := h
    exact epochStageOf_of_shadow_fault ⟨hasked, hphase, hawake, hsound⟩ hshadow
  case stageNoImage =>
    obtain ⟨hasked, hphase, hawake, himage⟩ := of_decide_eq_true h
    exact epochStageOf_of_no_image hasked hphase hawake himage
  case stageAnnounced =>
    obtain ⟨hasked, hphase⟩ := of_decide_eq_true h
    exact epochStageOf_of_announced hasked hphase
  case stageBadWord => exact epochStageOf_of_bad_word s (of_decide_eq_true h)
  case commitQuarantine =>
    simp only [Bool.and_eq_true, Bool.not_eq_true', decide_eq_true_eq] at h
    obtain ⟨⟨⟨⟨hrun, htime⟩, hquarantine⟩, hphase, htick⟩, hfree⟩ := h
    exact epochCommitOf_of_quarantine_ok ⟨hrun, htime, hphase⟩ htick hquarantine hfree
  case commitNoTime =>
    obtain ⟨hrun, htime⟩ : s.boot.provisioning = false ∧ s.clk.timeValid = false := by simpa using h
    exact epochCommitOf_without_time q hrun htime
  case commitNoStage =>
    simp only [Bool.and_eq_true, Bool.not_eq_true', decide_eq_true_eq] at h
    obtain ⟨⟨hrun, htime⟩, hphase⟩ := h
    exact epochCommitOf_without_stage q hrun htime hphase
  case commitEarly =>
    simp only [Bool.and_eq_true, Bool.not_eq_true', decide_eq_true_eq] at h
    obtain ⟨⟨hrun, htime⟩, hphase, hearly⟩ := h
    exact epochCommitOf_of_early_tick ⟨hrun, htime, hphase⟩ hearly
  case commitUnconfirmed =>
    simp only [Bool.and_eq_true, Bool.not_eq_true', decide_eq_true_eq] at h
    obtain ⟨⟨⟨hrun, htime⟩, hstrict⟩, hphase, hfrom, huntil, hleft⟩ := h
    exact epochCommitOf_of_unconfirmed ⟨hrun, htime, hphase⟩ ⟨hfrom, huntil⟩ hstrict hleft
  case discard => exact epochDiscardOf_of_stage q (of_decide_eq_true h)
  case discardAnnounced => exact epochDiscardOf_of_announced q (of_decide_eq_true h)
  case discardNothing => exact epochDiscardOf_of_nothing q (of_decide_eq_true h)
  case status => rfl
  case exportUnloaded => exact configExportOf_of_unloaded q (by simpa using h)
  case exportBuffer =>
    simp only [Bool.and_eq_true, decide_eq_true_eq] at h
    obtain ⟨⟨hloaded, hin⟩, hbuffer⟩ := h
    cases hbuf : q.buf with
    | none => simp [hbuf] at hbuffer
    | some b =>
      simp only [hbuf, Bool.not_eq_true'] at hbuffer
      exact configExportOf_of_buffer hloaded hin hbuf hbuffer
  case exportBeyond =>
    simp only [Bool.and_eq_true, decide_eq_true_eq] at h
    obtain ⟨hloaded, hfar⟩ := h
    exact configExportOf_beyond_end hloaded hfar

end

section
/-! The events of site time and of the epochs: what each does where its condition holds, and where it changes nothing. -/

namespace Sys2Proof.Machine

/-! ### PTP_MESSAGE (R81) -/

/-- The part hears a message of domain `d` on port `p`: the Ethernet domain is on, SOURCE admits the port, and the domain is
the configured one. -/
structure State.HearsPtp (s : State) (p d : Nat) : Prop where
  powered : s.power.domains.getLsbD 10 = true
  admitted : s.ptpPorts.contains p = true
  domain : d = fld (s.blk 0) 1 1

theorem State.HearsPtp.not_ignored {s : State} {p d : Nat} (h : s.HearsPtp p d) :
    ¬(s.power.domains.getLsbD 10 = false ∨ ¬ s.ptpPorts.contains p ∨ d ≠ fld (s.blk 0) 1 1) := by
  obtain ⟨hpowered, hadmitted, hdomain⟩ := h
  rw [hpowered, hadmitted, hdomain]
  simp

theorem execPtpMessage_announce {s : State} {p d : Nat} (sender : Nat) (dataset : List Nat) (steps : Nat)
    (h : s.HearsPtp p d) :
    execPtpMessage ⟨p, d, sender, .announce dataset steps⟩ s = .next (ptpAnnounce p sender dataset steps s) :=
  if_neg h.not_ignored

theorem execPtpMessage_sync {s : State} {p d sender : Nat} (offset : Int) (tai : Nat) (h : s.HearsPtp p d)
    (hmaster : s.ptpMaster = some (p, sender)) :
    execPtpMessage ⟨p, d, sender, .sync offset tai⟩ s = .next (ptpSync p offset tai s) :=
  (if_neg h.not_ignored).trans (if_pos hmaster)

theorem execPtpMessage_option {s : State} {p d : Nat} (sender : Nat) (code : Half) (h : s.HearsPtp p d) :
    execPtpMessage ⟨p, d, sender, .option code⟩ s = .next (s.note 11 (handle 17 p) (4 :: leBytes code.toNat 2)) :=
  if_neg h.not_ignored

theorem execPtpMessage_of_other_port {s : State} {m : PtpMsg} (h : s.ptpPorts.contains m.port = false) :
    execPtpMessage m s = .next s := if_pos (.inr (.inl (by rw [h]; exact Bool.false_ne_true)))

/-- The sixteenth Sync in a row within LOCK_NS makes site time valid, and each later one keeps it so. -/
theorem ptpSync_of_lock {s : State} {p : Nat} {offset : Int} (tai : Nat) (hport : s.clk.ptpPort = some p)
    (hnear : offset.natAbs ≤ fld (s.blk 0) 2 2) (hrun : 15 ≤ s.clk.syncs) : ptpSync p offset tai s =
      timeValidNow (setTai tai { s with clk := { s.clk with syncs := 16, sourceHeard := s.now } }) := by
  have hcount : min (s.clk.syncs + 1) 16 = 16 := by omega
  simp only [ptpSync, hport, hnear, hcount, if_true]

/-- A Sync beyond LOCK_NS starts the count again; site time follows it all the same. -/
theorem ptpSync_of_far {s : State} (p : Nat) {offset : Int} (tai : Nat) (hfar : fld (s.blk 0) 2 2 < offset.natAbs) :
    ptpSync p offset tai s =
      setTai tai { s with clk := { s.clk with ptpPort := some p, syncs := 0, sourceHeard := s.now } } := by
  simp only [ptpSync, if_neg (Nat.not_le.2 hfar)]
  exact if_neg (by decide)

/-! ### HOLDOVER_EXPIRE and PPS_IN_EDGE (R81, R82) -/

theorem execHoldoverExpire_of_over {s : State} (hvalid : s.clk.timeValid = true)
    (hover : s.after s.clk.sourceHeard (1000 * s.cfgD 0 4 4 300000) = true) :
    execHoldoverExpire s = .next (timeInvalidNow s) := if_pos ⟨hvalid, hover⟩

theorem execHoldoverExpire_of_invalid {s : State} (h : s.clk.timeValid = false) : execHoldoverExpire s = .next s :=
  if_neg (by simp [h])

theorem execPpsInEdge_of_label {s : State} {sec : Nat} (hsource : s.timeSource = 4)
    (hlabel : s.clk.ppsSeconds = some sec) : execPpsInEdge s = .next (ppsLabelled sec s) := by
  simp only [execPpsInEdge, hsource, hlabel, ne_eq, not_true_eq_false, if_false]

theorem execPpsInEdge_of_no_label {s : State} (hsource : s.timeSource = 4) (hlabel : s.clk.ppsSeconds = none)
    (hvalid : s.clk.timeValid = true) : execPpsInEdge s = .next (ppsRound s) := by
  simp only [execPpsInEdge, hsource, hlabel, hvalid, ne_eq, not_true_eq_false, if_false, if_true]

theorem execPpsInEdge_of_other_source {s : State} (h : s.timeSource ≠ 4) : execPpsInEdge s = .next s := if_pos h

/-- Within 1 ms of a whole second, site time takes that second. -/
theorem ppsRound_of_near {s : State} (hlow : nearestSecond s.clk.tai ≤ s.clk.tai + 1000)
    (hhigh : s.clk.tai ≤ nearestSecond s.clk.tai + 1000) : ppsRound s =
      { s with clk := { s.clk with tai := wrap64 (nearestSecond s.clk.tai), sourceHeard := s.now } } :=
  if_neg (not_or.2 ⟨Nat.not_lt.2 hlow, Nat.not_lt.2 hhigh⟩)

/-- More than 1 ms before the nearest second, the edge is ignored and counted. -/
theorem ppsRound_of_early {s : State} (h : s.clk.tai + 1000 < nearestSecond s.clk.tai) :
    ppsRound s = { s with clk := { s.clk with ppsIgnored := s.clk.ppsIgnored + 1 } } := if_pos (.inl h)

/-! ### DIGEST_READBACK (R86) -/

/-- The local units have reported what they read back; the field nodes' reports stand. -/
def localsReported (s : State) : State :=
  refreshRoot { s with ep := { s.ep with
    reported := (s.localUnits.map fun u => (u, s.readback.own u.1 u.2)) ++
      s.ep.reported.filter fun e => decide (e.1.1 = 3) } }

theorem execDigestReadback_of_on {s : State} (h : s.calOn = true) : execDigestReadback s =
    .next (overL (localsReported s).ep.cfg.units (fun u t => judgeDigest u.1 u.2 t) (localsReported s)) :=
  if_neg (by simp [h])

theorem execDigestReadback_of_off {s : State} (h : s.calOn = false) : execDigestReadback s = .next s := if_pos h

/-! ### STAGE_TIMEOUT, EPOCH_TICK and EPOCH_MARK_WRITE (R88, R91, R92) -/

theorem execStageTimeout_of_over {s : State} (hphase : s.ep.phase = 1)
    (hover : s.after s.ep.stageSince (s.stageTmo s.ep.stageSince) = true) : execStageTimeout s = .next (stageDone s) :=
  if_pos ⟨hphase, hover⟩

theorem execStageTimeout_of_no_stage {s : State} (h : s.ep.phase ≠ 1) : execStageTimeout s = .next s :=
  if_neg fun hstage => h hstage.1

theorem execEpochTick_of_due {s : State} (hphase : s.ep.phase = 3) (hdue : s.tickDue = true) :
    execEpochTick s = .next (tickNow s) := if_pos ⟨hphase, hdue⟩

theorem execEpochTick_of_unannounced {s : State} (h : s.ep.phase ≠ 3) : execEpochTick s = .next s :=
  if_neg fun htick => h htick.1

theorem execEpochMarkWrite_of_due {s : State} (hdue : s.ep.markDue = true) (hopen : s.gated = false)
    (hpass : passes 62 [(s.ep.number.toNat : Int)] s = true) :
    execEpochMarkWrite s = .next (markWritten (passed 62 [(s.ep.number.toNat : Int)] s)) :=
  (if_neg (by simp [hdue, hopen])).trans (congrArg Host.Outcome.next (via_passes hpass))

theorem execEpochMarkWrite_of_not_due {s : State} (h : s.ep.markDue = false) : execEpochMarkWrite s = .next s :=
  if_pos (.inl h)

end Sys2Proof.Machine

open Sys2Proof Sys2Proof.Machine

/-- Settles O45: each entry of `epochEvents` is the lemma about its event, whose hypotheses the entry's condition gives. -/
theorem epochEventsTakeEffect : Obligations.EpochEventsTakeEffect := by
  intro p domain sender tai steps sec offset dataset code
  unfold epochEvents
  repeat rw [List.forall_mem_cons]
  refine ⟨?syncLocks, ?syncFar, ?announce, ?option, ?otherPort, ?holdover, ?noHoldover, ?ppsLabelled, ?ppsNear,
    ?ppsEarly, ?noPps, ?readback, ?noReadback, ?stageOver, ?noStage, ?tick, ?noTick, ?mark, ?noMark,
    List.forall_mem_nil _⟩ <;>
    refine Event.holds_mk fun s h => ?_
  case syncLocks =>
    simp only [Bool.and_eq_true, decide_eq_true_eq] at h
    obtain ⟨⟨hpowered, hadmitted⟩, hdomain, hmaster, hnear, hport, hrun⟩ := h
    exact (execPtpMessage_sync offset tai ⟨hpowered, hadmitted, hdomain⟩ hmaster).trans
      (congrArg Host.Outcome.next (ptpSync_of_lock tai hport hnear hrun))
  case syncFar =>
    simp only [Bool.and_eq_true, decide_eq_true_eq] at h
    obtain ⟨⟨hpowered, hadmitted⟩, hdomain, hmaster, hfar⟩ := h
    exact (execPtpMessage_sync offset tai ⟨hpowered, hadmitted, hdomain⟩ hmaster).trans
      (congrArg Host.Outcome.next (ptpSync_of_far p tai hfar))
  case announce =>
    simp only [Bool.and_eq_true, decide_eq_true_eq] at h
    obtain ⟨⟨hpowered, hadmitted⟩, hdomain⟩ := h
    exact execPtpMessage_announce sender dataset steps ⟨hpowered, hadmitted, hdomain⟩
  case option =>
    simp only [Bool.and_eq_true, decide_eq_true_eq] at h
    obtain ⟨⟨hpowered, hadmitted⟩, hdomain⟩ := h
    exact execPtpMessage_option sender code ⟨hpowered, hadmitted, hdomain⟩
  case otherPort =>
    rw [Bool.not_eq_true'] at h
    exact execPtpMessage_of_other_port h
  case holdover =>
    obtain ⟨hvalid, hover⟩ := Bool.and_eq_true_iff.1 h
    exact execHoldoverExpire_of_over hvalid hover
  case noHoldover => exact execHoldoverExpire_of_invalid (by simpa using h)
  case ppsLabelled =>
    obtain ⟨hsource, hlabel⟩ := of_decide_eq_true h
    exact execPpsInEdge_of_label hsource hlabel
  case ppsNear =>
    simp only [Bool.and_eq_true, decide_eq_true_eq] at h
    obtain ⟨⟨hsource, hlabel, hlow, hhigh⟩, hvalid⟩ := h
    exact (execPpsInEdge_of_no_label hsource hlabel hvalid).trans
      (congrArg Host.Outcome.next (ppsRound_of_near hlow hhigh))
  case ppsEarly =>
    simp only [Bool.and_eq_true, decide_eq_true_eq] at h
    obtain ⟨⟨hsource, hlabel, hearly⟩, hvalid⟩ := h
    exact (execPpsInEdge_of_no_label hsource hlabel hvalid).trans
      (congrArg Host.Outcome.next (ppsRound_of_early hearly))
  case noPps => exact execPpsInEdge_of_other_source (of_decide_eq_true h)
  case readback => exact execDigestReadback_of_on h
  case noReadback => exact execDigestReadback_of_off (by simpa using h)
  case stageOver =>
    simp only [Bool.and_eq_true, decide_eq_true_eq] at h
    obtain ⟨hphase, hover⟩ := h
    exact execStageTimeout_of_over hphase hover
  case noStage => exact execStageTimeout_of_no_stage (of_decide_eq_true h)
  case tick =>
    simp only [Bool.and_eq_true, decide_eq_true_eq] at h
    obtain ⟨hphase, hdue⟩ := h
    exact execEpochTick_of_due hphase hdue
  case noTick => exact execEpochTick_of_unannounced (of_decide_eq_true h)
  case mark =>
    simp only [Bool.and_eq_true, Bool.not_eq_true'] at h
    obtain ⟨⟨hdue, hopen⟩, hpass⟩ := h
    exact execEpochMarkWrite_of_due hdue hopen hpass
  case noMark => exact execEpochMarkWrite_of_not_due (by simpa using h)

end

section
/-! The host commands of the power tree (Table 4-5): what each replies in each of its cases. -/

namespace Sys2Proof.Machine

/-! ### NODE_READ and NODE_STATE -/

theorem nodeReadOf_of_offset {q : Req} (s : State) (h : q.w 0 % 4 = 0 ∧ q.w 0 ≤ 84) :
    nodeReadOf q s = .done 0
      (resBytes (mbytes ((if tst (q.w 1) 0 then s.overlaid else s.ep.cfg).node q.idx) (q.w 0) 16)) s :=
  if_neg (by omega)

theorem nodeReadOf_of_bad_offset {q : Req} (s : State) (h : q.w 0 % 4 ≠ 0 ∨ 84 < q.w 0) :
    nodeReadOf q s = rej 0x0108 s := if_pos h

/-- A node that is neither retired, thermal nor bound to a field node has standing 0, no substitution, no absence and no
estimate of its temperature. -/
theorem nodeStateOf_of_plain {q : Req} {s : State} (htherm : nTherm (s.ep.cfg.node q.idx) = false)
    (hfield : fieldKind (nKind (s.ep.cfg.node q.idx)) = false) (hretired : s.nodeRetired q.idx = false) :
    nodeStateOf q s = .done 0
      (res [(0, 1, 0), (1, 1, bit ((s.ep.cfg.path 16 q.idx).tail.any fun a => s.nodeRetired a || s.cal.withdrawn.contains a)
          + 2 * bit (s.nodeDerates q.idx) + 4 * bit false + 8 * bit false
          + 16 * bit ((s.curtailOf q.idx 0).isSome || (s.curtailOf q.idx 1).isSome)),
        (2, 2, nParent (s.ep.cfg.node q.idx)), (4, 4, (s.node q.idx).presented), (8, 4, s.grantOf q.idx), (12, 2, 0x8000),
        (14, 1, s.ep.cfg.level q.idx), (15, 1, (s.node q.idx).cls)]) s := by
  simp only [nodeStateOf, reads, htherm, hfield, hretired, Bool.false_eq_true, if_false, false_and, Bool.false_and]

/-! ### Edits of the overlay (R73, R118) -/

/-- The state with an edit put into the overlay. -/
def withEdit (e : Edit) (s : State) : State := { s with ep := { s.ep with overlay := s.overlayWith e } }

theorem pushed_of_room {e : Edit} {s : State} (h : overlaySize (s.overlayWith e) ≤ 65536) :
    pushed e s = .done 0 0 (withEdit e s) := by
  simp only [pushed, State.pushEdit, if_pos h, withEdit]

/-- A body that R118 has nothing against: no rsvd bit, no reason of Table 4-7, no other value outside its range. -/
structure State.BodySound (s : State) (n : Nat) (m : Mem) : Prop where
  rsvd : nodeRsvd m = false
  own : ownFault s.overlaid n m = none
  range : ownRange n m = false

theorem editNode_of_sound {s : State} {n : Nat} {m : Mem} {e : Edit} (h : s.BodySound n m)
    (hroom : overlaySize (s.overlayWith e) ≤ 65536) : editNode n m false e s = .done 0 0 (withEdit e s) := by
  obtain ⟨hrsvd, hown, hrange⟩ := h
  simp only [editNode, hrsvd, hown, hrange, Bool.false_eq_true, false_and, if_false, pushed_of_room hroom]

theorem editNode_of_rsvd {n : Nat} {m : Mem} (inUse : Bool) (e : Edit) (s : State) (h : nodeRsvd m = true) :
    editNode n m inUse e s = rej 0x0104 s := if_pos h

/-! ### NODE_ADD, NODE_REMOVE, NODE_SET and NODE_MOVE (R118, R119) -/

/-- The body that NODE_ADD carries. -/
def addedBody (q : Req) : Mem := mputs [] 0 (q.params.flatMap wordBytes)

theorem nodeAddOf_of_sound {q : Req} {s : State} (h : s.BodySound q.idx (addedBody q))
    (hcount : s.overlaid.nodes.length < 1024) (hnew : aget s.overlaid.nodes q.idx = none)
    (hroom : overlaySize (s.overlayWith (.addNode q.idx (addedBody q))) ≤ 65536) :
    nodeAddOf q s = .done 0 0 (withEdit (.addNode q.idx (addedBody q)) s) := by
  have hedit := editNode_of_sound h hroom
  rw [addedBody] at hedit ⊢
  simp only [nodeAddOf, Nat.not_le.2 hcount, and_false, if_false, hnew, Option.isSome_none, hedit]

theorem nodeAddOf_of_rsvd {q : Req} (s : State) (h : nodeRsvd (addedBody q) = true) : nodeAddOf q s = rej 0x0104 s :=
  (if_neg fun hfull => Bool.false_ne_true (hfull.1.symm.trans h)).trans (editNode_of_rsvd _ _ s h)

theorem nodeAddOf_of_full {q : Req} {s : State} (hrsvd : nodeRsvd (addedBody q) = false)
    (hfull : 1024 ≤ s.overlaid.nodes.length) : nodeAddOf q s = rej 0x0520 s := if_pos ⟨hrsvd, hfull⟩

theorem nodeRemoveOf_of_leaf {q : Req} {s : State} (hleaf : s.overlaid.children q.idx = [])
    (hroom : overlaySize (s.overlayWith (.removeNode q.idx)) ≤ 65536) :
    nodeRemoveOf q s = .done 0 0 (withEdit (.removeNode q.idx) s) :=
  (if_neg (not_not_intro hleaf)).trans (pushed_of_room hroom)

theorem nodeRemoveOf_of_children {q : Req} {s : State} (h : s.overlaid.children q.idx ≠ []) :
    nodeRemoveOf q s = rej 0x0320 s := if_pos h

/-- The words of NODE_SET lie in the body, at an offset that is a multiple of 4, past the field of KIND and PARENT (R119). -/
structure Req.SetInRange (q : Req) : Prop where
  aligned : q.w 0 % 4 = 0
  past : 4 ≤ q.w 0
  nonempty : 0 < q.w 1
  few : q.w 1 ≤ 10
  inside : q.w 0 + 4 * q.w 1 ≤ 88
  given : 2 + q.w 1 ≤ q.params.length

theorem nodeSetOf_of_sound {q : Req} {s : State} (hq : q.SetInRange)
    (h : s.BodySound q.idx (mputs (s.overlaid.node q.idx) (q.w 0) (setWords q)))
    (hroom : overlaySize (s.overlayWith (.bytes 2 q.idx (q.w 0) (setWords q))) ≤ 65536) :
    nodeSetOf q s = .done 0 0 (withEdit (.bytes 2 q.idx (q.w 0) (setWords q)) s) := by
  obtain ⟨haligned, hpast, hsome, hfew, hinside, hgiven⟩ := hq
  exact (if_neg (by omega)).trans (editNode_of_sound h hroom)

theorem nodeSetOf_of_bad_offset {q : Req} (s : State) (h : q.w 0 < 4 ∨ q.w 0 % 4 ≠ 0 ∨ q.w 1 = 0) :
    nodeSetOf q s = rej 0x0108 s := if_pos (by omega)

theorem nodeMoveOf_of_lower {q : Req} {s : State} (hlower : q.w 0 < q.idx) (hnode : q.w 0 ≤ 1023)
    (hroom : overlaySize (s.overlayWith (.moveNode q.idx (q.w 0))) ≤ 65536) :
    nodeMoveOf q s = .done 0 0 (withEdit (.moveNode q.idx (q.w 0)) s) := by
  have hroot : q.idx ≠ 0 := by omega
  simp only [nodeMoveOf, hroot, Nat.not_lt.2 hnode, Nat.not_le.2 hlower, if_false, pushed_of_room hroom]

/-- A parent must have the lower number (R119). -/
theorem nodeMoveOf_of_not_lower {q : Req} (s : State) (hroot : q.idx ≠ 0) (hnot : q.idx ≤ q.w 0) (hnode : q.w 0 ≤ 1023) :
    nodeMoveOf q s = treeInvalid q.idx 1 s :=
  (if_neg hroot).trans ((if_neg (Nat.not_lt.2 hnode)).trans (if_pos hnot))

/-! ### TREE_CHECK -/

/-- What TREE_CHECK shows of a configuration `c` with the first fault `f`. -/
def treeShown (c : SiteCfg) (f : Nat × Nat) : Res :=
  res [(0, 2, f.1), (2, 1, f.2), (4, 2, (c.nodes.length : Nat)),
    (6, 1, min 255 (c.nodes.foldl (fun a e => max a (c.level e.1)) 0 : Nat))]

theorem treeCheckOf_running {q : Req} {s : State} (hview : tst (q.w 0) 0 = false) :
    treeCheckOf q s = .done 0 (treeShown s.ep.cfg ((s.treeFault s.ep.cfg).getD (0xFFFF, 0))) s := by
  simp only [treeCheckOf, hview, Bool.false_eq_true, if_false]
  rfl

theorem treeCheckOf_overlaid {q : Req} {s : State} (hview : tst (q.w 0) 0 = true) :
    treeCheckOf q s = .done 0 (treeShown s.overlaid ((s.treeFault s.overlaid).getD (0xFFFF, 0))) s := by
  simp only [treeCheckOf, hview, if_true]
  rfl

/-! ### NODE_CURTAIL (R116) -/

/-- A boundary that is not due, or yields to a tick, is not carried out. -/
theorem afterSnapshot_of_not_due {s : State} (h : s.boundaryDue = false ∨ s.tickDue = true) : afterSnapshot s = s :=
  if_neg fun hdue => h.elim (fun hnot => Bool.false_ne_true (hnot.symm.trans hdue.1))
    (fun htick => Bool.false_ne_true (hdue.2.1.symm.trans htick))

/-- The state with node `n` curtailed to `cap` in direction `dir` without an end. -/
def curtailed (n dir cap : Nat) (s : State) : State :=
  { dropCurtail n dir s with cal := { (dropCurtail n dir s).cal with
    curtails := (dropCurtail n dir s).cal.curtails ++ [(n, dir, cap, none)] } }

/-- What NODE_CURTAIL shows: the curtailment that it replaces. -/
def curtailShown (old : Option Nat) : Res := res [(0, 4, ((old.getD 0xFFFFFFFF : Nat) : Int))]

theorem nodeCurtailOf_of_bad_direction {q : Req} (s : State) (h : 1 < q.w 1) :
    nodeCurtailOf q s = rej 0x0108 (afterSnapshot s) := if_pos h

theorem nodeCurtailOf_of_release {q : Req} (s : State) (hdir : q.w 1 ≤ 1) (hrelease : q.w 0 = 0xFFFFFFFF) :
    nodeCurtailOf q s = .done 0 (curtailShown ((afterSnapshot s).curtailOf q.idx (q.w 1)))
      (dropCurtail q.idx (q.w 1) (afterSnapshot s)) := (if_neg (Nat.not_lt.2 hdir)).trans (if_pos hrelease)

theorem nodeCurtailOf_of_full {q : Req} {s : State} (hdir : q.w 1 ≤ 1) (hcap : q.w 0 ≠ 0xFFFFFFFF)
    (hnew : (afterSnapshot s).curtailOf q.idx (q.w 1) = none) (hfull : 64 ≤ (afterSnapshot s).cal.curtails.length) :
    nodeCurtailOf q s = rej 0x0501 (afterSnapshot s) := by
  simp only [nodeCurtailOf, Nat.not_lt.2 hdir, hcap, hnew, hfull, Option.isNone_none, and_self, if_false, if_true]

/-- A new curtailment of a node with grant 0 is below no grant, so that no block held ahead is discarded (Table 5-3). -/
theorem nodeCurtailOf_of_idle_node {q : Req} {s : State} (hdir : q.w 1 ≤ 1) (hcap : q.w 0 ≠ 0xFFFFFFFF)
    (hnew : (afterSnapshot s).curtailOf q.idx (q.w 1) = none) (hroom : (afterSnapshot s).cal.curtails.length < 64)
    (hlasting : q.w 2 = 0) (hidle : (afterSnapshot s).grantOf q.idx = 0) :
    nodeCurtailOf q s = .done 0 (curtailShown none) (curtailed q.idx (q.w 1) (q.w 0) (afterSnapshot s)) := by
  have habove : ¬ ((q.w 0 : Int) < 0) := Int.not_lt.2 (Int.natCast_nonneg _)
  simp only [nodeCurtailOf, Nat.not_lt.2 hdir, hcap, hnew, Nat.not_le.2 hroom, hlasting, hidle, Int.neg_zero, habove,
    and_false, decide_false, ite_self, Bool.or_self, Bool.false_eq_true, if_true, if_false]
  rfl

end Sys2Proof.Machine

open Sys2Proof Sys2Proof.Machine

/-- Settles O28: each case of `treeCases` is the lemma about its command's reply, whose hypotheses the case's condition
gives. -/
theorem treeCommandsAnswer : Obligations.TreeCommandsAnswer := by
  unfold Obligations.TreeCommandsAnswer treeCases
  repeat rw [List.forall_mem_cons]
  refine ⟨?readRunning, ?readOverlaid, ?readBadOffset, ?state, ?add, ?addRsvd, ?addFull, ?remove, ?removeParent, ?set,
    ?setBadOffset, ?move, ?moveUp, ?checkRunning, ?checkOverlaid, ?list, ?curtail, ?curtailEnd, ?curtailBadDirection,
    ?curtailFull, List.forall_mem_nil _⟩ <;>
    refine Case.holds_mk (fun _ _ => rfl) fun q s h => ?_
  case readRunning =>
    simp only [Bool.and_eq_true, Bool.not_eq_true', decide_eq_true_eq] at h
    obtain ⟨hoffset, hview⟩ := h
    exact (nodeReadOf_of_offset s hoffset).trans (by rw [hview]; rfl)
  case readOverlaid =>
    simp only [Bool.and_eq_true, decide_eq_true_eq] at h
    obtain ⟨hoffset, hview⟩ := h
    exact (nodeReadOf_of_offset s hoffset).trans (by rw [hview]; rfl)
  case readBadOffset => exact nodeReadOf_of_bad_offset s (of_decide_eq_true h)
  case state =>
    simp only [Bool.and_eq_true, Bool.not_eq_true'] at h
    obtain ⟨⟨htherm, hfield⟩, hretired⟩ := h
    exact nodeStateOf_of_plain htherm hfield hretired
  case add =>
    simp only [Bool.and_eq_true, Bool.not_eq_true', decide_eq_true_eq] at h
    obtain ⟨⟨⟨⟨hrsvd, hcount⟩, hnew, hown⟩, hrange⟩, hroom⟩ := h
    exact nodeAddOf_of_sound ⟨hrsvd, hown, hrange⟩ hcount hnew hroom
  case addRsvd => exact nodeAddOf_of_rsvd s h
  case addFull =>
    simp only [Bool.and_eq_true, Bool.not_eq_true', decide_eq_true_eq] at h
    obtain ⟨hrsvd, hfull⟩ := h
    exact nodeAddOf_of_full hrsvd hfull
  case remove =>
    obtain ⟨hleaf, hroom⟩ := of_decide_eq_true h
    exact nodeRemoveOf_of_leaf hleaf hroom
  case removeParent => exact nodeRemoveOf_of_children (of_decide_eq_true h)
  case set =>
    simp only [Bool.and_eq_true, Bool.not_eq_true', decide_eq_true_eq] at h
    obtain ⟨⟨⟨⟨⟨haligned, hpast, hsome, hfew, hinside, hgiven⟩, hrsvd⟩, hown⟩, hrange⟩, hroom⟩ := h
    exact nodeSetOf_of_sound ⟨haligned, hpast, hsome, hfew, hinside, hgiven⟩ ⟨hrsvd, hown, hrange⟩ hroom
  case setBadOffset => exact nodeSetOf_of_bad_offset s (of_decide_eq_true h)
  case move =>
    obtain ⟨hlower, hnode, hroom⟩ := of_decide_eq_true h
    exact nodeMoveOf_of_lower hlower hnode hroom
  case moveUp =>
    obtain ⟨hroot, hnot, hnode⟩ := of_decide_eq_true h
    exact nodeMoveOf_of_not_lower s hroot hnot hnode
  case checkRunning =>
    simp only [Bool.and_eq_true, Bool.not_eq_true', decide_eq_true_eq] at h
    obtain ⟨hview, hsound⟩ := h
    exact (treeCheckOf_running hview).trans (by rw [hsound]; rfl)
  case checkOverlaid =>
    simp only [Bool.and_eq_true] at h
    obtain ⟨hview, hfault⟩ := h
    obtain ⟨f, hf⟩ := Option.isSome_iff_exists.1 hfault
    refine (treeCheckOf_overlaid hview).trans ?_
    simp only [hf, Option.getD_some]
    rfl
  case list => rfl
  case curtail =>
    obtain ⟨hdir, hcap, hnew, hroom, hlasting, hidle⟩ := of_decide_eq_true h
    exact nodeCurtailOf_of_idle_node hdir hcap hnew hroom hlasting hidle
  case curtailEnd =>
    obtain ⟨hdir, hrelease, hnot⟩ := of_decide_eq_true h
    exact (nodeCurtailOf_of_release s hdir hrelease).trans
      (by rw [afterSnapshot_of_not_due (by simpa using hnot)]; rfl)
  case curtailBadDirection => exact nodeCurtailOf_of_bad_direction s (of_decide_eq_true h)
  case curtailFull =>
    obtain ⟨hdir, hcap, hnew, hfull⟩ := of_decide_eq_true h
    exact nodeCurtailOf_of_full hdir hcap hnew hfull

end

section
/-! The host commands of legal metrology (Table 11-11): what each replies in each of its cases. -/

namespace Sys2Proof.Machine

/-! ### METRO_STATUS, METRO_READ and METRO_READ_RESET (R282, R283) -/

theorem metroStatusOf_of_no_kind {q : Req} {s : State} (h : s.ptKind q.idx = 0) :
    metroStatusOf q s = .done 0 (res []) s := if_pos h

/-- What METRO_STATUS shows of a DC point. -/
def dcShown (p : Nat) (s : State) : Res :=
  res [(0, 1, 1), (1, 1, bit (s.point p).faulted
      + 2 * bit (s.metro.records.any fun r => decide (r.point = p ∧ r.stage = 1))
      + 4 * bit ((s.point p).regs.any fun r => r.2.lost) + 8 * bit (s.point p).exporting + 16 * bit (s.ptComp p)),
    (2, 2, sat 16 (s.point p).revInt), (4, 2, ((s.point p).volts * 10).floor), (6, 2, (s.point p).freq),
    (8, 4, rneInt ((s.point p).amps * 1000)), (12, 4, rneInt (s.point p).power)]

theorem metroStatusOf_of_dc {q : Req} {s : State} (h : s.ptKind q.idx = 1) :
    metroStatusOf q s = .done 0 (dcShown q.idx s) s := by
  simp only [metroStatusOf, h, OfNat.one_ne_ofNat, one_ne_zero, if_false]
  rfl

theorem metroReadOf_of_register {q : Req} {s : State} (h : q.w 0 < s.regCount q.idx) :
    metroReadOf q s = .live false [] s := if_neg (Nat.not_le.2 h)

theorem metroReadOf_beyond_registers {q : Req} {s : State} (h : s.regCount q.idx ≤ q.w 0) :
    metroReadOf q s = rej 0x0108 s := if_pos h

theorem metroReadResetOf_of_free_point {q : Req} {s : State} (hkind : s.ptKind q.idx ≠ 0)
    (hfree : s.pointRec q.idx = none) : metroReadResetOf q s = .live false [] s := if_neg (by simp [hkind, hfree])

theorem metroReadResetOf_of_taken_point {q : Req} {s : State}
    (h : s.ptKind q.idx = 0 ∨ (s.pointRec q.idx).isSome = true) : metroReadResetOf q s = rej 0x0301 s := if_pos h

/-! ### METRO_CAPTURE_READ (R282) -/

theorem metroCaptureReadOf_header {q : Req} {s : State} {c : Capture} (hcapture : (s.point q.idx).capture = some c)
    (hword : q.w 0 = 6) :
    metroCaptureReadOf q s = .done 0 (res [(0, 8, c.time), (8, 4, c.reversals), (12, 4, c.number)]) s := by
  simp only [metroCaptureReadOf, hcapture, hword, ne_eq, not_true_eq_false, false_and, if_false, if_true, reads]

theorem metroCaptureReadOf_register {q : Req} {s : State} {c : Capture} (hcapture : (s.point q.idx).capture = some c)
    (hregister : q.w 0 < s.regCount q.idx) (hword : q.w 0 ≠ 6) :
    metroCaptureReadOf q s = .done 0 (regRes (c.regs.getD (q.w 0) {})) s := by
  simp only [metroCaptureReadOf, hcapture, Nat.not_le.2 hregister, hword, and_false, if_false]

theorem metroCaptureReadOf_without_capture {q : Req} {s : State} (hcapture : (s.point q.idx).capture = none)
    (hregister : q.w 0 < s.regCount q.idx) : metroCaptureReadOf q s = rej 0x0391 s := by
  simp only [metroCaptureReadOf, hcapture, Nat.not_le.2 hregister, and_false, if_false]

/-! ### METER_RECORD_READ and METER_RECORD_ACK (R285) -/

/-- The state in which METER_RECORD_READ looks for record `recno`: one whose check fails as it is read is marked first
(R453, Table 19-5). -/
def recordLooked (recno : Nat) (q : Req) (s : State) : State := if q.mram then markDamaged recno q.idx s else s

theorem meterRecordReadOf_words_stored {q : Req} {s : State} {r : MRecord} (hbuf : q.buf = none)
    (hoffset : q.w 1 % 16 = 0 ∧ q.w 1 ≤ 2736) (hstored : (recordLooked (q.w 0) q s).stored (q.w 0) q.idx = some r) :
    meterRecordReadOf q s = .done 0 (resBytes ((((recordLooked (q.w 0) q s).recBytes r).drop (q.w 1)).take 16))
      (recordLooked (q.w 0) q s) := by
  have hin : ¬(q.w 1 % 16 ≠ 0 ∨ 2736 < q.w 1) := by omega
  unfold recordLooked at hstored ⊢
  simp only [meterRecordReadOf, hbuf, Option.isSome_none, Bool.false_eq_true, if_false, hin, hstored]

theorem meterRecordReadOf_words_missing {q : Req} {s : State} (hbuf : q.buf = none)
    (hoffset : q.w 1 % 16 = 0 ∧ q.w 1 ≤ 2736) (hstored : (recordLooked (q.w 0) q s).stored (q.w 0) q.idx = none) :
    meterRecordReadOf q s = rej 0x0390 (recordLooked (q.w 0) q s) := by
  have hin : ¬(q.w 1 % 16 ≠ 0 ∨ 2736 < q.w 1) := by omega
  unfold recordLooked at hstored ⊢
  simp only [meterRecordReadOf, hbuf, Option.isSome_none, Bool.false_eq_true, if_false, hin, hstored]

/-- The reply of a command that wrote its buffer, or could not (R42). -/
def afterWrite (r : Res) (s : State) : Except Nat State → Reply
  | .error status => rej status s
  | .ok t => .done 0 r t

theorem intoBuffer_eq_afterWrite (q : Req) (data : List Byte) (r : Res) (s : State) :
    intoBuffer q data r s = afterWrite r s (writeBuf q data s) := by
  unfold intoBuffer writeBuf
  cases q.buf with
  | none => rfl
  | some b =>
    simp only [apply_ite (afterWrite r s)]
    rfl

/-- Into a buffer the whole record goes, as far as R42 lets it. -/
theorem meterRecordReadOf_buffer_stored {q : Req} {s : State} {r : MRecord} (hbuf : q.buf.isSome = true)
    (hstored : (recordLooked (q.w 4) q s).stored (q.w 4) q.idx = some r) :
    meterRecordReadOf q s = intoBuffer q ((recordLooked (q.w 4) q s).recBytes r)
      (res [(0, 4, ((recordLooked (q.w 4) q s).recBytes r).length), (4, 2, r.flags.toNat)]) (recordLooked (q.w 4) q s) := by
  rw [intoBuffer_eq_afterWrite]
  unfold recordLooked at hstored ⊢
  simp only [meterRecordReadOf, hbuf, if_true, hstored]
  rfl

theorem meterRecordReadOf_buffer_missing {q : Req} {s : State} (hbuf : q.buf.isSome = true)
    (hstored : (recordLooked (q.w 4) q s).stored (q.w 4) q.idx = none) :
    meterRecordReadOf q s = rej 0x0390 (recordLooked (q.w 4) q s) := by
  unfold recordLooked at hstored ⊢
  simp only [meterRecordReadOf, hbuf, if_true, hstored]

/-- The state with a stored record let go. -/
def recordAcked (recno p : Nat) (s : State) : State :=
  recFreed { s with metro := { s.metro with
    records := s.metro.records.filter fun r => decide (¬ (r.recno = recno ∧ r.point = p ∧ r.stage = 3)) } }

theorem meterRecordAckOf_of_stored {q : Req} {s : State} (h : (s.stored (q.w 0) q.idx).isSome = true) :
    meterRecordAckOf q s =
      .done 0 (res [(0, 2, (recordAcked (q.w 0) q.idx s).recFree)]) (recordAcked (q.w 0) q.idx s) := by
  obtain ⟨r, hr⟩ := Option.isSome_iff_exists.1 h
  simp only [meterRecordAckOf, hr, recordAcked]

theorem meterRecordAckOf_of_missing {q : Req} {s : State} (h : s.stored (q.w 0) q.idx = none) :
    meterRecordAckOf q s = rej 0x0390 s := by
  simp only [meterRecordAckOf, h]

/-! ### METRO_CONFIG_SET and METRO_SEAL (R73, R293) -/

/-- Only a GSL-9648-M, grade 1, refuses the L fields for a seal. -/
theorem metroConfigSetOf_of_other_grade (q : Req) {s : State} (h : s.boot.grade ≠ 1) :
    metroConfigSetOf q s = configSet 6 0 1372 q s := if_neg fun hsealed => h hsealed.1

theorem metroSealOf_of_other_grade (q : Req) {s : State} (h : s.boot.grade ≠ 1) : metroSealOf q s = rej 0x0301 s :=
  if_pos h

theorem metroSealOf_of_sealed (q : Req) {s : State} (hgrade : s.boot.grade = 1) (hsealed : s.metro.sealed.isSome = true) :
    metroSealOf q s = rej 0x0901 (s.jotSealed 0x0901 0x0808 (handle 0 0)) :=
  (if_neg (not_not_intro hgrade)).trans (if_pos hsealed)

/-- Nothing stands against a seal: no record is open, no change of the block is pending, and no tick is announced. -/
structure State.SealFree (s : State) : Prop where
  unsealed : s.metro.sealed = none
  closed : (s.metro.records.any fun r => decide (r.stage = 1)) = false
  settled : s.metroPending = false
  phase : s.ep.phase ≠ 3

theorem metroSealOf_of_free (q : Req) {s : State} (hgrade : s.boot.grade = 1) (h : s.SealFree) :
    metroSealOf q s = .done 0 ((Config.sha3 (legalSet (s.blk 6))).setWidth 128)
      { s with metro := { s.metro with sealed := some (legalSet (s.blk 6), s.running.legal) } } := by
  obtain ⟨hunsealed, hclosed, hsettled, hphase⟩ := h
  simp only [metroSealOf, hgrade, hunsealed, hclosed, hsettled, hphase, ne_eq, not_true_eq_false, Option.isSome_none,
    Bool.false_eq_true, or_self, if_false]

/-! ### METRO_SAVE_STATUS, METRO_GAP_READ and METRO_STROBE_READ -/

theorem metroSaveStatusOf_of_save (q : Req) {s : State} {v : Save} {b : Bool} (h : s.newestSave = some (v, b)) :
    metroSaveStatusOf q s = .done 0 (res [(0, 4, v.generation), (4, 8, v.time), (12, 1, bit b), (13, 1, v.reason),
      (14, 2, sat 16 s.metro.skipped)]) s := by
  simp only [metroSaveStatusOf, h, reads]

theorem metroSaveStatusOf_without_save (q : Req) {s : State} (h : s.newestSave = none) :
    metroSaveStatusOf q s = .done 0 (res [(14, 2, sat 16 s.metro.skipped)]) s := by
  simp only [metroSaveStatusOf, h, reads]

theorem metroGapReadOf_of_gap {q : Req} {s : State} (h : q.w 0 < (s.point q.idx).gaps.length) :
    metroGapReadOf q s = .done 0 (res [(0, 8, ((s.point q.idx).gaps.getD (q.w 0) (0, none)).1),
      (8, 8, ((((s.point q.idx).gaps.getD (q.w 0) (0, none)).2.getD 0xFFFFFFFFFFFFFFFF : Nat) : Int))]) s := by
  simp only [metroGapReadOf, List.getElem?_eq_getElem h, List.getD_eq_getElem _ _ h, reads]

theorem metroGapReadOf_beyond_list {q : Req} {s : State} (h : (s.point q.idx).gaps.length ≤ q.w 0) :
    metroGapReadOf q s = rej 0x0108 s := by
  simp only [metroGapReadOf, List.getElem?_eq_none h]

theorem metroStrobeReadOf_of_strobe {q : Req} {s : State} {t : Nat} {v i : Rat}
    (h : (s.point q.idx).strobe = some (t, v, i)) :
    metroStrobeReadOf q s = .done 0 (res [(0, 8, t), (8, 4, (v * 100).floor), (12, 4, rneInt (i * 1000))]) s := by
  simp only [metroStrobeReadOf, h, reads]

theorem metroStrobeReadOf_without_strobe {q : Req} {s : State} (h : (s.point q.idx).strobe = none) :
    metroStrobeReadOf q s = .done 0 (res []) s := by
  simp only [metroStrobeReadOf, h, reads]

end Sys2Proof.Machine

open Sys2Proof Sys2Proof.Machine

/-- Settles O35: each case of `meterCases` is the lemma about its command's reply, whose hypotheses the case's condition
gives. -/
theorem metrologyCommandsAnswer : Obligations.MetrologyCommandsAnswer := by
  unfold Obligations.MetrologyCommandsAnswer meterCases
  repeat rw [List.forall_mem_cons]
  refine ⟨?statusNoKind, ?statusDc, ?read, ?readBeyond, ?reset, ?resetTaken, ?captureHeader, ?captureRegister, ?noCapture,
    ?list, ?words, ?wordsMissing, ?buffer, ?bufferMissing, ?wordsDamaged, ?ack, ?ackMissing, ?config, ?sealing, ?sealGrade,
    ?sealAgain, ?save, ?noSave, ?gap, ?gapBeyond, ?strobe, ?noStrobe, List.forall_mem_nil _⟩ <;>
    refine Case.holds_mk (fun _ _ => rfl) fun q s h => ?_
  case statusNoKind => exact metroStatusOf_of_no_kind (of_decide_eq_true h)
  case statusDc => exact metroStatusOf_of_dc (of_decide_eq_true h)
  case read => exact metroReadOf_of_register (of_decide_eq_true h)
  case readBeyond => exact metroReadOf_beyond_registers (of_decide_eq_true h)
  case reset =>
    obtain ⟨hkind, hfree⟩ := of_decide_eq_true h
    exact metroReadResetOf_of_free_point hkind hfree
  case resetTaken =>
    simp only [Bool.or_eq_true, decide_eq_true_eq] at h
    exact metroReadResetOf_of_taken_point h
  case captureHeader =>
    simp only [Bool.and_eq_true, decide_eq_true_eq] at h
    obtain ⟨hword, hcapture⟩ := h
    obtain ⟨c, hc⟩ := Option.isSome_iff_exists.1 hcapture
    simp only [metroCaptureReadOf_header hc hword, hc, Option.map_some, Option.getD_some]
  case captureRegister =>
    simp only [Bool.and_eq_true, decide_eq_true_eq] at h
    obtain ⟨⟨hregister, hword⟩, hcapture⟩ := h
    obtain ⟨c, hc⟩ := Option.isSome_iff_exists.1 hcapture
    simp only [metroCaptureReadOf_register hc hregister hword, hc, Option.map_some, Option.getD_some]
  case noCapture =>
    obtain ⟨hregister, hcapture⟩ := of_decide_eq_true h
    exact metroCaptureReadOf_without_capture hcapture hregister
  case list => rfl
  case words =>
    simp only [Bool.and_eq_true, Bool.not_eq_true', decide_eq_true_eq] at h
    obtain ⟨⟨⟨hbuf, hoffset⟩, hsound⟩, hstored⟩ := h
    obtain ⟨r, hr⟩ := Option.isSome_iff_exists.1 hstored
    have hlooked : recordLooked (q.w 0) q s = s := if_neg (by simp [hsound])
    simp only [meterRecordReadOf_words_stored (r := r) hbuf hoffset (by rw [hlooked, hr]), hlooked, hr]
  case wordsMissing =>
    simp only [Bool.and_eq_true, Bool.not_eq_true', decide_eq_true_eq] at h
    obtain ⟨⟨hbuf, haligned, hin, hstored⟩, hsound⟩ := h
    have hlooked : recordLooked (q.w 0) q s = s := if_neg (by simp [hsound])
    rw [meterRecordReadOf_words_missing hbuf ⟨haligned, hin⟩ (by rw [hlooked, hstored]), hlooked, rej]
  case buffer =>
    simp only [Bool.and_eq_true, Bool.not_eq_true'] at h
    obtain ⟨⟨hbuf, hsound⟩, hstored⟩ := h
    obtain ⟨r, hr⟩ := Option.isSome_iff_exists.1 hstored
    have hlooked : recordLooked (q.w 4) q s = s := if_neg (by simp [hsound])
    simp only [meterRecordReadOf_buffer_stored (r := r) hbuf (by rw [hlooked, hr]), hlooked, hr]
  case bufferMissing =>
    simp only [Bool.and_eq_true, Bool.not_eq_true', decide_eq_true_eq] at h
    obtain ⟨⟨hbuf, hsound⟩, hstored⟩ := h
    have hlooked : recordLooked (q.w 4) q s = s := if_neg (by simp [hsound])
    rw [meterRecordReadOf_buffer_missing hbuf (by rw [hlooked, hstored]), hlooked, rej]
  case wordsDamaged =>
    simp only [Bool.and_eq_true, decide_eq_true_eq] at h
    obtain ⟨⟨⟨hbuf, hoffset⟩, hdamaged⟩, hstored⟩ := h
    obtain ⟨r, hr⟩ := Option.isSome_iff_exists.1 hstored
    have hlooked : recordLooked (q.w 0) q s = markDamaged (q.w 0) q.idx s := if_pos hdamaged
    simp only [meterRecordReadOf_words_stored (r := r) hbuf hoffset (by rw [hlooked, hr]), hlooked, hr]
  case ack => exact meterRecordAckOf_of_stored h
  case ackMissing => exact meterRecordAckOf_of_missing (of_decide_eq_true h)
  case config =>
    simp only [Bool.and_eq_true, decide_eq_true_eq] at h
    obtain ⟨hgrade, hfits⟩ := h
    exact (metroConfigSetOf_of_other_grade q hgrade).trans (configSet_fits hfits)
  case sealing =>
    simp only [Bool.and_eq_true, Bool.not_eq_true', decide_eq_true_eq] at h
    obtain ⟨⟨⟨hgrade, hunsealed, hphase⟩, hclosed⟩, hsettled⟩ := h
    exact metroSealOf_of_free q hgrade ⟨hunsealed, hclosed, hsettled, hphase⟩
  case sealGrade => exact metroSealOf_of_other_grade q (of_decide_eq_true h)
  case sealAgain =>
    simp only [Bool.and_eq_true, decide_eq_true_eq] at h
    obtain ⟨hgrade, hsealed⟩ := h
    exact metroSealOf_of_sealed q hgrade hsealed
  case save =>
    obtain ⟨⟨v, b⟩, hsave⟩ := Option.isSome_iff_exists.1 h
    simp only [metroSaveStatusOf_of_save q hsave, hsave, Option.map_some, Option.getD_some]
  case noSave => exact metroSaveStatusOf_without_save q (of_decide_eq_true h)
  case gap => exact metroGapReadOf_of_gap (of_decide_eq_true h)
  case gapBeyond => exact metroGapReadOf_beyond_list (of_decide_eq_true h)
  case strobe =>
    obtain ⟨⟨t, v, i⟩, hstrobe⟩ := Option.isSome_iff_exists.1 h
    simp only [metroStrobeReadOf_of_strobe hstrobe, hstrobe, Option.map_some, Option.getD_some]
  case noStrobe => exact metroStrobeReadOf_without_strobe (of_decide_eq_true h)

end

section
/-! The events of the field bus: what each does where its condition holds, and where it changes nothing. -/

namespace Sys2Proof.Machine

/-! ### HB_CTRL_SEND (R360) -/

/-- A heartbeat of the controller is due: at each multiple of 100 ms of valid site time, otherwise at first and 100 ms after
the last. -/
def State.beatDue (s : State) : Prop :=
  if s.clk.timeValid then s.clk.tai % 100000 = 0 else s.field.beat = none ∨ s.past s.field.beat 100000 = true

theorem execHbCtrlSend_of_due {s : State} (hpowered : s.power.domains.getLsbD 9 = true)
    (hnew : s.field.beat ≠ some s.now) (hdue : s.beatDue) : execHbCtrlSend s = .next (sendBeat s) :=
  (if_neg (by simp [hpowered, hnew])).trans (if_pos hdue)

theorem execHbCtrlSend_of_unpowered {s : State} (h : s.power.domains.getLsbD 9 = false) :
    execHbCtrlSend s = .next s := if_pos (.inl h)

/-! ### HB_NODE and NODE_ABSENT (R361) -/

/-- A new beat of a node that is neither a duplicate nor retired, and not one sent before the tick, is judged; `t` is the
state with the beat's frame counted. -/
theorem execHbNode_of_new {n : Nat} {hb : NodeBeat} {s t : State} (hport : s.carries hb.port n = true)
    (hcheck : hb.checkOk = true) (ht : countFrame hb.port (nodeIdent 3 0x11 (n % 32)) 48 true s = t)
    (hsingle : (t.fnode n).duplicate = false) (hnew : (t.fnode n).beatSeq ≠ some hb.seq) (hlive : (t.fnode n).state ≠ 3)
    (hafter : (beatSeen n hb t).beforeTick n hb = false) :
    execHbNode n hb s = .next (judgeBeat n hb { beatSeen n hb t with
      ep := { (beatSeen n hb t).ep with before := adel (beatSeen n hb t).ep.before n } }) := by
  simp only [execHbNode, hport, hcheck, ht, hsingle, hnew, hlive, hafter, Bool.true_eq_false, Bool.false_eq_true, or_self,
    if_false]

theorem execHbNode_of_bad_check {n : Nat} {hb : NodeBeat} {s : State} (hport : s.carries hb.port n = true)
    (hcheck : hb.checkOk = false) : execHbNode n hb s = .next (countFrame hb.port (nodeIdent 3 0x11 (n % 32)) 48 false s) := by
  simp only [execHbNode, hport, hcheck, Bool.true_eq_false, true_or, if_true, if_false]

theorem execHbNode_of_other_port {n : Nat} {hb : NodeBeat} {s : State} (h : s.carries hb.port n = false) :
    execHbNode n hb s = .next s := if_pos h

theorem execNodeAbsent_of_silence {n : Nat} {s : State} (hknown : (aget s.ep.cfg.fields n).isSome = true)
    (hsilent : s.after (s.fnode n).lastBeat (1000 * fld (s.fbody n) 6 2) = true) :
    execNodeAbsent n s = .next (nodeGone n 1 (afterSnapshot s)) := if_pos ⟨hknown, hsilent⟩

theorem execNodeAbsent_of_unknown {n : Nat} {s : State} (h : aget s.ep.cfg.fields n = none) :
    execNodeAbsent n s = .next s := if_neg (by simp [h])

/-! ### REPORT (R362) -/

/-- A new report passes its queue to firmware, and asks for the tree node `k` that is bound to its field node;
`t` is the state with the report's frame counted. -/
theorem execNodeReport_of_new {n k : Nat} {r : NodeReport} {s t : State} (hport : s.carries r.port n = true)
    (hcheck : r.checkOk = true) (ht : countFrame r.port (nodeIdent 3 0x12 (n % 32)) 48 true s = t)
    (hlive : (t.fnode n).state ≠ 3) (hsingle : (t.fnode n).duplicate = false)
    (hnew : (t.fnode n).reportSeq ≠ some r.seq)
    (hpass : passes (44 + r.port / 4) [(n : Int)] (reportSeen n r s) = true)
    (hbound : (passed (44 + r.port / 4) [(n : Int)] (reportSeen n r s)).boundTo n = some k) :
    execNodeReport n r s = .next (postRequest k r.demand r.offer (min r.firm r.offer)
      (passed (44 + r.port / 4) [(n : Int)] (reportSeen n r s))) := by
  rw [reportSeen, ht] at hpass hbound ⊢
  simp only [execNodeReport, hport, hcheck, ht, hlive, hsingle, hnew, Bool.true_eq_false, Bool.false_eq_true, or_self,
    if_false]
  rw [via_passes hpass, hbound]

theorem execNodeReport_of_bad_check {n : Nat} {r : NodeReport} {s : State} (hport : s.carries r.port n = true)
    (hcheck : r.checkOk = false) : execNodeReport n r s = .next (countFrame r.port (nodeIdent 3 0x12 (n % 32)) 48 false s) := by
  simp only [execNodeReport, hport, hcheck, Bool.true_eq_false, true_or, if_true, if_false]

/-! ### STAGE_RESULT (R88, R364) -/

/-- The state with a node's answer to the stage kept, which completes the stage where no answer is left out. -/
def answered (n a : Nat) (s : State) : State :=
  let t : State := { s with ep := { s.ep with answers := aset s.ep.answers n a } }
  if t.stageCount 0 = 0 then stageDone t else t

/-- An answer that counts: 1 for a confirmed configuration, 2 for any other. -/
theorem execStageResult_of_counts {n : Nat} {h : FieldHead} {s : State} (result : Nat) (digest : Digest)
    (hcounts : resultCounts n h s = true) : execStageResult n result digest s h =
      .next (answered n (if decide (result = 0 ∧ digest = (resultHeard n h s).ep.staged.own 3 n) then 1 else 2)
        (resultHeard n h s)) := by
  simp only [resultCounts, Bool.and_eq_true, Bool.not_eq_true', decide_eq_true_eq] at hcounts
  obtain ⟨⟨⟨hreach, hcheck⟩, hsingle⟩, hnew, hstage, hasked⟩ := hcounts
  simp only [execStageResult, hreach, hcheck, Bool.true_eq_false, if_false, false_or]
  rw [if_neg (not_or.2 ⟨by simp [hsingle], hnew⟩)]
  exact congrArg Host.Outcome.next (if_pos ⟨hstage, hasked⟩)

theorem execStageResult_of_unreached {n : Nat} {h : FieldHead} {s : State} (result : Nat) (digest : Digest)
    (hreach : s.reachesNode h.port n = false) : execStageResult n result digest s h = .next s := if_pos hreach

/-! ### COMMIT_ACK and COMMIT_ANNOUNCE_RESEND (R364) -/

/-- An acknowledgement answers the announced commit: of its epoch, by a node that confirmed the stage, and the first. -/
structure State.AckCounts (s : State) (n : Nat) (epoch : Word) : Prop where
  announced : s.ep.phase = 3
  number : epoch = s.ep.number + 1
  confirmed : aget s.ep.answers n = some 1
  first : ¬ s.ep.acked.contains n

theorem execCommitAck_of_new {n : Nat} {h : FieldHead} {s : State} (op : Nat) (epoch : Word)
    (hnew : ackNew n h s = true) : execCommitAck n op epoch s h =
      if (ackHeard n h s).ep.phase = 3 ∧ op = 1 ∧ epoch = (ackHeard n h s).ep.number + 1 ∧
          aget (ackHeard n h s).ep.answers n = some 1 ∧ ¬ (ackHeard n h s).ep.acked.contains n then
        .next { ackHeard n h s with ep := { (ackHeard n h s).ep with acked := (ackHeard n h s).ep.acked ++ [n] } }
      else .next (ackHeard n h s) := by
  simp only [ackNew, Bool.and_eq_true, Bool.not_eq_true', decide_eq_true_eq] at hnew
  obtain ⟨⟨⟨hreach, hcheck⟩, hsingle⟩, hseq⟩ := hnew
  simp only [execCommitAck, hreach, hcheck, Bool.true_eq_false, if_false, false_or]
  exact if_neg (not_or.2 ⟨by simp [hsingle], hseq⟩)

theorem execCommitAck_of_counts {n : Nat} {h : FieldHead} {s : State} {epoch : Word} (hnew : ackNew n h s = true)
    (hcounts : (ackHeard n h s).AckCounts n epoch) : execCommitAck n 1 epoch s h =
      .next { ackHeard n h s with ep := { (ackHeard n h s).ep with acked := (ackHeard n h s).ep.acked ++ [n] } } := by
  obtain ⟨hannounced, hnumber, hconfirmed, hfirst⟩ := hcounts
  rw [execCommitAck_of_new 1 epoch hnew, if_pos ⟨hannounced, rfl, hnumber, hconfirmed, hfirst⟩]

theorem execCommitAck_of_unannounced {n : Nat} {h : FieldHead} {s : State} (op : Nat) (epoch : Word)
    (hnew : ackNew n h s = true) (hphase : (ackHeard n h s).ep.phase ≠ 3) :
    execCommitAck n op epoch s h = .next (ackHeard n h s) := by
  rw [execCommitAck_of_new op epoch hnew, if_neg fun hcounts => hphase hcounts.1]

theorem execCommitAnnounceResend_of_due {s : State} (hphase : s.ep.phase = 3)
    (hdue : s.after s.ep.announceAt 10000 = true) : execCommitAnnounceResend s = .next (sendAnnounce s) :=
  if_pos ⟨hphase, hdue⟩

theorem execCommitAnnounceResend_of_not_due {s : State} (h : s.ep.phase ≠ 3 ∨ s.after s.ep.announceAt 10000 = false) :
    execCommitAnnounceResend s = .next s :=
  if_neg fun hdue => h.elim (fun hphase => hphase hdue.1) (fun hearly => Bool.false_ne_true (hearly.symm.trans hdue.2))

/-! ### CAN_BUS_ERROR, BUS_OFF_RECOVERED and PORT_REJOIN (R347, R349) -/

/-- An error before the end of arbitration moves the port's counters and its error state. -/
theorem execCanBusError_of_on_bus {p : Nat} {e : CanError} {s : State} (hhears : s.portHears p = true)
    (harbitration : e.afterArbitration = false) (hmode : (s.port p).state ≠ 4)
    (hon : errorState e.txErrors e.rxErrors ≠ 3) : execCanBusError p e s =
      .next (commitPortResets p (s.setPort p { s.port p with
        txErrors := e.txErrors, rxErrors := e.rxErrors, errors := bump32 (s.port p).errors,
        state := errorState e.txErrors e.rxErrors })) := by
  simp [execCanBusError, hhears, harbitration, hmode, hon]

theorem execCanBusError_of_bus_off {p : Nat} {e : CanError} {s : State} (hhears : s.portHears p = true)
    (harbitration : e.afterArbitration = false) (hmode : (s.port p).state ≠ 4)
    (hoff : errorState e.txErrors e.rxErrors = 3) : execCanBusError p e s =
      .next (busOff p (s.setPort p { s.port p with
        txErrors := e.txErrors, rxErrors := e.rxErrors, errors := bump32 (s.port p).errors })) := by
  simp [execCanBusError, hhears, harbitration, hmode, hoff]

theorem execBusOffRecovered_of_over {p : Nat} {s : State} (hoff : (s.port p).state = 3)
    (hreset : (s.port p).resetting = false) (hover : s.after (s.port p).offAt (s.busOffTime p) = true) :
    execBusOffRecovered p s = .next (s.setPort p { s.port p with state := 1, txErrors := 0, rxErrors := 0 }) :=
  if_pos ⟨hoff, hreset, hover⟩

theorem execBusOffRecovered_of_not_over {p : Nat} {s : State}
    (h : (s.port p).state ≠ 3 ∨ s.after (s.port p).offAt (s.busOffTime p) = false) : execBusOffRecovered p s = .next s :=
  if_neg fun hover => h.elim (fun hon => hon hover.1) (fun hearly => Bool.false_ne_true (hearly.symm.trans hover.2.2))

/-- The port is on the bus again, its reset over. -/
def rejoined (p : Nat) (s : State) : State := s.setPort p { s.port p with resetting := false, state := 1 }

/-- A port that runs the profile, MODE 1, comes back error-active, and its RESET completes. -/
theorem execPortRejoin_of_reset {p : Nat} {s : State} (hreset : (s.port p).resetting = true)
    (hfit : (s.port p).state ≠ 5) (hmode : s.portMode p = 1) : execPortRejoin p s =
      .next (overL (((rejoined p s).liveOn 0x0104 (handle 10 p)).filter (·.committed)) (fun l t => t.finish l 0 0)
        (rejoined p s)) := by
  simp only [execPortRejoin, hreset, hfit, hmode, Bool.true_eq_false, or_self, if_false, one_ne_zero, OfNat.one_ne_ofNat]
  rfl

theorem execPortRejoin_of_no_reset {p : Nat} {s : State} (h : (s.port p).resetting = false) :
    execPortRejoin p s = .next s := if_pos (.inl h)

/-! ### DUPLICATE_QUIET_END (R354) -/

theorem execDuplicateQuietEnd_of_over {p since k : Nat} {ident : Word} {s : State}
    (hquiet : aget (s.port p).quiet (bareIdent ident) = some (since, k)) (hover : s.after since 10000000 = true)
    (hhost : isProfile (bareIdent ident) = false) : execDuplicateQuietEnd p ident s =
      .next (s.setPort p { s.port p with quiet := adel (s.port p).quiet (bareIdent ident) }) := by
  simp only [execDuplicateQuietEnd, hquiet, hover, hhost, Bool.false_eq_true, if_true, if_false]

theorem execDuplicateQuietEnd_of_running {p since k : Nat} {ident : Word} {s : State}
    (hquiet : aget (s.port p).quiet (bareIdent ident) = some (since, k)) (hrun : s.after since 10000000 = false) :
    execDuplicateQuietEnd p ident s = .next s := by
  simp only [execDuplicateQuietEnd, hquiet, hrun, Bool.false_eq_true, if_false]

/-! ### HOST_FRAME_RECEIVE and RX_HOLD_EXPIRE (R352, R355, R368) -/

/-- A port of the part that is neither retired nor off the bus hears frames. -/
structure State.TakesFrames (s : State) (p : Nat) : Prop where
  hears : s.portHears p = true
  port : p < 16
  fit : (s.port p).state ≠ 5

/-- The state with a frame put into receive object `k`. -/
def frameStored (p k : Nat) (f : CanFrame) (s : State) : State :=
  let x := storeFrame (tget (s.port p).rx k {}) f
  s.setPort p { s.port p with
    rx := tset (s.port p).rx k x.1, shadows := if x.2 then bump32 (s.port p).shadows else (s.port p).shadows }

/-- What firmware does with the news of a received frame: an event, where the object asks for one. -/
def frameNews (p k : Nat) (f : CanFrame) (wanted : Bool) (s : State) : State :=
  if wanted then s.event 11 0x00B1 (res [(0, 1, p), (1, 1, k), (2, 1, f.data.length), (4, 4, f.ident.toNat)]) else s

theorem execHostFrameReceive_of_remote {p : Nat} {f : CanFrame} {s : State} (h : s.TakesFrames p)
    (hremote : f.remote = true) : execHostFrameReceive p f s =
      .next (((frameHeard p f s).setPort p { (frameHeard p f s).port p with
        ignored := bump32 ((frameHeard p f s).port p).ignored }).note 11 (handle 10 p) [5]) := by
  obtain ⟨hhears, hport, hfit⟩ := h
  simp only [execHostFrameReceive, frameHeard, hhears, Nat.not_le.2 hport, hfit, hremote, Bool.true_eq_false, if_true,
    if_false]

theorem execHostFrameReceive_of_malformed {p : Nat} {f : CanFrame} {s : State} (h : s.TakesFrames p)
    (hdata : f.remote = false) (hbad : (frameHeard p f s).malformed p f = true) : execHostFrameReceive p f s =
      .next ((frameHeard p f s).setPort p { (frameHeard p f s).port p with
        discarded := bump32 ((frameHeard p f s).port p).discarded }) := by
  obtain ⟨hhears, hport, hfit⟩ := h
  simp only [frameHeard, hdata, Bool.false_eq_true, if_false] at hbad ⊢
  simp only [execHostFrameReceive, hhears, Nat.not_le.2 hport, hfit, hdata, hbad, Bool.true_eq_false,
    Bool.false_eq_true, if_true, if_false]

theorem execHostFrameReceive_of_no_match {p : Nat} {f : CanFrame} {s : State} (h : s.TakesFrames p)
    (hdata : f.remote = false) (hsound : (frameHeard p f s).malformed p f = false)
    (hmatch : (frameHeard p f s).rxMatch p f = none) : execHostFrameReceive p f s = .next (frameHeard p f s) := by
  obtain ⟨hhears, hport, hfit⟩ := h
  simp only [frameHeard, hdata, Bool.false_eq_true, if_false] at hsound hmatch ⊢
  simp only [execHostFrameReceive, hhears, Nat.not_le.2 hport, hfit, hdata, hsound, hmatch,
    Bool.true_eq_false, Bool.false_eq_true, if_false]

/-- The object that matches takes the frame, and firmware hears of it through the port's queue. -/
theorem execHostFrameReceive_of_match {p k : Nat} {f : CanFrame} {s : State} (h : s.TakesFrames p)
    (hdata : f.remote = false) (hsound : (frameHeard p f s).malformed p f = false)
    (hmatch : (frameHeard p f s).rxMatch p f = some k) : execHostFrameReceive p f s =
      .next ((frameStored p k f (frameHeard p f s)).via (44 + p / 4) [(p : Int), (k : Int)]
        (frameNews p k f (tget ((frameHeard p f s).port p).rx k {}).event)) := by
  obtain ⟨hhears, hport, hfit⟩ := h
  simp only [frameHeard, hdata, Bool.false_eq_true, if_false] at hsound hmatch ⊢
  simp only [execHostFrameReceive, hhears, Nat.not_le.2 hport, hfit, hdata, hsound, hmatch,
    Bool.true_eq_false, Bool.false_eq_true, if_false]
  rfl

/-- A retired port only counts the frame. -/
theorem execHostFrameReceive_of_retired {p : Nat} (f : CanFrame) {s : State} (hport : p < 16)
    (hretired : (s.port p).state = 5) : execHostFrameReceive p f s =
      .next (s.setPort p { s.port p with received := bump32 (s.port p).received }) :=
  (if_neg (Nat.not_le.2 hport)).trans (if_pos hretired)

theorem execRxHoldExpire_of_over {p k : Nat} {s : State} (h : s.past (tget (s.port p).rx k {}).heldSince 10000 = true) :
    execRxHoldExpire p k s = .next (s.setPort p { s.port p with
      rx := tset (s.port p).rx k (tget (s.port p).rx k {}).release }) := if_pos h

theorem execRxHoldExpire_of_not_over {p k : Nat} {s : State}
    (h : s.past (tget (s.port p).rx k {}).heldSince 10000 = false) : execRxHoldExpire p k s = .next s :=
  if_neg (Bool.eq_false_iff.1 h)

/-! ### CAN_TRANSMIT_DONE (R350, R353) -/

/-- The frame `x` of buffer `b` is the one that won arbitration on a port that is up, `age` µs ago (R353). -/
structure State.Sends (s : State) (p b age : Nat) (x : TxFrame) : Prop where
  up : s.portUp p = true
  port : p < 16
  begun : age ≤ s.now
  buffer : b ≤ 4
  won : winner (s.pendingAt p (s.now - age)) = some (b, x)

theorem execCanTransmitDone_of_winner {p b retrans age : Nat} {sent : Bool} {x : TxFrame} {s : State}
    (h : s.Sends p b age x) (hend : x.mayEnd sent retrans = true) :
    execCanTransmitDone p b sent retrans s age = .next (commitPortResets p (frameEnds p b x sent retrans age s)) := by
  obtain ⟨hup, hport, hbegun, hbuffer, hwon⟩ := h
  simp only [execCanTransmitDone, hup, Nat.not_le.2 hport, Nat.not_lt.2 hbegun, hwon, Nat.min_eq_left hbuffer, hend,
    ne_eq, not_true_eq_false, Bool.true_eq_false, or_self, if_false]

theorem execCanTransmitDone_of_port_down {p : Nat} (b : Nat) (sent : Bool) (retrans age : Nat) {s : State}
    (h : s.portUp p = false) : execCanTransmitDone p b sent retrans s age = .next s := if_pos (.inl h)

/-- The state with a port's retransmissions counted. -/
def retransCounted (p retrans : Nat) (s : State) : State :=
  s.setPort p { s.port p with retrans := min ((s.port p).retrans + retrans) 4294967295 }

/-- A host's frame that was sent completes its command with the retransmissions and the site time of its SOF. -/
theorem frameEnds_of_host_sent {p b : Nat} (x : TxFrame) (retrans age : Nat) (s : State) (h : b < 4) :
    frameEnds p b x true retrans age s = endHostFrame p b 0
      (res [(0, 1, retrans), (8, 8, (((frameSent p x (retransCounted p retrans s)).time - age : Nat) : Int))])
      (frameSent p x (retransCounted p retrans s)) := by
  simp only [frameEnds, retransCounted, h, if_true]

/-- A host's frame that was dropped completes its command with its retransmissions alone. -/
theorem frameEnds_of_host_dropped {p b : Nat} (x : TxFrame) (retrans age : Nat) (s : State) (h : b < 4) :
    frameEnds p b x false retrans age s =
      endHostFrame p b 0x04B0 (res [(0, 1, retrans), (8, 8, 0)]) (retransCounted p retrans s) := by
  simp only [frameEnds, retransCounted, h, Bool.false_eq_true, if_true, if_false]

/-- A frame of the port's own leaves its list. -/
theorem frameEnds_of_own_sent (p : Nat) (x : TxFrame) (retrans age : Nat) (s : State) :
    frameEnds p 4 x true retrans age s =
      (frameSent p x (retransCounted p retrans s)).setPort p { (frameSent p x (retransCounted p retrans s)).port p with
        profile := dropFirst x ((frameSent p x (retransCounted p retrans s)).port p).profile } := by
  simp only [frameEnds, retransCounted, Nat.lt_irrefl, if_true, if_false]

end Sys2Proof.Machine

open Sys2Proof Sys2Proof.Machine

/-- Settles O55: each entry of `fieldEvents` is the lemma about its event, whose hypotheses the entry's condition gives. -/
theorem fieldBusEventsTakeEffect : Obligations.FieldBusEventsTakeEffect := by
  intro n p k retrans since age hb r digest epoch ident er f x head
  unfold fieldEvents
  repeat rw [List.forall_mem_cons]
  refine ⟨?beatByTime, ?beatByUptime, ?noBeat, ?heartbeat, ?heartbeatBad, ?heartbeatElsewhere, ?absent, ?absentUnknown,
    ?report, ?reportBad, ?resultDone, ?resultRefused, ?resultUnreached, ?ack, ?ackUnannounced, ?resend, ?noResend,
    ?errorOnBus, ?errorBusOff, ?recovered, ?notRecovered, ?rejoin, ?noRejoin, ?quietOver, ?quietRuns, ?frameSilent,
    ?frameEvent, ?frameRemote, ?frameMalformed, ?frameUnmatched, ?frameRetired, ?holdOver, ?holdRuns, ?hostSent,
    ?hostDropped, ?ownSent, ?portDown, List.forall_mem_nil _⟩ <;>
    refine Event.holds_mk fun s h => ?_
  case beatByTime =>
    simp only [Bool.and_eq_true, decide_eq_true_eq] at h
    obtain ⟨⟨hpowered, hvalid⟩, hnew, hdue⟩ := h
    exact execHbCtrlSend_of_due hpowered hnew (by rw [State.beatDue, if_pos hvalid]; exact hdue)
  case beatByUptime =>
    simp only [Bool.and_eq_true, Bool.or_eq_true, Bool.not_eq_true', decide_eq_true_eq, Option.isNone_iff_eq_none] at h
    obtain ⟨⟨⟨hpowered, hvalid⟩, hnew⟩, hdue⟩ := h
    exact execHbCtrlSend_of_due hpowered hnew (by rw [State.beatDue, hvalid, if_neg Bool.false_ne_true]; exact hdue)
  case noBeat => exact execHbCtrlSend_of_unpowered (by simpa using h)
  case heartbeat =>
    simp only [Bool.and_eq_true, Bool.not_eq_true', decide_eq_true_eq] at h
    obtain ⟨⟨⟨⟨hport, hcheck⟩, hsingle⟩, hnew, hlive⟩, hafter⟩ := h
    exact execHbNode_of_new hport hcheck rfl hsingle hnew hlive hafter
  case heartbeatBad =>
    simp only [Bool.and_eq_true, Bool.not_eq_true'] at h
    obtain ⟨hport, hcheck⟩ := h
    exact execHbNode_of_bad_check hport hcheck
  case heartbeatElsewhere => exact execHbNode_of_other_port (by simpa using h)
  case absent =>
    obtain ⟨hknown, hsilent⟩ := Bool.and_eq_true_iff.1 h
    exact execNodeAbsent_of_silence hknown hsilent
  case absentUnknown => exact execNodeAbsent_of_unknown (of_decide_eq_true h)
  case report =>
    simp only [Bool.and_eq_true, decide_eq_true_eq] at h
    obtain ⟨⟨⟨hport, hcheck⟩, hlive, hsingle, hnew, hbound⟩, hpass⟩ := h
    exact execNodeReport_of_new hport hcheck rfl hlive hsingle hnew hpass hbound
  case reportBad =>
    simp only [Bool.and_eq_true, Bool.not_eq_true'] at h
    obtain ⟨hport, hcheck⟩ := h
    exact execNodeReport_of_bad_check hport hcheck
  case resultDone => exact (execStageResult_of_counts 0 digest h).trans (by simp only [answered, true_and, decide_eq_true_eq])
  case resultRefused => exact execStageResult_of_counts 1 digest h
  case resultUnreached => exact execStageResult_of_unreached k digest (by simpa using h)
  case ack =>
    simp only [Bool.and_eq_true, decide_eq_true_eq] at h
    obtain ⟨hnew, hannounced, hnumber, hconfirmed, hfirst⟩ := h
    exact execCommitAck_of_counts hnew ⟨hannounced, hnumber, hconfirmed, hfirst⟩
  case ackUnannounced =>
    simp only [Bool.and_eq_true, decide_eq_true_eq] at h
    obtain ⟨hnew, hphase⟩ := h
    exact execCommitAck_of_unannounced 1 epoch hnew hphase
  case resend =>
    simp only [Bool.and_eq_true, decide_eq_true_eq] at h
    obtain ⟨hphase, hdue⟩ := h
    exact execCommitAnnounceResend_of_due hphase hdue
  case noResend => exact execCommitAnnounceResend_of_not_due (by simpa using h)
  case errorOnBus =>
    simp only [Bool.and_eq_true, Bool.not_eq_true', decide_eq_true_eq] at h
    obtain ⟨⟨hhears, harbitration⟩, hmode, hon⟩ := h
    exact execCanBusError_of_on_bus hhears harbitration hmode hon
  case errorBusOff =>
    simp only [Bool.and_eq_true, Bool.not_eq_true', decide_eq_true_eq] at h
    obtain ⟨⟨hhears, harbitration⟩, hmode, hoff⟩ := h
    exact execCanBusError_of_bus_off hhears harbitration hmode hoff
  case recovered =>
    simp only [Bool.and_eq_true, Bool.not_eq_true', decide_eq_true_eq] at h
    obtain ⟨⟨hoff, hreset⟩, hover⟩ := h
    exact execBusOffRecovered_of_over hoff hreset hover
  case notRecovered => exact execBusOffRecovered_of_not_over (by simpa using h)
  case rejoin =>
    simp only [Bool.and_eq_true, decide_eq_true_eq] at h
    obtain ⟨hreset, hfit, hmode⟩ := h
    exact execPortRejoin_of_reset hreset hfit hmode
  case noRejoin => exact execPortRejoin_of_no_reset (by simpa using h)
  case quietOver =>
    simp only [Bool.and_eq_true, Bool.not_eq_true', decide_eq_true_eq] at h
    obtain ⟨⟨hquiet, hover⟩, hhost⟩ := h
    exact execDuplicateQuietEnd_of_over hquiet hover hhost
  case quietRuns =>
    simp only [Bool.and_eq_true, Bool.not_eq_true', decide_eq_true_eq] at h
    obtain ⟨hquiet, hrun⟩ := h
    exact execDuplicateQuietEnd_of_running hquiet hrun
  case frameSilent =>
    simp only [Bool.and_eq_true, Bool.not_eq_true', decide_eq_true_eq] at h
    obtain ⟨⟨⟨⟨hhears, hport, hfit, hmatch⟩, hdata⟩, hsound⟩, hsilent⟩ := h
    exact (execHostFrameReceive_of_match ⟨hhears, hport, hfit⟩ hdata hsound hmatch).trans (by rw [hsilent]; rfl)
  case frameEvent =>
    simp only [Bool.and_eq_true, Bool.not_eq_true', decide_eq_true_eq] at h
    obtain ⟨⟨⟨⟨hhears, hport, hfit, hmatch⟩, hdata⟩, hsound⟩, hwanted⟩ := h
    exact (execHostFrameReceive_of_match ⟨hhears, hport, hfit⟩ hdata hsound hmatch).trans (by rw [hwanted]; rfl)
  case frameRemote =>
    simp only [Bool.and_eq_true, decide_eq_true_eq] at h
    obtain ⟨⟨hhears, hport, hfit⟩, hremote⟩ := h
    exact execHostFrameReceive_of_remote ⟨hhears, hport, hfit⟩ hremote
  case frameMalformed =>
    simp only [Bool.and_eq_true, Bool.not_eq_true', decide_eq_true_eq] at h
    obtain ⟨⟨⟨hhears, hport, hfit⟩, hdata⟩, hbad⟩ := h
    exact execHostFrameReceive_of_malformed ⟨hhears, hport, hfit⟩ hdata hbad
  case frameUnmatched =>
    simp only [Bool.and_eq_true, Bool.not_eq_true', decide_eq_true_eq] at h
    obtain ⟨⟨⟨hhears, hport, hfit, hmatch⟩, hdata⟩, hsound⟩ := h
    exact execHostFrameReceive_of_no_match ⟨hhears, hport, hfit⟩ hdata hsound hmatch
  case frameRetired =>
    obtain ⟨hport, hretired⟩ := of_decide_eq_true h
    exact execHostFrameReceive_of_retired f hport hretired
  case holdOver => exact execRxHoldExpire_of_over h
  case holdRuns => exact execRxHoldExpire_of_not_over (by simpa using h)
  case hostSent =>
    simp only [Bool.and_eq_true, decide_eq_true_eq] at h
    obtain ⟨⟨hup, hport, hbegun, hbuffer, hwon⟩, hend⟩ := h
    exact (execCanTransmitDone_of_winner ⟨hup, hport, hbegun, hbuffer.le, hwon⟩ hend).trans
      (by rw [frameEnds_of_host_sent x retrans age s hbuffer]; rfl)
  case hostDropped =>
    simp only [Bool.and_eq_true, decide_eq_true_eq] at h
    obtain ⟨⟨hup, hport, hbegun, hbuffer, hwon⟩, hend⟩ := h
    exact (execCanTransmitDone_of_winner ⟨hup, hport, hbegun, hbuffer.le, hwon⟩ hend).trans
      (by rw [frameEnds_of_host_dropped x retrans age s hbuffer]; rfl)
  case ownSent =>
    simp only [Bool.and_eq_true, decide_eq_true_eq] at h
    obtain ⟨⟨hup, hport, hbegun, hwon⟩, hend⟩ := h
    exact (execCanTransmitDone_of_winner ⟨hup, hport, hbegun, Nat.le_refl 4, hwon⟩ hend).trans
      (by rw [frameEnds_of_own_sent p x retrans age s]; rfl)
  case portDown => exact execCanTransmitDone_of_port_down k true retrans age (by simpa using h)

end

section
/-! Water-filling (R127): the power taken above the reserves is straight between neighbouring breakpoints, so the level
found there takes exactly what there is, and rounding each load down costs less than one watt a child. -/

namespace Sys2Proof.Machine

/-! ### Whole parts in a sum -/

theorem sum_floor_le {α : Type} (l : List α) (f : α → Rat) :
    (((l.map fun e => ⌊f e⌋).sum : Int) : Rat) ≤ (l.map f).sum := by
  rw [Int.cast_list_sum, List.map_map]
  exact List.sum_le_sum fun e _ => Int.floor_le (f e)

theorem sum_lt_sum_floor_add_length {α : Type} {l : List α} (hl : l ≠ []) (f : α → Rat) :
    (l.map f).sum < ((l.map fun e => ⌊f e⌋).sum : Int) + l.length := by
  calc (l.map f).sum < (l.map fun e => (⌊f e⌋ : Rat) + 1).sum :=
        List.sum_lt_sum_of_ne_nil hl _ _ fun e _ => Int.lt_floor_add_one (f e)
    _ = ((l.map fun e => ⌊f e⌋).sum : Int) + l.length := by
        rw [List.sum_map_add, Int.cast_list_sum, List.map_map]
        simp [Function.comp_def]

/-! ### One child -/

/-- A child that water-filling divides among: a positive weight, and a reserve of at least 0 W that its load covers. -/
structure FillSound (e : FillItem) : Prop where
  weight : 0 < e.2.1
  reserve : 0 ≤ e.2.2.1
  load : e.2.2.1 ≤ e.2.2.2

/-- The exact power above its reserve that a child takes at level `lam`. -/
def takenAt (lam : Rat) (e : FillItem) : Rat :=
  min (e.2.2.2 : Rat) (max (e.2.2.1 : Rat) ((e.2.1 : Rat) * lam)) - (e.2.2.1 : Rat)

/-- The whole watts that a child is given at level `lam`. -/
def givenAt (lam : Rat) (e : FillItem) : Int := min e.2.2.2 (max e.2.2.1 ((e.2.1 : Rat) * lam).floor)

theorem takenAt_of_reserve {e : FillItem} {lam : Rat} (he : FillSound e) (h : (e.2.1 : Rat) * lam ≤ e.2.2.1) :
    takenAt lam e = 0 := by
  rw [takenAt, max_eq_left h, min_eq_right (Int.cast_le.2 he.load), sub_self]

theorem takenAt_of_between {e : FillItem} {lam : Rat} (hlow : (e.2.2.1 : Rat) ≤ e.2.1 * lam)
    (hhigh : (e.2.1 : Rat) * lam ≤ e.2.2.2) : takenAt lam e = e.2.1 * lam - e.2.2.1 := by
  rw [takenAt, max_eq_right hlow, min_eq_right hhigh]

theorem takenAt_of_load {e : FillItem} {lam : Rat} (h : (e.2.2.2 : Rat) ≤ e.2.1 * lam) :
    takenAt lam e = ((e.2.2.2 - e.2.2.1 : Int) : Rat) := by
  rw [takenAt, min_eq_left (le_max_of_le_right h), Int.cast_sub]

/-- A child is given its reserve and the whole watts of what it takes above it. -/
theorem givenAt_eq_add_floor (lam : Rat) (e : FillItem) : givenAt lam e = e.2.2.1 + ⌊takenAt lam e⌋ := by
  have hfloor : ⌊min (e.2.2.2 : Rat) (max (e.2.2.1 : Rat) ((e.2.1 : Rat) * lam))⌋ = givenAt lam e := by
    rw [Int.floor_mono.map_min, Int.floor_mono.map_max, Int.floor_intCast, Int.floor_intCast]
    rfl
  rw [takenAt, Int.floor_sub_intCast, hfloor, add_sub_cancel]

theorem givenAt_bounds (lam : Rat) {e : FillItem} (he : FillSound e) :
    e.2.2.1 ≤ givenAt lam e ∧ givenAt lam e ≤ e.2.2.2 :=
  ⟨le_min he.load (le_max_left _ _), min_le_left _ _⟩

/-! ### Breakpoints -/

/-- The levels at which a child leaves its reserve and reaches its load. -/
def IsBreak (e : FillItem) (x : Rat) : Prop := x = (e.2.2.1 : Rat) / (e.2.1 : Rat) ∨ x = (e.2.2.2 : Rat) / (e.2.1 : Rat)

/-- Between levels that no breakpoint parts, what a child takes is straight. -/
theorem takenAt_convex {e : FillItem} {lo p c : Rat} (he : FillSound e) (hlp : lo ≤ p) (hc0 : 0 ≤ c) (hc1 : c ≤ 1)
    (hbreak : ∀ x, IsBreak e x → x ≤ lo ∨ p ≤ x) :
    takenAt ((1 - c) * lo + c * p) e = (1 - c) * takenAt lo e + c * takenAt p e := by
  have hw : (0 : Rat) < e.2.1 := Nat.cast_pos.2 he.weight
  have hlo : lo ≤ (1 - c) * lo + c * p := by nlinarith
  have hhi : (1 - c) * lo + c * p ≤ p := by nlinarith
  have hwlo := mul_le_mul_of_nonneg_left hlo hw.le
  have hwhi := mul_le_mul_of_nonneg_left hhi hw.le
  rcases hbreak _ (.inr rfl) with hload | hload
  · have hfull : (e.2.2.2 : Rat) ≤ e.2.1 * lo := (div_le_iff₀' hw).1 hload
    rw [takenAt_of_load hfull, takenAt_of_load (hfull.trans hwlo), takenAt_of_load (hfull.trans (hwlo.trans hwhi))]
    ring
  · have hroom : (e.2.1 : Rat) * p ≤ e.2.2.2 := (le_div_iff₀' hw).1 hload
    rcases hbreak _ (.inl rfl) with hres | hres
    · have habove : (e.2.2.1 : Rat) ≤ e.2.1 * lo := (div_le_iff₀' hw).1 hres
      rw [takenAt_of_between habove (hwlo.trans (hwhi.trans hroom)),
        takenAt_of_between (habove.trans hwlo) (hwhi.trans hroom),
        takenAt_of_between (habove.trans (hwlo.trans hwhi)) hroom]
      ring
    · have hbelow : (e.2.1 : Rat) * p ≤ e.2.2.1 := (le_div_iff₀' hw).1 hres
      rw [takenAt_of_reserve he hbelow, takenAt_of_reserve he (hwhi.trans hbelow),
        takenAt_of_reserve he (hwlo.trans (hwhi.trans hbelow))]
      ring

theorem insertRat_eq_orderedInsert (x : Rat) (l : List Rat) : insertRat x l = l.orderedInsert (· ≤ ·) x := by
  induction l with
  | nil => rfl
  | cons y r ih => rw [insertRat, ih, List.orderedInsert_cons]

/-- The breakpoints of one more child, put among those found. -/
def addBreaks (a : List Rat) (e : FillItem) : List Rat :=
  if e.2.1 = 0 then a
  else insertRat ((e.2.2.1 : Rat) / (e.2.1 : Rat)) (insertRat ((e.2.2.2 : Rat) / (e.2.1 : Rat)) a)

theorem addBreaks_sorted {a : List Rat} (e : FillItem) (h : a.Pairwise (· ≤ ·)) : (addBreaks a e).Pairwise (· ≤ ·) := by
  unfold addBreaks
  split
  · exact h
  · rw [insertRat_eq_orderedInsert, insertRat_eq_orderedInsert]
    exact (h.orderedInsert _ _).orderedInsert _ _

theorem mem_addBreaks {a : List Rat} {e : FillItem} {x : Rat} (he : FillSound e) :
    x ∈ addBreaks a e ↔ IsBreak e x ∨ x ∈ a := by
  rw [addBreaks, if_neg he.weight.ne', insertRat_eq_orderedInsert, insertRat_eq_orderedInsert,
    List.mem_orderedInsert, List.mem_orderedInsert, IsBreak, or_assoc]

/-- The breakpoints of the children, rising. -/
def fillPoints (l : List FillItem) : List Rat := l.foldl addBreaks []

theorem foldl_addBreaks_sorted (l : List FillItem) {a : List Rat} (h : a.Pairwise (· ≤ ·)) :
    (l.foldl addBreaks a).Pairwise (· ≤ ·) := by
  induction l generalizing a with
  | nil => exact h
  | cons e r ih => exact ih (addBreaks_sorted e h)

theorem mem_foldl_addBreaks {l : List FillItem} {a : List Rat} {x : Rat} (hl : ∀ e ∈ l, FillSound e) :
    x ∈ l.foldl addBreaks a ↔ (∃ e ∈ l, IsBreak e x) ∨ x ∈ a := by
  induction l generalizing a with
  | nil => simp
  | cons e r ih =>
    obtain ⟨he, hr⟩ := List.forall_mem_cons.1 hl
    rw [List.foldl_cons, ih hr, mem_addBreaks he, List.exists_mem_cons_iff, ← or_assoc, or_comm (a := ∃ e ∈ r, _)]

theorem mem_fillPoints {l : List FillItem} {x : Rat} (hl : ∀ e ∈ l, FillSound e) :
    x ∈ fillPoints l ↔ ∃ e ∈ l, IsBreak e x := by
  simp [fillPoints, mem_foldl_addBreaks hl]

/-- Soundness of the children makes every breakpoint a level of at least 0. -/
theorem IsBreak.nonneg {e : FillItem} {x : Rat} (h : IsBreak e x) (he : FillSound e) : 0 ≤ x := by
  rcases h with rfl | rfl
  · exact div_nonneg (Int.cast_nonneg he.reserve) (Nat.cast_nonneg _)
  · exact div_nonneg (Int.cast_nonneg (he.reserve.trans he.load)) (Nat.cast_nonneg _)

/-! ### The level -/

theorem fillAt_eq_sum (l : List FillItem) (lam : Rat) : fillAt l lam = (l.map (takenAt lam)).sum := by
  rw [List.sum_eq_foldl, List.foldl_map]
  rfl

/-- At level 0 no child takes more than its reserve. -/
theorem fillAt_zero {l : List FillItem} (hl : ∀ e ∈ l, FillSound e) : fillAt l 0 = 0 := by
  rw [fillAt_eq_sum]
  refine List.sum_eq_zero fun x hx => ?_
  obtain ⟨e, he, rfl⟩ := List.mem_map.1 hx
  exact takenAt_of_reserve (hl e he) (by simpa using (hl e he).reserve)

/-- Above every breakpoint each child has its load. -/
theorem fillAt_of_breaks_le {l : List FillItem} {lam : Rat} (hl : ∀ e ∈ l, FillSound e)
    (h : ∀ e ∈ l, ∀ x, IsBreak e x → x ≤ lam) :
    fillAt l lam = (((l.map fun e => e.2.2.2 - e.2.2.1).sum : Int) : Rat) := by
  rw [fillAt_eq_sum, Int.cast_list_sum, List.map_map]
  refine congrArg List.sum (List.map_congr_left fun e he => takenAt_of_load ?_)
  exact (div_le_iff₀' (Nat.cast_pos.2 (hl e he).weight)).1 (h e he _ (.inr rfl))

/-- Between levels that no breakpoint parts, what the children take together is straight. -/
theorem fillAt_convex {l : List FillItem} {lo p c : Rat} (hl : ∀ e ∈ l, FillSound e) (hlp : lo ≤ p) (hc0 : 0 ≤ c)
    (hc1 : c ≤ 1) (hbreak : ∀ e ∈ l, ∀ x, IsBreak e x → x ≤ lo ∨ p ≤ x) :
    fillAt l ((1 - c) * lo + c * p) = (1 - c) * fillAt l lo + c * fillAt l p := by
  rw [fillAt_eq_sum, fillAt_eq_sum, fillAt_eq_sum, ← List.sum_map_mul_left, ← List.sum_map_mul_left, ← List.sum_map_add]
  exact congrArg List.sum (List.map_congr_left fun e he => takenAt_convex (hl e he) hlp hc0 hc1 (hbreak e he))

/-- Interpolation between neighbouring breakpoints takes exactly `avail`. -/
theorem fillAt_interpolated {l : List FillItem} {avail lo p : Rat} (hl : ∀ e ∈ l, FillSound e) (hlp : lo ≤ p)
    (hlow : fillAt l lo ≤ avail) (hhigh : avail < fillAt l p)
    (hbreak : ∀ e ∈ l, ∀ x, IsBreak e x → x ≤ lo ∨ p ≤ x) :
    fillAt l (lo + (avail - fillAt l lo) * (p - lo) / (fillAt l p - fillAt l lo)) = avail := by
  have hrise : 0 < fillAt l p - fillAt l lo := by linarith
  have hlevel : lo + (avail - fillAt l lo) * (p - lo) / (fillAt l p - fillAt l lo) =
      (1 - (avail - fillAt l lo) / (fillAt l p - fillAt l lo)) * lo
        + (avail - fillAt l lo) / (fillAt l p - fillAt l lo) * p := by ring
  rw [hlevel, fillAt_convex hl hlp (div_nonneg (by linarith) hrise.le) ((div_le_one hrise).2 (by linarith)) hbreak]
  field_simp
  ring

/-- The level found from `lo` on takes exactly `avail`, where no more than that is taken at `lo` and the breakpoints
above `lo` are all listed. -/
theorem fillAt_fillLevel {l : List FillItem} {avail lo : Rat} {pts : List Rat} (hl : ∀ e ∈ l, FillSound e)
    (hshort : avail < (((l.map fun e => e.2.2.2 - e.2.2.1).sum : Int) : Rat)) (hlow : fillAt l lo ≤ avail)
    (hsorted : (lo :: pts).Pairwise (· ≤ ·)) (hlisted : ∀ e ∈ l, ∀ x, IsBreak e x → x ≤ lo ∨ x ∈ pts) :
    fillAt l (fillLevel l avail lo pts) = avail := by
  induction pts generalizing lo with
  | nil =>
    have hall := fillAt_of_breaks_le hl fun e he x hx => (hlisted e he x hx).resolve_right List.not_mem_nil
    exact absurd (hall ▸ hlow) (not_le.2 hshort)
  | cons p r ih =>
    obtain ⟨hlo, hpr⟩ := List.pairwise_cons.1 hsorted
    have hlp : lo ≤ p := hlo p List.mem_cons_self
    by_cases hp : avail < fillAt l p
    · rw [fillLevel, if_pos hp]
      refine fillAt_interpolated hl hlp hlow hp fun e he x hx => (hlisted e he x hx).imp_right fun hmem => ?_
      exact (List.mem_cons.1 hmem).elim ge_of_eq ((List.pairwise_cons.1 hpr).1 x)
    · rw [fillLevel, if_neg hp]
      refine ih (not_lt.1 hp) hpr fun e he x hx => ?_
      rcases hlisted e he x hx with hxlo | hmem
      · exact .inl (hxlo.trans hlp)
      · exact (List.mem_cons.1 hmem).imp_left le_of_eq

/-! ### The class -/

/-- The level of a class that wants more than there is. -/
def classLevel (l : List FillItem) (avail : Int) : Rat := fillLevel l avail 0 (fillPoints l)

/-- The level of a class takes exactly what there is. -/
theorem fillAt_classLevel {l : List FillItem} {avail : Int} (hl : ∀ e ∈ l, FillSound e) (havail : 0 ≤ avail)
    (hshort : avail < (l.map fun e => e.2.2.2 - e.2.2.1).sum) : fillAt l (classLevel l avail) = avail := by
  refine fillAt_fillLevel hl (Int.cast_lt.2 hshort) ?_ (List.pairwise_cons.2 ⟨fun x hx => ?_, ?_⟩) fun e he x hx => ?_
  · rw [fillAt_zero hl]
    exact Int.cast_nonneg havail
  · obtain ⟨e, he, hbreak⟩ := (mem_fillPoints hl).1 hx
    exact hbreak.nonneg (hl e he)
  · exact foldl_addBreaks_sorted l List.Pairwise.nil
  · exact .inr ((mem_fillPoints hl).2 ⟨e, he, hx⟩)

/-- A class that wants more than there is gets the whole watts of its level. -/
theorem fillClass_of_short {l : List FillItem} {avail : Int} (h : avail < (l.map fun e => e.2.2.2 - e.2.2.1).sum) :
    fillClass l avail = l.map fun e => (e.1, givenAt (classLevel l avail) e) := by
  have hwant : l.foldl (fun a e => a + (e.2.2.2 - e.2.2.1)) 0 = (l.map fun e => e.2.2.2 - e.2.2.1).sum := by
    rw [List.sum_eq_foldl, List.foldl_map]
  exact if_neg (hwant ▸ not_le.2 h)

/-- What a class is given is its reserves and the whole watts of what each child takes above its reserve. -/
theorem sumGiven_fillClass {l : List FillItem} {avail : Int} (h : avail < (l.map fun e => e.2.2.2 - e.2.2.1).sum) :
    sumGiven (fillClass l avail) =
      (l.map fun e => e.2.2.1).sum + (l.map fun e => ⌊takenAt (classLevel l avail) e⌋).sum := by
  rw [fillClass_of_short h, sumGiven, List.map_map, ← List.sum_map_add]
  exact congrArg List.sum (List.map_congr_left fun e _ => givenAt_eq_add_floor _ e)

end Sys2Proof.Machine

open Sys2Proof Sys2Proof.Machine

/-- Settles O24: the level takes exactly what there is (`fillAt_classLevel`), each child gets its reserve and the whole
watts of what it takes (`givenAt_eq_add_floor`), and a whole part is less than one watt short. -/
theorem waterFillingSharesWhatThereIs : Obligations.WaterFillingSharesWhatThereIs := by
  intro l avail hitems havail hshort
  have hl : ∀ e ∈ l, FillSound e := fun e he => ⟨(hitems e he).1, (hitems e he).2.1, (hitems e he).2.2⟩
  have hne : l ≠ [] := by
    rintro rfl
    exact absurd havail (not_le.2 hshort)
  have htaken : (l.map (takenAt (classLevel l avail))).sum = avail :=
    (fillAt_eq_sum _ _).symm.trans (fillAt_classLevel hl havail hshort)
  rw [sumGiven_fillClass hshort, add_sub_cancel_left]
  refine ⟨by rw [fillClass_of_short hshort, List.length_map], fun x hx => ?_, ?_, ?_⟩
  · rw [fillClass_of_short hshort, ← List.map_prod_left_eq_zip] at hx
    obtain ⟨e, he, rfl⟩ := List.mem_map.1 hx
    exact ⟨rfl, givenAt_bounds _ (hl e he)⟩
  · exact Int.cast_le.1 ((sum_floor_le l _).trans_eq htaken)
  · exact_mod_cast htaken ▸ sum_lt_sum_floor_add_length hne (takenAt (classLevel l avail))

end

section
/-! The host commands of the allocation cycle (Table 5-10): what each replies in each of its cases. -/

namespace Sys2Proof.Machine

/-! ### ALLOC_STATUS -/

/-- The RESULT of ALLOC_STATUS. -/
def allocResult (s : State) : Res :=
  res [(0, 4, s.cal.period), (4, 2, s.cal.lastSolve), (6, 2, s.cal.maxSolve), (8, 4, s.cal.overruns),
    (12, 2, sat 16 s.cal.drains), (14, 1, s.ahead),
    (15, 1, bit s.cal.aligned + 2 * bit s.cal.restored + 4 * bit s.cal.rampOver)]

theorem allocStatusOf_of_keep {q : Req} (s : State) (h : tst (q.w 0) 0 = false) :
    allocStatusOf q s = .done 0 (allocResult s) s := congrArg (Reply.done 0 _) (if_neg (Bool.eq_false_iff.1 h))

theorem allocStatusOf_of_clear {q : Req} (s : State) (h : tst (q.w 0) 0 = true) : allocStatusOf q s =
    .done 0 (allocResult s) { s with cal := { s.cal with maxSolve := 0, overruns := 0, drains := 0 } } :=
  congrArg (Reply.done 0 _) (if_pos h)

/-! ### SNAPSHOT_SAVE and SNAPSHOT_RESTORE (R139) -/

theorem snapshotSaveOf_of_no_buffer {q : Req} (s : State) (h : q.buf = none) :
    snapshotSaveOf q s = .done 0x0108 0 s := by
  simp only [snapshotSaveOf, h, rej]

theorem snapshotSaveOf_of_buffer {q : Req} {b : Buf} (s : State) (h : q.buf = some b) :
    snapshotSaveOf q s = .live false [(b.addr : Int), (b.len : Int), (bit b.fails : Nat)] s := by
  simp only [snapshotSaveOf, h]

/-- A sound snapshot that comes in the time it may stays live until its commit point. -/
theorem snapshotRestoreOf_of_sound {q : Req} {b : Buf} {s : State} (hbuf : q.buf = some b)
    (htime : s.clk.timeValid = true) (hnew : s.cal.restored = false)
    (hearly : s.past s.clk.firstValid 300000001 = false) (hparse : (snapParse b.data).isSome = true)
    (hcheck : snapCheck b.data = true) :
    snapshotRestoreOf q s = .live false (b.data.map fun x => (x.toNat : Int)) s := by
  simp only [snapshotRestoreOf, hbuf, htime, hnew, hearly, Option.isNone_eq_false_iff.2 hparse, hcheck,
    Bool.false_eq_true, Bool.true_eq_false, or_self, if_false]

theorem snapshotRestoreOf_without_time {q : Req} {b : Buf} {s : State} (hbuf : q.buf = some b)
    (htime : s.clk.timeValid = false) : snapshotRestoreOf q s = .done 0x0311 0 s := by
  simp only [snapshotRestoreOf, hbuf, htime, if_true, rej]

theorem snapshotRestoreOf_of_restored {q : Req} {b : Buf} {s : State} (hbuf : q.buf = some b)
    (htime : s.clk.timeValid = true) (hrestored : s.cal.restored = true) :
    snapshotRestoreOf q s = .done 0x0330 0 s := by
  simp only [snapshotRestoreOf, hbuf, htime, hrestored, Bool.true_eq_false, true_or, if_true, if_false, rej]

/-! ### SENSOR_STATE -/

theorem sensorStateOf_of_sensor {q : Req} {s : State} (hindex : q.w 0 ≤ 4)
    (hfitted : nodeSensor (s.ep.cfg.node q.idx) (q.w 0) / 4096 ≠ 0) (htherm : nTherm (s.ep.cfg.node q.idx) = true) :
    sensorStateOf q s = .done 0
      (res [(0, 1, (tget (s.node q.idx).sensors (q.w 0) {}).state),
        (2, 2, (tget (s.node q.idx).sensors (q.w 0) {}).lastValid.floor),
        (4, 2, (tget (s.node q.idx).sensors (q.w 0) {}).value.floor),
        (6, 4, ((s.now - (tget (s.node q.idx).sensors (q.w 0) {}).lastTime) / 1000 : Nat)),
        (10, 4, (worstRate (s.ep.cfg.node q.idx)).floor)]) s := by
  simp only [sensorStateOf, Nat.not_lt.2 hindex, htherm, hfitted, Bool.true_eq_false, if_false, reads]

theorem sensorStateOf_of_not_thermal {q : Req} {s : State} (hindex : q.w 0 ≤ 4)
    (htherm : nTherm (s.ep.cfg.node q.idx) = false) : sensorStateOf q s = .done 0x0301 0 s :=
  (if_neg (Nat.not_lt.2 hindex)).trans (if_pos htherm)

theorem sensorStateOf_of_bad_index {q : Req} (s : State) (h : 4 < q.w 0) : sensorStateOf q s = .done 0x0108 0 s :=
  if_pos h

/-! ### WINDOW_READ -/

theorem windowReadOf_of_window {q : Req} {s : State} (h : nWindow (s.ep.cfg.node q.idx) = true) :
    windowReadOf q s = .done 0
      (res [(0, 8, (s.eWin q.idx).floor), (8, 4, (s.node q.idx).winCap),
        (12, 4, (windowAvg (s.ep.cfg.node q.idx)).floor)]) s := if_neg (by simp [h])

theorem windowReadOf_of_no_window {q : Req} {s : State} (h : nWindow (s.ep.cfg.node q.idx) = false) :
    windowReadOf q s = .done 0x0301 0 s := if_pos h

end Sys2Proof.Machine

open Sys2Proof Sys2Proof.Machine

/-- Settles O29: each case of `allocCases` is the lemma about its command's reply, whose hypotheses the case's condition
gives. -/
theorem allocationCommandsAnswer : Obligations.AllocationCommandsAnswer := by
  unfold Obligations.AllocationCommandsAnswer allocCases
  repeat rw [List.forall_mem_cons]
  refine ⟨?status, ?statusClear, ?saveNoBuffer, ?save, ?restore, ?restoreNoTime, ?restoreAgain, ?sensor,
    ?sensorNotThermal, ?sensorBadIndex, ?window, ?noWindow, List.forall_mem_nil _⟩ <;>
    refine Case.holds_mk (fun _ _ => rfl) fun q s h => ?_
  case status => exact allocStatusOf_of_keep s (by simpa using h)
  case statusClear => exact allocStatusOf_of_clear s h
  case saveNoBuffer => exact snapshotSaveOf_of_no_buffer s (of_decide_eq_true h)
  case save =>
    obtain ⟨b, hbuf⟩ := Option.isSome_iff_exists.1 h
    simp only [hbuf, Option.getD_some]
    exact snapshotSaveOf_of_buffer s hbuf
  case restore =>
    simp only [Bool.and_eq_true, Bool.not_eq_true'] at h
    obtain ⟨⟨⟨⟨⟨hsome, htime⟩, hnew⟩, hearly⟩, hparse⟩, hcheck⟩ := h
    obtain ⟨b, hbuf⟩ := Option.isSome_iff_exists.1 hsome
    simp only [hbuf, Option.getD_some] at hparse hcheck ⊢
    exact snapshotRestoreOf_of_sound hbuf htime hnew hearly hparse hcheck
  case restoreNoTime =>
    simp only [Bool.and_eq_true, Bool.not_eq_true'] at h
    obtain ⟨hsome, htime⟩ := h
    obtain ⟨b, hbuf⟩ := Option.isSome_iff_exists.1 hsome
    exact snapshotRestoreOf_without_time hbuf htime
  case restoreAgain =>
    simp only [Bool.and_eq_true] at h
    obtain ⟨⟨hsome, htime⟩, hrestored⟩ := h
    obtain ⟨b, hbuf⟩ := Option.isSome_iff_exists.1 hsome
    exact snapshotRestoreOf_of_restored hbuf htime hrestored
  case sensor =>
    simp only [Bool.and_eq_true, decide_eq_true_eq] at h
    obtain ⟨⟨hindex, hfitted⟩, htherm⟩ := h
    exact sensorStateOf_of_sensor hindex hfitted htherm
  case sensorNotThermal =>
    simp only [Bool.and_eq_true, Bool.not_eq_true', decide_eq_true_eq] at h
    obtain ⟨hindex, htherm⟩ := h
    exact sensorStateOf_of_not_thermal hindex htherm
  case sensorBadIndex => exact sensorStateOf_of_bad_index s (of_decide_eq_true h)
  case window => exact windowReadOf_of_window h
  case noWindow => exact windowReadOf_of_no_window (by simpa using h)

end

section
/-! The trip of a pod (R163): both gates of every phase of the pod are off, and stay off through what the trip reports and
counts (R165). -/

namespace Sys2Proof.Machine

/-! ### What leaves the pods and the phases -/

/-- Both states hold the same pods and the same phases. -/
def State.samePhases (s t : State) : Prop := t.pods = s.pods ∧ t.phases = s.phases

theorem State.samePhases.trans {s t u : State} (h : s.samePhases t) (h' : t.samePhases u) : s.samePhases u :=
  ⟨h'.1.trans h.1, h'.2.trans h.2⟩

theorem State.samePhases_ite {s t u : State} (c : Prop) [Decidable c] (ht : s.samePhases t) (hu : s.samePhases u) :
    s.samePhases (if c then t else u) := by
  split
  · exact ht
  · exact hu

/-- A property that every step of a walk over a list keeps holds at its end. -/
theorem overL_induction {α : Type} {motive : State → Prop} (l : List α) {f : α → State → State} {s : State}
    (hs : motive s) (hf : ∀ a t, motive t → motive (f a t)) : motive (overL l f s) :=
  List.foldlRecOn l _ hs fun t ht a _ => hf a t ht

theorem State.putCq_samePhases (s : State) (n k : Nat) (tag : Word) (st op : Nat) (r : Res) :
    s.samePhases (s.putCq n k tag st op r) := by
  unfold State.putCq
  rw [State.putCqAt_frame]
  exact ⟨rfl, rfl⟩

theorem State.flushLost_samePhases (s : State) (n : Nat) : s.samePhases (s.flushLost n) := by
  unfold State.flushLost
  split
  · exact ⟨rfl, rfl⟩
  · exact State.samePhases_ite _ ⟨rfl, rfl⟩ (State.putCq_samePhases ..)

theorem State.event1_samePhases (s : State) (n group st : Nat) (r : Res) : s.samePhases (s.event1 n group st r) := by
  unfold State.event1
  split
  · exact ⟨rfl, rfl⟩
  · split
    · exact ⟨rfl, rfl⟩
    · exact State.samePhases_ite _ (s.flushLost_samePhases n)
        ((s.flushLost_samePhases n).trans (State.putCq_samePhases ..))

theorem State.captureOn_samePhases (s : State) (trigger arg : Nat) :
    s.samePhases (s.captureOn trigger arg) := State.samePhases_ite _ ⟨rfl, rfl⟩ ⟨rfl, rfl⟩

/-- An event changes no pod and no phase. -/
theorem State.event_samePhases (s : State) (group st : Nat) (r : Res) : s.samePhases (s.event group st r) := by
  have hseats : s.samePhases (overL s.seatList (fun n t => t.event1 n group st r) s) :=
    overL_induction (motive := s.samePhases) _ ⟨rfl, rfl⟩ fun n t ht => ht.trans (t.event1_samePhases n group st r)
  exact hseats.trans (State.captureOn_samePhases ..)

theorem State.jot_samePhases (s : State) (code : Nat) (obj : Word) (data : List Byte) :
    s.samePhases (s.jot code obj data) := State.samePhases_ite _ ⟨rfl, rfl⟩ ⟨rfl, rfl⟩

/-- A report changes no pod and no phase. -/
theorem State.report_samePhases (s : State) (group st : Nat) (obj : Word) (r : Res) :
    s.samePhases (s.report group st obj r) := (s.event_samePhases group st r).trans (State.jot_samePhases ..)

theorem State.retire_samePhases (s : State) (h : Word) (st : Nat) : s.samePhases (s.retire h st) :=
  State.samePhases_ite _ ⟨rfl, rfl⟩ ⟨rfl, rfl⟩

/-- A note of Table 19-11 and the drain after it change no pod and no phase. -/
theorem State.note_drain_samePhases (s : State) (kind : Nat) (obj : Word) (data : List Byte) :
    s.samePhases (s.note kind obj data).drain := s.jot_samePhases 0x00C1 obj (BitVec.ofNat 8 kind :: data)

/-! ### Gates -/

/-- Both gates of the phase are off. -/
def Phase.low (f : Phase) : Prop := f.gateH = false ∧ f.gateL = false

/-- Both gates of every phase of the pod are off. -/
def State.podLow (s : State) (p : Nat) : Prop := ∀ k, podOf k = p → (s.phase k).low

theorem State.podLow_of_samePhases {s t : State} {p : Nat} (h : s.samePhases t) (hs : s.podLow p) : t.podLow p := by
  intro k hk
  rw [State.phase, h.2]
  exact hs k hk

/-- A phase that is set with its gates off has them off, and the others keep theirs. -/
theorem State.setPhase_low {s : State} {j k : Nat} {f : Phase} (hf : j = k → f.low)
    (hs : j ≠ k → (s.phase k).low) : ((s.setPhase j f).phase k).low := by
  by_cases hjk : j = k
  · subst hjk
    rw [State.setPhase_phase]
    exact hf rfl
  · rw [State.setPhase_phase_other _ _ _ _ (Ne.symm hjk)]
    exact hs hjk

theorem mem_podPhases_of_podOf {k p : Nat} (h : podOf k = p) : k ∈ podPhases p :=
  List.mem_map.2 ⟨k % 6, List.mem_range.2 (Nat.mod_lt k (by decide)), by rw [← h]; exact Nat.div_add_mod k 6⟩

/-- Lowering each phase of a list lowers those in it, and leaves low those that were. -/
theorem overL_low {l : List Nat} {k : Nat} {s : State} (h : k ∈ l ∨ (s.phase k).low) :
    ((overL l (fun j t => t.setPhase j { t.phase j with
      gateH := false, gateL := false, on := false, blanking := false }) s).phase k).low := by
  induction l generalizing s with
  | nil => exact h.resolve_left List.not_mem_nil
  | cons j r ih =>
    refine ih ?_
    by_cases hr : k ∈ r
    · exact .inl hr
    · refine .inr (State.setPhase_low (fun _ => ⟨rfl, rfl⟩) fun hjk => h.resolve_left fun hmem => ?_)
      exact (List.mem_cons.1 hmem).elim (fun hkj => hjk hkj.symm) hr

/-- `gatesLow` turns off both gates of every phase of the pod. -/
theorem gatesLow_podLow (p : Nat) (s : State) : (gatesLow p s).podLow p :=
  fun _ hk => overL_low (.inl (mem_podPhases_of_podOf hk))

/-- `gatesLow` changes no pod. -/
theorem gatesLow_pods (p : Nat) (s : State) : (gatesLow p s).pods = s.pods :=
  overL_induction (motive := fun t => t.pods = s.pods) _ rfl fun _ _ ht => ht

/-- The abort of a shed changes no gate and no pod. -/
theorem abortShed_keeps {p q : Nat} {s : State} (h : s.podLow q) :
    (abortShed p s).podLow q ∧ (abortShed p s).pods = s.pods := by
  refine overL_induction (motive := fun t => t.podLow q ∧ t.pods = s.pods) _ ⟨h, rfl⟩ fun j t ht => ?_
  obtain ⟨hlow, hpods⟩ := ht
  dsimp only
  split
  · exact ⟨fun k hk => State.setPhase_low (fun hjk => by subst hjk; exact hlow _ hk) fun _ => hlow k hk, hpods⟩
  · exact ⟨hlow, hpods⟩

/-! ### A tripped pod -/

/-- The pod is TRIPPED or RETIRED, with both gates of every phase off. -/
def State.trippedLow (s : State) (p : Nat) : Prop := ((s.pod p).state = 2 ∨ (s.pod p).state = 4) ∧ s.podLow p

theorem State.trippedLow_of_samePhases {s t : State} {p : Nat} (h : s.samePhases t) (hs : s.trippedLow p) :
    t.trippedLow p := by
  obtain ⟨hstate, hlow⟩ := hs
  refine ⟨?_, State.podLow_of_samePhases h hlow⟩
  rw [State.pod, h.1]
  exact hstate

/-- A pod whose state is set to TRIPPED or RETIRED, with its gates turned off after. -/
theorem gatesLow_setPod_trippedLow {p : Nat} {d : Pod} (s : State) (h : d.state = 2 ∨ d.state = 4) :
    (gatesLow p (s.setPod p d)).trippedLow p := by
  refine ⟨?_, gatesLow_podLow p _⟩
  rw [State.pod, gatesLow_pods]
  change ((s.setPod p d).pod p).state = 2 ∨ ((s.setPod p d).pod p).state = 4
  rwa [State.setPod_pod]

theorem retirePod_trippedLow (p : Nat) (s : State) : (retirePod p s).trippedLow p :=
  State.trippedLow_of_samePhases (State.note_drain_samePhases ..) (gatesLow_setPod_trippedLow _ (.inr rfl))

/-- A phase that restores marks its pod for the next restore (Table 6-9). -/
def restoreNext (restoring : Bool) (q : Nat) (s : State) : State :=
  if restoring then s.setPod q { s.pod q with restoreDue := true } else s

theorem restoreNext_trippedLow {p : Nat} (restoring : Bool) (q : Nat) {s : State} (h : s.trippedLow p) :
    (restoreNext restoring q s).trippedLow p := by
  obtain ⟨hstate, hlow⟩ := h
  unfold restoreNext
  split
  · refine ⟨?_, hlow⟩
    by_cases hpq : p = q
    · subst hpq
      rwa [State.setPod_pod]
    · rwa [State.setPod_pod_other _ _ _ _ hpq]
  · exact ⟨hstate, hlow⟩

theorem abortShed_trippedLow {p : Nat} (q : Nat) {s : State} (h : s.trippedLow p) : (abortShed q s).trippedLow p := by
  obtain ⟨hstate, hlow⟩ := h
  obtain ⟨hkept, hpods⟩ := abortShed_keeps (p := q) hlow
  refine ⟨?_, hkept⟩
  rw [State.pod, hpods]
  exact hstate

/-- The retired phase, its gates off; one that was restoring leaves the restore to the next (Table 6-9). -/
def phaseOut (k st : Nat) (s : State) : State :=
  restoreNext (decide ((s.phase k).state = 3)) (k / 6) ((s.retire (handle 6 k) st).setPhase k
    { s.phase k with state := 5, gateH := false, gateL := false, on := false, blanking := false })

theorem phaseOut_trippedLow {p : Nat} (k st : Nat) {s : State} (h : s.trippedLow p) : (phaseOut k st s).trippedLow p := by
  obtain ⟨hstate, hlow⟩ := State.trippedLow_of_samePhases (s.retire_samePhases (handle 6 k) st) h
  exact restoreNext_trippedLow _ _
    ⟨hstate, fun j hj => State.setPhase_low (fun _ => ⟨rfl, rfl⟩) fun _ => hlow j hj⟩

/-- The state in which a retirement of a phase of pod `q` has aborted a shed, where too few phases are left (R171). -/
def shedChecked (q : Nat) (s : State) : State :=
  if (s.activePhases q).length < s.paFld q 3 1 then abortShed q s else s

theorem shedChecked_trippedLow {p : Nat} (q : Nat) {s : State} (h : s.trippedLow p) :
    (shedChecked q s).trippedLow p := by
  unfold shedChecked
  split
  · exact abortShed_trippedLow q h
  · exact h

theorem retirePhase_eq (k st : Nat) (s : State) : retirePhase k st s =
    ((shedChecked (k / 6) (phaseOut k st s)).note 8 (handle 6 k) (leBytes st 2)).drain := rfl

/-- The retirement of a phase, of this pod or another, leaves the pod as it is and turns no gate on. -/
theorem retirePhase_trippedLow {p : Nat} (k st : Nat) {s : State} (h : s.trippedLow p) :
    (retirePhase k st s).trippedLow p := by
  rw [retirePhase_eq]
  exact State.trippedLow_of_samePhases (State.note_drain_samePhases ..)
    (shedChecked_trippedLow _ (phaseOut_trippedLow k st h))

/-! ### The trip -/

/-- The latched trip: the pod TRIPPED with its source, its gates low, the event raised and journalled (R163). -/
def latchTrip (p src index : Nat) (s : State) : State :=
  (gatesLow p (s.setPod p { s.pod p with
    state := 2, sources := [src], tripSource := src, tripIndex := index, lastSource := src,
    trips := bump32 (s.pod p).trips, ramp := none, signHold := false, below := 0, above := 0,
    restoreDue := false })).report 6 0x0840 (handle 5 p)
      (res [(0, 1, p), (1, 1, src), (2, 1, index), (4, 4, (s.pod p).periods)])

/-- The fault counts of a trip: the fourth of POD_TRIP_N within its window retires the pod, the third of a phase's blanking
retires that phase (R165, R446). -/
def countTrip (p src index : Nat) (s : State) : State :=
  if src = 1 then
    if 4 ≤ (s.countFault (handle 5 p) 600000000).1 then retirePod p (s.countFault (handle 5 p) 600000000).2
    else (s.countFault (handle 5 p) 600000000).2
  else if src = 4 then
    if 3 ≤ (s.countFault (handle 6 index) 600000000).1 then
      retirePhase index 0x0841 (s.countFault (handle 6 index) 600000000).2
    else (s.countFault (handle 6 index) 600000000).2
  else s

theorem tripCore_of_unfitted {p : Nat} (src index : Nat) {s : State} (h : s.podFitted p = false) :
    tripCore p src index s = s := if_pos (.inr h)

/-- A fitted pod that is neither TRIPPED nor RETIRED latches the trip, and the fault is counted. -/
theorem tripCore_of_armed {p : Nat} (src index : Nat) {s : State} (hfit : s.podFitted p = true)
    (hnew : (s.pod p).state ≠ 2) (hlive : (s.pod p).state ≠ 4) :
    tripCore p src index s = countTrip p src index (latchTrip p src index s) := by
  simp only [tripCore, hfit, hnew, hlive, Bool.true_eq_false, or_self, if_false]
  rfl

theorem latchTrip_trippedLow (p src index : Nat) (s : State) : (latchTrip p src index s).trippedLow p :=
  State.trippedLow_of_samePhases (State.report_samePhases ..) (gatesLow_setPod_trippedLow s (.inl rfl))

theorem countTrip_trippedLow {p : Nat} (src index : Nat) {s : State} (h : s.trippedLow p) :
    (countTrip p src index s).trippedLow p := by
  unfold countTrip
  split
  · split
    · exact retirePod_trippedLow ..
    · exact h
  · split
    · split
      · exact retirePhase_trippedLow index 0x0841 (s := (s.countFault (handle 6 index) 600000000).2) h
      · exact h
    · exact h

end Sys2Proof.Machine

open Sys2Proof Sys2Proof.Machine

/-- Settles O25: an unfitted pod's trip is nothing; any other latches with its gates low (`latchTrip_trippedLow`), and the
fault counts keep them low (`countTrip_trippedLow`). -/
theorem tripTurnsTheGatesOff : Obligations.TripTurnsTheGatesOff := by
  intro s p src index _
  refine ⟨tripCore_of_unfitted src index, fun hfit hnew hlive => ?_⟩
  rw [tripCore_of_armed src index hfit hnew hlive]
  obtain ⟨hstate, hlow⟩ := countTrip_trippedLow src index (latchTrip_trippedLow p src index s)
  exact ⟨hstate, fun k _ hk => hlow k hk⟩

end

section
/-! The events of the phase array: what each does where its condition holds, and where it changes nothing. -/

namespace Sys2Proof.Machine

/-! ### PHASE_TURN_ON (R151, R153) -/

/-- The phase turned on at a position, with the reference code it compares with. -/
def turnedOn (k position : Nat) (s : State) : State :=
  gates k true false ((advance (podOf k) (position / 16) s).setPhase k
    { (advance (podOf k) (position / 16) s).phase k with
      on := true, blanking := true, code := (s.phaseCode k).2,
      onAt := ((position + s.paFld (podOf k) 12 2 : Nat) : Int) })

/-- Turning a phase on changes no configuration. -/
theorem turnedOn_phFld (k position off n j : Nat) (s : State) :
    (turnedOn k position s).phFld j off n = s.phFld j off n := by
  unfold turnedOn advance
  dsimp only
  split <;> rfl

/-- A phase whose code stays within PK_MAX turns on, and no reference is counted as cut. -/
theorem execPhaseTurnOn_of_within {k position : Nat} {s : State} (hruns : s.phaseRuns k = true)
    (hturns : s.turnsOn k position = true) (hcode : (s.phaseCode k).1 ≤ (s.phFld k 10 2 : Int)) :
    execPhaseTurnOn k s position = .next (turnedOn k position s) := by
  have hcut : ¬ ((turnedOn k position s).phFld k 10 2 : Int) < (s.phaseCode k).1 := by
    rw [turnedOn_phFld]
    exact not_lt.2 hcode
  simp only [execPhaseTurnOn, hruns, hturns, Bool.true_eq_false, or_self, if_false]
  exact congrArg Host.Outcome.next (if_neg hcut)

theorem execPhaseTurnOn_of_idle {k position : Nat} {s : State} (h : s.phaseRuns k = false ∨ s.turnsOn k position = false) :
    execPhaseTurnOn k s position = .next s := if_pos h

/-! ### COMPARATOR_TURN_OFF, MAXON_END and BLANKING_END (R152, R154) -/

theorem execComparatorTurnOff_of_reached {k onTime : Nat} {sensed : Int} {s : State} (hon : (s.phase k).on = true)
    (hblank : (s.phase k).blanking = false) (hreach : s.reaches k onTime sensed = true) :
    execComparatorTurnOff k s sensed onTime =
      .next (turnOff k (fun g => { g with compEnds := bump32 g.compEnds, blankRun := 0 }) s) :=
  if_pos ⟨hon, hblank, hreach⟩

theorem execComparatorTurnOff_of_below {k onTime : Nat} {sensed : Int} {s : State}
    (h : (s.phase k).blanking = true ∨ s.reaches k onTime sensed = false) :
    execComparatorTurnOff k s sensed onTime = .next s := by
  refine if_neg fun hc => ?_
  obtain ⟨-, hblank, hreach⟩ := hc
  rcases h with h | h
  · exact Bool.false_ne_true (hblank.symm.trans h)
  · exact Bool.false_ne_true (h.symm.trans hreach)

theorem execMaxonEnd_of_on {k : Nat} {s : State} (hon : (s.phase k).on = true)
    (hrun : (s.pod (podOf k)).frozen = false) : execMaxonEnd k s =
      .next (turnOff k (fun g => { g with maxonEnds := bump32 g.maxonEnds, blankRun := 0 }) s) := if_pos ⟨hon, hrun⟩

/-- A comparator that reads low once the blanking ends leaves the phase on. -/
theorem execBlankingEnd_of_below {k : Nat} {sensed : Int} {s : State} (hon : (s.phase k).on = true)
    (hblank : (s.phase k).blanking = true) (hlow : s.reaches k (16 * s.paFld (podOf k) 10 2) sensed = false) :
    execBlankingEnd k sensed s = .next (s.setPhase k { s.phase k with blanking := false }) := by
  simp only [execBlankingEnd, hon, hblank, hlow, Bool.true_eq_false, or_self, if_false, if_true]

/-- The phase turned off by a comparator that reads high at the end of the blanking, counted in a row. -/
def blankingOff (k : Nat) (s : State) : State :=
  turnOff k (fun g => { g with blankEnds := bump32 g.blankEnds, blankRun := g.blankRun + 1 }) s

theorem blankingOff_blankRun (k : Nat) (s : State) :
    ((blankingOff k s).phase k).blankRun = (s.phase k).blankRun + 1 := by
  simp only [blankingOff, turnOff, gates, State.setPhase_phase]

/-- Fewer than sixteen such ends in a row turn the phase off and trip nothing. -/
theorem execBlankingEnd_of_reached {k : Nat} {sensed : Int} {s : State} (hon : (s.phase k).on = true)
    (hblank : (s.phase k).blanking = true) (hhigh : s.reaches k (16 * s.paFld (podOf k) 10 2) sensed = true)
    (hfew : (s.phase k).blankRun < 15) : execBlankingEnd k sensed s = .next (blankingOff k s) := by
  have hrow : ((blankingOff k s).phase k).blankRun < 16 := by
    rw [blankingOff_blankRun]
    exact Nat.succ_lt_succ hfew
  simp only [execBlankingEnd, hon, hblank, hhigh, Bool.true_eq_false, or_self, if_false]
  exact if_pos hrow

/-! ### POD_TRIP (R163) -/

/-- POD_TRIP_N that has stayed low for TRIP_FILT trips the pod. -/
theorem execPodTrip_pin_of_low {p clocks : Nat} (index : Nat) {s : State} (hpower : s.podPower p = true)
    (hlong : s.paFld p 18 2 ≤ clocks) : execPodTrip p 1 index true s clocks =
      .next (tripPod p 1 0 (s.setPod p { s.pod p with podTripLow := true })) := by
  simp only [execPodTrip, hpower, Nat.not_lt.2 hlong, and_false, Bool.and_self, if_false, if_true]

theorem execPodTrip_of_short {p clocks : Nat} (source index : Nat) {s : State} (h : clocks < s.paFld p 18 2) :
    execPodTrip p source index true s clocks = .next s := if_pos ⟨rfl, h⟩

theorem execPodTrip_pin_of_high (p index clocks : Nat) (s : State) : execPodTrip p 1 index false s clocks =
    .next (s.setPod p { s.pod p with podTripLow := false }) := by
  simp only [execPodTrip, Bool.false_eq_true, false_and, Bool.false_and, if_false, if_true]

/-- A GTRIP_N input that maps the pod trips it once it has stayed low for TRIP_FILT. -/
theorem execPodTrip_input_of_low {p index clocks : Nat} {s : State} (hpower : s.podPower p = true)
    (hlong : s.paFld p 18 2 ≤ clocks) (hindex : index < 4) (hmap : tst (fld (s.blk 4) index 1) p = true) :
    execPodTrip p 2 index true s clocks = .next (tripPod p 2 index
      (s.setPod p { s.pod p with gtripLow := (s.pod p).gtripLow.filter (· ≠ index) ++ [index] })) := by
  have hinput : ¬ (2 = 1) := by decide
  simp only [execPodTrip, hpower, hindex, hmap, hinput, Nat.not_lt.2 hlong, and_false, and_self, Bool.and_self,
    if_false, if_true]

/-! ### SYNC_IN_EDGE and SYNC_LOST (R160) -/

/-- An edge at the wrong spacing counts as a missing one. -/
theorem execSyncInEdge_of_unspaced {p spacing : Nat} (counter : Nat) {s : State}
    (hsync : tst (s.paFld p 2 1) 3 = true) (hrun : (s.pod p).state = 1)
    (hout : (s.pod p).spaced (fld (s.blk 4) 5 1) spacing = false) : execSyncInEdge p counter spacing s =
      .next (s.setPod p { s.pod p with
        missing := bump32 (s.pod p).missing, goodEdges := 0, sinceEdge := 0 }) := by
  simp only [execSyncInEdge, hsync, hrun, hout, ne_eq, not_true_eq_false, Bool.true_eq_false, or_self, if_false, if_true]

/-- An edge at the counter's own position corrects nothing and is one more good edge. -/
theorem execSyncInEdge_of_exact {p counter spacing : Nat} {s : State}
    (hsync : tst (s.paFld p 2 1) 3 = true) (hrun : (s.pod p).state = 1)
    (hin : (s.pod p).spaced (fld (s.blk 4) 5 1) spacing = true)
    (hexact : syncError (s.paFld p 8 2 * (s.pod p).period / 65536 + 3) counter (s.pod p).period = 0) :
    execSyncInEdge p counter spacing s = .next (s.setPod p { s.pod p with
      goodEdges := min 16 ((s.pod p).goodEdges + 1), missing := 0, correction := 0, syncLost := false, sinceEdge := 0,
      edgeSeen := true }) := by
  have hsmall : (0 : Int).natAbs ≤ 1 := by decide
  simp only [execSyncInEdge, hsync, hrun, hin, hexact, hsmall, ne_eq, not_true_eq_false, Bool.true_eq_false, or_self,
    if_false, if_true]

/-- SYNC_LOSS missing edges in a row are reported once, and the pod runs free. -/
theorem execSyncLost_of_missing {p : Nat} {s : State} (hsync : tst (s.paFld p 2 1) 3 = true)
    (hrun : (s.pod p).state = 1) (hmissing : fld (s.blk 4) 8 1 ≤ (s.pod p).missing)
    (hnew : (s.pod p).syncLost = false) : execSyncLost p s =
      .next ((s.setPod p { s.pod p with syncLost := true, goodEdges := 0, correction := 0 }).event 6 0x0842
        (res [(0, 1, p), (4, 4, (s.pod p).missing)])) := by
  simp only [execSyncLost, hsync, hrun, hnew, Nat.not_lt.2 hmissing, ne_eq, not_true_eq_false, Bool.true_eq_false,
    Bool.false_eq_true, or_self, if_false]

/-! ### PHASE_SHED, PHASE_RESTORE and SIGN_HOLD_END (R169 to R171) -/

/-- The highest-numbered active phase starts to be shed, where more than MIN_PH are active. -/
theorem execPhaseShed_of_low {p k : Nat} {s : State} (hshed : tst (s.paFld p 2 1) 2 = true)
    (hrun : (s.pod p).state = 1) (hdwell : s.paFld p 28 2 ≤ (s.pod p).below)
    (hmany : s.paFld p 3 1 < (s.activePhases p).length) (hlast : (s.activePhases p).getLast? = some k) :
    execPhaseShed p s = .next ((s.setPhase k { s.phase k with state := 1, level := 31 }).setPod p
      { s.pod p with below := 0 }) := by
  simp only [execPhaseShed, hshed, hrun, hdwell, hmany, hlast, and_self, if_true]

/-- The lowest-numbered shed phase of the pod starts to rise. -/
theorem startRestore_of_shed {p k : Nat} {s : State}
    (h : (podPhases p).find? (fun k => decide ((s.phase k).state = 2)) = some k) : startRestore p s =
      (s.setPhase k { s.phase k with state := 3, level := 4 }).setPod p { s.pod p with below := 0, above := 0 } := by
  simp only [startRestore, h]

theorem execPhaseRestore_of_high {p : Nat} {s : State} (hshed : tst (s.paFld p 2 1) 2 = true)
    (hrun : (s.pod p).state = 1) (habove : 1 ≤ (s.pod p).above) : execPhaseRestore p s = .next (startRestore p s) :=
  if_pos ⟨hshed, hrun, habove⟩

theorem execSignHoldEnd_of_over {p : Nat} {s : State} (hhold : (s.pod p).signHold = true)
    (hover : (s.pod p).holdLeft = 0) (hrun : (s.pod p).state = 1) : execSignHoldEnd p s =
      .next (s.setPod p { s.pod p with signHold := false, reverse := decide ((s.pod p).ref < 0) }) :=
  if_pos ⟨hhold, hover, hrun⟩

/-! ### POD_DISABLE_RAMP_END (R167) -/

theorem execPodDisableRampEnd_of_over {p n : Nat} {start : Int} {s : State} (h : (s.pod p).ramp = some (start, n))
    (hover : 32 ≤ n) : execPodDisableRampEnd p s = .next (podOff p s) := by
  simp only [execPodDisableRampEnd, h, hover, if_true]

/-! ### RELOAD_POINT (R157 to R159) -/

/-- The zero of the counter is a reload point where the pod's update mode says so. -/
theorem execReloadPoint_at_zero {p : Nat} (clocks : Nat) {s : State} (hrun : (s.pod p).state = 1) :
    execReloadPoint p clocks 0 s = .next (periodZero p
      (if (periodEnd p s).reloads p 0 then reload p clocks true (periodEnd p s) else periodEnd p s)) := by
  simp only [execReloadPoint, hrun, ne_eq, not_true_eq_false, if_false, if_true]

/-- So is a later position of the present period. -/
theorem execReloadPoint_within {p counter : Nat} (clocks : Nat) {s : State} (hrun : (s.pod p).state = 1)
    (hpast : 0 < counter) (hahead : (s.pod p).counter ≤ counter) (hend : counter < (s.pod p).stop) :
    execReloadPoint p clocks counter s = .next
      (if (advance p counter s).reloads p counter then reload p clocks false (advance p counter s)
      else advance p counter s) := by
  simp only [execReloadPoint, hrun, Nat.ne_of_gt hpast, Nat.not_lt.2 hahead, Nat.not_le.2 hend, ne_eq,
    not_true_eq_false, or_self, if_false]

theorem execReloadPoint_of_stopped {p : Nat} (clocks counter : Nat) {s : State} (h : (s.pod p).state ≠ 1) :
    execReloadPoint p clocks counter s = .next (reload p clocks false s) := if_pos h

/-! ### Q39_REFERENCE_ENTRY (R133, R157, R158) -/

/-- The entry that Q39 gives once the waiting references are posted is taken. -/
theorem execQ39ReferenceEntry_of_entry {s : State} {body : List Int} (h : ((postWaiting s).take 39).1 = some body) :
    execQ39ReferenceEntry s = .next (stallOver s (takeEntry39 (some body) ((postWaiting s).take 39).2)) := by
  simp only [execQ39ReferenceEntry, h]

/-- A reference of the period in force or a later one is written to its shadow. -/
theorem takeEntry39_ref {p tag period : Nat} {v : Int} (v2 : Int) {s : State} (h : s.cal.period ≤ period) :
    takeEntry39 (some [0, (p : Int), (tag : Int), v, v2, (period : Int)]) s =
      s.setPod p { s.pod p with shRef := v, pendR := true, tagR := tag } :=
  if_neg (not_lt.2 (Int.ofNat_le.2 h))

/-- So are PERIOD and MAXON of a pair. -/
theorem takeEntry39_pair {p tag v v2 period : Nat} {s : State} (h : s.cal.period ≤ period) :
    takeEntry39 (some [3, (p : Int), (tag : Int), (v : Int), (v2 : Int), (period : Int)]) s =
      s.setPod p { s.pod p with
        shPeriod := v, pendP := true, tagP := tag, shMaxon := v2, pendM := true, tagM := tag } :=
  if_neg (not_lt.2 (Int.ofNat_le.2 h))

/-- An entry of a past period is discarded. -/
theorem takeEntry39_past {period : Nat} (kind p tag v v2 : Int) {s : State} (h : period < s.cal.period) :
    takeEntry39 (some [kind, p, tag, v, v2, (period : Int)]) s = s := if_pos (Int.ofNat_lt.2 h)

end Sys2Proof.Machine

open Sys2Proof Sys2Proof.Machine

/-- Settles O47: each entry of `phaseEvents` is the lemma about its event, whose hypotheses the entry's condition gives. -/
theorem phaseArrayEventsTakeEffect : Obligations.PhaseArrayEventsTakeEffect := by
  intro k p counter clocks index sensed halt
  unfold phaseEvents
  repeat rw [List.forall_mem_cons]
  refine ⟨?turnOn, ?noTurnOn, ?compared, ?notCompared, ?maxon, ?blankLow, ?blankHigh, ?pinLow, ?pinShort, ?pinHigh,
    ?inputLow, ?edgeUnspaced, ?edgeExact, ?syncLost, ?shed, ?restore, ?holdOver, ?rampOver, ?halt, ?zeroReload,
    ?zeroPlain, ?pointReload, ?pointPlain, ?stopped, ?entryRef, ?entryPair, ?entryPast, List.forall_mem_nil _⟩ <;>
    refine Event.holds_mk fun s h => ?_
  case turnOn =>
    simp only [Bool.and_eq_true, decide_eq_true_eq] at h
    obtain ⟨⟨hruns, hturns⟩, hcode⟩ := h
    exact execPhaseTurnOn_of_within hruns hturns hcode
  case noTurnOn => exact execPhaseTurnOn_of_idle (by simpa using h)
  case compared =>
    simp only [Bool.and_eq_true, Bool.not_eq_true'] at h
    obtain ⟨⟨hon, hblank⟩, hreach⟩ := h
    exact execComparatorTurnOff_of_reached hon hblank hreach
  case notCompared => exact execComparatorTurnOff_of_below (by simpa using h)
  case maxon =>
    simp only [Bool.and_eq_true, Bool.not_eq_true'] at h
    obtain ⟨hon, hrun⟩ := h
    exact execMaxonEnd_of_on hon hrun
  case blankLow =>
    simp only [Bool.and_eq_true, Bool.not_eq_true'] at h
    obtain ⟨⟨hon, hblank⟩, hlow⟩ := h
    exact execBlankingEnd_of_below hon hblank hlow
  case blankHigh =>
    simp only [Bool.and_eq_true, decide_eq_true_eq] at h
    obtain ⟨⟨⟨hon, hblank⟩, hhigh⟩, hfew⟩ := h
    exact execBlankingEnd_of_reached hon hblank hhigh hfew
  case pinLow =>
    simp only [Bool.and_eq_true, decide_eq_true_eq] at h
    obtain ⟨hpower, hlong⟩ := h
    exact execPodTrip_pin_of_low index hpower hlong
  case pinShort => exact execPodTrip_of_short 1 index (of_decide_eq_true h)
  case pinHigh => exact execPodTrip_pin_of_high p index clocks s
  case inputLow =>
    simp only [Bool.and_eq_true, decide_eq_true_eq] at h
    obtain ⟨⟨hpower, hlong, hindex⟩, hmap⟩ := h
    exact execPodTrip_input_of_low hpower hlong hindex hmap
  case edgeUnspaced =>
    simp only [Bool.and_eq_true, Bool.not_eq_true', decide_eq_true_eq] at h
    obtain ⟨⟨hsync, hrun⟩, hout⟩ := h
    exact execSyncInEdge_of_unspaced counter hsync hrun hout
  case edgeExact =>
    simp only [Bool.and_eq_true, decide_eq_true_eq] at h
    obtain ⟨⟨⟨hsync, hrun⟩, hin⟩, hexact⟩ := h
    exact execSyncInEdge_of_exact hsync hrun hin hexact
  case syncLost =>
    simp only [Bool.and_eq_true, Bool.not_eq_true', decide_eq_true_eq] at h
    obtain ⟨⟨hsync, hrun, hmissing⟩, hnew⟩ := h
    exact execSyncLost_of_missing hsync hrun hmissing hnew
  case shed =>
    simp only [Bool.and_eq_true, decide_eq_true_eq] at h
    obtain ⟨⟨hshed, hrun, hdwell, hmany⟩, hlast⟩ := h
    exact execPhaseShed_of_low hshed hrun hdwell hmany hlast
  case restore =>
    simp only [Bool.and_eq_true, decide_eq_true_eq] at h
    obtain ⟨⟨hshed, hrun, habove⟩, hfirst⟩ := h
    exact (execPhaseRestore_of_high hshed hrun habove).trans
      (congrArg Host.Outcome.next (startRestore_of_shed hfirst))
  case holdOver =>
    simp only [Bool.and_eq_true, decide_eq_true_eq] at h
    obtain ⟨hhold, hover, hrun⟩ := h
    exact execSignHoldEnd_of_over hhold hover hrun
  case rampOver =>
    split at h
    · exact absurd h Bool.false_ne_true
    next r hramp => exact execPodDisableRampEnd_of_over hramp (of_decide_eq_true h)
  case halt => rfl
  case zeroReload =>
    simp only [Bool.and_eq_true, decide_eq_true_eq] at h
    obtain ⟨hrun, hreload⟩ := h
    exact (execReloadPoint_at_zero clocks hrun).trans (by rw [if_pos hreload])
  case zeroPlain =>
    simp only [Bool.and_eq_true, Bool.not_eq_true', decide_eq_true_eq] at h
    obtain ⟨hrun, hplain⟩ := h
    exact (execReloadPoint_at_zero clocks hrun).trans (by rw [hplain, if_neg Bool.false_ne_true])
  case pointReload =>
    simp only [Bool.and_eq_true, decide_eq_true_eq] at h
    obtain ⟨⟨hrun, hpast, hahead, hend⟩, hreload⟩ := h
    exact (execReloadPoint_within clocks hrun hpast hahead hend).trans (by rw [if_pos hreload])
  case pointPlain =>
    simp only [Bool.and_eq_true, Bool.not_eq_true', decide_eq_true_eq] at h
    obtain ⟨⟨hrun, hpast, hahead, hend⟩, hplain⟩ := h
    exact (execReloadPoint_within clocks hrun hpast hahead hend).trans (by rw [hplain, if_neg Bool.false_ne_true])
  case stopped => exact execReloadPoint_of_stopped clocks counter (of_decide_eq_true h)
  case entryRef =>
    obtain ⟨hentry, hperiod⟩ := of_decide_eq_true h
    exact (execQ39ReferenceEntry_of_entry hentry).trans (by rw [takeEntry39_ref 0 hperiod])
  case entryPair =>
    obtain ⟨hentry, hperiod⟩ := of_decide_eq_true h
    exact (execQ39ReferenceEntry_of_entry hentry).trans (by rw [takeEntry39_pair hperiod])
  case entryPast =>
    obtain ⟨hentry, hperiod⟩ := of_decide_eq_true h
    exact (execQ39ReferenceEntry_of_entry hentry).trans (by rw [takeEntry39_past _ _ _ _ _ hperiod])

end

section
/-! POD_ENABLE from IDLE (R167, R411): the case of `phaseCases` leaves out that the heater line follows its rules, and a rule
armed in IDLE alone is disarmed on the way to RUN (R373, R414). -/

namespace Sys2Proof.Machine

/-- What exec, and the case, leave in the heater line where the command runs with the case's condition true. -/
def Case.heaters (e : Case) (c : Cmd) (s : State) : Option (Bool × Bool) :=
  match admitted e.info c s, exec (e.cmd c) s with
  | some (q, t), .next u =>
    if e.ok q t then some (u.power.heater, (conclude e.info q t (e.reply q t)).power.heater) else none
  | _, _ => none

/-- Where the case holds, both leave the line alike. -/
theorem Case.heaters_agree {e : Case} {c : Cmd} {s : State} {model stated : Bool} (h : e.Holds)
    (hrun : e.heaters c s = some (model, stated)) : model = stated := by
  unfold Case.heaters at hrun
  split at hrun
  case h_1 q t u hadmitted hexec =>
    split at hrun
    case isTrue hok =>
      obtain ⟨rfl, rfl⟩ := Prod.mk.inj (Option.some.inj hrun)
      have hnext : Host.Outcome.next u = .next (conclude e.info q t (e.reply q t)) :=
        hexec.symm.trans (h c s q t hadmitted hok)
      rw [Host.Outcome.next.inj hnext]
    case isFalse => cases hrun
  case h_2 => cases hrun

/-! ### A heated site in IDLE -/

/-- An ADMIN seat on PCIe, with one command queue, one completion queue and the opcodes of the phase array. -/
def phaseArraySeat : SeatCfg :=
  { role := 0, transport := 0, port := 0, mac := 0, queues := [⟨0, 1, 4, 1⟩, ⟨1, 2, 4, 0⟩], mask := groupMask [6], owns := [],
    hbTimeout := 1000 }

/-- Rule 0 of the power states block: KIND 4 (an AIN temperature), ACTION HEATER, armed in IDLE alone (Table 17-3). -/
def idleHeaterRule : Mem := mputs [] 16 [4, 0, 1, 0, 2, 2, 0, 0, 0, 0, 0, 0, 0, 0, 2, 0]

/-- A device in IDLE whose heater line is on by rule 0, with pod 0 fitted (phase 0), OFF, and its pole pairs verified. -/
def heatedIdle : State :=
  { State.reset with
    boot := { State.reset.boot with stage := 4, coreReset := false }
    power := { State.reset.power with domains := 0xFFF, state := 1, heater := true, rules := [(0, { result := [(0, true)] })] }
    matrix := [(0, { verified := true })]
    isl := { State.reset.isl with podStop := 0 }
    ep := { State.reset.ep with
      loaded := true
      cfg := { State.reset.ep.cfg with
        seats := ⟨[(0, phaseArraySeat)], []⟩, blocks := [(4, mputs [] 530 [1]), (13, idleHeaterRule)] } }
    hostIf := { State.reset.hostIf with seats := [(0, { state := 1 })] } }

/-- POD_ENABLE of pod 0, without parameters, up to its check. -/
def podEnablePacket : Packet := ⟨0, 0, 7, handle 5 0, List.replicate 12 0, 0⟩

/-- The command of seat 0 with that packet and its check (R38). -/
def podEnableCmd : Cmd :=
  { seat := 0, queue := 0, buf := [], busError := false,
    pkt := { podEnablePacket with check := BitVec.ofNat 32 (packetCheck 0 0 0x0602 podEnablePacket) } }

/-- The site with that packet in slot 0 of seat 0's command queue, and the doorbell rung. -/
def heatedIdleRung : State := heatedIdle.setRing 0 0 { heatedIdle.ring 0 0 with
  tail := 1, slots := (pktRaw 0x0602 podEnableCmd.pkt).zipIdx.map fun e => (e.2, e.1) }

/-- The heater line is on by its rule before the command, as R414 has it. -/
theorem heatedIdle_heaterLine : heatedIdle.heaterLine = true ∧ heatedIdle.power.heater = true := by decide +kernel

/-- The case of POD_ENABLE in IDLE. -/
def podEnableInIdle : Case := phaseCases[4]

/-- exec switches the heater line off with its rule; the case leaves it on. -/
theorem podEnableInIdle_heaters : podEnableInIdle.heaters podEnableCmd heatedIdleRung = some (false, true) := by
  decide +kernel

end Sys2Proof.Machine

open Sys2Proof Sys2Proof.Machine

/-- Refutes O30: its fifth case gives POD_ENABLE in IDLE the next state without `updateHeater`, while leaving IDLE disarms
the rule that holds the heater line of `heatedIdle` on, and the line goes off. -/
theorem not_phaseArrayCommandsAnswer : ¬ Obligations.PhaseArrayCommandsAnswer := by
  unfold Obligations.PhaseArrayCommandsAnswer
  intro h
  have hcase : podEnableInIdle.Holds := h _ (List.getElem_mem _)
  exact Bool.false_ne_true (Case.heaters_agree hcase podEnableInIdle_heaters)

end

section
/-! The events of the outputs and of pod reassignment: what each does where its condition holds, and where it changes
nothing. -/

namespace Sys2Proof.Machine

/-! ### CONTACTOR_CLOSE_REQUEST (R184) -/

theorem execContactorCloseRequest_of_closing {o : Nat} {s : State} (hready : s.closeReadyOut o = true)
    (hstate : (s.output o).state = 1) (hnew : (s.output o).commanded = false) :
    execContactorCloseRequest o s = .next (closeRequest o s) := by
  simp only [execContactorCloseRequest, hready, hstate, hnew, Bool.true_eq_false, Bool.false_eq_true, or_self, if_false,
    if_true]

theorem execContactorCloseRequest_of_not_ready {o : Nat} {s : State} (h : s.closeReadyOut o = false) :
    execContactorCloseRequest o s = .next s := if_pos (.inl h)

/-! ### CONTACTOR_TIMEOUT (R183, R194) -/

/-- CONT_T has passed since the contactors were commanded closed, or open. -/
def State.ContactsDue (s : State) (o : Nat) (closed : Bool) : Prop :=
  ∃ t, (s.output o).contactWait = some (t, closed) ∧ s.after t (1000 * s.outFld o 26 2) = true

theorem State.contactsDue_of_wait {s : State} {o : Nat} {w : Nat × Bool} {closed : Bool}
    (hwait : (s.output o).contactWait = some w) (hlate : s.after w.1 (1000 * s.outFld o 26 2) = true)
    (hside : w.2 = closed) : s.ContactsDue o closed := ⟨w.1, by rw [hwait, ← hside], hlate⟩

/-- The contactor of a pole did not close: the fault of CONTACTOR_FAILED. -/
def closeFailed (o : Nat) (pole : Int) (s : State) : State :=
  outputFault o 0x0852 false ((s.event 5 0x0852 (res [(0, 1, o), (1, 1, pole)])).setOutput o
    { (s.event 5 0x0852 (res [(0, 1, o), (1, 1, pole)])).output o with contactWait := none })

/-- The contactor of a pole did not open: the fault of CONTACTOR_WELDED, which retires the output. -/
def openFailed (o pole : Nat) (s : State) : State :=
  outputFault o 0x0851 true ((s.event 5 0x0851 (res [(0, 1, o), (1, 1, pole)])).setOutput o
    { (s.event 5 0x0851 (res [(0, 1, o), (1, 1, pole)])).output o with contactWait := none, welded := some pole })

theorem execContactorTimeout_of_closed {o : Nat} {s : State} (hdue : s.ContactsDue o true) (hpos : s.auxPos o = true)
    (hneg : s.auxNeg o = true) : execContactorTimeout o s = .next (contactsSettled o s) := by
  obtain ⟨t, hwait, hlate⟩ := hdue
  simp only [execContactorTimeout, hwait, hlate, hpos, hneg, Bool.true_eq_false, and_self, if_false, if_true]

/-- The positive pole is named where both are late. -/
theorem execContactorTimeout_of_not_closed {o : Nat} {s : State} (hdue : s.ContactsDue o true)
    (h : ¬(s.auxPos o = true ∧ s.auxNeg o = true)) :
    execContactorTimeout o s = .next (closeFailed o (if s.auxPos o then 1 else 0) s) := by
  obtain ⟨t, hwait, hlate⟩ := hdue
  simp only [execContactorTimeout, closeFailed, hwait, hlate, h, Bool.true_eq_false, if_false, if_true]

theorem execContactorTimeout_of_open {o : Nat} {s : State} (hdue : s.ContactsDue o false) (hpos : s.auxPos o = false)
    (hneg : s.auxNeg o = false) : execContactorTimeout o s = .next (contactsSettled o s) := by
  obtain ⟨t, hwait, hlate⟩ := hdue
  simp only [execContactorTimeout, hwait, hlate, hpos, hneg, Bool.true_eq_false, Bool.false_eq_true, and_self, if_false,
    if_true]

/-- The positive pole is named where both stay closed. -/
theorem execContactorTimeout_of_not_open {o : Nat} {s : State} (hdue : s.ContactsDue o false)
    (h : ¬(s.auxPos o = false ∧ s.auxNeg o = false)) :
    execContactorTimeout o s = .next (openFailed o (if s.auxPos o then 0 else 1) s) := by
  obtain ⟨t, hwait, hlate⟩ := hdue
  simp only [execContactorTimeout, openFailed, hwait, hlate, h, Bool.true_eq_false, Bool.false_eq_true, if_false]

/-! ### SOFT_START_DONE, OUTPUT_SHORT and STOP_RAMP_END (R183, R186, R187) -/

theorem execSoftStartDone_of_settled {o : Nat} {s : State} (hstate : (s.output o).state = 2)
    (hband : s.past (s.output o).inBand 1000 = true) : execSoftStartDone o s = .next (regulate o
      ((s.setOutput o { s.output o with state := 3, inBand := none, shortSince := none }).freeContext (handle 4 o))) :=
  if_pos ⟨hstate, hband⟩

theorem execOutputShort_of_short {o t : Nat} {s : State} (hsince : (s.output o).shortSince = some t)
    (hstate : (s.output o).state = 2) (hjudged : s.shortAt o ≤ s.now) (hbefore : t ≤ s.shortAt o) :
    execOutputShort o s = .next (outputFault o 0x0853 false
      ((s.setOutput o { s.output o with shorts := bump32 (s.output o).shorts }).event 5 0x0853
        (res [(0, 1, o), (1, 1, (s.output o).retries + 1), (4, 4, (s.output o).volts), (8, 4, (s.output o).amps)]))) := by
  simp only [execOutputShort, hsince, hstate, hjudged, hbefore, and_self, if_true]

theorem execStopRampEnd_of_over {o : Nat} {r : Nat × Int} {s : State} (hramp : (s.output o).stopRamp = some r)
    (hstate : (s.output o).state = 4) (hover : s.after r.1 50000 = true) :
    execStopRampEnd o s = .next (contactsSettled o (tryOpen o (outMeetsReassign o false (outSlotsOff o (outPodsOff o
      (s.setOutput o { s.output o with stopRamp := none, iLim := 0 })))))) := by
  simp only [execStopRampEnd, hramp, hstate, hover, and_self, if_true]

/-! ### OUTPUT_RETRY (R193, R446) -/

/-- The recovery context of a faulted output has come to its next attempt. -/
def State.RetryDue (s : State) (o : Nat) : Prop :=
  ∃ c t, s.contextOf (handle 4 o) = some c ∧ c.due = some t ∧ (s.output o).state = 5 ∧ c.phase = 1 ∧ t ≤ s.now

/-- An output that no session controls goes on to close, at once where it is ready. -/
theorem execOutputRetry_of_due {o : Nat} {s : State} (hdue : s.RetryDue o) (hctrl : (retried o s).outCtrl o ≠ 1) :
    execOutputRetry o s =
      .next (if (retried o s).closeReadyOut o then closeRequest o (retried o s) else retried o s) := by
  obtain ⟨c, t, hcontext, htime, hstate, hphase, hpast⟩ := hdue
  simp only [execOutputRetry, hcontext, htime, hstate, hphase, hpast, and_self, if_true]
  refine congrArg Host.Outcome.next (if_neg fun hdone => ?_)
  split at hdone
  · exact Bool.false_ne_true hdone
  · exact hctrl (of_decide_eq_true hdone).1

/-! ### POD_POLL and SW_ANSWER_TIMEOUT (R179) -/

/-- No poll of the pod has waited for its answers beyond their timeout. -/
def State.pollsFresh (s : State) (p : Nat) : Prop :=
  ((s.mtx p).polls.all fun q => !s.after q.sent (s.swAnswer q.sent)) = true

theorem overduePolls_of_fresh {p : Nat} {s : State} (h : s.pollsFresh p) : overduePolls p s = s := by
  have hnone : (s.mtx p).polls.filter (fun q => s.after q.sent (s.swAnswer q.sent)) = [] :=
    List.filter_eq_nil_iff.2 fun q hq => by simpa using List.all_eq_true.1 h q hq
  unfold overduePolls
  rw [hnone]
  rfl

theorem execPodPoll_of_ramped_out {p : Nat} {s : State} (hfit : s.podFitted p = true) (hstep : (s.mtx p).step = 2)
    (hfresh : s.pollsFresh p) : execPodPoll p s = .next (s.podCmd p 0 ((s.mtx p).old.getD 0)) := by
  simp [execPodPoll, overduePolls_of_fresh hfresh, hfit, hstep]

theorem execPodPoll_of_matching {p : Nat} {s : State} (hfit : s.podFitted p = true) (hstep : (s.mtx p).step = 4)
    (hfresh : s.pollsFresh p) : execPodPoll p s = .next (s.podCmd p 0 ((s.mtx p).target.getD 0)) := by
  simp [execPodPoll, overduePolls_of_fresh hfresh, hfit, hstep]

theorem execSwAnswerTimeout_of_over {p : Nat} {s : State} (hstep : (s.mtx p).step = 2)
    (hover : s.after (s.mtx p).stepTime (s.swAnswer (s.mtx p).stepTime) = true) (hfresh : s.pollsFresh p) :
    execSwAnswerTimeout p s = .next (rejoin p 0x0855 s) := by
  simp only [execSwAnswerTimeout, overduePolls_of_fresh hfresh, hstep, hover, and_self, if_true]

/-! ### POD_REPLY (R179) -/

/-- The poll that the SEQ of a reply names. -/
def State.pollOf (s : State) (r : PodReply) : Option SwPoll :=
  (s.mtx r.pod).polls.find? fun q => decide (q.seq = r.seq)

/-- A reply on a port that does not carry the pod's switch node is not heard. -/
theorem execPodReply_of_not_carried {r : PodReply} {s : State} (hport : r.portB = false)
    (h : s.carries (s.podFld r.pod 6 2 / 32) (s.podFld r.pod 6 2) = false) : execPodReply r s = .next s := by
  simp only [execPodReply, hport, h, Bool.false_eq_true, if_false, if_true]

/-- A reply to no poll is heard, and no more. -/
theorem execPodReply_of_no_poll {r : PodReply} {s : State} (hport : r.portB = false)
    (hcarried : s.carries (s.podFld r.pod 6 2 / 32) (s.podFld r.pod 6 2) = true)
    (hpoll : (heardA r s).pollOf r = none) : execPodReply r s = .next (heardA r s) := by
  rw [State.pollOf, heardA] at hpoll
  simp only [execPodReply, heardA, hport, hcarried, hpoll, Bool.true_eq_false, Bool.false_eq_true, if_false]

/-- The poll of its SEQ keeps a reply of port A. -/
theorem keptA_eq_setMtx {r : PodReply} {q : SwPoll} {s : State} (hpoll : s.pollOf r = some q) :
    keptA r s = s.setMtx r.pod { s.mtx r.pod with
      polls := (s.mtx r.pod).polls.map fun x => if x.seq = q.seq then { q with a := some r } else x
      replyA := some (r, s.now), closedA := r.closed, silentA := false } := by
  rw [State.pollOf] at hpoll
  have hseq : q.seq = r.seq := by simpa using List.find?_some hpoll
  simp only [keptA, hpoll, hseq, Option.map_some, Option.getD_some]

/-- A reply of port A in time, of a node in service, that agrees with the reply of port B: the poll's state is accepted. -/
theorem execPodReply_of_agreeing {r b : PodReply} {q : SwPoll} {s : State} (hport : r.portB = false)
    (hcarried : s.carries (s.podFld r.pod 6 2 / 32) (s.podFld r.pod 6 2) = true)
    (hnode : ((heardA r s).fnode (s.podFld r.pod 6 2)).state = 1) (hpoll : (heardA r s).pollOf r = some q)
    (hb : q.b = some b) (hagree : b.closed = r.closed)
    (hearly : (heardA r s).after q.sent ((heardA r s).swAnswer q.sent) = false) :
    execPodReply r s =
      .next (acceptPoll r.pod { q with a := some r } (noteDv r.pod r (keptA r (heardA r s)))) := by
  rw [keptA_eq_setMtx hpoll]
  rw [State.pollOf] at hpoll
  simp only [heardA] at hnode hpoll hearly ⊢
  simp only [execPodReply, hport, hcarried, hpoll, hnode, hearly, hb, hagree, Bool.true_eq_false, Bool.false_eq_true,
    if_false, if_true, OfNat.one_ne_ofNat, one_ne_zero, or_self]

/-! ### The ends of the reassignment steps (Table 7-5, R190) -/

theorem execReassignRampOutDone_of_over {p : Nat} {s : State} (hramping : (s.mtx p).ramping = true)
    (hstep : (s.mtx p).step = 1) (hover : s.after (s.mtx p).stepTime (1000 * fld (s.blk 5) 4 2) = true) :
    execReassignRampOutDone p s = .next (enterStep2 p (podOff p s)) := if_pos ⟨hstep, hramping, hover⟩

theorem execMatchTimeout_of_over {p : Nat} {s : State} (hstep : (s.mtx p).step = 4)
    (hover : s.after (s.mtx p).stepTime (s.matchTmo (s.mtx p).stepTime) = true) :
    execMatchTimeout p s = .next (endReassign p 0x0452 (unassign p s)) := if_pos ⟨hstep, hover⟩

/-- Pole pairs of an unassigned pod that do not open end the sequence unverified. -/
theorem execSwitchTimeout_of_unassigned {p : Nat} {s : State} (hstep : (s.mtx p).step = 3)
    (hassigned : (s.mtx p).assigned = none)
    (hover : s.after (s.mtx p).stepTime (1000 * s.outFld ((s.mtx p).target.getD 0) 26 2) = true) :
    execSwitchTimeout p s =
      .next (endReassign p 0x0453 (s.setMtx p { s.mtx p with verified := false, openSent := false })) := by
  simp only [execSwitchTimeout, hstep, hassigned, hover, if_true]

/-- The first and the second failure in succession of a pole pair to open count, and the pod rejoins its output. -/
theorem execSwitchTimeout_of_assigned {p k : Nat} {s : State} (hstep : (s.mtx p).step = 3)
    (hassigned : (s.mtx p).assigned = some k) (hfew : tget (s.mtx p).openFails k 0 < 2)
    (hover : s.after (s.mtx p).stepTime (1000 * s.outFld k 26 2) = true) :
    execSwitchTimeout p s = .next (rejoin p 0x0453 (s.setMtx p { s.mtx p with
      openFails := tset (s.mtx p).openFails k (tget (s.mtx p).openFails k 0 + 1) })) := by
  have hkeep : ¬ 3 ≤ tget (s.mtx p).openFails k 0 + 1 := by omega
  simp only [execSwitchTimeout, hstep, hassigned, hover, hkeep, false_and, if_false, if_true]

theorem execReassignRampInDone_of_over {p : Nat} {s : State} (hstep : (s.mtx p).step = 6)
    (hover : s.after (s.mtx p).stepTime (1000 * fld (s.blk 5) 6 2) = true) :
    execReassignRampInDone p s = .next (endReassign p (s.mtx p).status s) := if_pos ⟨hstep, hover⟩

end Sys2Proof.Machine

open Sys2Proof Sys2Proof.Machine

/-- Settles O48: each entry of `outputEvents` is the lemma about its event, whose hypotheses the entry's condition gives. -/
theorem outputEventsTakeEffect : Obligations.OutputEventsTakeEffect := by
  intro o p k r
  unfold outputEvents
  repeat rw [List.forall_mem_cons]
  refine ⟨?closing, ?notReady, ?closed, ?opened, ?closeFailedPos, ?closeFailedNeg, ?openFailedPos, ?openFailedNeg,
    ?softStart, ?short, ?rampEnd, ?retryReady, ?retryWaits, ?pollOld, ?pollTarget, ?notCarried, ?noPoll, ?agreeing,
    ?rampedOut, ?noAnswer, ?noMatch, ?unassignedStuck, ?assignedStuck, ?rampedIn, List.forall_mem_nil _⟩ <;>
    refine Event.holds_mk fun s h => ?_
  case closing =>
    simp only [Bool.and_eq_true, Bool.not_eq_true', decide_eq_true_eq] at h
    obtain ⟨⟨hready, hstate⟩, hnew⟩ := h
    exact execContactorCloseRequest_of_closing hready hstate hnew
  case notReady => exact execContactorCloseRequest_of_not_ready (by simpa using h)
  case closed =>
    split at h
    · exact absurd h Bool.false_ne_true
    next w hwait =>
      simp only [Bool.and_eq_true] at h
      obtain ⟨⟨⟨hlate, hside⟩, hpos⟩, hneg⟩ := h
      exact execContactorTimeout_of_closed (State.contactsDue_of_wait hwait hlate hside) hpos hneg
  case opened =>
    split at h
    · exact absurd h Bool.false_ne_true
    next w hwait =>
      simp only [Bool.and_eq_true, Bool.not_eq_true'] at h
      obtain ⟨⟨⟨hlate, hside⟩, hpos⟩, hneg⟩ := h
      exact execContactorTimeout_of_open (State.contactsDue_of_wait hwait hlate hside) hpos hneg
  case closeFailedPos =>
    split at h
    · exact absurd h Bool.false_ne_true
    next w hwait =>
      simp only [Bool.and_eq_true, Bool.not_eq_true'] at h
      obtain ⟨⟨hlate, hside⟩, hpos⟩ := h
      have hfault := execContactorTimeout_of_not_closed (State.contactsDue_of_wait hwait hlate hside) (by simp [hpos])
      rwa [hpos, if_neg Bool.false_ne_true] at hfault
  case closeFailedNeg =>
    split at h
    · exact absurd h Bool.false_ne_true
    next w hwait =>
      simp only [Bool.and_eq_true, Bool.not_eq_true'] at h
      obtain ⟨⟨⟨hlate, hside⟩, hpos⟩, hneg⟩ := h
      have hfault := execContactorTimeout_of_not_closed (State.contactsDue_of_wait hwait hlate hside) (by simp [hneg])
      rwa [if_pos hpos] at hfault
  case openFailedPos =>
    split at h
    · exact absurd h Bool.false_ne_true
    next w hwait =>
      simp only [Bool.and_eq_true, Bool.not_eq_true'] at h
      obtain ⟨⟨hlate, hside⟩, hpos⟩ := h
      have hfault := execContactorTimeout_of_not_open (State.contactsDue_of_wait hwait hlate hside) (by simp [hpos])
      rwa [if_pos hpos] at hfault
  case openFailedNeg =>
    split at h
    · exact absurd h Bool.false_ne_true
    next w hwait =>
      simp only [Bool.and_eq_true, Bool.not_eq_true'] at h
      obtain ⟨⟨⟨hlate, hside⟩, hpos⟩, hneg⟩ := h
      have hfault := execContactorTimeout_of_not_open (State.contactsDue_of_wait hwait hlate hside) (by simp [hneg])
      rwa [hpos, if_neg Bool.false_ne_true] at hfault
  case softStart =>
    simp only [Bool.and_eq_true, decide_eq_true_eq] at h
    obtain ⟨hstate, hband⟩ := h
    exact execSoftStartDone_of_settled hstate hband
  case short =>
    split at h
    · exact absurd h Bool.false_ne_true
    next t hsince =>
      obtain ⟨hstate, hjudged, hbefore⟩ := of_decide_eq_true h
      exact execOutputShort_of_short hsince hstate hjudged hbefore
  case rampEnd =>
    split at h
    · exact absurd h Bool.false_ne_true
    next t hramp =>
      simp only [Bool.and_eq_true, decide_eq_true_eq] at h
      obtain ⟨hstate, hover⟩ := h
      exact execStopRampEnd_of_over hramp hstate hover
  case retryReady =>
    simp only [Bool.and_eq_true, decide_eq_true_eq] at h
    obtain ⟨⟨hdue, hctrl⟩, hready⟩ := h
    split at hdue
    · exact absurd hdue Bool.false_ne_true
    next c hcontext =>
      split at hdue
      · exact absurd hdue Bool.false_ne_true
      next t htime =>
        exact (execOutputRetry_of_due ⟨c, t, hcontext, htime, of_decide_eq_true hdue⟩ hctrl).trans
          (by rw [if_pos hready])
  case retryWaits =>
    simp only [Bool.and_eq_true, Bool.not_eq_true', decide_eq_true_eq] at h
    obtain ⟨⟨hdue, hctrl⟩, hwaits⟩ := h
    split at hdue
    · exact absurd hdue Bool.false_ne_true
    next c hcontext =>
      split at hdue
      · exact absurd hdue Bool.false_ne_true
      next t htime =>
        exact (execOutputRetry_of_due ⟨c, t, hcontext, htime, of_decide_eq_true hdue⟩ hctrl).trans
          (by rw [hwaits, if_neg Bool.false_ne_true])
  case pollOld =>
    simp only [Bool.and_eq_true, decide_eq_true_eq] at h
    obtain ⟨⟨hfit, hstep⟩, hfresh⟩ := h
    exact execPodPoll_of_ramped_out hfit hstep hfresh
  case pollTarget =>
    simp only [Bool.and_eq_true, decide_eq_true_eq] at h
    obtain ⟨⟨hfit, hstep⟩, hfresh⟩ := h
    exact execPodPoll_of_matching hfit hstep hfresh
  case notCarried =>
    simp only [Bool.and_eq_true, Bool.not_eq_true'] at h
    obtain ⟨hport, hnot⟩ := h
    exact execPodReply_of_not_carried hport hnot
  case noPoll =>
    simp only [Bool.and_eq_true, Bool.not_eq_true'] at h
    obtain ⟨⟨hport, hcarried⟩, hpoll⟩ := h
    exact execPodReply_of_no_poll hport hcarried (Option.isNone_iff_eq_none.1 hpoll)
  case agreeing =>
    simp only [Bool.and_eq_true, Bool.not_eq_true', decide_eq_true_eq] at h
    obtain ⟨⟨⟨hport, hcarried⟩, hnode⟩, h⟩ := h
    split at h
    · exact absurd h Bool.false_ne_true
    next q hpoll =>
      simp only [Bool.and_eq_true, Bool.not_eq_true', decide_eq_true_eq, Option.map_eq_some_iff] at h
      obtain ⟨⟨b, hb, hagree⟩, hearly⟩ := h
      exact execPodReply_of_agreeing hport hcarried hnode hpoll hb hagree hearly
  case rampedOut =>
    simp only [Bool.and_eq_true, decide_eq_true_eq] at h
    obtain ⟨⟨hramping, hstep⟩, hover⟩ := h
    exact execReassignRampOutDone_of_over hramping hstep hover
  case noAnswer =>
    simp only [Bool.and_eq_true, decide_eq_true_eq] at h
    obtain ⟨⟨hstep, hover⟩, hfresh⟩ := h
    exact execSwAnswerTimeout_of_over hstep hover hfresh
  case noMatch =>
    simp only [Bool.and_eq_true, decide_eq_true_eq] at h
    obtain ⟨hstep, hover⟩ := h
    exact execMatchTimeout_of_over hstep hover
  case unassignedStuck =>
    simp only [Bool.and_eq_true, decide_eq_true_eq] at h
    obtain ⟨⟨hstep, hassigned⟩, hover⟩ := h
    exact execSwitchTimeout_of_unassigned hstep hassigned hover
  case assignedStuck =>
    simp only [Bool.and_eq_true, decide_eq_true_eq] at h
    obtain ⟨⟨hstep, hassigned, hfew⟩, hover⟩ := h
    exact execSwitchTimeout_of_assigned hstep hassigned hfew hover
  case rampedIn =>
    simp only [Bool.and_eq_true, decide_eq_true_eq] at h
    obtain ⟨hstep, hover⟩ := h
    exact execReassignRampInDone_of_over hstep hover

end

section
/-! The host commands of the outputs and of the pod matrix (Table 7-10): what each replies in each of its cases. -/

namespace Sys2Proof.Machine

/-! ### OUTPUT_STATUS -/

/-- The RESULT of OUTPUT_STATUS for a fitted output that regulates. -/
def regulatingStatus (o : Nat) (s : State) : Res :=
  res [(0, 1, 3), (1, 1, maskOf (s.podsOf o)), (2, 1, (s.output o).retries),
    (3, 1, bit (decide ((s.output o).control = 1)) + 2 * bit (decide ((s.output o).control = 2))
      + 4 * bit (s.outReverse o) + 8 * bit (s.auxPos o) + 16 * bit (s.auxNeg o)),
    (4, 2, (s.output o).volts), (6, 2, (s.output o).busV), (8, 4, (s.output o).amps), (12, 4, s.outGrant o)]

theorem outputStatusOf_of_regulating {q : Req} {s : State} (hstate : (s.output q.idx).state = 3)
    (hfit : s.outFitted q.idx = true) : outputStatusOf q s = .done 0 (regulatingStatus q.idx s) s := by
  simp only [outputStatusOf, regulatingStatus, reads, hstate, hfit, decide_true, Bool.true_and, Nat.cast_ofNat]

/-! ### OUTPUT_START (R184, R196) -/

/-- An OUTPUT_START is not turned away: its parameters are in range, the host controls the output, no other start of it is
live, the output refuses none, and a meter record is free. -/
structure State.StartsFor (s : State) (q : Req) : Prop where
  params : outParams q = true
  control : s.outCtrl q.idx = 2
  kept : (s.output q.idx).state ≠ 6
  only : s.liveOn 0x0501 q.hnd = []
  admitted : s.startRefused q.idx = none
  record : s.recFree ≠ 0

/-- It has its effect at once, or waits for the contactor close request. -/
theorem outputStartOf_of_starts {q : Req} {s : State} (h : s.StartsFor q) : outputStartOf q s =
    if s.closeReadyOut q.idx then
      .done 0 0 (closeRequest q.idx (startRecord q.idx (outTargets q.idx (q.w 0) (q.i 1) (q.w 2) s)))
    else .live false [] s := by
  obtain ⟨hparams, hcontrol, hkept, honly, hadmitted, hrecord⟩ := h
  simp only [outputStartOf, hparams, hcontrol, hkept, honly, hadmitted, hrecord, ne_eq, not_true_eq_false,
    Bool.true_eq_false, if_false]

theorem outputStartOf_of_bad_params {q : Req} (s : State) (h : outParams q = false) :
    outputStartOf q s = rej 0x0108 s := if_pos h

theorem outputStartOf_of_retired {q : Req} {s : State} (hparams : outParams q = true) (hcontrol : s.outCtrl q.idx = 2)
    (hstate : (s.output q.idx).state = 6) : outputStartOf q s = rej 0x0303 s := by
  simp only [outputStartOf, hparams, hcontrol, hstate, ne_eq, not_true_eq_false, Bool.true_eq_false, if_false, if_true]

theorem outputStartOf_of_other_control {q : Req} {s : State} (hparams : outParams q = true)
    (hcontrol : s.outCtrl q.idx ≠ 2) : outputStartOf q s = rej 0x0301 s :=
  (if_neg (by simp [hparams])).trans (if_pos hcontrol)

/-! ### OUTPUT_SET and OUTPUT_STOP (R185, R187, R196) -/

theorem outputSetOf_of_regulating {q : Req} {s : State} (hparams : outParams q = true)
    (hcontrol : s.outCtrl q.idx = 2) (hstate : (s.output q.idx).state = 3) :
    outputSetOf q s = .done 0 0 (regulate q.idx (outTargets q.idx (q.w 0) (q.i 1) (q.w 2) s)) := by
  have hkept : ¬ 3 = 6 := by decide
  simp only [outputSetOf, hparams, hcontrol, hstate, hkept, ne_eq, not_true_eq_false, Bool.true_eq_false, if_false]

/-- An output that does not regulate turns OUTPUT_SET away, whoever controls it. -/
theorem outputSetOf_of_other_state {q : Req} {s : State} (hparams : outParams q = true)
    (hstate : (s.output q.idx).state ≠ 3) (hkept : (s.output q.idx).state ≠ 6) :
    outputSetOf q s = rej 0x0301 s := by
  simp only [outputSetOf, hparams, hstate, hkept, ne_eq, not_false_eq_true, Bool.true_eq_false, if_false, if_true,
    ite_self]

theorem outputStopOf_of_running {q : Req} {s : State} (hcontrol : s.outCtrl q.idx = 2)
    (hstate : (s.output q.idx).state = 1 ∨ (s.output q.idx).state = 2 ∨ (s.output q.idx).state = 3) :
    outputStopOf q s = .done 0 0 (outputStop q.idx s) :=
  (if_neg (not_not_intro hcontrol)).trans
    ((if_neg (by omega)).trans ((if_neg (by omega)).trans (if_neg (by omega))))

theorem outputStopOf_of_stopped {q : Req} {s : State} (hcontrol : s.outCtrl q.idx = 2)
    (hstate : (s.output q.idx).state = 0 ∨ (s.output q.idx).state = 4) : outputStopOf q s = rej 0x0001 s :=
  (if_neg (not_not_intro hcontrol)).trans
    ((if_neg (by omega)).trans ((if_neg (by omega)).trans (if_pos hstate)))

/-! ### POD_ASSIGN (R188, R190, R196) -/

/-- A pod in service that the host may assign: the planner is off. -/
structure State.HostAssigns (s : State) (p : Nat) : Prop where
  kept : (s.pod p).state ≠ 4
  planner : fld (s.blk 5) 14 1 ≠ 1

/-- A POD_ASSIGN to no output (word 0 = 0xFF) is turned away for the pole pair, for the sequence in progress, for an
announced epoch and for a held pod, in this order. -/
theorem podAssignOf_to_none {q : Req} {s : State} (h : s.HostAssigns q.idx) (hnone : q.w 0 = 0xFF) :
    podAssignOf q s =
      if s.pairStuck q.idx then rej 0x0303 s
      else if (s.mtx q.idx).step ≠ 0 then rej 0x0350 s
      else if s.epochTouchesPods q.idx then rej 0x0310 s
      else if s.podHeld q.idx then rej 0x0301 s
      else if (s.mtx q.idx).assigned = none then rej 0x0001 s
      else .live true [] (startReassign q.idx none s) := by
  obtain ⟨hkept, hplanner⟩ := h
  simp only [podAssignOf, hnone, hkept, hplanner, ne_eq, not_true_eq_false, and_false, false_and, or_false, if_false,
    if_true]

theorem podAssignOf_of_planner {q : Req} {s : State} (hnone : q.w 0 = 0xFF) (hkept : (s.pod q.idx).state ≠ 4)
    (hplanner : fld (s.blk 5) 14 1 = 1) : podAssignOf q s = rej 0x0301 s := by
  simp only [podAssignOf, hnone, hkept, hplanner, ne_eq, not_true_eq_false, and_false, if_false, if_true]

/-- The pod has no pole pair to the output. -/
theorem podAssignOf_of_no_pair {q : Req} {s : State} (h : s.HostAssigns q.idx) (htarget : q.w 0 ≤ 15)
    (hpair : tst (s.podFld q.idx 8 2) (q.w 0) = false) : podAssignOf q s = rej 0x0351 s := by
  obtain ⟨hkept, hplanner⟩ := h
  have hsome : q.w 0 ≠ 0xFF := by omega
  simp only [podAssignOf, hsome, hkept, hplanner, hpair, Nat.not_lt.2 htarget, ne_eq, not_false_eq_true, and_self,
    false_and, if_false, if_true]

/-! ### MATRIX_STATUS -/

/-- The RESULT of MATRIX_STATUS for a pod whose matrix state is known. -/
def knownMatrixStatus (p : Nat) (s : State) : Res :=
  res [(0, 1, ((s.mtx p).assigned.getD 0xFF : Nat)), (1, 1, (s.mtx p).step), (2, 2, (s.mtx p).closed.toNat),
    (4, 2, (s.mtx p).dv), (6, 4, (s.mtx p).current),
    (10, 1, bit (decide ((s.fnode (s.podFld p 6 2)).state = 1)) + 2 * bit (s.mtx p).disagree)]

theorem matrixStatusOf_of_known {q : Req} {s : State} (h : (s.mtx q.idx).unknown = false) :
    matrixStatusOf q s = .done 0 (knownMatrixStatus q.idx s) s := by
  simp only [matrixStatusOf, knownMatrixStatus, reads, h, Bool.false_eq_true, if_false]

/-! ### OUTPUT_COUNTERS -/

/-- The RESULT of OUTPUT_COUNTERS. -/
def outputCounts (o : Nat) (s : State) : Res :=
  res [(0, 4, (s.output o).shorts), (4, 4, (s.output o).retryCount), (8, 4, (s.output o).operations),
    (12, 4, (s.output o).podsIn)]

theorem outputCountersOf_of_keep {q : Req} (s : State) (h : (q.word 0).getLsbD 0 = false) :
    outputCountersOf q s = .done 0 (outputCounts q.idx s) s :=
  congrArg (Reply.done 0 _) (if_neg (Bool.eq_false_iff.1 h))

theorem outputCountersOf_of_clear {q : Req} (s : State) (h : (q.word 0).getLsbD 0 = true) :
    outputCountersOf q s = .done 0 (outputCounts q.idx s) (s.setOutput q.idx { s.output q.idx with
      shorts := 0, retryCount := 0, operations := 0, podsIn := 0 }) :=
  congrArg (Reply.done 0 _) (if_pos h)

end Sys2Proof.Machine

open Sys2Proof Sys2Proof.Machine

/-- Settles O31: each case of `outputCases` is the lemma about its command's reply, whose hypotheses the case's condition
gives. -/
theorem outputCommandsAnswer : Obligations.OutputCommandsAnswer := by
  unfold Obligations.OutputCommandsAnswer outputCases
  repeat rw [List.forall_mem_cons]
  refine ⟨?status, ?startNow, ?startLater, ?startBadParams, ?startRetired, ?startOther, ?set, ?setOther, ?stop,
    ?stopped, ?unassign, ?unassignBusy, ?unassignStuck, ?assignPlanner, ?assignNoPair, ?matrix, ?counters,
    ?countersClear, List.forall_mem_nil _⟩ <;>
    refine Case.holds_mk (fun _ _ => rfl) fun q s h => ?_
  case status =>
    simp only [Bool.and_eq_true, decide_eq_true_eq] at h
    obtain ⟨hstate, hfit⟩ := h
    exact outputStatusOf_of_regulating hstate hfit
  case startNow =>
    simp only [Bool.and_eq_true, decide_eq_true_eq] at h
    obtain ⟨⟨⟨⟨⟨hparams, hcontrol, hkept⟩, honly⟩, hadmitted⟩, hrecord⟩, hready⟩ := h
    exact (outputStartOf_of_starts ⟨hparams, hcontrol, hkept, honly, hadmitted, hrecord⟩).trans (if_pos hready)
  case startLater =>
    simp only [Bool.and_eq_true, Bool.not_eq_true', decide_eq_true_eq] at h
    obtain ⟨⟨⟨⟨⟨hparams, hcontrol, hkept⟩, honly⟩, hadmitted⟩, hrecord⟩, hwaits⟩ := h
    exact (outputStartOf_of_starts ⟨hparams, hcontrol, hkept, honly, hadmitted, hrecord⟩).trans
      (if_neg (Bool.eq_false_iff.1 hwaits))
  case startBadParams => exact outputStartOf_of_bad_params s (by simpa using h)
  case startRetired =>
    simp only [Bool.and_eq_true, decide_eq_true_eq] at h
    obtain ⟨hparams, hcontrol, hstate⟩ := h
    exact outputStartOf_of_retired hparams hcontrol hstate
  case startOther =>
    simp only [Bool.and_eq_true, decide_eq_true_eq] at h
    obtain ⟨hparams, hcontrol⟩ := h
    exact outputStartOf_of_other_control hparams hcontrol
  case set =>
    simp only [Bool.and_eq_true, decide_eq_true_eq] at h
    obtain ⟨hparams, hcontrol, hstate⟩ := h
    exact outputSetOf_of_regulating hparams hcontrol hstate
  case setOther =>
    simp only [Bool.and_eq_true, decide_eq_true_eq] at h
    obtain ⟨hparams, hstate, hkept⟩ := h
    exact outputSetOf_of_other_state hparams hstate hkept
  case stop =>
    obtain ⟨hcontrol, hstate⟩ := of_decide_eq_true h
    exact outputStopOf_of_running hcontrol hstate
  case stopped =>
    obtain ⟨hcontrol, hstate⟩ := of_decide_eq_true h
    exact outputStopOf_of_stopped hcontrol hstate
  case unassign =>
    simp only [Bool.and_eq_true, Bool.not_eq_true', decide_eq_true_eq] at h
    obtain ⟨⟨⟨⟨hnone, hkept, hplanner, hstep, hassigned⟩, hepoch⟩, hheld⟩, hstuck⟩ := h
    rw [podAssignOf_to_none ⟨hkept, hplanner⟩ hnone]
    simp only [hstuck, hstep, hepoch, hheld, hassigned, ne_eq, not_true_eq_false, Bool.false_eq_true, if_false]
  case unassignBusy =>
    simp only [Bool.and_eq_true, Bool.not_eq_true', decide_eq_true_eq] at h
    obtain ⟨⟨hnone, hkept, hplanner, hstep⟩, hstuck⟩ := h
    exact (podAssignOf_to_none ⟨hkept, hplanner⟩ hnone).trans
      ((if_neg (Bool.eq_false_iff.1 hstuck)).trans (if_pos hstep))
  case unassignStuck =>
    simp only [Bool.and_eq_true, decide_eq_true_eq] at h
    obtain ⟨⟨hnone, hkept, hplanner⟩, hstuck⟩ := h
    exact (podAssignOf_to_none ⟨hkept, hplanner⟩ hnone).trans (if_pos hstuck)
  case assignPlanner =>
    obtain ⟨hnone, hkept, hplanner⟩ := of_decide_eq_true h
    exact podAssignOf_of_planner hnone hkept hplanner
  case assignNoPair =>
    simp only [Bool.and_eq_true, Bool.not_eq_true', decide_eq_true_eq] at h
    obtain ⟨⟨htarget, hkept, hplanner⟩, hpair⟩ := h
    exact podAssignOf_of_no_pair ⟨hkept, hplanner⟩ htarget hpair
  case matrix => exact matrixStatusOf_of_known (by simpa using h)
  case counters => exact outputCountersOf_of_keep s (by simpa using h)
  case countersClear => exact outputCountersOf_of_clear s h

end

section
/-! The events of the loop engine and of Geyser: what each does where its condition holds, and where it changes nothing. -/

namespace Sys2Proof.Machine

/-! ### SLOT_SAMPLE (R199, R202 to R214) -/

theorem execSlotSample_of_no_trigger {k cycles : Nat} {codes : List (Nat × Int)} {s : State} (lost : Bool)
    (h : (latchMdat codes s).triggered k cycles = false) :
    execSlotSample k codes lost cycles s = .next (latchMdat codes s) := if_pos h

/-- The trigger is used, and the sample counted as skipped. -/
def skipSample (k : Nat) (s : State) : State :=
  s.setSlot k { s.slot k with skips := bump32 (s.slot k).skips, zeros := 0 }

/-- A trigger fewer than 3,000 cycles after the last sample is skipped. -/
theorem execSlotSample_of_early {k cycles : Nat} {codes : List (Nat × Int)} {s : State} (lost : Bool)
    (htrigger : (latchMdat codes s).triggered k cycles = true) (hearly : cycles < 3000) :
    execSlotSample k codes lost cycles s = .next (skipSample k (latchMdat codes s)) :=
  (if_neg (by simp [htrigger])).trans (if_pos hearly)

/-- The slot at its boundary: its new entry, its reverts and its oldest write are in force, and its measurement's renewal
is counted (R209, R214). -/
def slotAtBoundary (k : Nat) (codes : List (Nat × Int)) (s : State) : State :=
  renew k codes (applyWrite k (applyReverts k (takeEntry k (sampleBegin k s))))

/-- The other pending commands, the sample and its capture; `gone` tells that the measurement is lost. -/
def sampleFrom (k : Nat) (gone : Bool) (cycles : Nat) (s : State) : State :=
  captureStep k (sampleRun k gone cycles (samplePending k gone s))

theorem execSlotSample_in_turn {k cycles : Nat} {codes : List (Nat × Int)} {s : State} (lost : Bool)
    (htrigger : (latchMdat codes s).triggered k cycles = true) (hspaced : 3000 ≤ cycles)
    (hturn : (latchMdat codes s).waitsTurn k = false) :
    execSlotSample k codes lost cycles s =
      .next (sampleFrom k ((slotAtBoundary k codes (latchMdat codes s)).measLost k lost) cycles
        (slotAtBoundary k codes (latchMdat codes s))) :=
  (if_neg (by simp [htrigger])).trans ((if_neg (Nat.not_lt.2 hspaced)).trans (if_neg (by simp [hturn])))

/-! ### LOOP_FOLLOWING (R213) -/

/-- A following error of a slot whose action is to report alone. -/
def followReported (k : Nat) (s : State) : State :=
  (s.setSlot k { s.slot k with
    followed := true, followCount := bump32 (s.slot k).followCount, derating := (s.slot k).satHi }).event 7 0x0460
      (res [(0, 1, k), (1, 1, 0), (4, 4, (s.slot k).err.toNat), (8, 4, (s.slot k).sp.toNat)])

/-- The error of an AUTO slot that no output ramps has stood for the slot's time. -/
theorem execLoopFollowing_of_past {k : Nat} {s : State} (hmode : (s.slot k).mode = 2) (hnew : (s.slot k).followed = false)
    (hfree : s.slotOut k = none) (hact : s.slFld k 68 1 = 0)
    (hpast : s.past (s.slot k).following (1000 * s.slFld k 64 4) = true) :
    execLoopFollowing k s = .next (followReported k s) := by
  simp only [execLoopFollowing, followReported, hmode, hnew, hfree, hact, hpast, ne_eq, not_true_eq_false,
    Bool.false_eq_true, Bool.true_eq_false, zero_ne_one, or_self, if_false, Nat.cast_zero]

theorem execLoopFollowing_of_other_mode_or_known {k : Nat} {s : State}
    (h : (s.slot k).mode ≠ 2 ∨ (s.slot k).followed = true) : execLoopFollowing k s = .next s :=
  if_pos (h.imp_right Or.inl)

/-! ### LOOP_MEAS_LOST (R214) -/

theorem loseMeas_of_auto {k : Nat} {s : State} (h : (s.slot k).mode = 2) : loseMeas k s =
    fallback k (s.report 7 0x0860 (handle 7 k) (res [(0, 1, k), (2, 2, s.slFld k 12 2)])) := if_pos (Or.inr h)

/-- A slot in OFF or FALLBACK loses nothing. -/
theorem loseMeas_of_off_or_fallback {k : Nat} {s : State} (h : (s.slot k).mode = 0 ∨ (s.slot k).mode = 3) :
    loseMeas k s = s := if_neg (by omega)

theorem execLoopMeasLost_of_source {k : Nat} {s : State} (hlaw : s.law k ≠ 0) (hsource : s.slFld k 12 2 ≠ 0) :
    execLoopMeasLost k s = .next (loseMeas k s) := if_neg (not_or.2 ⟨hlaw, hsource⟩)

theorem execLoopMeasLost_of_no_source {k : Nat} {s : State} (h : s.law k = 0 ∨ s.slFld k 12 2 = 0) :
    execLoopMeasLost k s = .next s := if_pos h

theorem execLoopMeasLost_of_off_or_fallback {k : Nat} {s : State} (h : (s.slot k).mode = 0 ∨ (s.slot k).mode = 3) :
    execLoopMeasLost k s = .next s := by
  by_cases hsource : s.law k = 0 ∨ s.slFld k 12 2 = 0
  · exact execLoopMeasLost_of_no_source hsource
  · obtain ⟨hlaw, hfld⟩ := not_or.1 hsource
    rw [execLoopMeasLost_of_source hlaw hfld, loseMeas_of_off_or_fallback h]

/-! ### GEYSER_DONE (R220) -/

theorem endElapsed_of_over {s : State} (hrun : s.geyser.running = true) (htimed : s.geyser.duration ≠ 0)
    (hover : s.after s.geyser.start (1000 * s.geyser.duration) = true) : endElapsed s = endInjection 0 s :=
  if_pos ⟨hrun, htimed, hover⟩

theorem endElapsed_of_not_running {s : State} (h : s.geyser.running = false) : endElapsed s = s :=
  if_neg (by simp [h])

end Sys2Proof.Machine

open Sys2Proof Sys2Proof.Machine

/-- Settles O49: each entry of `loopEvents` is the lemma about its event, whose hypotheses the entry's condition gives. -/
theorem loopEventsTakeEffect : Obligations.LoopEventsTakeEffect := by
  intro k codes lost cycles
  unfold loopEvents
  repeat rw [List.forall_mem_cons]
  refine ⟨?noTrigger, ?early, ?inTurn, ?following, ?notFollowing, ?lostInAuto, ?notLost, ?injectionOver, ?noInjection,
    List.forall_mem_nil _⟩ <;>
    refine Event.holds_mk fun s h => ?_
  case noTrigger => exact execSlotSample_of_no_trigger lost (by simpa using h)
  case early =>
    simp only [Bool.and_eq_true, decide_eq_true_eq] at h
    obtain ⟨htrigger, hearly⟩ := h
    exact execSlotSample_of_early lost htrigger hearly
  case inTurn =>
    simp only [Bool.and_eq_true, Bool.not_eq_true', decide_eq_true_eq] at h
    obtain ⟨⟨htrigger, hspaced⟩, hturn⟩ := h
    exact execSlotSample_in_turn lost htrigger hspaced hturn
  case following =>
    simp only [Bool.and_eq_true, Bool.not_eq_true', decide_eq_true_eq] at h
    obtain ⟨⟨⟨hmode, hfree, hact⟩, hnew⟩, hpast⟩ := h
    exact execLoopFollowing_of_past hmode hnew hfree hact hpast
  case notFollowing => exact execLoopFollowing_of_other_mode_or_known (by simpa using h)
  case lostInAuto =>
    obtain ⟨hlaw, hsource, hmode⟩ := of_decide_eq_true h
    exact (execLoopMeasLost_of_source hlaw hsource).trans (congrArg Host.Outcome.next (loseMeas_of_auto hmode))
  case notLost =>
    obtain hlaw | hsource | hmode := of_decide_eq_true h
    · exact execLoopMeasLost_of_no_source (Or.inl hlaw)
    · exact execLoopMeasLost_of_no_source (Or.inr hsource)
    · exact execLoopMeasLost_of_off_or_fallback hmode
  case injectionOver =>
    simp only [Bool.and_eq_true, decide_eq_true_eq] at h
    obtain ⟨⟨hrun, htimed⟩, hover⟩ := h
    exact congrArg Host.Outcome.next (endElapsed_of_over hrun htimed hover)
  case noInjection => exact congrArg Host.Outcome.next (endElapsed_of_not_running (by simpa using h))

end

section
/-! The host commands of the loop engine and of Geyser (Table 8-10): what each replies in each of its cases. -/

namespace Sys2Proof.Machine

/-! ### LOOP_MODE and LOOP_SETPOINT (R207, R219) -/

theorem loopModeOf_of_bad_mode {q : Req} (s : State) (h : 2 < q.w 0) : loopModeOf q s = rej 0x0108 s := if_pos h

theorem loopModeOf_of_admitted {q : Req} {s : State} (hmode : q.w 0 ≤ 2) (h : s.modeRefused q.idx = none) :
    loopModeOf q s = .live false [] s := by
  simp only [loopModeOf, Nat.not_lt.2 hmode, h, if_false]

theorem loopModeOf_of_refused {q : Req} {s : State} {status : Nat} (hmode : q.w 0 ≤ 2)
    (h : s.modeRefused q.idx = some status) : loopModeOf q s = rej status s := by
  simp only [loopModeOf, Nat.not_lt.2 hmode, h, if_false]

theorem State.modeRefused_of_no_law {s : State} {k : Nat} (h : s.law k = 0) : s.modeRefused k = some 0x0301 := if_pos h

theorem loopSetpointOf_of_own {q : Req} {s : State} (hlaw : s.law q.idx ≠ 0) (hown : s.slFld q.idx 14 2 = 0)
    (hfree : s.sequenced q.idx = false) : loopSetpointOf q s = .live false [] s := if_neg (by simp [hlaw, hown, hfree])

theorem loopSetpointOf_of_not_settable {q : Req} {s : State} (h : s.law q.idx = 0 ∨ s.sequenced q.idx = true) :
    loopSetpointOf q s = rej 0x0301 s := if_pos (h.imp_right Or.inr)

/-! ### LOOP_COEF_WRITE, LOOP_COEF_READ and LOOP_REVERT (R210, R211, R219) -/

/-- A write of a gain or limit that the slot takes: an aligned offset from 20 to 60, a set that still follows R201, and
room for one more pending write. -/
structure State.TakesCoef (s : State) (q : Req) : Prop where
  aligned : q.w 0 % 4 = 0
  low : 20 ≤ q.w 0
  high : q.w 0 ≤ 60
  sound : coefOk (s.slot q.idx).working (q.w 0) (q.word 1) = true
  room : (s.liveOn 0x0703 q.hnd).length < 16

theorem loopCoefWriteOf_of_taken {q : Req} {s : State} (hlaw : s.law q.idx ≠ 0) (hopen : s.slFlag q.idx 3 = true)
    (h : s.TakesCoef q) : loopCoefWriteOf q s = .live false [] s := by
  obtain ⟨haligned, hlow, hhigh, hsound, hroom⟩ := h
  simp only [loopCoefWriteOf, hlaw, hopen, haligned, hlow, hhigh, hsound, Nat.not_le.2 hroom, ne_eq, not_true_eq_false,
    Bool.true_eq_false, and_self, true_or, or_self, if_false]

theorem loopCoefWriteOf_of_closed {q : Req} {s : State} (hlaw : s.law q.idx ≠ 0) (hclosed : s.slFlag q.idx 3 = false) :
    loopCoefWriteOf q s = rej 0x0260 s := (if_neg hlaw).trans (if_pos hclosed)

theorem loopCoefWriteOf_of_unaligned {q : Req} {s : State} (hlaw : s.law q.idx ≠ 0) (hopen : s.slFlag q.idx 3 = true)
    (h : q.w 0 % 4 ≠ 0) : loopCoefWriteOf q s = rej 0x0108 s :=
  (if_neg hlaw).trans ((if_neg (by simp [hopen])).trans (if_pos (Or.inl h)))

/-- Word 1 bit 0 selects the configured set in place of the working set. -/
theorem loopCoefReadOf_of_offset {q : Req} {s : State} (haligned : q.w 0 % 4 = 0) (hin : q.w 0 ≤ 240) :
    loopCoefReadOf q s = .done 0
      (resBytes (mbytes (if (q.word 1).getLsbD 0 then s.slotConf q.idx else (s.slot q.idx).working) (q.w 0) 16)) s :=
  if_neg (by omega)

theorem loopCoefReadOf_of_bad_offset {q : Req} (s : State) (h : q.w 0 % 4 ≠ 0 ∨ 240 < q.w 0) :
    loopCoefReadOf q s = rej 0x0108 s := if_pos h

theorem loopRevertOf_of_law {q : Req} {s : State} (h : s.law q.idx ≠ 0) : loopRevertOf q s = .live false [] s := if_neg h

theorem loopRevertOf_of_no_law {q : Req} {s : State} (h : s.law q.idx = 0) : loopRevertOf q s = rej 0x0301 s := if_pos h

/-! ### LOOP_COUNTERS -/

/-- The RESULT of LOOP_COUNTERS. -/
def loopCounts (k : Nat) (s : State) : Res :=
  res [(0, 4, (s.slot k).samples), (4, 4, (s.slot k).skips), (8, 4, (s.slot k).satCount), (12, 4, (s.slot k).followCount)]

theorem loopCountersOf_of_keep {q : Req} (s : State) (h : (q.word 0).getLsbD 0 = false) :
    loopCountersOf q s = .done 0 (loopCounts q.idx s) s := congrArg (Reply.done 0 _) (if_neg (Bool.eq_false_iff.1 h))

theorem loopCountersOf_of_clear {q : Req} (s : State) (h : (q.word 0).getLsbD 0 = true) :
    loopCountersOf q s = .done 0 (loopCounts q.idx s) (s.setSlot q.idx { s.slot q.idx with
      samples := 0, skips := 0, satCount := 0, followCount := 0 }) := congrArg (Reply.done 0 _) (if_pos h)

/-! ### GEYSER_INJECT (R218, R219) -/

theorem geyserInjectOf_of_no_law {q : Req} {s : State} (h : s.law q.idx = 0) : geyserInjectOf q s = rej 0x0301 s :=
  if_pos h

theorem geyserInjectOf_of_mode_off {q : Req} {s : State} (hlaw : s.law q.idx ≠ 0) (hparams : injectParams q s = true)
    (hmode : s.geyserMode = 0) : geyserInjectOf q s = rej 0x0260 s :=
  (if_neg hlaw).trans ((if_neg (by simp [hparams])).trans (if_pos (Or.inr (Or.inl hmode))))

/-- GEYSER_MODE 1 admits an injection in maintenance mode; the slot must be open to it, no other may run or wait, and the
slot's mode must take it. -/
structure State.InjectsInMaintenance (s : State) (q : Req) : Prop where
  law : s.law q.idx ≠ 0
  mode : s.geyserMode = 1
  maintenance : s.isl.maintenance = true
  slotOpen : s.slFlag q.idx 3 = true
  idle : s.geyser.running = false
  only : s.liveOf 0x1010 = []
  point : injectMode (q.w 0) (s.slot q.idx).mode = true

theorem geyserInjectOf_of_maintenance {q : Req} {s : State} (hparams : injectParams q s = true)
    (h : s.InjectsInMaintenance q) : geyserInjectOf q s = .live false [] s := by
  obtain ⟨hlaw, hmode, hmaint, hopen, hidle, honly, hpoint⟩ := h
  simp only [geyserInjectOf, hparams, hlaw, hmode, hmaint, hopen, hidle, honly, hpoint, ne_eq, not_true_eq_false,
    one_ne_zero, OfNat.one_ne_ofNat, Bool.true_eq_false, Bool.false_eq_true, and_false, false_and, or_self, if_false]

/-! ### GEYSER_ARM (R221) -/

/-- A capture without a trigger: it records from the first sample of its clock slot. -/
def captureArmed (q : Req) (s : State) : State :=
  { s with geyser := { s.geyser with
    capture := 2, signals := armSignals q, clockSlot := q.w 4 % 64, every := q.w 4 / 256 % 256 + 1, trigger := 0,
    trigArg := q.w 5 / 16 % 8, trigStatus := q.w 5 / 65536, threshold := q.word 6, preTrig := q.w 7, record := [],
    since := 0, trigIndex := 0, after := 0 } }

/-- The words of GEYSER_ARM name at least one signal, each a known one, and a clock slot with a law; the capture has no
trigger. -/
structure State.ArmsAtOnce (s : State) (q : Req) : Prop where
  named : armSignals q ≠ []
  known : (armSignals q).all signalOk = true
  clock : s.law (q.w 4 % 64) ≠ 0
  trigger : q.w 5 % 16 = 0
  part : q.w 7 ≤ 255

theorem geyserArmOf_at_once {q : Req} {s : State} (hmode : s.geyserMode ≠ 0)
    (hfree : ¬(s.geyser.capture = 1 ∨ s.geyser.capture = 2)) (h : s.ArmsAtOnce q) :
    geyserArmOf q s = .done 0 (res [(0, 4, (65536 / (armSignals q).length : Nat))]) (captureArmed q s) := by
  obtain ⟨hnamed, hknown, hclock, htrigger, hpart⟩ := h
  simp only [geyserArmOf, hmode, hfree, hnamed, hknown, hclock, htrigger, Nat.not_lt_zero, OfNat.zero_ne_ofNat,
    Nat.not_lt.2 hpart, Bool.true_eq_false, false_and, or_self, if_false, if_true]
  rfl

theorem geyserArmOf_of_mode_off {q : Req} {s : State} (h : s.geyserMode = 0) : geyserArmOf q s = rej 0x0260 s := if_pos h

theorem geyserArmOf_of_recording {q : Req} {s : State} (hmode : s.geyserMode ≠ 0) (h : s.geyser.capture = 2) :
    geyserArmOf q s = rej 0x0560 s := (if_neg hmode).trans (if_pos (Or.inr h))

/-! ### GEYSER_READ (R42) -/

/-- What a finished capture holds of signal `i` from instant `first` on. -/
def recordedSignal (i first : Nat) (s : State) : List Byte :=
  ((s.geyser.record.drop first).map fun x => x.getD i 0).flatMap wordBytes

theorem geyserReadOf_words {q : Req} {s : State} (hbuf : q.buf = none) (hdone : s.geyser.capture = 3)
    (hsignal : q.w 0 < s.geyser.signals.length) (hfirst : q.w 1 < s.geyser.record.length) :
    geyserReadOf q s = .done 0 (resBytes (recordedSignal (q.w 0) (q.w 1) s)) s := by
  simp only [geyserReadOf, hbuf, hdone, Nat.not_le.2 hsignal, Nat.not_le.2 hfirst, Option.isSome_none, Bool.false_eq_true,
    ne_eq, not_true_eq_false, or_self, if_false]
  rfl

/-- Into a buffer goes as much of the signal as it holds. -/
theorem geyserReadOf_buffer {q : Req} {b : Buf} {s : State} (hbuf : q.buf = some b) (hdone : s.geyser.capture = 3)
    (hsignal : q.w 4 < s.geyser.signals.length) (hfirst : q.w 5 < s.geyser.record.length) :
    geyserReadOf q s = intoBuffer q ((recordedSignal (q.w 4) (q.w 5) s).take b.len)
      (res [(0, 4, ((recordedSignal (q.w 4) (q.w 5) s).take b.len).length)]) s := by
  rw [intoBuffer_eq_afterWrite]
  simp only [geyserReadOf, hbuf, hdone, Nat.not_le.2 hsignal, Nat.not_le.2 hfirst, Option.isSome_some, ne_eq,
    not_true_eq_false, or_self, if_false, if_true]
  rfl

theorem geyserReadOf_of_unfinished {q : Req} {s : State} (h : s.geyser.capture ≠ 3) :
    geyserReadOf q s = rej 0x0301 s := if_pos h

/-! ### GEYSER_STOP (R220) -/

theorem geyserStopOf_injection {q : Req} {s : State} (hinj : (q.word 0).getLsbD 0 = true)
    (hrun : s.geyser.running = true) (hcap : (q.word 0).getLsbD 1 = false) :
    geyserStopOf q s = .done 0 0 (endInjection 1 s) := by
  simp only [geyserStopOf, hinj, hrun, hcap, Bool.and_self, Bool.false_and, Bool.true_eq_false, Bool.false_eq_true,
    false_and, if_false, if_true]

theorem geyserStopOf_capture {q : Req} {s : State} (hinj : (q.word 0).getLsbD 0 = false)
    (hcap : (q.word 0).getLsbD 1 = true) (hrecords : s.geyser.capture = 2) :
    geyserStopOf q s = .done 0 0 { s with geyser := { s.geyser with capture := 0 } } := by
  simp only [geyserStopOf, hinj, hcap, hrecords, or_true, decide_true, Bool.and_self, Bool.false_and, Bool.true_eq_false,
    Bool.false_eq_true, and_false, if_false, if_true]

theorem geyserStopOf_of_idle {q : Req} {s : State} (hrun : s.geyser.running = false) (hcap : s.geyser.capture = 0) :
    geyserStopOf q s = rej 0x0001 s := if_pos (by simp [hrun, hcap])

end Sys2Proof.Machine

open Sys2Proof Sys2Proof.Machine

/-- Settles O32: each case of `loopCases` is the lemma about its command's reply, whose hypotheses the case's condition
gives. -/
theorem loopCommandsAnswer : Obligations.LoopCommandsAnswer := by
  unfold Obligations.LoopCommandsAnswer loopCases
  repeat rw [List.forall_mem_cons]
  refine ⟨?status, ?mode, ?modeBad, ?modeNoLaw, ?setpoint, ?setpointNotOwn, ?coef, ?coefClosed, ?coefUnaligned,
    ?readWorking, ?readConfigured, ?readBeyond, ?revert, ?revertNoLaw, ?config, ?counters, ?countersClear, ?inject,
    ?injectModeOff, ?injectNoLaw, ?arm, ?armModeOff, ?armRecording, ?geyser, ?readWords, ?readBuffer, ?readUnfinished,
    ?stopInjection, ?stopCapture, ?stopIdle, List.forall_mem_nil _⟩ <;>
    refine Case.holds_mk (fun _ _ => rfl) fun q s h => ?_
  case status => rfl
  case mode =>
    obtain ⟨hmode, hadmitted⟩ := of_decide_eq_true h
    exact loopModeOf_of_admitted hmode hadmitted
  case modeBad => exact loopModeOf_of_bad_mode s (of_decide_eq_true h)
  case modeNoLaw =>
    obtain ⟨hmode, hlaw⟩ := of_decide_eq_true h
    exact loopModeOf_of_refused hmode (State.modeRefused_of_no_law hlaw)
  case setpoint =>
    simp only [Bool.and_eq_true, Bool.not_eq_true', decide_eq_true_eq] at h
    obtain ⟨⟨hlaw, hown⟩, hfree⟩ := h
    exact loopSetpointOf_of_own hlaw hown hfree
  case setpointNotOwn => exact loopSetpointOf_of_not_settable (by simpa using h)
  case coef =>
    simp only [Bool.and_eq_true, decide_eq_true_eq] at h
    obtain ⟨⟨⟨hlaw, haligned, hlow, hhigh, hroom⟩, hopen⟩, hsound⟩ := h
    exact loopCoefWriteOf_of_taken hlaw hopen ⟨haligned, hlow, hhigh, hsound, hroom⟩
  case coefClosed =>
    simp only [Bool.and_eq_true, Bool.not_eq_true', decide_eq_true_eq] at h
    obtain ⟨hlaw, hclosed⟩ := h
    exact loopCoefWriteOf_of_closed hlaw hclosed
  case coefUnaligned =>
    simp only [Bool.and_eq_true, decide_eq_true_eq] at h
    obtain ⟨⟨hlaw, hoffset⟩, hopen⟩ := h
    exact loopCoefWriteOf_of_unaligned hlaw hopen hoffset
  case readWorking =>
    simp only [Bool.and_eq_true, Bool.not_eq_true', decide_eq_true_eq] at h
    obtain ⟨⟨haligned, hin⟩, hworking⟩ := h
    rw [loopCoefReadOf_of_offset haligned hin, if_neg (Bool.eq_false_iff.1 hworking)]
  case readConfigured =>
    simp only [Bool.and_eq_true, decide_eq_true_eq] at h
    obtain ⟨⟨haligned, hin⟩, hconfigured⟩ := h
    rw [loopCoefReadOf_of_offset haligned hin, if_pos hconfigured]
  case readBeyond => exact loopCoefReadOf_of_bad_offset s (of_decide_eq_true h)
  case revert => exact loopRevertOf_of_law (of_decide_eq_true h)
  case revertNoLaw => exact loopRevertOf_of_no_law (of_decide_eq_true h)
  case config => exact configSet_fits h
  case counters => exact loopCountersOf_of_keep s (by simpa using h)
  case countersClear => exact loopCountersOf_of_clear s h
  case inject =>
    simp only [Bool.and_eq_true, Bool.not_eq_true', decide_eq_true_eq] at h
    obtain ⟨⟨⟨⟨⟨⟨⟨hlaw, hmode⟩, hparams⟩, hopen⟩, hmaint⟩, hidle⟩, honly⟩, hpoint⟩ := h
    exact geyserInjectOf_of_maintenance hparams ⟨hlaw, hmode, hmaint, hopen, hidle, honly, hpoint⟩
  case injectModeOff =>
    simp only [Bool.and_eq_true, decide_eq_true_eq] at h
    obtain ⟨⟨hlaw, hmode⟩, hparams⟩ := h
    exact geyserInjectOf_of_mode_off hlaw hparams hmode
  case injectNoLaw => exact geyserInjectOf_of_no_law (of_decide_eq_true h)
  case arm =>
    simp only [Bool.and_eq_true, decide_eq_true_eq] at h
    obtain ⟨⟨hmode, hunarmed, hstill, hnamed, hclock, htrigger, hpart⟩, hknown⟩ := h
    exact geyserArmOf_at_once hmode (not_or.2 ⟨hunarmed, hstill⟩) ⟨hnamed, hknown, hclock, htrigger, hpart⟩
  case armModeOff => exact geyserArmOf_of_mode_off (of_decide_eq_true h)
  case armRecording =>
    obtain ⟨hmode, hrecords⟩ := of_decide_eq_true h
    exact geyserArmOf_of_recording hmode hrecords
  case geyser => rfl
  case readWords =>
    obtain ⟨hbuf, hdone, hsignal, hfirst⟩ := of_decide_eq_true h
    exact geyserReadOf_words hbuf hdone hsignal hfirst
  case readBuffer =>
    simp only [Bool.and_eq_true, decide_eq_true_eq] at h
    obtain ⟨hsome, hdone, hsignal, hfirst⟩ := h
    obtain ⟨b, hbuf⟩ := Option.isSome_iff_exists.1 hsome
    rw [geyserReadOf_buffer hbuf hdone hsignal hfirst, hbuf]
    rfl
  case readUnfinished => exact geyserReadOf_of_unfinished (of_decide_eq_true h)
  case stopInjection =>
    simp only [Bool.and_eq_true, Bool.not_eq_true'] at h
    obtain ⟨⟨hinj, hrun⟩, hcap⟩ := h
    exact geyserStopOf_injection hinj hrun hcap
  case stopCapture =>
    simp only [Bool.and_eq_true, Bool.not_eq_true', decide_eq_true_eq] at h
    obtain ⟨⟨hinj, hcap⟩, hrecords⟩ := h
    exact geyserStopOf_capture hinj hcap hrecords
  case stopIdle =>
    simp only [Bool.and_eq_true, Bool.not_eq_true', decide_eq_true_eq] at h
    obtain ⟨hrun, hcap⟩ := h
    exact geyserStopOf_of_idle hrun hcap

end

section
/-! The host commands of the connector links (Table 9-9): what each replies in each of its cases. -/

namespace Sys2Proof.Machine

/-! ### CONN_PILOT (R249) -/

/-- The words of CONN_PILOT ask for a form that there is; form 4 has a duty cycle within 3.0 to 97.0 %. -/
def Req.asksForm (q : Req) : Prop := q.w 0 ≤ 3 ∨ (q.w 0 = 4 ∧ 30 ≤ q.w 1 ∧ q.w 1 ≤ 970)

theorem Req.asksForm.not_bad {q : Req} (h : q.asksForm) :
    ¬(4 < q.w 0 ∨ (q.w 0 = 4 ∧ (q.w 1 < 30 ∨ 970 < q.w 1))) := by
  unfold Req.asksForm at h
  omega

/-- The generator shows the form that maintenance holds, at the given duty cycle. -/
def holdForm (c form duty : Nat) (s : State) : State :=
  applyForm c (s.setConn c { s.conn c with maint := form, duty := duty })

/-- In maintenance a connector that feeds no output takes the form; the duty cycle is that of form 4 alone. -/
theorem connPilotOf_of_maintenance {q : Req} {s : State} (hform : q.asksForm) (hkept : s.isRetired q.hnd = false)
    (hmaint : s.isl.maintenance = true) (hfree : s.outOfConn q.idx = none) :
    connPilotOf q s = .done 0 (res [(0, 1, (s.conn q.idx).form)])
      (holdForm q.idx (q.w 0) (if q.w 0 = 4 then q.w 1 else (s.conn q.idx).duty) s) := by
  simp only [connPilotOf, hform.not_bad, hkept, hmaint, hfree, Bool.false_eq_true, Bool.true_eq_false, or_self, if_false]
  rfl

theorem connPilotOf_of_unknown_form {q : Req} (s : State) (h : 4 < q.w 0) : connPilotOf q s = rej 0x0108 s :=
  if_pos (Or.inl h)

theorem connPilotOf_of_retired {q : Req} {s : State} (hform : q.asksForm) (h : s.isRetired q.hnd = true) :
    connPilotOf q s = rej 0x0303 s := (if_neg hform.not_bad).trans (if_pos h)

theorem connPilotOf_out_of_maintenance {q : Req} {s : State} (hform : q.asksForm) (hkept : s.isRetired q.hnd = false)
    (h : s.isl.maintenance = false) : connPilotOf q s = rej 0x0301 s :=
  (if_neg hform.not_bad).trans ((if_neg (Bool.eq_false_iff.1 hkept)).trans (if_pos (Or.inl h)))

/-! ### LINK_COUNTERS and NOISE_READ -/

/-- The RESULT of LINK_COUNTERS. -/
def linkCounts (c : Nat) (s : State) : Res :=
  res [(0, 4, (s.conn c).received), (4, 4, (s.conn c).blanked), (8, 4, (s.conn c).dropped),
    (12, 4, (s.conn c).refreshes)]

theorem linkCountersOf_of_keep {q : Req} (s : State) (h : (q.word 0).getLsbD 0 = false) :
    linkCountersOf q s = .done 0 (linkCounts q.idx s) s := congrArg (Reply.done 0 _) (if_neg (Bool.eq_false_iff.1 h))

theorem linkCountersOf_of_clear {q : Req} (s : State) (h : (q.word 0).getLsbD 0 = true) :
    linkCountersOf q s = .done 0 (linkCounts q.idx s) (s.setConn q.idx { s.conn q.idx with
      received := 0, blanked := 0, dropped := 0, refreshes := 0 }) := congrArg (Reply.done 0 _) (if_pos h)

/-- The RESULT of NOISE_READ; the blanking threshold is block 8's factor, in sixteenths, of the running RMS. -/
def noiseLevels (c : Nat) (s : State) : Res :=
  res [(0, 2, (s.conn c).rms), (2, 2, (fld (s.blk 8) 2 2 * (s.conn c).rms / 16 : Nat)), (4, 2, (s.conn c).lastBlank),
    (6, 2, (s.conn c).maxBlank), (8, 4, (s.conn c).blankFrames), (12, 4, ((s.conn c).blankSamples / 1000 : Nat))]

theorem noiseReadOf_of_keep {q : Req} (s : State) (h : (q.word 0).getLsbD 0 = false) :
    noiseReadOf q s = .done 0 (noiseLevels q.idx s) s := congrArg (Reply.done 0 _) (if_neg (Bool.eq_false_iff.1 h))

theorem noiseReadOf_of_clear {q : Req} (s : State) (h : (q.word 0).getLsbD 0 = true) :
    noiseReadOf q s = .done 0 (noiseLevels q.idx s) (s.setConn q.idx { s.conn q.idx with maxBlank := 0 }) :=
  congrArg (Reply.done 0 _) (if_pos h)

/-! ### TONEMAP_REFRESH (R236, R249) -/

theorem tonemapRefreshOf_of_linked {q : Req} {s : State} (hkept : s.isRetired q.hnd = false)
    (hmode : s.cnMode q.idx = 1) (hlinked : s.linked q.idx = true) :
    tonemapRefreshOf q s = .done 0 (res [(0, 1, bit (s.conn q.idx).mapsValid)]) (startRefresh q.idx s) :=
  (if_neg (Bool.eq_false_iff.1 hkept)).trans (if_neg (by simp [hmode, hlinked]))

theorem tonemapRefreshOf_of_not_linked {q : Req} {s : State} (hkept : s.isRetired q.hnd = false)
    (h : s.linked q.idx = false) : tonemapRefreshOf q s = rej 0x0301 s :=
  (if_neg (Bool.eq_false_iff.1 hkept)).trans (if_pos (Or.inr h))

end Sys2Proof.Machine

open Sys2Proof Sys2Proof.Machine

/-- Settles O33: each case of `linkCases` is the lemma about its command's reply, whose hypotheses the case's condition
gives. -/
theorem linkCommandsAnswer : Obligations.LinkCommandsAnswer := by
  unfold Obligations.LinkCommandsAnswer linkCases
  repeat rw [List.forall_mem_cons]
  refine ⟨?status, ?pilot, ?pilotDuty, ?pilotUnknown, ?pilotInService, ?pilotRetired, ?counters, ?countersClear, ?refresh,
    ?refreshUnlinked, ?slac, ?noise, ?noiseClear, List.forall_mem_nil _⟩ <;>
    refine Case.holds_mk (fun _ _ => rfl) fun q s h => ?_
  case status => rfl
  case pilot =>
    simp only [Bool.and_eq_true, Bool.not_eq_true', decide_eq_true_eq] at h
    obtain ⟨⟨⟨hform, hfree⟩, hmaint⟩, hkept⟩ := h
    rw [connPilotOf_of_maintenance (.inl hform) hkept hmaint hfree, if_neg (by omega)]
    rfl
  case pilotDuty =>
    simp only [Bool.and_eq_true, Bool.not_eq_true', decide_eq_true_eq] at h
    obtain ⟨⟨⟨hform, hlow, hhigh, hfree⟩, hmaint⟩, hkept⟩ := h
    rw [connPilotOf_of_maintenance (.inr ⟨hform, hlow, hhigh⟩) hkept hmaint hfree, if_pos hform, hform]
    rfl
  case pilotUnknown => exact connPilotOf_of_unknown_form s (of_decide_eq_true h)
  case pilotInService =>
    simp only [Bool.and_eq_true, Bool.not_eq_true', decide_eq_true_eq] at h
    obtain ⟨⟨hform, hservice⟩, hkept⟩ := h
    exact connPilotOf_out_of_maintenance (.inl hform) hkept hservice
  case pilotRetired =>
    simp only [Bool.and_eq_true, decide_eq_true_eq] at h
    obtain ⟨hform, hretired⟩ := h
    exact connPilotOf_of_retired (.inl hform) hretired
  case counters => exact linkCountersOf_of_keep s (by simpa using h)
  case countersClear => exact linkCountersOf_of_clear s h
  case refresh =>
    simp only [Bool.and_eq_true, Bool.not_eq_true', decide_eq_true_eq] at h
    obtain ⟨⟨hmode, hlinked⟩, hkept⟩ := h
    exact tonemapRefreshOf_of_linked hkept hmode hlinked
  case refreshUnlinked =>
    simp only [Bool.and_eq_true, Bool.not_eq_true'] at h
    obtain ⟨hunlinked, hkept⟩ := h
    exact tonemapRefreshOf_of_not_linked hkept hunlinked
  case slac => rfl
  case noise => exact noiseReadOf_of_keep s (by simpa using h)
  case noiseClear => exact noiseReadOf_of_clear s h

end

section
/-! The events of the connector links: what each does where its condition holds, and where it changes nothing. -/

namespace Sys2Proof.Machine

/-! ### PILOT_CHANGE (R229 to R231) -/

/-- The two plateaus of the pilot, as last measured. -/
def plateausRead (c : Nat) (high low : Int) (s : State) : State :=
  s.setConn c { s.conn c with high := high, low := low }

/-- A raw state held for CP_FILT becomes the filtered one and has its consequences. -/
theorem execPilotChange_of_new_state {c held : Nat} {high low : Int} {s : State} (hon : s.vehOn = true)
    (hnew : s.pilotRaw c high low ≠ (s.conn c).pilot) (hheld : s.cnFld c 2 1 ≤ held) :
    execPilotChange c high low s held = .next (judge (pilotActs c (s.pilotRaw c high low) high
      (pilotChanged c (s.pilotRaw c high low) high low (plateausRead c high low s)))) :=
  (if_neg (by simp [hon])).trans ((if_neg (Nat.not_lt.2 hheld)).trans (if_neg hnew))

theorem execPilotChange_of_short {c held : Nat} {high low : Int} {s : State} (hon : s.vehOn = true)
    (hshort : held < s.cnFld c 2 1) : execPilotChange c high low s held = .next (plateausRead c high low s) :=
  (if_neg (by simp [hon])).trans (if_pos hshort)

/-- The filtered state again, and no fault that the link has not answered: held or not, only the plateaus change. -/
theorem execPilotChange_of_same_state {c held : Nat} {high low : Int} {s : State} (hon : s.vehOn = true)
    (hsame : s.pilotRaw c high low = (s.conn c).pilot)
    (hanswered : (plateausRead c high low s).pilotStuck c (s.pilotRaw c high low) = false) :
    execPilotChange c high low s held = .next (plateausRead c high low s) := by
  by_cases hheld : held < s.cnFld c 2 1
  · exact execPilotChange_of_short hon hheld
  · exact (if_neg (by simp [hon])).trans ((if_neg hheld).trans
      ((if_pos hsame).trans (congrArg Host.Outcome.next (if_neg (Bool.eq_false_iff.1 hanswered)))))

/-! ### PILOT_READBACK_FAULT (R231) -/

theorem State.past_iff {s : State} {o : Option Nat} {d : Nat} :
    s.past o d = true ↔ ∃ t, o = some t ∧ s.after t d = true := by
  cases o <;> simp [State.past]

/-- In form F the high plateau has stood above −LOW_MIN for 100 ms. -/
theorem execPilotReadbackFault_of_past {c : Nat} {high : Int} {s : State} (hon : s.vehOn = true)
    (hmode : s.cnMode c ≠ 0) (hform : (s.conn c).form = 2) (hhigh : -(s.cnFld c 14 2 : Int) < high)
    (hpast : s.past (s.conn c).highSince 100000 = true) : execPilotReadbackFault c high s =
      .next (linkFault c 0x0870 (pilotFault c 1 high (s.setConn c { s.conn c with high := high, highSince := none }))) := by
  obtain ⟨t, hsince, hafter⟩ := State.past_iff.1 hpast
  simp only [execPilotReadbackFault, hon, hmode, hform, Int.not_le.2 hhigh, hsince, hafter, ne_eq, not_true_eq_false,
    Bool.true_eq_false, or_self, if_false, if_true]

theorem execPilotReadbackFault_of_other_form {c : Nat} {s : State} (high : Int) (h : (s.conn c).form ≠ 2) :
    execPilotReadbackFault c high s = .next (s.setConn c { s.conn c with highSince := none }) :=
  if_pos (Or.inr (Or.inr (Or.inl h)))

/-! ### PROXIMITY_WITHOUT_PILOT (R232) -/

/-- A resistance of a plugged vehicle, held for CP_FILT on a connector with proximity, while the pilot is in state A. -/
structure State.PluggedInA (s : State) (c ohm held : Nat) : Prop where
  on : s.vehOn = true
  proximity : tst (s.cnFld c 1 1) 0 = true
  filtered : s.cnFld c 2 1 ≤ held
  present : (proxLogged c ohm s).proxPresent c ohm = true
  pilot : (s.conn c).pilot = 0

theorem State.PluggedInA.not_ignored {s : State} {c ohm held : Nat} (h : s.PluggedInA c ohm held) :
    ¬(s.vehOn = false ∨ tst (s.cnFld c 1 1) 0 = false ∨ held < s.cnFld c 2 1) := by
  simp [h.on, h.proximity, h.filtered]

theorem State.PluggedInA.not_ended {s : State} {c ohm held : Nat} (h : s.PluggedInA c ohm held) :
    ¬((proxLogged c ohm s).proxPresent c ohm = false ∨ (s.conn c).pilot ≠ 0) := by
  simp [h.present, h.pilot]

/-- The first time the condition is seen starts its timer. -/
theorem execProximityWithoutPilot_of_first {c ohm held : Nat} {s : State} (h : s.PluggedInA c ohm held)
    (hfirst : (s.conn c).proxSince = none) : execProximityWithoutPilot c ohm s held =
      .next ((proxLogged c ohm s).setConn c { (proxLogged c ohm s).conn c with
        proxSince := some (proxLogged c ohm s).now }) := by
  refine (if_neg h.not_ignored).trans ((if_neg h.not_ended).trans ?_)
  split
  case h_1 => rfl
  case h_2 t hsince => exact nomatch hfirst.symm.trans hsince

/-- After 1 s the condition is a fault, raised once. -/
theorem execProximityWithoutPilot_of_standing {c ohm held t : Nat} {s : State} (h : s.PluggedInA c ohm held)
    (hsince : (s.conn c).proxSince = some t) (hafter : (proxLogged c ohm s).after t 1000000 = true)
    (hnew : (s.conn c).proxRaised = false) : execProximityWithoutPilot c ohm s held =
      .next (pilotFault c 3 (s.conn c).high ((proxLogged c ohm s).setConn c { (proxLogged c ohm s).conn c with
        proxRaised := true })) := by
  refine (if_neg h.not_ignored).trans ((if_neg h.not_ended).trans ?_)
  split
  case h_1 hfirst => exact nomatch hfirst.symm.trans hsince
  case h_2 u hstart =>
    obtain rfl : t = u := Option.some.inj (hsince.symm.trans hstart)
    exact if_pos ⟨hafter, hnew⟩

/-! ### VEHICLE_FRAME (R238, R242) -/

/-- A connector whose link is in service listens, outside its reset. -/
structure State.Listens (s : State) (c : Nat) : Prop where
  free : (s.conn c).inReset = false
  used : (s.conn c).link ≠ 0
  sound : (s.conn c).link ≠ 6
  kept : (s.conn c).link ≠ 7

/-- An MCS link takes every frame, without blanking. -/
theorem execVehicleFrame_of_mcs {c : Nat} {s : State} (f : VehFrame) (hon : s.vehOn = true) (hmode : s.cnMode c = 2)
    (h : s.Listens c) : execVehicleFrame c f s = .next (frameIn c f s) := by
  obtain ⟨hfree, hused, hsound, hkept⟩ := h
  simp only [execVehicleFrame, hon, hmode, hfree, hused, hsound, hkept, Bool.true_eq_false, Bool.false_eq_true,
    OfNat.ofNat_ne_zero, or_self, if_false, if_true]

theorem execVehicleFrame_of_off_or_reset {c : Nat} {s : State} (f : VehFrame)
    (h : s.vehOn = false ∨ (s.conn c).inReset = true) : execVehicleFrame c f s = .next s :=
  if_pos (h.imp_right fun hreset => Or.inr (Or.inl hreset))

/-! ### SLAC_MESSAGE (R233, R236, R239, R240) -/

theorem execSlacMessage_param {c : Nat} {run : BitVec 64} {s : State} (hon : s.vehOn = true)
    (hopen : s.slacOpen c = true) : execSlacMessage c (.param run) s =
      .next (stationSends c (s.setConn c { s.conn c with
        runId := run, answered := true, atten := 0, toggles := 0, outcome := 0, lastSlac := 1, slacSince := s.now })) :=
  (if_neg (by simp [hon])).trans (if_pos hopen)

/-- A connector serves the matching that a vehicle's RunID names. -/
structure State.ServesRun (s : State) (c : Nat) (run : BitVec 64) : Prop where
  on : s.vehOn = true
  isOpen : s.slacOpen c = true
  answers : (s.conn c).answered = true
  run : (s.conn c).runId = run

theorem execSlacMessage_sounds {c : Nat} {run : BitVec 64} {s : State} (atten : Nat) (h : s.ServesRun c run) :
    execSlacMessage c (.sounds run atten) s =
      .next (arbitrate run (s.setConn c { s.conn c with atten := atten, lastSlac := 2 })) :=
  (if_neg (by simp [h.on])).trans (if_pos ⟨h.isOpen, h.answers, h.run⟩)

theorem execSlacMessage_validate {c : Nat} {run : BitVec 64} {s : State} (toggles : Nat) (h : s.ServesRun c run)
    (hheard : (s.conn c).outcome ≠ 3) (hlast : 2 ≤ (s.conn c).lastSlac) :
    execSlacMessage c (.validate run toggles) s =
      .next (stationSends c (s.setConn c { s.conn c with toggles := toggles, lastSlac := 3 })) :=
  (if_neg (by simp [h.on])).trans (if_pos ⟨h.isOpen, h.answers, h.run, hheard, hlast⟩)

/-- The match draws the network key and ends the matching with the link up. -/
def matchMade (c : Nat) (s : State) : State :=
  linkUp c (stationSends c (({ s with trust := { s.trust with draws := s.trust.draws + 1 } } : State).setConn c
    { s.conn c with outcome := 1, nmk := true, answered := false, lastSlac := 4 }))

/-- With no other connector in the matching there is none to release. -/
theorem execSlacMessage_match_alone {c : Nat} {run : BitVec 64} {s : State} (h : s.ServesRun c run)
    (hheard : (s.conn c).outcome ≠ 3) (hlast : 2 ≤ (s.conn c).lastSlac) (hrng : s.trust.rngFault = 0)
    (halone : s.answered run = [c]) : execSlacMessage c (.slacMatch run) s = .next (matchMade c s) := by
  have hothers : (s.answered run).filter (· ≠ c) = [] := by simp [halone]
  refine (if_neg (by simp [h.on])).trans ((if_pos ⟨h.isOpen, h.answers, h.run, hheard, hlast, hrng⟩).trans ?_)
  rw [hothers]
  rfl

theorem execSlacMessage_match_of_other_run {c : Nat} {run : BitVec 64} {s : State} (hon : s.vehOn = true)
    (h : (s.conn c).runId ≠ run) : execSlacMessage c (.slacMatch run) s = .next s :=
  (if_neg (by simp [hon])).trans (if_neg fun hserves => h hserves.2.2.1)

/-- The first estimation after the match sets the tone maps; it is no refresh, and is not counted as one. -/
theorem execSlacMessage_first_estimation {c : Nat} {s : State} (hon : s.vehOn = true) (hlink : (s.conn c).link = 3)
    (hmode : s.cnMode c = 1) (hrobo : (s.conn c).roboOnly = false) (hfirst : (s.conn c).mapTime = 0)
    (hfresh : (s.conn c).refreshing = false) : execSlacMessage c (.estimation true) s =
      .next (s.setConn c { s.conn c with
        modulation := 4, mapsValid := true, mapTime := s.now + 1, refreshing := false }) := by
  simp only [execSlacMessage, hon, hlink, hmode, hrobo, hfirst, hfresh, ne_eq, not_true_eq_false, Bool.true_eq_false,
    Bool.false_eq_true, false_and, or_self, if_false, if_true]

/-- A message that the standard does not require is answered by a failure confirmation, and journalled. -/
theorem execSlacMessage_other {c : Nat} {s : State} (code : Half) (hon : s.vehOn = true) (hmode : s.cnMode c = 1)
    (h : s.Listens c) : execSlacMessage c (.other code) s =
      .next ((stationSends c s).note 11 (handle 9 c) (1 :: leBytes code.toNat 2)) := by
  obtain ⟨hfree, hused, hsound, hkept⟩ := h
  simp only [execSlacMessage, hon, hmode, hfree, hused, hsound, hkept, ne_eq, not_true_eq_false, Bool.true_eq_false,
    Bool.false_eq_true, or_self, if_false]

/-! ### SLAC_FAILED (R241) -/

/-- One more matching has failed, and the event says which attempt it was. -/
def matchFailed (c : Nat) (s : State) : State :=
  (s.fresh.2.setConn c { s.conn c with failures := (s.conn c).failures + 1, outcome := 2, answered := false }).event 12
    0x0470 (res [(0, 1, c), (1, 1, ((s.fresh.1 % 256 : Nat) : Int)), (2, 1, ((s.conn c).failures + 1 : Nat))])

/-- After the first and the second failure in succession the link restarts by a step of F. -/
theorem execSlacFailed_of_attempt_left {c : Nat} {s : State} (hon : s.vehOn = true) (hlink : (s.conn c).link = 2)
    (hmode : s.cnMode c = 1) (hform : (s.conn c).form = 1) (hleft : (s.conn c).failures < 2) :
    execSlacFailed c s = .next (linkTo c 5 5 (matchFailed c s)) :=
  (if_neg (by simp [hon, hlink, hmode, hform])).trans (congrArg Host.Outcome.next (if_pos (Nat.succ_lt_succ hleft)))

/-! ### The timers of a link (R236, R241, R243, R244) -/

theorem execRestartFStepEnd_of_over {c : Nat} {s : State} (hlink : (s.conn c).link = 5)
    (hover : s.after (s.conn c).linkTime 4000000 = true) : execRestartFStepEnd c s = .next (linkTo c 2 5 s) :=
  if_pos ⟨hlink, hover⟩

theorem execToneMapRefreshDue_of_due {c : Nat} {s : State}
    (h : s.after (s.conn c).mapTime (1000000 * fld (s.blk 8) 0 2) = true) :
    execToneMapRefreshDue c s = .next (startRefresh c s) := if_pos h

theorem execLinkIdleTimeout_of_over {c : Nat} {s : State} (hlink : (s.conn c).link = 3)
    (hover : s.after (s.conn c).heard (s.linkIdle (s.conn c).heard) = true) :
    execLinkIdleTimeout c s = .next (linkTo c 4 5 s) := if_pos ⟨hlink, hover⟩

theorem execRelinkTimeout_of_over {c : Nat} {s : State} (hlink : (s.conn c).link = 4)
    (hover : s.after (s.conn c).linkTime (s.relinkT (s.conn c).linkTime) = true) :
    execRelinkTimeout c s = .next (linkTo c 5 5 s) := if_pos ⟨hlink, hover⟩

/-! ### LINK_DRIVER_FAULT and LINK_FAULT_BACKOFF_END (R246) -/

/-- A link in use whose unit has no fault in its history. -/
structure State.FaultlessLink (s : State) (c : Nat) : Prop where
  on : s.vehOn = true
  kept : s.isRetired (handle 9 c) = false
  mode : s.cnMode c ≠ 0
  history : aget s.jnl.counts (handle 9 c) = none

/-- The report of a link driver's first fault in its window. -/
def firstDriverFault (c cause : Nat) (s : State) : State :=
  s.report 12 0x0871 (handle 9 c) (res [(0, 1, c), (1, 1, cause), (2, 1, 1)])

/-- A first fault is reported as the first of its window; cause 3 is permanent and retires the link, others are
transient. -/
theorem execLinkDriverFault_of_first {c : Nat} {s : State} (cause : Nat) (h : s.FaultlessLink c) :
    execLinkDriverFault c cause s =
      if cause = 3 then .next (judge (linkRetire c 0x0871 (firstDriverFault c cause s)))
      else .next (linkFault c 0x0871 (firstDriverFault c cause s)) := by
  obtain ⟨hon, hkept, hmode, hnone⟩ := h
  simp only [execLinkDriverFault, firstDriverFault, hon, hkept, hmode, hnone, Bool.true_eq_false, Bool.false_eq_true,
    or_self, if_false, Option.getD_none, List.filter_nil, List.length_nil, Nat.cast_zero, zero_add]

theorem execLinkFaultBackoffEnd_of_due {c t : Nat} {x : Recovery} {s : State}
    (hctx : s.contextOf (handle 9 c) = some x) (hdue : x.due = some t) (hlink : (s.conn c).link = 6) (hover : t ≤ s.now) :
    execLinkFaultBackoffEnd c s = .next (judge (linkTo c (s.restState c) 5 (s.freeContext (handle 9 c)))) := by
  simp only [execLinkFaultBackoffEnd, hctx, hdue, hlink, hover, and_self, if_true]

end Sys2Proof.Machine

open Sys2Proof Sys2Proof.Machine

/-- Settles O50: each entry of `linkEvents` is the lemma about its event, whose hypotheses the entry's condition gives. -/
theorem linkEventsTakeEffect : Obligations.LinkEventsTakeEffect := by
  intro c cause ohm atten toggles held high low run f
  unfold linkEvents
  repeat rw [List.forall_mem_cons]
  refine ⟨?pilotNew, ?pilotKept, ?readback, ?readbackOtherForm, ?proxStanding, ?proxFirst, ?frame, ?frameUnheard, ?param,
    ?sounds, ?validate, ?matchOtherRun, ?estimation, ?matchAlone, ?other, ?failed, ?stepEnd, ?refreshDue, ?idle, ?relink,
    ?driverPermanent, ?driverTransient, ?backoffEnd, List.forall_mem_nil _⟩ <;>
    refine Event.holds_mk fun s h => ?_
  case pilotNew =>
    simp only [Bool.and_eq_true, decide_eq_true_eq] at h
    obtain ⟨hon, hnew, hheld⟩ := h
    exact execPilotChange_of_new_state hon hnew hheld
  case pilotKept =>
    simp only [Bool.and_eq_true, Bool.or_eq_true, Bool.not_eq_true', decide_eq_true_eq] at h
    obtain ⟨hon, ⟨hsame, hanswered⟩ | hshort⟩ := h
    · exact execPilotChange_of_same_state hon hsame hanswered
    · exact execPilotChange_of_short hon hshort
  case readback =>
    simp only [Bool.and_eq_true, decide_eq_true_eq] at h
    obtain ⟨⟨hon, hmode, hform, hhigh⟩, hpast⟩ := h
    exact execPilotReadbackFault_of_past hon hmode hform hhigh hpast
  case readbackOtherForm => exact execPilotReadbackFault_of_other_form high (of_decide_eq_true h)
  case proxStanding =>
    simp only [Bool.and_eq_true, Bool.not_eq_true', decide_eq_true_eq] at h
    obtain ⟨⟨⟨⟨⟨⟨hon, hprox⟩, hheld⟩, hpresent⟩, hpilot⟩, hsince⟩, hnew⟩ := h
    cases htime : (s.conn c).proxSince with
    | none => simp [htime] at hsince
    | some t =>
      rw [htime] at hsince
      exact execProximityWithoutPilot_of_standing ⟨hon, hprox, hheld, hpresent, hpilot⟩ htime hsince hnew
  case proxFirst =>
    simp only [Bool.and_eq_true, decide_eq_true_eq] at h
    obtain ⟨⟨⟨⟨hon, hprox⟩, hheld⟩, hpresent⟩, hpilot, hfirst⟩ := h
    exact execProximityWithoutPilot_of_first ⟨hon, hprox, hheld, hpresent, hpilot⟩ hfirst
  case frame =>
    simp only [Bool.and_eq_true, Bool.not_eq_true', decide_eq_true_eq] at h
    obtain ⟨⟨⟨hon, hmode⟩, hfree⟩, hused, hsound, hkept⟩ := h
    exact execVehicleFrame_of_mcs f hon hmode ⟨hfree, hused, hsound, hkept⟩
  case frameUnheard => exact execVehicleFrame_of_off_or_reset f (by simpa using h)
  case param =>
    obtain ⟨hon, hopen⟩ := Bool.and_eq_true_iff.1 h
    exact execSlacMessage_param hon hopen
  case sounds =>
    simp only [Bool.and_eq_true, decide_eq_true_eq] at h
    obtain ⟨⟨⟨hon, hopen⟩, hanswers⟩, hrun⟩ := h
    exact execSlacMessage_sounds atten ⟨hon, hopen, hanswers, hrun⟩
  case validate =>
    simp only [Bool.and_eq_true, decide_eq_true_eq] at h
    obtain ⟨⟨⟨hon, hopen⟩, hanswers⟩, hrun, hheard, hlast⟩ := h
    exact execSlacMessage_validate toggles ⟨hon, hopen, hanswers, hrun⟩ hheard hlast
  case matchOtherRun =>
    simp only [Bool.and_eq_true, decide_eq_true_eq] at h
    obtain ⟨hon, hother⟩ := h
    exact execSlacMessage_match_of_other_run hon hother
  case estimation =>
    simp only [Bool.and_eq_true, Bool.not_eq_true', decide_eq_true_eq] at h
    obtain ⟨⟨⟨hon, hlink, hmode, hfirst⟩, hrobo⟩, hfresh⟩ := h
    exact execSlacMessage_first_estimation hon hlink hmode hrobo hfirst hfresh
  case matchAlone =>
    simp only [Bool.and_eq_true, decide_eq_true_eq] at h
    obtain ⟨⟨⟨hon, hopen⟩, hanswers⟩, hrun, hheard, hlast, hrng, halone⟩ := h
    exact execSlacMessage_match_alone ⟨hon, hopen, hanswers, hrun⟩ hheard hlast hrng halone
  case other =>
    simp only [Bool.and_eq_true, Bool.not_eq_true', decide_eq_true_eq] at h
    obtain ⟨⟨hon, hmode, hused, hsound, hkept⟩, hfree⟩ := h
    exact execSlacMessage_other (run.setWidth 16) hon hmode ⟨hfree, hused, hsound, hkept⟩
  case failed =>
    simp only [Bool.and_eq_true, decide_eq_true_eq] at h
    obtain ⟨hon, hlink, hmode, hform, hleft⟩ := h
    exact execSlacFailed_of_attempt_left hon hlink hmode hform hleft
  case stepEnd =>
    simp only [Bool.and_eq_true, decide_eq_true_eq] at h
    obtain ⟨hlink, hover⟩ := h
    exact execRestartFStepEnd_of_over hlink hover
  case refreshDue => exact execToneMapRefreshDue_of_due h
  case idle =>
    simp only [Bool.and_eq_true, decide_eq_true_eq] at h
    obtain ⟨hlink, hover⟩ := h
    exact execLinkIdleTimeout_of_over hlink hover
  case relink =>
    simp only [Bool.and_eq_true, decide_eq_true_eq] at h
    obtain ⟨hlink, hover⟩ := h
    exact execRelinkTimeout_of_over hlink hover
  case driverPermanent =>
    simp only [Bool.and_eq_true, Bool.not_eq_true', decide_eq_true_eq] at h
    obtain ⟨⟨⟨hon, hkept⟩, hmode⟩, hnone⟩ := h
    exact (execLinkDriverFault_of_first 3 ⟨hon, hkept, hmode, hnone⟩).trans (if_pos rfl)
  case driverTransient =>
    simp only [Bool.and_eq_true, Bool.not_eq_true', decide_eq_true_eq] at h
    obtain ⟨⟨⟨hon, hkept⟩, hmode, htransient⟩, hnone⟩ := h
    exact (execLinkDriverFault_of_first cause ⟨hon, hkept, hmode, hnone⟩).trans (if_neg htransient)
  case backoffEnd =>
    rw [Bool.and_eq_true, decide_eq_true_eq] at h
    obtain ⟨hlink, hover⟩ := h
    cases hctx : s.contextOf (handle 9 c) with
    | none => simp [hctx] at hover
    | some x =>
      cases hdue : x.due with
      | none => simp [hctx, hdue] at hover
      | some t => exact execLinkFaultBackoffEnd_of_due hctx hdue hlink (by simpa [hctx, hdue] using hover)

end

section
/-! The host commands of the charging sessions (Table 10-11): what each replies in each of its cases. -/

namespace Sys2Proof.Machine

/-! ### SESSION_STATUS -/

/-- The RESULT of SESSION_STATUS on a connector that has a session. -/
def sessionShown (c : Nat) (s : State) : Res :=
  res [(0, 1, (s.session c).state), (1, 1, (s.session c).proto), (2, 1, (s.session c).ident),
    (3, 1, bit (s.session c).tls + 2 * bit (s.session c).dynamic + 4 * bit (s.session c).authorised
      + 8 * bit (s.session c).derate + 16 * bit (s.session c).question.isSome),
    (4, 4, (s.session c).posted), (8, 4, (s.session c).iCool), (12, 4, ((s.session c).id.toNat % 4294967296 : Nat))]

theorem sessionStatusOf_of_none {q : Req} {s : State} (h : s.noSession q.idx = true) :
    sessionStatusOf q s = .done 0 0 s := if_pos h

theorem sessionStatusOf_of_session {q : Req} {s : State} (h : s.noSession q.idx = false) :
    sessionStatusOf q s = .done 0 (sessionShown q.idx s) s := if_neg (Bool.eq_false_iff.1 h)

/-! ### The refusals of an answer (R261, R264) -/

/-- The QID of an answer is of a question that has ended, or whose end has come. -/
def Req.namesExpired (q : Req) (s : State) : Prop :=
  (s.session q.idx).expired.contains (BitVec.ofNat 16 (q.w 0)) = true ∨
    (s.questionEnded q.idx = true ∧ BitVec.ofNat 16 (q.w 0) = (s.session q.idx).qid)

theorem answerRefused_of_expired {q : Req} {s : State} (kinds : List Nat) (h : q.namesExpired s) :
    answerRefused q kinds s = some 0x0480 := if_pos h

/-- With no question pending there is none whose end could come. -/
theorem State.questionEnded_of_none {s : State} {c : Nat} (h : (s.session c).question = none) :
    s.questionEnded c = false := by
  simp only [State.questionEnded, h]

/-- The last question asked, neither pending nor expired, was withdrawn. -/
theorem answerRefused_of_withdrawn {q : Req} {s : State} (kinds : List Nat)
    (hkept : (s.session q.idx).expired.contains (BitVec.ofNat 16 (q.w 0)) = false)
    (hnone : (s.session q.idx).question = none) (hqid : BitVec.ofNat 16 (q.w 0) = (s.session q.idx).qid) :
    answerRefused q kinds s = some 0x0380 := by
  have hfresh : ¬ q.namesExpired s := by
    simp only [Req.namesExpired, hkept, State.questionEnded_of_none hnone, Bool.false_eq_true, false_and, or_self,
      not_false_eq_true]
  refine (if_neg hfresh).trans ?_
  simp only [hnone, hqid, ne_eq, not_true_eq_false, and_false, if_false]

/-! ### SESSION_ANSWER (R260, R261) -/

theorem sessionAnswerOf_of_refused {q : Req} {s : State} {status : Nat} (h : answerRefused q [1, 3] s = some status) :
    sessionAnswerOf q s = rej status s := by
  simp only [sessionAnswerOf, h]

theorem sessionAnswerOf_deny {q : Req} {s : State} (h : answerRefused q [1, 3] s = none) (hword : q.w 1 = 0) :
    sessionAnswerOf q s = .done 0 0 (deny q.idx s) := by
  simp only [sessionAnswerOf, h, hword, Nat.not_lt_zero, if_false, if_true]

/-- An allowed question of kind 1 authorises the vehicle, with the answer's power cap; 0 sets none. -/
theorem sessionAnswerOf_allow {q : Req} {s : State} {x : List (List Byte) × Nat × List Byte}
    (h : answerRefused q [1, 3] s = none) (hword : q.w 1 = 1) (hkind : (s.session q.idx).question = some (1, x)) :
    sessionAnswerOf q s = .done 0 0 (authorise q.idx (s.setSession q.idx { s.session q.idx with
      authCap := if q.w 2 = 0 then none else some (q.w 2) })) := by
  simp only [sessionAnswerOf, h, hword, hkind, Nat.lt_irrefl, one_ne_zero, if_false]

/-! ### SESSION_TARIFF (R262) -/

theorem sessionTariffOf_of_refused {q : Req} {s : State} {status : Nat} (h : answerRefused q [2] s = some status) :
    sessionTariffOf q s = rej status s := by
  simp only [sessionTariffOf, h]

/-- Five parameter words hold the three of one tariff entry behind the QID and the counts. -/
theorem Req.entryWords_of_five {q : Req} (hlen : q.params.length = 5) :
    q.params.drop 2 = [q.word 2, q.word 3, q.word 4] := by
  match hparams : q.params, hlen with
  | [_, _, _, _, _], _ => simp [Req.word, hparams]

/-- A tariff of one entry becomes the session's only schedule, and its question is answered. -/
theorem sessionTariffOf_of_one_entry {q : Req} {s : State} (h : answerRefused q [2] s = none) (hcounts : q.w 1 = 1)
    (hlen : q.params.length = 5) (hstart : q.w 2 = 0) (hfirm : q.w 4 = 0) :
    sessionTariffOf q s = .done 0 0 (s.setSession q.idx { s.session q.idx with
      schedules := [[⟨0, q.w 3, 0⟩]], chosen := 0, tariffTime := s.now, question := none }) := by
  have hentries : tariffEntries (q.params.drop 2) 1 = [⟨0, q.w 3, 0⟩] := by
    rw [Req.entryWords_of_five hlen]
    exact congrArg₂ (fun start firm => [(⟨start, q.w 3, firm⟩ : SchedEntry)]) hstart hfirm
  have hwords : (q.params.drop 2).length = 3 := by rw [List.length_drop, hlen]
  simp [sessionTariffOf, h, hcounts, hentries, hwords, schedOk, tariffEntries]

/-! ### QUESTION_READ -/

theorem questionReadOf_of_pending {q : Req} {s : State} {kind asked : Nat} {certs : List (List Byte)} {body : List Byte}
    (hsession : s.noSession q.idx = false) (haligned : q.w 1 % 16 = 0) (hin : q.w 1 ≤ 112)
    (hqid : BitVec.ofNat 16 (q.w 0) = (s.session q.idx).qid)
    (hpending : (s.session q.idx).question = some (kind, certs, asked, body)) :
    questionReadOf q s = .done 0 (resBytes (body.drop (q.w 1))) s := by
  simp only [questionReadOf, hsession, haligned, Nat.not_lt.2 hin, hqid, hpending, ne_eq, not_true_eq_false,
    Bool.false_eq_true, or_self, if_false]

theorem questionReadOf_of_none {q : Req} {s : State} (h : s.noSession q.idx = true) :
    questionReadOf q s = rej 0x0381 s := if_pos h

theorem questionReadOf_of_beyond {q : Req} {s : State} (hsession : s.noSession q.idx = false) (h : 112 < q.w 1) :
    questionReadOf q s = rej 0x0108 s := (if_neg (Bool.eq_false_iff.1 hsession)).trans (if_pos (Or.inr h))

/-! ### SESSION_STOP and SESSION_LIMIT (R257, R266) -/

theorem sessionStopOf_of_session {q : Req} {s : State} (h : s.noSession q.idx = false) : sessionStopOf q s =
    .done 0 (res [(0, 1, (s.session q.idx).state)]) (sessionSignal q.idx 2 s) := if_neg (Bool.eq_false_iff.1 h)

theorem sessionStopOf_of_none {q : Req} {s : State} (h : s.noSession q.idx = true) :
    sessionStopOf q s = rej 0x0381 s := if_pos h

theorem sessionLimitOf_of_session {q : Req} {s : State} (h : s.noSession q.idx = false) : sessionLimitOf q s =
    .done 0 (res [(0, 4, (((s.session q.idx).hostCap.getD 0xFFFFFFFF : Nat) : Int))])
      (s.setSession q.idx { s.session q.idx with hostCap := if q.w 0 = 0xFFFFFFFF then none else some (q.w 0) }) :=
  if_neg (Bool.eq_false_iff.1 h)

theorem sessionLimitOf_of_none {q : Req} {s : State} (h : s.noSession q.idx = true) :
    sessionLimitOf q s = rej 0x0381 s := if_pos h

/-! ### SESSION_COUNTERS -/

/-- The RESULT of SESSION_COUNTERS. -/
def sessionCounts (c : Nat) (s : State) : Res :=
  res [(0, 4, (s.session c).nStarted), (4, 4, (s.session c).nAuth), (8, 4, (s.session c).nDenied),
    (12, 4, (s.session c).nTimeout)]

theorem sessionCountersOf_of_keep {q : Req} (s : State) (h : (q.word 0).getLsbD 0 = false) :
    sessionCountersOf q s = .done 0 (sessionCounts q.idx s) s := congrArg (Reply.done 0 _) (if_neg (Bool.eq_false_iff.1 h))

theorem sessionCountersOf_of_clear {q : Req} (s : State) (h : (q.word 0).getLsbD 0 = true) :
    sessionCountersOf q s = .done 0 (sessionCounts q.idx s) (s.setSession q.idx { s.session q.idx with
      nStarted := 0, nAuth := 0, nDenied := 0, nTimeout := 0 }) := congrArg (Reply.done 0 _) (if_pos h)

end Sys2Proof.Machine

open Sys2Proof Sys2Proof.Machine

/-- Settles O34: each case of `sessionCases` is the lemma about its command's reply, whose hypotheses the case's condition
gives. -/
theorem sessionCommandsAnswer : Obligations.SessionCommandsAnswer := by
  unfold Obligations.SessionCommandsAnswer sessionCases
  repeat rw [List.forall_mem_cons]
  refine ⟨?statusNone, ?status, ?deny, ?allow, ?answerExpired, ?answerWithdrawn, ?tariff, ?tariffExpired, ?question,
    ?questionNone, ?questionBeyond, ?stop, ?stopNone, ?limit, ?limitNone, ?counters, ?countersClear,
    List.forall_mem_nil _⟩ <;>
    refine Case.holds_mk (fun _ _ => rfl) fun q s h => ?_
  case statusNone => exact sessionStatusOf_of_none h
  case status => exact sessionStatusOf_of_session (by simpa using h)
  case deny =>
    obtain ⟨hpending, hword⟩ := of_decide_eq_true h
    exact sessionAnswerOf_deny hpending hword
  case allow =>
    rw [Bool.and_eq_true, decide_eq_true_eq] at h
    obtain ⟨⟨hpending, hword⟩, hkind⟩ := h
    cases hquestion : (s.session q.idx).question with
    | none => simp [hquestion] at hkind
    | some x =>
      obtain ⟨kind, x⟩ := x
      obtain rfl : kind = 1 := by simpa [hquestion] using hkind
      exact sessionAnswerOf_allow hpending hword hquestion
  case answerExpired =>
    simp only [Bool.or_eq_true, Bool.and_eq_true, decide_eq_true_eq] at h
    exact sessionAnswerOf_of_refused (answerRefused_of_expired _ h)
  case answerWithdrawn =>
    simp only [Bool.and_eq_true, Bool.not_eq_true', decide_eq_true_eq] at h
    obtain ⟨hkept, hnone, hqid⟩ := h
    exact sessionAnswerOf_of_refused (answerRefused_of_withdrawn _ hkept hnone hqid)
  case tariff =>
    simp only [Bool.and_eq_true, decide_eq_true_eq] at h
    obtain ⟨hpending, hcounts, hlen, hstart, hfirm⟩ := h
    exact sessionTariffOf_of_one_entry hpending hcounts hlen hstart hfirm
  case tariffExpired => exact sessionTariffOf_of_refused (answerRefused_of_expired _ (.inl h))
  case question =>
    simp only [Bool.and_eq_true, Bool.not_eq_true', decide_eq_true_eq] at h
    obtain ⟨⟨hsession, haligned, hin, hqid⟩, hpending⟩ := h
    obtain ⟨x, hx⟩ := Option.isSome_iff_exists.1 hpending
    rw [questionReadOf_of_pending hsession haligned hin hqid hx, hx]
  case questionNone => exact questionReadOf_of_none h
  case questionBeyond =>
    simp only [Bool.and_eq_true, Bool.not_eq_true', decide_eq_true_eq] at h
    obtain ⟨hsession, hbeyond⟩ := h
    exact questionReadOf_of_beyond hsession hbeyond
  case stop => exact sessionStopOf_of_session (by simpa using h)
  case stopNone => exact sessionStopOf_of_none h
  case limit => exact sessionLimitOf_of_session (by simpa using h)
  case limitNone => exact sessionLimitOf_of_none h
  case counters => exact sessionCountersOf_of_keep s (by simpa using h)
  case countersClear => exact sessionCountersOf_of_clear s h

end

section
/-! The events of the charging sessions: what each does where its condition holds, and where it changes nothing. -/

namespace Sys2Proof.Machine

/-! ### The frame that a message came in (R22, R254) -/

/-- What a take delivers is the body of the queue's oldest entry. -/
theorem State.entries_of_take_some {s : State} {q : Nat} {body : List Int} (h : (s.take q).1 = some body) :
    ∃ e r, (s.iq q).entries = e :: r ∧ e.body = body := by
  cases hq : (s.iq q).entries with
  | nil => simp [State.take, hq] at h
  | cons e r =>
    refine ⟨e, r, rfl, ?_⟩
    by_cases he : e.epoch = s.boot.epoch
    · rw [State.take_of_current_epoch hq he] at h
      exact Option.some.inj h
    · rw [State.take_of_other_epoch hq he] at h
      exact nomatch h

theorem State.frameWaits_of_front {s : State} {c : Nat} (h : (s.take (52 + c / 4)).1 = some [(c : Int)]) :
    s.frameWaits c = true := by
  obtain ⟨e, r, hq, hbody⟩ := State.entries_of_take_some h
  simp [State.frameWaits, hq, hbody]

/-- The connector's frame at the front of the queue is the only entry taken. -/
theorem takeFrame_of_front {s : State} {q c : Nat} (h : (s.take q).1 = some [(c : Int)]) :
    takeFrame q c (s.iq q).entries.length s = (true, (s.take q).2) := by
  obtain ⟨e, r, hq, hbody⟩ := State.entries_of_take_some h
  simp [takeFrame, hq, hbody, h]

/-- The session service takes no change from a queue that holds none. -/
theorem serveChanges_of_no_change {s : State} {q : Nat} (fuel : Nat)
    (h : ∀ e ∈ (s.iq q).entries, isChange e.body = false) : serveChanges q fuel s = s := by
  cases fuel with
  | zero => rfl
  | succ n =>
    cases hq : (s.iq q).entries with
    | nil => simp only [serveChanges, hq]
    | cons e r =>
      have he : isChange e.body = false := h e (by simp [hq])
      simp only [serveChanges, hq, he, Bool.false_and, Bool.false_eq_true, if_false]

/-! ### V2G_MESSAGE (R252 to R256) -/

/-- The service takes the frame alone, acts on its message and answers the vehicle. -/
theorem execV2gMessage_of_runs {c : Nat} {s : State} (m : V2gMsg) (h : v2gRuns c s = true) :
    execV2gMessage c m s = .next (answerVehicle c (onMessage c m (heardFrom c s))) := by
  simp only [v2gRuns, Bool.and_eq_true, Bool.not_eq_true', decide_eq_true_eq, List.all_eq_true] at h
  obtain ⟨⟨⟨hfirmware, hlinked⟩, hctrl, hfront⟩, hnochange⟩ := h
  have hserved (fuel : Nat) : serveChanges (52 + c / 4) fuel (s.take (52 + c / 4)).2 = (s.take (52 + c / 4)).2 :=
    serveChanges_of_no_change fuel hnochange
  simp only [execV2gMessage, heardFrom, hfirmware, hlinked, hctrl, State.frameWaits_of_front hfront,
    takeFrame_of_front hfront, hserved, ne_eq, not_true_eq_false, Bool.true_eq_false, Bool.false_eq_true, or_self,
    if_false, if_true]

/-- The same with what the service makes of the message, `t`, in place of its act on it. -/
theorem execV2gMessage_of_act {c : Nat} {s t : State} {m : V2gMsg} (h : v2gRuns c s = true)
    (hact : onMessage c m (heardFrom c s) = t) : execV2gMessage c m s = .next (answerVehicle c t) :=
  hact ▸ execV2gMessage_of_runs m h

theorem execV2gMessage_of_unheard {c : Nat} {s : State} (m : V2gMsg) (h : s.linked c = false ∨ s.frameWaits c = false) :
    execV2gMessage c m s = .next s :=
  if_pos (Or.inr (h.imp_right Or.inr))

/-- The only protocol offered, where it is enabled, is the one selected, whatever its priority. -/
theorem onSupportedApp_of_sole_offer {c p priority : Nat} {s : State} (hstate : (s.session c).state = 1)
    (hproto : (s.session c).proto = 0) (hon : s.protoOn c p = true) : onSupportedApp c [(p, priority)] s =
      s.setSession c { s.session c with proto := p, response := 0 } := by
  simp [onSupportedApp, hstate, hproto, hon]

theorem onAuth_of_authorised {c : Nat} {s : State} (pnc ok : Bool) (emaid : List Byte) (certs : List (List Byte))
    (hstate : (s.session c).state = 2) (hnone : (s.session c).question = none)
    (hauth : (s.session c).authorised = true) : onAuth c pnc emaid ok certs s = sessionTo c 3 (respond c 0 s) := by
  simp only [onAuth, hstate, hnone, hauth, ne_eq, not_true_eq_false, Option.isSome_none, Bool.false_eq_true, if_false,
    if_true]

theorem onMessage_scheduleSelected_of_listed {c k : Nat} {s : State} (hstate : (s.session c).state = 3)
    (hscheduled : (s.session c).dynamic = false) (hnone : (s.session c).question = none)
    (hlisted : k < (s.session c).schedules.length) : onMessage c (.scheduleSelected k) s =
      s.setSession c { s.session c with chosen := k, response := 0 } := by
  simp only [onMessage, hstate, hscheduled, hnone, hlisted, ne_eq, not_true_eq_false, Option.isSome_none,
    Bool.false_eq_true, or_self, if_false, if_true]

/-- With the output at the cable-check voltage and its insulation passed, the cable check is over. -/
theorem onCableCheck_of_passed {c : Nat} {s : State} (hstate : (s.session c).state = 4)
    (hrun : (s.session c).stopping = none) (hout : (s.output (s.connOut c)).state = 3)
    (himd : (s.output (s.connOut c)).imdPassed = true) :
    onCableCheck c s = sessionTo c 5 (respond c 0 s) := by
  simp only [onCableCheck, hstate, hrun, hout, himd, Option.isSome_none, Bool.false_eq_true, Nat.reduceEqDiff, and_self,
    if_false, if_true]

theorem onPowerDelivery_start {c : Nat} {s : State} (hstate : (s.session c).state = 5)
    (hrun : (s.session c).stopping = none) : onPowerDelivery c true s = sessionTo c 6 (respond c 0 s) :=
  if_pos ⟨hstate, hrun⟩

theorem onPowerDelivery_stop {c : Nat} {s : State} (hstate : (s.session c).state = 6) :
    onPowerDelivery c false s = vehicleStop c s := if_pos (Or.inr (Or.inr hstate))

/-- In WELDING the output was found IDLE already, and a further request is answered at once. -/
theorem onWelding_of_welding {c : Nat} {s : State} (hstate : (s.session c).state = 8) : onWelding c s = respond c 0 s :=
  (if_neg (by simp [hstate])).trans (if_pos hstate)

/-! ### REQ_PERIOD_EXPIRE (R257, R259) -/

/-- The session's request for the tree node of its output, noted as the last posted. -/
def requestPosted (c n : Nat) (s : State) : State :=
  postRequest n (s.sessionRequest c).1 (s.sessionRequest c).2.1 (s.sessionRequest c).2.2
    (s.setSession c { s.session c with posted := (s.sessionRequest c).1, postTime := s.now })

theorem sessionPost_of_node {c n : Nat} {s : State} (h : s.outNode (s.connOut c) = some n) :
    sessionPost c s = requestPosted c n s := by
  simp only [sessionPost, h]
  rfl

/-- The states in which the session has its output run: CABLE_CHECK, PRE_CHARGE and CHARGING (Table 10-5). -/
def State.sessionPowers (s : State) (c : Nat) : Prop :=
  (s.session c).state = 4 ∨ (s.session c).state = 5 ∨ (s.session c).state = 6

theorem execReqPeriodExpire_of_over {c n : Nat} {s : State} (hfirmware : s.boot.coreReset = false)
    (hover : s.after (s.session c).postTime (1000 * fld (s.blk 9) 0 2) = true) (hpowers : s.sessionPowers c)
    (hnode : (coolStep c s).outNode ((coolStep c s).connOut c) = some n) :
    execReqPeriodExpire c s = .next (requestPosted c n (coolStep c s)) := by
  rw [← sessionPost_of_node hnode]
  exact (if_neg (by simp [hfirmware, hover])).trans (if_pos hpowers)

/-! ### QUESTION_TIMEOUT (R261) -/

/-- The pending question is expired and counted. -/
def questionExpired (c : Nat) (s : State) : State :=
  s.setSession c { s.session c with
    expired := (s.session c).qid :: (s.session c).expired, nTimeout := bump32 (s.session c).nTimeout }

theorem execQuestionTimeout_of_ended {c : Nat} {s : State} (hfirmware : s.boot.coreReset = false)
    (hended : s.questionEnded c = true) : execQuestionTimeout c s = .next (deny c (questionExpired c s)) :=
  if_neg (by simp [hfirmware, hended])

theorem execQuestionTimeout_of_not_ended {c : Nat} {s : State} (h : s.questionEnded c = false) :
    execQuestionTimeout c s = .next s := if_pos (Or.inr h)

/-! ### VEHICLE_STOP_TIMEOUT (R266) -/

/-- The controller stops the session itself. -/
def ownStopped (c : Nat) (s : State) : State := sessionTo c 7 (s.setSession c { s.session c with ownStop := true })

theorem execVehicleStopTimeout_of_over {c : Nat} {x : Nat × Nat} {s : State} (hfirmware : s.boot.coreReset = false)
    (hpowers : s.sessionPowers c) (hstop : (s.session c).stopping = some x) (hover : s.after x.2 5000000 = true) :
    execVehicleStopTimeout c s =
      .next (sessionIdle c (outputStop ((ownStopped c s).connOut c) (ownStopped c s))) := by
  have hrunning : ¬((s.session c).state ≠ 4 ∧ (s.session c).state ≠ 5 ∧ (s.session c).state ≠ 6) := by
    unfold State.sessionPowers at hpowers
    omega
  simp only [execVehicleStopTimeout]
  split
  case h_1 hnone => exact nomatch hnone.symm.trans hstop
  case h_2 reason t hsignal =>
    obtain rfl : (reason, t) = x := Option.some.inj (hsignal.symm.trans hstop)
    exact if_neg (by simp [hfirmware, hover, hrunning])

end Sys2Proof.Machine

open Sys2Proof Sys2Proof.Machine

/-- Settles O51: a message runs as `execV2gMessage_of_runs` says, and each entry of `sessionEvents` is the lemma about its
message or event, whose hypotheses the entry's condition gives. -/
theorem sessionEventsTakeEffect : Obligations.SessionEventsTakeEffect := by
  intro c voltage current tls suites groups k offers evccid emaid pnc ok bpt dyn certs l code
  unfold sessionEvents
  repeat rw [List.forall_mem_cons]
  refine ⟨?sdp, ?app, ?appSole, ?setup, ?auth, ?authorised, ?service, ?parameters, ?schedule, ?cable, ?cablePassed,
    ?preCharge, ?deliveryStart, ?deliveryStop, ?chargeLoop, ?welding, ?sessionStop, ?refusedOption, ?outOfSequence,
    ?receipt, ?unheard, ?period, ?question, ?questionKept, ?vehicleStop, List.forall_mem_nil _⟩ <;>
    refine Event.holds_mk fun s h => ?_
  case sdp => exact execV2gMessage_of_runs _ h
  case app => exact execV2gMessage_of_runs _ h
  case appSole =>
    simp only [Bool.and_eq_true, decide_eq_true_eq] at h
    obtain ⟨⟨hruns, hstate, hproto⟩, hon⟩ := h
    exact execV2gMessage_of_act hruns (onSupportedApp_of_sole_offer hstate hproto hon)
  case setup => exact execV2gMessage_of_runs _ h
  case auth => exact execV2gMessage_of_runs _ h
  case authorised =>
    simp only [Bool.and_eq_true, decide_eq_true_eq] at h
    obtain ⟨⟨hruns, hstate, hnone⟩, hauth⟩ := h
    exact execV2gMessage_of_act hruns (onAuth_of_authorised pnc ok emaid certs hstate hnone hauth)
  case service => exact execV2gMessage_of_runs _ h
  case parameters => exact execV2gMessage_of_runs _ h
  case schedule =>
    simp only [Bool.and_eq_true, Bool.not_eq_true', decide_eq_true_eq] at h
    obtain ⟨⟨hruns, hstate, hnone, hlisted⟩, hscheduled⟩ := h
    exact execV2gMessage_of_act hruns (onMessage_scheduleSelected_of_listed hstate hscheduled hnone hlisted)
  case cable => exact execV2gMessage_of_runs _ h
  case cablePassed =>
    simp only [Bool.and_eq_true, decide_eq_true_eq] at h
    obtain ⟨⟨hruns, hstate, hrun, hout⟩, himd⟩ := h
    exact execV2gMessage_of_act hruns (onCableCheck_of_passed hstate hrun hout himd)
  case preCharge => exact execV2gMessage_of_runs _ h
  case deliveryStart =>
    simp only [Bool.and_eq_true, decide_eq_true_eq] at h
    obtain ⟨hruns, hstate, hrun⟩ := h
    exact execV2gMessage_of_act hruns (onPowerDelivery_start hstate hrun)
  case deliveryStop =>
    simp only [Bool.and_eq_true, decide_eq_true_eq] at h
    obtain ⟨hruns, hstate⟩ := h
    exact execV2gMessage_of_act hruns (onPowerDelivery_stop hstate)
  case chargeLoop => exact execV2gMessage_of_runs _ h
  case welding =>
    simp only [Bool.and_eq_true, decide_eq_true_eq] at h
    obtain ⟨hruns, hstate⟩ := h
    exact execV2gMessage_of_act hruns (onWelding_of_welding hstate)
  case sessionStop => exact execV2gMessage_of_runs _ h
  case refusedOption => exact execV2gMessage_of_runs _ h
  case outOfSequence => exact execV2gMessage_of_runs _ h
  case receipt => exact execV2gMessage_of_runs _ h
  case unheard => exact execV2gMessage_of_unheard _ (by simpa using h)
  case period =>
    simp only [Bool.and_eq_true, Bool.not_eq_true', decide_eq_true_eq] at h
    obtain ⟨⟨⟨hfirmware, hover⟩, hpowers⟩, hnode⟩ := h
    exact execReqPeriodExpire_of_over hfirmware hover hpowers hnode
  case question =>
    simp only [Bool.and_eq_true, Bool.not_eq_true'] at h
    obtain ⟨hfirmware, hended⟩ := h
    exact execQuestionTimeout_of_ended hfirmware hended
  case questionKept => exact execQuestionTimeout_of_not_ended (by simpa using h)
  case vehicleStop =>
    simp only [Bool.and_eq_true, Bool.not_eq_true', decide_eq_true_eq] at h
    obtain ⟨⟨hfirmware, hpowers⟩, hover⟩ := h
    cases hstop : (s.session c).stopping with
    | none => simp [hstop] at hover
    | some x => exact execVehicleStopTimeout_of_over hfirmware hpowers hstop (by simpa [hstop] using hover)

end

section
/-! The events of legal metrology: what each does where its condition holds, and where it changes nothing. -/

namespace Sys2Proof.Machine

/-! ### SAMPLE_BOUNDARY (R274 to R279, R283, R285, R289) -/

/-- The boundary up to the posting of its samples: every point counts, reads are served, records open and close, and a save
that is due is taken. -/
def boundarySampled (codes : List Int) (quiet : BitVec 48) (s : State) : State :=
  overL s.localOuts measureOut (saveAtBoundary (sampleReads (samplePoints codes quiet (nextBoundary s))))

/-- The samples posted to Q40 and Q41, and the output sequencer's part of them. -/
def boundaryPosted (s : State) : State := overL s.localOuts sequenceOut (stallOver s (samplePosts s))

/-- At a boundary the samples are taken, then posted; the safety island judges where it serves Q40. -/
theorem execSampleBoundary_of_now (codes : List Int) (quiet : BitVec 48) {s : State} (h : s.boundaryNow = true) :
    execSampleBoundary codes quiet s = .next
      (if (boundaryPosted (boundarySampled codes quiet s)).serves 40
        then judge (boundaryPosted (boundarySampled codes quiet s))
        else boundaryPosted (boundarySampled codes quiet s)) := if_neg (by simp [h])

theorem execSampleBoundary_of_early (codes : List Int) (quiet : BitVec 48) {s : State} (h : s.boundaryNow = false) :
    execSampleBoundary codes quiet s = .next s := if_pos h

/-! ### RECORD_SIGNED (R285, R405, Table 11-9) -/

/-- Nothing keeps the engine from a signature with KEY_ML: firmware runs, MRAM may be written, random output goes on and the
key is usable. -/
structure State.SignsRecords (s : State) : Prop where
  firmware : s.boot.coreReset = false
  writable : s.gated = false
  random : s.trust.rngFault = 0
  key : s.keyUsable (fld (s.blk 6) 4 1) = true

/-- The number of a record has gone through Q60, Q61 and Q62. -/
def recordTransferred (recno : Nat) (s : State) : State :=
  passed 62 [(recno : Int)] (passed 61 [(recno : Int)] (passed 60 [(recno : Int)] s))

/-- What passes the three queues reaches the work behind Q62. -/
theorem via_recordTransferred {recno : Nat} {f : State → State} {s : State} (h60 : passes 60 [(recno : Int)] s = true)
    (h61 : passes 61 [(recno : Int)] (passed 60 [(recno : Int)] s) = true)
    (h62 : passes 62 [(recno : Int)] (passed 61 [(recno : Int)] (passed 60 [(recno : Int)] s)) = true) :
    (s.via 60 [(recno : Int)] fun s => s.via 61 [(recno : Int)] fun s => s.via 62 [(recno : Int)] f) =
      f (recordTransferred recno s) := by
  rw [via_passes h60, via_passes h61, via_passes h62, recordTransferred]

/-- The lowest waiting record that asks for no second signature is stored with that of KEY_ML alone. -/
theorem execRecordSigned_of_lowest {recno : Nat} {r : MRecord} {s : State} (hsigns : s.SignsRecords)
    (hfound : s.metro.records.find? (fun x => decide (x.recno = recno ∧ x.stage = 2)) = some r)
    (halone : tst r.flags.toNat 8 = false)
    (hlowest : (s.metro.records.any fun x => decide (x.stage = 2 ∧ x.recno < recno)) = false)
    (h60 : passes 60 [(recno : Int)] s = true) (h61 : passes 61 [(recno : Int)] (passed 60 [(recno : Int)] s) = true)
    (h62 : passes 62 [(recno : Int)] (passed 61 [(recno : Int)] (passed 60 [(recno : Int)] s)) = true) :
    execRecordSigned recno s = .next (storeRecord r false (recordTransferred recno s)) := by
  obtain ⟨hfirmware, hwritable, hrandom, hkey⟩ := hsigns
  simp only [execRecordSigned, hfound, halone, hfirmware, hwritable, hrandom, hkey, hlowest, ne_eq, not_true_eq_false,
    Bool.true_eq_false, Bool.false_eq_true, false_and, or_self, if_false]
  exact congrArg Host.Outcome.next (via_recordTransferred h60 h61 h62)

/-- Firmware in reset, gated writes, stopped random output or a key that is not usable leave every record as it is. -/
theorem execRecordSigned_of_not_signing (recno : Nat) {s : State} (h : ¬ s.SignsRecords) :
    execRecordSigned recno s = .next s := by
  unfold execRecordSigned
  split
  case h_1 => rfl
  case h_2 r hfound =>
    refine if_pos ?_
    by_contra hnone
    simp only [not_or, Bool.not_eq_true, Bool.not_eq_false, ne_eq, not_not] at hnone
    obtain ⟨hfirmware, hwritable, hrandom, hkey, -⟩ := hnone
    exact h ⟨hfirmware, hwritable, hrandom, hkey⟩

/-! ### PERIODIC_SAVE and TOTALISER_ANCHOR_WRITE (R289) -/

/-- SAVE_T has passed since the last periodic save, in a part whose metrology runs. -/
def State.periodicSaveDue (s : State) : Prop :=
  s.metOn = true ∧ s.after s.metro.saveTime (1000 * fld (s.blk 6) 0 2) = true

/-- The save is due at the next boundary, and a power-fail save already due stays one. -/
theorem execPeriodicSave_of_due {s : State} (hdue : s.periodicSaveDue) (hcalm : s.metro.warning = none) :
    execPeriodicSave s =
      .next { s with metro := { s.metro with saveTime := s.now, saveDue := some (s.metro.saveDue.getD 0) } } := by
  obtain ⟨hon, hover⟩ := hdue
  simp only [execPeriodicSave, hon, hover, hcalm, Bool.true_eq_false, or_self, if_false, Option.isSome_none,
    Bool.false_eq_true]

/-- While a warning lasts the save is dropped. -/
theorem execPeriodicSave_of_warning {s : State} (hdue : s.periodicSaveDue) (hwarned : s.metro.warning.isSome = true) :
    execPeriodicSave s = .next { s with metro := { s.metro with saveTime := s.now } } := by
  obtain ⟨hon, hover⟩ := hdue
  simp only [execPeriodicSave, hon, hover, hwarned, Bool.true_eq_false, or_self, if_false, if_true]

theorem execTotaliserAnchorWrite_of_due {s : State} (hon : s.metOn = true)
    (hover : s.after s.metro.anchorTime 3600000000 = true) (hopen : s.gated = false) :
    execTotaliserAnchorWrite s = .next { s with metro := { s.metro with
      anchorTime := s.now, anchor := (upTo 18).flatMap fun p => (upTo 6).map fun k => ((p, k), s.total p k) } } :=
  (if_pos ⟨hon, hover⟩).trans (congrArg Host.Outcome.next (if_neg (by simp [hopen])))

theorem execTotaliserAnchorWrite_of_not_due {s : State}
    (h : s.metOn = false ∨ s.after s.metro.anchorTime 3600000000 = false) : execTotaliserAnchorWrite s = .next s :=
  if_neg fun ⟨hon, hover⟩ => by simp [hon, hover] at h

/-! ### POWER_FAIL_WARNING, POWER_FAIL_REPEAT_SAVE and POWER_FAIL_WITHDRAWN (R290) -/

/-- The warning begins: it is logged, and a power-fail save is due. -/
def failWarned (s : State) : State :=
  logIn 1 [1] { s with metro := { s.metro with
    warning := some s.now, warnInput := true, lastFail := s.now, saveDue := some 1 } }

/-- A source that the flags enable begins the warning, and the outputs here go to the safe state for its cause. -/
theorem execPowerFailWarning_of_first {ext : Bool} {held : Nat} {s : State} (hon : s.metOn = true)
    (henabled : tst (fld (s.blk 6) 3 1) (if ext then 0 else 1) = true) (hheld : 2 ≤ held)
    (hcalm : s.metro.warning = none) :
    execPowerFailWarning ext s held = .next (judge (addFixed (failWarned s).localOuts 6 (failWarned s))) := by
  have hsource : (if ext then tst (fld (s.blk 6) 3 1) 0 && decide (2 ≤ held) else tst (fld (s.blk 6) 3 1) 1) = true := by
    cases ext <;> simpa [hheld] using henabled
  exact if_neg (by simp [hon, hsource, hcalm])

theorem execPowerFailRepeatSave_of_warning {s : State} (hon : s.metOn = true) (hwarned : s.metro.warning.isSome = true)
    (hover : s.after s.metro.lastFail 2000 = true) :
    execPowerFailRepeatSave s = .next { s with metro := { s.metro with lastFail := s.now, saveDue := some 1 } } :=
  if_pos ⟨hwarned, hon, hover⟩

theorem execPowerFailRepeatSave_of_calm {s : State} (h : s.metro.warning = none) : execPowerFailRepeatSave s = .next s :=
  if_neg (by simp [h])

/-- The warning of `since` ends: its length is journalled and its end logged. -/
def failWithdrawn (since : Nat) (s : State) : State :=
  let t := s.note 14 (handle 0 0) (0 :: leBytes (sat 32 (s.now - since)) 4)
  logIn 1 [0] { t with metro := { t.metro with warning := none, warnInput := false } }

/-- Once the input has been clear for 10 ms, the warning ends and its cause leaves the outputs here. -/
theorem execPowerFailWithdrawn_of_clear {since held : Nat} {s : State} (hwarned : s.metro.warning = some since)
    (hheld : 10000 ≤ held) (hpast : s.after since held = true) :
    execPowerFailWithdrawn s held =
      .next (judge (dropFixed (failWithdrawn since s).localOuts 6 (failWithdrawn since s))) := by
  simp only [execPowerFailWithdrawn, hwarned]
  exact if_neg (by simp [hheld, hpast])

theorem execPowerFailWithdrawn_of_short {since held : Nat} {s : State} (hwarned : s.metro.warning = some since)
    (hshort : held < 10000) : execPowerFailWithdrawn s held = .next s := by
  simp only [execPowerFailWithdrawn, hwarned]
  exact if_pos (Or.inl hshort)

end Sys2Proof.Machine

open Sys2Proof Sys2Proof.Machine

/-- Settles O52: each entry of `meterEvents` is the lemma about its event, whose hypotheses the entry's condition gives. -/
theorem metrologyEventsTakeEffect : Obligations.MetrologyEventsTakeEffect := by
  intro codes quiet recno since held r ext
  unfold meterEvents
  repeat rw [List.forall_mem_cons]
  refine ⟨?boundary, ?boundaryEarly, ?signed, ?signedKept, ?save, ?saveDropped, ?anchor, ?anchorKept, ?warning, ?repeatSave,
    ?repeatCalm, ?withdrawn, ?withdrawnShort, List.forall_mem_nil _⟩ <;>
    refine Event.holds_mk fun s h => ?_
  case boundary => exact execSampleBoundary_of_now codes quiet h
  case boundaryEarly => exact execSampleBoundary_of_early codes quiet (by simpa using h)
  case signed =>
    simp only [Bool.and_eq_true, Bool.not_eq_true', decide_eq_true_eq] at h
    obtain ⟨⟨⟨⟨⟨⟨⟨⟨⟨hfound, halone⟩, h60⟩, h61⟩, h62⟩, hfirmware⟩, hwritable⟩, hkey⟩, hrandom⟩, hlowest⟩ := h
    exact execRecordSigned_of_lowest ⟨hfirmware, hwritable, hrandom, hkey⟩ hfound halone hlowest h60 h61 h62
  case signedKept =>
    refine execRecordSigned_of_not_signing recno fun ⟨hfirmware, hwritable, hrandom, hkey⟩ => ?_
    simp [hfirmware, hwritable, hrandom, hkey] at h
  case save =>
    simp only [Bool.and_eq_true, decide_eq_true_eq] at h
    obtain ⟨⟨hon, hover⟩, hcalm⟩ := h
    exact execPeriodicSave_of_due ⟨hon, hover⟩ hcalm
  case saveDropped =>
    simp only [Bool.and_eq_true] at h
    obtain ⟨⟨hon, hover⟩, hwarned⟩ := h
    exact execPeriodicSave_of_warning ⟨hon, hover⟩ hwarned
  case anchor =>
    simp only [Bool.and_eq_true, Bool.not_eq_true'] at h
    obtain ⟨⟨hon, hover⟩, hopen⟩ := h
    exact execTotaliserAnchorWrite_of_due hon hover hopen
  case anchorKept => exact execTotaliserAnchorWrite_of_not_due (by simpa using h)
  case warning =>
    simp only [Bool.and_eq_true, decide_eq_true_eq] at h
    obtain ⟨⟨⟨hon, henabled⟩, hheld⟩, hcalm⟩ := h
    exact execPowerFailWarning_of_first hon henabled hheld hcalm
  case repeatSave =>
    simp only [Bool.and_eq_true] at h
    obtain ⟨⟨hon, hwarned⟩, hover⟩ := h
    exact execPowerFailRepeatSave_of_warning hon hwarned hover
  case repeatCalm => exact execPowerFailRepeatSave_of_calm (of_decide_eq_true h)
  case withdrawn =>
    simp only [Bool.and_eq_true, decide_eq_true_eq] at h
    obtain ⟨⟨hwarned, hheld⟩, hpast⟩ := h
    exact execPowerFailWithdrawn_of_clear hwarned hheld hpast
  case withdrawnShort =>
    obtain ⟨hwarned, hshort⟩ := of_decide_eq_true h
    exact execPowerFailWithdrawn_of_short hwarned hshort

end

section
/-! What a command does to the waiting commands and to the power domains, over all commands; and so what a step does
(R409, R410, log entry 78). -/

namespace Sys2Proof.Machine

/-- The commands that switch power domains, PD2 aside: power-on and the resets, the losses of supply, the die's
temperature, and the power states. -/
inductive SwitchesDomains : Instr → Prop
  | resetCmd (c : Cmd) : SwitchesDomains (.resetCmd c)
  | powerStateSet (c : Cmd) : SwitchesDomains (.powerStateSet c)
  | domainReleased (d : Nat) : SwitchesDomains (.domainReleased d)
  | dieTempSample (t : Option Int) : SwitchesDomains (.dieTempSample t)
  | voterSafeSoutDrop : SwitchesDomains .voterSafeSoutDrop
  | clockFaultReset : SwitchesDomains .clockFaultReset
  | multiplierLock (error cycles : Nat) : SwitchesDomains (.multiplierLock error cycles)
  | powerOnReset (b : BootInputs) : SwitchesDomains (.powerOnReset b)
  | supplyBrownout (rail millivolts : Nat) : SwitchesDomains (.supplyBrownout rail millivolts)
  | porstNAsserted : SwitchesDomains .porstNAsserted

/-- Every other command keeps the waiting commands and the domains, as the laws of its own meaning say. -/
theorem exec_kept_or_switches (i : Instr) (s : State) : Kept s (outOr s (exec i s)) ∨ SwitchesDomains i := by
  cases i
  case resetCmd c => exact .inr (.resetCmd c)
  case powerStateSet c => exact .inr (.powerStateSet c)
  case domainReleased d => exact .inr (.domainReleased d)
  case dieTempSample t => exact .inr (.dieTempSample t)
  case voterSafeSoutDrop => exact .inr .voterSafeSoutDrop
  case clockFaultReset => exact .inr .clockFaultReset
  case multiplierLock error cycles => exact .inr (.multiplierLock error cycles)
  case powerOnReset b => exact .inr (.powerOnReset b)
  case supplyBrownout rail millivolts => exact .inr (.supplyBrownout rail millivolts)
  case porstNAsserted => exact .inr .porstNAsserted
  all_goals exact .inl (by simp [exec])

/-- No command touches the commands that wait. -/
theorem exec_pending (i : Instr) (s : State) : (outOr s (exec i s)).pending = s.pending := by
  rcases exec_kept_or_switches i s with hkept | hswitches
  · exact hkept.1
  · cases hswitches with
    | resetCmd c => exact execResetCmd_pending c s
    | powerStateSet c => exact execPowerStateSet_pending c s
    | domainReleased d => exact execDomainReleased_pending d s
    | dieTempSample t => exact execDieTempSample_pending t s
    | voterSafeSoutDrop => exact execVoterSafeSoutDrop_pending s
    | clockFaultReset => exact execClockFaultReset_pending s
    | multiplierLock error cycles => exact execMultiplierLock_pending error cycles s
    | powerOnReset b => exact execPowerOnReset_pending b s
    | supplyBrownout rail millivolts => exact execSupplyBrownout_pending rail millivolts s
    | porstNAsserted => exact execPorstNAsserted_pending s

theorem execSupplyBrownout_sound (rail millivolts : Nat) {s : State} (h : s.domainsSound = true) :
    (outOr s (execSupplyBrownout rail millivolts s)).domainsSound = true := by
  unfold execSupplyBrownout
  split
  · exact powerLoss_sound _ s
  · exact h

theorem execPorstNAsserted_sound (s : State) : (outOr s (execPorstNAsserted s)).domainsSound = true := by
  have h := powerLoss_sound 1 s
  unfold execPorstNAsserted
  generalize powerLoss 1 s = t at h ⊢
  exact h

/-- Every command keeps the power domains legal. -/
theorem exec_sound (i : Instr) {s : State} (h : s.domainsSound = true) : (outOr s (exec i s)).domainsSound = true := by
  rcases exec_kept_or_switches i s with hkept | hswitches
  · exact hkept.soundOf h
  · cases hswitches with
    | resetCmd c => exact execResetCmd_sound c s h
    | powerStateSet c => exact execPowerStateSet_sound c s h
    | domainReleased d => exact execDomainReleased_sound d s h
    | dieTempSample t => exact execDieTempSample_sound t s h
    | voterSafeSoutDrop => exact execVoterSafeSoutDrop_sound s h
    | clockFaultReset => exact execClockFaultReset_sound s h
    | multiplierLock error cycles => exact execMultiplierLock_sound error cycles s h
    | powerOnReset b => exact execPowerOnReset_sound b s
    | supplyBrownout rail millivolts => exact execSupplyBrownout_sound rail millivolts h
    | porstNAsserted => exact execPorstNAsserted_sound s

/-- With a command waiting, the step is that command on the queue's rest. -/
theorem step_of_pending_cons {s : State} {c : Instr} {r : List Instr} (h : s.pending = c :: r) :
    step s = exec c { s with pending := r } := by
  simp only [step, h]

/-- A step that answers a next state idles on an empty queue, or runs the command at its front. -/
theorem step_cases {s t : State} (h : step s = .next t) : (s.pending = [] ∧ t = s.idle) ∨
    ∃ c r, s.pending = c :: r ∧ t = outOr { s with pending := r } (exec c { s with pending := r }) := by
  cases hp : s.pending with
  | nil =>
    rw [step_of_pending_nil hp] at h
    exact .inl ⟨rfl, (Host.Outcome.next.inj h).symm⟩
  | cons c r =>
    rw [step_of_pending_cons hp] at h
    exact .inr ⟨c, r, rfl, by rw [h, outOr_next]⟩

end Sys2Proof.Machine

open Sys2Proof Sys2Proof.Machine

/-- Settles O1: it is `step_of_pending_cons`. -/
theorem stepTakesFront : Obligations.StepTakesFront := fun _ _ _ h => step_of_pending_cons h

/-- Settles O4: an idle step finds an empty queue and leaves it, and the command at the front keeps the rest
(`exec_pending`). -/
theorem waitingCommandsAreKept : Obligations.WaitingCommandsAreKept := by
  intro s t hstep
  rcases step_cases hstep with ⟨hempty, rfl⟩ | ⟨c, r, hfront, rfl⟩
  · rw [(State.idle_kept s).1, hempty, List.tail_nil]
  · rw [exec_pending, hfront, List.tail_cons]

/-- Settles O5: an idle step keeps the domains, and so does every command (`exec_sound`). -/
theorem domainsStaySound : Obligations.DomainsStaySound := by
  intro s t hsound hstep
  rcases step_cases hstep with ⟨-, rfl⟩ | ⟨c, r, -, rfl⟩
  · exact Kept.soundOf (State.idle_kept s) hsound
  · exact exec_sound c hsound

/-- Settles O6: at reset PD0 alone is on. -/
theorem domainsSoundAtReset : Obligations.DomainsSoundAtReset := soundMask_pd0

/-- Settles O7: the tables of the reset state are empty, so each entry reads its default. -/
theorem resetLeavesTheSpecsValues : Obligations.ResetLeavesTheSpecsValues := by
  refine ⟨rfl, fun n => ?seats, rfl, fun k => ?gates, fun p => rfl, rfl, rfl, rfl, rfl⟩
  case seats =>
    have hclosed : (State.reset.seat n).state = 0 := rfl
    simp [hclosed]
  case gates => exact ⟨rfl, rfl⟩

end

section
/-! The host commands of the safety island (Table 13-13): what each replies in each of its cases. -/

namespace Sys2Proof.Machine

/-! ### SAFETY_STATUS and IO_STATUS -/

/-- What SAFETY_STATUS shows, with `spare` in its byte for the spare channel. -/
def safetyShown (spare : Int) (s : State) : Res :=
  res [(0, 1, s.sup.mode), (1, 1, spare), (2, 1, bit s.isl.maintenance),
    (3, 1, maskOf ((upTo 4).filter fun c => s.isRetired (chanHandle c))),
    (4, 2, maskOf (s.localOuts.filter fun o => decide ((s.output o).safe = 1))),
    (6, 2, maskOf (s.localOuts.filter fun o => decide ((s.output o).safe = 2))), (8, 4, s.sup.frame),
    (12, 1, maskOf ((upTo 4).filter fun a => (s.axis a).sto)),
    (13, 1, (((upTo 128).filter fun f => (s.sfn f).demand).length : Nat)),
    (14, 2, (((upTo 64).filter fun k => decide ((s.sconn k).state = 2)).length : Nat))]

/-- With no spare channel its byte reads 0x80. -/
theorem safetyStatusOf_of_no_spare (q : Req) {s : State} (h : s.sup.spare = none) :
    safetyStatusOf q s = .done 0 (safetyShown 0x80 s) s := by
  simp only [safetyStatusOf, h]
  rfl

theorem ioStatusOf_outputs {q : Req} (s : State) (h : q.w 0 = 0) : ioStatusOf q s = .done 0
    (res [(0, 4, maskOf ((upTo 32).filter fun k => (s.sout k).energised)),
      (4, 4, maskOf ((upTo 32).filter fun k => (s.sout k).readback)),
      (8, 4, maskOf ((upTo 32).filter fun k => (s.sout k).faulted))]) s := if_pos h

theorem ioStatusOf_inputs {q : Req} (s : State) (h : q.w 0 = 1) : ioStatusOf q s = .done 0
    (res [(0, 3, maskOf ((upTo 24).filter fun k => (s.sin k).a)), (3, 3, maskOf ((upTo 24).filter fun k => (s.sin k).b)),
      (6, 3, maskOf ((upTo 24).filter fun k => (s.sin k).demand)),
      (9, 3, maskOf ((upTo 24).filter fun k => (s.sin k).latched))]) s :=
  (if_neg (by omega)).trans (if_pos h)

theorem ioStatusOf_of_other_page {q : Req} (s : State) (h : 1 < q.w 0) : ioStatusOf q s = .done 0x0108 0 s :=
  (if_neg (by omega)).trans (if_neg (by omega))

/-! ### SAFE_ACK (R321) -/

/-- A demand whose trigger is gone ends with its acknowledgement. -/
theorem safeAckOf_of_cleared {q : Req} {s : State} (hdemand : (s.sfn q.idx).demand = true)
    (hkind : s.fnFld q.idx 0 1 ≠ 3) (hclear : s.triggerOf q.idx = false) : safeAckOf q s =
      .done 0 (res [(0, 1,
          (judge (s.setSfn q.idx { s.sfn q.idx with demand := false, trigger := false })).fnState q.idx)])
        (judge (s.setSfn q.idx { s.sfn q.idx with demand := false, trigger := false })) := by
  simp only [safeAckOf, hdemand, hkind, hclear, Bool.true_eq_false, Bool.false_eq_true, false_and, if_false]

theorem safeAckOf_of_triggered {q : Req} {s : State} (hdemand : (s.sfn q.idx).demand = true)
    (hkind : s.fnFld q.idx 0 1 ≠ 3) (htrigger : s.triggerOf q.idx = true) : safeAckOf q s = rej 0x0A0B s := by
  simp only [safeAckOf, hdemand, hkind, htrigger, Bool.true_eq_false, false_and, if_false, if_true]

theorem safeAckOf_of_no_demand {q : Req} {s : State} (h : (s.sfn q.idx).demand = false) :
    safeAckOf q s = rej 0x0001 s := if_pos h

/-! ### SAFE_STATE_REQUEST and SAFE_RELEASE (R339, R343) -/

/-- A request of level 1 demands the normal safe state of its outputs, and STO of its axes. -/
theorem safeStateRequestOf_normal {q : Req} {s : State} (hlevel : q.w 1 = 1)
    (hfits : maskFits s (q.w 0) (q.w 2) = true) : safeStateRequestOf q s =
      .done 0 0 (judge { s with isl := { s.isl with
        reqNormal := s.isl.reqNormal ||| BitVec.ofNat 16 (q.w 0),
        reqAxes := s.isl.reqAxes ||| BitVec.ofNat 4 (q.w 2) } }) := by
  simp [safeStateRequestOf, hlevel, hfits]

/-- A request of level 2 demands the emergency safe state. -/
theorem safeStateRequestOf_emergency {q : Req} {s : State} (hlevel : q.w 1 = 2)
    (hfits : maskFits s (q.w 0) (q.w 2) = true) : safeStateRequestOf q s =
      .done 0 0 (judge { s with isl := { s.isl with
        reqEmergency := s.isl.reqEmergency ||| BitVec.ofNat 16 (q.w 0),
        reqAxes := s.isl.reqAxes ||| BitVec.ofNat 4 (q.w 2) } }) := by
  simp [safeStateRequestOf, hlevel, hfits]

theorem safeStateRequestOf_of_bad_param {q : Req} {s : State}
    (h : maskFits s (q.w 0) (q.w 2) = false ∨ q.w 1 = 0) : safeStateRequestOf q s = rej 0x0108 s :=
  if_pos (h.symm.imp_left fun hlevel => by omega)

theorem safeReleaseOf_of_fits {q : Req} {s : State} (hfits : maskFits s (q.w 0) (q.w 1) = true) : safeReleaseOf q s =
    .done 0 0 (judge { s with isl := { s.isl with
      reqNormal := s.isl.reqNormal &&& ~~~(BitVec.ofNat 16 (q.w 0)),
      reqEmergency := s.isl.reqEmergency &&& ~~~(BitVec.ofNat 16 (q.w 0)),
      reqAxes := s.isl.reqAxes &&& ~~~(BitVec.ofNat 4 (q.w 1)) } }) := if_neg (by simp [hfits])

theorem safeReleaseOf_of_unfit {q : Req} {s : State} (h : maskFits s (q.w 0) (q.w 1) = false) :
    safeReleaseOf q s = rej 0x0108 s := if_pos h

/-! ### MAINT_ENTER, MAINT_EXIT and PROOF_TEST (R314, R340) -/

/-- Maintenance begins with every output here idle or faulted and the key switch, where one is set, in demand. -/
theorem maintEnterOf_of_idle (q : Req) {s : State} (hout : s.isl.maintenance = false)
    (hidle : ∀ o ∈ s.localOuts, (s.output o).state = 0 ∨ (s.output o).state = 6)
    (hkey : 24 ≤ fld (s.blk 7) 14 1 ∨ (s.sin (fld (s.blk 7) 14 1)).demand = true) :
    maintEnterOf q s = .done 0 0 (logIn 10 [2, 1] { s with isl := { s.isl with maintenance := true } }) := by
  have hbusy : (s.localOuts.any fun o => decide ((s.output o).state ≠ 0 ∧ (s.output o).state ≠ 6)) = false := by
    simpa only [List.any_eq_false, decide_eq_true_eq, ne_eq, not_and_or, not_not] using hidle
  have hallowed : ¬(fld (s.blk 7) 14 1 < 24 ∧ (s.sin (fld (s.blk 7) 14 1)).demand = false) := by
    rintro ⟨hset, hopen⟩
    rcases hkey with hunset | hclosed
    · omega
    · simp [hopen] at hclosed
  simp only [maintEnterOf, hout, hbusy, hallowed, Bool.false_eq_true, or_self, if_false]

theorem maintEnterOf_of_maintenance (q : Req) {s : State} (h : s.isl.maintenance = true) :
    maintEnterOf q s = rej 0x0001 s := if_pos h

theorem maintEnterOf_of_running {q : Req} {s : State} {o : Nat} (hout : s.isl.maintenance = false)
    (hlocal : o ∈ s.localOuts) (hstate : (s.output o).state = 3) : maintEnterOf q s = rej 0x0301 s :=
  (if_neg (Bool.eq_false_iff.1 hout)).trans
    (if_pos (.inl (List.any_eq_true.2 ⟨o, hlocal, by simp [hstate]⟩)))

theorem maintExitOf_of_no_test (q : Req) {s : State} (hin : s.isl.maintenance = true) (htest : s.sup.proof = false) :
    maintExitOf q s = .done 0 0 (leaveMaint s) :=
  (if_neg (by simp [hin])).trans (if_neg (Bool.eq_false_iff.1 htest))

/-- The exit waits for a proof test that runs. -/
theorem maintExitOf_of_test (q : Req) {s : State} (hin : s.isl.maintenance = true) (htest : s.sup.proof = true) :
    maintExitOf q s = .live false [] { s with sup := { s.sup with exitDue := true } } := by
  simp only [maintExitOf, exitMaint, hin, htest, Bool.true_eq_false, if_false, if_true]
  rfl

theorem maintExitOf_of_no_maintenance (q : Req) {s : State} (h : s.isl.maintenance = false) :
    maintExitOf q s = rej 0x0001 s := if_pos h

/-- An active channel leaves the vote of three for its test, and the spare takes its place (R309). -/
theorem proofTestOf_of_active {q : Req} {s : State} (hchannel : q.w 0 ≤ 3) (hmode : s.sup.mode = 0)
    (hin : s.isl.maintenance = true) (hspare : s.spareReady = true) (hactive : s.sup.active.contains (q.w 0) = true) :
    proofTestOf q s = .live true [] (logIn 10 [3, (q.w 0 : Int)] (startPromotion (q.w 0) 2 { s with sup := { s.sup with
      active := s.sup.active.filter (· ≠ q.w 0), proof := true, proofStage := 0, proofTime := 0 } })) := by
  simp only [proofTestOf, Nat.not_lt.2 hchannel, hin, hmode, hspare, hactive, ne_eq, not_true_eq_false,
    Bool.true_eq_false, or_self, if_false]
  rfl

theorem proofTestOf_of_no_maintenance {q : Req} {s : State} (hchannel : q.w 0 ≤ 3) (h : s.isl.maintenance = false) :
    proofTestOf q s = rej 0x0301 s := (if_neg (Nat.not_lt.2 hchannel)).trans (if_pos (.inl h))

theorem proofTestOf_of_no_channel {q : Req} (s : State) (h : 3 < q.w 0) : proofTestOf q s = rej 0x0108 s := if_pos h

/-! ### AXIS_STATUS and SAFE_CONN_STATUS -/

theorem axisStatusOf_of_fitted {q : Req} {s : State} (haxis : q.w 0 ≤ 3) (hfitted : s.axFitted (q.w 0) = true) :
    axisStatusOf q s = .done 0
      (res [(0, 1, bit (s.axis (q.w 0)).referenced + 2 * bit (s.axis (q.w 0)).sto + 4 * bit s.limitSet),
        (4, 4, (s.axis (q.w 0)).pos), (8, 4, (s.axis (q.w 0)).speed), (12, 4, (s.axis (q.w 0)).plausible)]) s :=
  if_neg (not_or.2 ⟨Nat.not_lt.2 haxis, by simp [hfitted]⟩)

theorem axisStatusOf_of_unfitted {q : Req} {s : State} (h : s.axFitted (q.w 0) = false) :
    axisStatusOf q s = rej 0x0108 s := if_pos (.inr h)

/-- What SAFE_CONN_STATUS shows of connection `k`. -/
def safeConnShown (k : Nat) (s : State) : Res :=
  res [(0, 1, (s.sconn k).state), (2, 2, (((s.sconn k).lastSeq.getD 0).toNat : Int)), (4, 4, (s.sconn k).accepted),
    (8, 4, (s.sconn k).rejected), (12, 4, ((s.now - (s.sconn k).lastTime) / 1000 : Nat))]

theorem safeConnStatusOf_of_used {q : Req} {s : State} (hconn : q.w 0 ≤ 63) (hused : s.scFld (q.w 0) 0 1 ≠ 0) :
    safeConnStatusOf q s = .done 0 (safeConnShown (q.w 0) s)
      (if (q.word 1).getLsbD 0 then s.setSconn (q.w 0) { s.sconn (q.w 0) with accepted := 0, rejected := 0 } else s) :=
  if_neg (not_or.2 ⟨Nat.not_lt.2 hconn, hused⟩)

theorem safeConnStatusOf_of_no_conn {q : Req} (s : State) (h : 63 < q.w 0) : safeConnStatusOf q s = rej 0x0108 s :=
  if_pos (.inl h)

end Sys2Proof.Machine

open Sys2Proof Sys2Proof.Machine

/-- Settles O36: each case of `safetyCases` is the lemma about its command's reply, whose hypotheses the case's condition
gives. -/
theorem safetyCommandsAnswer : Obligations.SafetyCommandsAnswer := by
  unfold Obligations.SafetyCommandsAnswer safetyCases
  repeat rw [List.forall_mem_cons]
  refine ⟨?status, ?function, ?outputs, ?inputs, ?otherPage, ?ack, ?ackTriggered, ?ackNone, ?requestNormal,
    ?requestEmergency, ?requestBad, ?release, ?releaseUnfit, ?enter, ?enterAgain, ?enterRunning, ?exit, ?exitWaits,
    ?exitNone, ?proof, ?proofNoMaintenance, ?proofNoChannel, ?axis, ?axisUnfitted, ?conn, ?connClear, ?connNone,
    List.forall_mem_nil _⟩ <;>
    refine Case.holds_mk (fun _ _ => rfl) fun q s h => ?_
  case status => exact safetyStatusOf_of_no_spare q (of_decide_eq_true h)
  case function => rfl
  case outputs => exact ioStatusOf_outputs s (of_decide_eq_true h)
  case inputs => exact ioStatusOf_inputs s (of_decide_eq_true h)
  case otherPage => exact ioStatusOf_of_other_page s (of_decide_eq_true h)
  case ack =>
    simp only [Bool.and_eq_true, Bool.not_eq_true', decide_eq_true_eq] at h
    obtain ⟨⟨hdemand, hclear⟩, hkind⟩ := h
    exact safeAckOf_of_cleared hdemand hkind hclear
  case ackTriggered =>
    simp only [Bool.and_eq_true, decide_eq_true_eq] at h
    obtain ⟨⟨hdemand, htrigger⟩, hkind⟩ := h
    exact safeAckOf_of_triggered hdemand hkind htrigger
  case ackNone => exact safeAckOf_of_no_demand (by simpa using h)
  case requestNormal =>
    obtain ⟨hlevel, hfits⟩ : q.w 1 = 1 ∧ _ := by simpa using h
    exact safeStateRequestOf_normal hlevel hfits
  case requestEmergency =>
    obtain ⟨hlevel, hfits⟩ : q.w 1 = 2 ∧ _ := by simpa using h
    exact safeStateRequestOf_emergency hlevel hfits
  case requestBad => exact safeStateRequestOf_of_bad_param (by simpa using h)
  case release => exact safeReleaseOf_of_fits h
  case releaseUnfit => exact safeReleaseOf_of_unfit (by simpa using h)
  case enter =>
    simp only [Bool.and_eq_true, Bool.not_eq_true', List.all_eq_true, decide_eq_true_eq] at h
    obtain ⟨⟨hout, hidle⟩, hkey⟩ := h
    exact maintEnterOf_of_idle q hout hidle hkey
  case enterAgain => exact maintEnterOf_of_maintenance q h
  case enterRunning =>
    simp only [Bool.and_eq_true, Bool.not_eq_true', List.any_eq_true, decide_eq_true_eq] at h
    obtain ⟨hout, o, hlocal, hstate⟩ := h
    exact maintEnterOf_of_running hout hlocal hstate
  case exit =>
    simp only [Bool.and_eq_true, Bool.not_eq_true'] at h
    obtain ⟨hin, htest⟩ := h
    exact maintExitOf_of_no_test q hin htest
  case exitWaits =>
    obtain ⟨hin, htest⟩ := Bool.and_eq_true_iff.1 h
    exact maintExitOf_of_test q hin htest
  case exitNone => exact maintExitOf_of_no_maintenance q (by simpa using h)
  case proof =>
    simp only [Bool.and_eq_true, decide_eq_true_eq] at h
    obtain ⟨⟨⟨⟨hchannel, hmode⟩, hin⟩, hspare⟩, hactive⟩ := h
    exact proofTestOf_of_active hchannel hmode hin hspare hactive
  case proofNoMaintenance =>
    simp only [Bool.and_eq_true, Bool.not_eq_true', decide_eq_true_eq] at h
    obtain ⟨hchannel, hout⟩ := h
    exact proofTestOf_of_no_maintenance hchannel hout
  case proofNoChannel => exact proofTestOf_of_no_channel s (of_decide_eq_true h)
  case axis =>
    simp only [Bool.and_eq_true, decide_eq_true_eq] at h
    obtain ⟨haxis, hfitted⟩ := h
    exact axisStatusOf_of_fitted haxis hfitted
  case axisUnfitted => exact axisStatusOf_of_unfitted (by simpa using h)
  case conn =>
    simp only [Bool.and_eq_true, Bool.not_eq_true', decide_eq_true_eq] at h
    obtain ⟨⟨hconn, hused⟩, hkeep⟩ := h
    exact (safeConnStatusOf_of_used hconn hused).trans (by rw [hkeep]; rfl)
  case connClear =>
    simp only [Bool.and_eq_true, decide_eq_true_eq] at h
    obtain ⟨⟨hconn, hused⟩, hclear⟩ := h
    exact (safeConnStatusOf_of_used hconn hused).trans (by rw [hclear]; rfl)
  case connNone => exact safeConnStatusOf_of_no_conn s (of_decide_eq_true h)

end

section
/-! The events of the safety supervisor: what each does where its condition holds, and where it changes nothing. -/

namespace Sys2Proof.Machine

/-! ### SAFETY_FRAME_BOUNDARY and CHECKPOINT_VALID (R301, R304, R307) -/

/-- The next frame begins. -/
def nextFrame (s : State) : State := { s with sup := { s.sup with
  frame := (s.sup.frame + 1) % 4294967296, frameAt := s.sup.frameAt + 1000 * ((s.now - s.sup.frameAt) / 1000) } }

theorem execSafetyFrameBoundary_of_early (signatures : List Word) {s : State} (h : s.frameOver = false) :
    execSafetyFrameBoundary signatures s = .next s := if_pos h

/-- Before the start-up test the boundary only counts. -/
theorem execSafetyFrameBoundary_of_not_started (signatures : List Word) {s : State} (hover : s.frameOver = true)
    (hstarted : s.sup.started = false) : execSafetyFrameBoundary signatures s = .next (nextFrame s) :=
  (if_neg (by simp [hover])).trans (if_pos (.inl hstarted))

/-- With no signature to vote on, every tenth frame starts a checkpoint, and the axes are judged again. -/
theorem execSafetyFrameBoundary_of_tenth {s : State} (hover : s.frameOver = true) (hstarted : s.sup.started = true)
    (hmode : s.sup.mode = 0) (htenth : (s.sup.frame + 1) % 4294967296 % 10 = 0) : execSafetyFrameBoundary [] s =
      .next (overL (upTo 4) (fun a t => axisStep a false t) { nextFrame s with sup := { (nextFrame s).sup with
        streaming := some ((s.sup.frame + 1) % 4294967296) } }) := by
  simp only [execSafetyFrameBoundary, nextFrame, State.setSup, hover, hstarted, hmode, htenth, majority, List.find?_nil,
    List.length_nil, Nat.zero_lt_two, Bool.true_eq_false, OfNat.zero_ne_ofNat, ne_eq, not_false_eq_true, or_self,
    and_self, if_true, if_false]

theorem execCheckpointValid_of_over {s : State} {frame : Nat} (hstream : s.sup.streaming = some frame)
    (hover : s.after s.sup.frameAt 109 = true) : execCheckpointValid s = .next { s with sup := { s.sup with
      older := s.sup.checkpoint, checkpoint := frame, streaming := none,
      log := s.sup.log.filter fun e => decide (s.sup.checkpoint ≤ e.frame) } } := by
  simp only [execCheckpointValid, hstream, hover, Bool.true_eq_false, if_false]
  rfl

/-! ### VOTE_MISMATCH (R303 to R306) -/

/-- Of three channels, the one that disagrees is voted out. -/
theorem execVoteMismatch_of_one {channels : BitVec 4} {x : Nat} (kind bitNo cycle : Nat) {s : State}
    (hstarted : s.sup.started = true) (hmode : s.sup.mode = 0)
    (hone : (chanList channels).filter (s.sup.active.contains ·) = [x]) :
    execVoteMismatch channels kind bitNo cycle false s = .next (voteOut x kind bitNo cycle s) := by
  simp only [execVoteMismatch, hstarted, hmode, hone, Bool.true_eq_false, Bool.false_eq_true, OfNat.zero_ne_ofNat,
    or_self, if_true, if_false]

theorem execVoteMismatch_of_two {channels : BitVec 4} {x y : Nat} (kind bitNo cycle : Nat) {s : State}
    (hstarted : s.sup.started = true) (hmode : s.sup.mode = 0)
    (htwo : (chanList channels).filter (s.sup.active.contains ·) = [x, y]) :
    execVoteMismatch channels kind bitNo cycle false s = .next (enterVoterSafe 1 s) := by
  simp only [execVoteMismatch, hstarted, hmode, htwo, Bool.true_eq_false, Bool.false_eq_true, OfNat.zero_ne_ofNat,
    or_self, if_true, if_false]

/-- Of a pair none can be voted out. -/
theorem execVoteMismatch_of_pair {channels : BitVec 4} {x : Nat} (kind bitNo cycle : Nat) {s : State}
    (hstarted : s.sup.started = true) (hmode : s.sup.mode = 2)
    (hone : (chanList channels).filter (s.sup.active.contains ·) = [x]) :
    execVoteMismatch channels kind bitNo cycle false s = .next (enterVoterSafe 2 s) := by
  simp only [execVoteMismatch, hstarted, hmode, hone, Bool.true_eq_false, Bool.false_eq_true, OfNat.ofNat_ne_zero,
    Nat.reduceEqDiff, or_self, if_false]

theorem execVoteMismatch_of_halves (channels : BitVec 4) (kind bitNo cycle : Nat) {s : State}
    (hstarted : s.sup.started = true) (hmode : s.sup.mode ≠ 3) :
    execVoteMismatch channels kind bitNo cycle true s = .next (enterVoterSafe 3 s) :=
  (if_neg (by simp [hstarted, hmode])).trans (if_pos rfl)

/-! ### The spare's promotion (R309 to R311) -/

/-- A stage that ends well within 11.9 ms leads to the next. -/
theorem promotionStep_of_ok {s : State} {spare x kind since stage : Nat} (failAs : Nat)
    (hpromotion : s.sup.promotion = some (spare, x, kind, since, stage)) (hrun : s.after since 11900 = false) :
    promotionStep stage true failAs s =
      { s with sup := { s.sup with promotion := some (spare, x, kind, since, stage + 1) } } := by
  simp only [promotionStep, hpromotion, hrun, ne_eq, not_true_eq_false, Bool.false_eq_true, if_false, if_true]
  rfl

theorem promotionStep_of_failed {s : State} {spare x kind since stage : Nat} (failAs : Nat)
    (hpromotion : s.sup.promotion = some (spare, x, kind, since, stage)) (hrun : s.after since 11900 = false) :
    promotionStep stage false failAs s = failPromotion failAs s := by
  simp only [promotionStep, hpromotion, hrun, ne_eq, not_true_eq_false, Bool.false_eq_true, if_false]

/-- A promotion in its last stage, at a frame boundary and within 11.9 ms. -/
structure State.Joins (s : State) (spare x kind since : Nat) : Prop where
  promotion : s.sup.promotion = some (spare, x, kind, since, 4)
  boundary : (s.now - s.sup.frameAt) % 1000 = 0
  within : s.after since 11900 = false

/-- The spare joins in place of a channel that is parked already. -/
theorem execSparePromoted_of_agreed {s : State} {spare x kind since : Nat} (h : s.Joins spare x kind since)
    (hparked : s.sup.parked.contains x = true) : execSparePromoted true s =
      .next (islandReport 0x0A11 (handle 0 0)
        (res [(0, 1, spare), (1, 1, x), (2, 1, kind), (4, 4, ((s.now - since : Nat) : Int))])
        (spareDomain { s with sup := { s.sup with
          mode := 0, promotion := none, active := s.sup.active ++ [spare], proofTime := s.now - since,
          proofStage := 0 } })) := by
  obtain ⟨hpromotion, hboundary, hwithin⟩ := h
  simp only [execSparePromoted, hpromotion, hboundary, hwithin, hparked, ne_eq, not_true_eq_false, Bool.true_eq_false,
    Bool.false_eq_true, or_self, if_true, if_false]
  rfl

theorem execSparePromoted_of_disagreed {s : State} {spare x kind since : Nat} (h : s.Joins spare x kind since) :
    execSparePromoted false s = .next (failPromotion 5 s) := by
  obtain ⟨hpromotion, hboundary, hwithin⟩ := h
  simp only [execSparePromoted, hpromotion, hboundary, hwithin, ne_eq, not_true_eq_false, Bool.false_eq_true, or_self,
    if_true, if_false]

theorem execSpareFailed_of_over {s : State} {spare x kind since stage : Nat}
    (hpromotion : s.sup.promotion = some (spare, x, kind, since, stage)) (hover : s.after since 11900 = true) :
    execSpareFailed s = .next (failPromotion 4 s) := by
  simp only [execSpareFailed, hpromotion, hover, if_true]

/-! ### PARKED_SELF_TEST_DONE and SAFETY_STARTUP_TEST_DONE (R312, R313) -/

/-- A parked channel may be tested: no promotion runs, the voters are not in their safe state, and it is not retired. -/
structure State.TestsParked (s : State) (x : Nat) : Prop where
  parked : s.sup.parked.contains x = true
  idle : s.sup.promotion = none
  mode : s.sup.mode ≠ 3
  fit : s.isRetired (chanHandle x) = false

/-- A channel that passes, with fewer than three vote-outs, becomes the spare. -/
theorem execParkedSelfTestDone_of_pass {s : State} {x : Nat} (h : s.TestsParked x) (hfew : tget s.sup.voteOuts x 0 < 3)
    (htest : s.sup.proof = false) : execParkedSelfTestDone x true s =
      .next (spareDomain { s with sup := { s.sup with
        parked := s.sup.parked.filter (· ≠ x), spare := some x } }) := by
  obtain ⟨hparked, hidle, hmode, hfit⟩ := h
  simp only [execParkedSelfTestDone, hparked, hidle, hmode, hfit, htest, Nat.not_le.2 hfew, Option.isSome_none,
    Bool.true_eq_false, Bool.false_eq_true, or_self, if_false]
  rfl

theorem execParkedSelfTestDone_of_fail {s : State} {x : Nat} (h : s.TestsParked x) (htest : s.sup.proof = false) :
    execParkedSelfTestDone x false s =
      .next (spareDomain (retireChannel x 1 { s with sup := { s.sup with parked := s.sup.parked.filter (· ≠ x) } })) := by
  obtain ⟨hparked, hidle, hmode, hfit⟩ := h
  simp only [execParkedSelfTestDone, hparked, hidle, hmode, hfit, htest, Option.isSome_none, Bool.true_eq_false,
    Bool.false_eq_true, or_self, if_false, if_true]
  rfl

theorem execSafetyStartupTestDone_of_not_due (pass : BitVec 4) {s : State}
    (h : s.sup.started = true ∨ s.power.domains.getLsbD 1 = false) : execSafetyStartupTestDone pass s = .next s :=
  if_pos h

/-- With channels A, B and C fit and passed, they vote and D is the spare. -/
theorem execSafetyStartupTestDone_of_abc {s : State} (hnew : s.sup.started = false)
    (hpd1 : s.power.domains.getLsbD 1 = true) (hfit : ∀ k < 4, s.isRetired (chanHandle k) = false) :
    execSafetyStartupTestDone 7 s = .next (rejudge { spareDomain { s with sup := { s.sup with
        started := true, active := [0, 1, 2], mode := 0, parked := [], promotion := none, spare := some 3 } } with
      isl := { (spareDomain { s with sup := { s.sup with
        started := true, active := [0, 1, 2], mode := 0, parked := [], promotion := none, spare := some 3 } }).isl with
          outRamp := 0, podStop := 0, sto := 0 } }) := by
  have habc : upTo 3 = [0, 1, 2] := rfl
  refine (if_neg (by simp only [hnew, hpd1, Bool.false_eq_true, Bool.true_eq_false, or_self, not_false_eq_true])).trans ?_
  simp [habc, hfit, overL]
  rfl

end Sys2Proof.Machine

open Sys2Proof Sys2Proof.Machine

/-- Settles O53: each entry of `supervisorEvents` is the lemma about its event, whose hypotheses the entry's condition
gives. -/
theorem supervisorEventsTakeEffect : Obligations.SupervisorEventsTakeEffect := by
  intro x y kind bitNo cycle channels passes signatures
  unfold supervisorEvents
  repeat rw [List.forall_mem_cons]
  refine ⟨?early, ?notStarted, ?tenth, ?checkpoint, ?voteOne, ?voteTwo, ?votePair, ?voteHalves, ?soutDrop, ?powered,
    ?tested, ?testFailed, ?loaded, ?loadFailed, ?caughtUp, ?promoted, ?promotionRefused, ?promotionOver, ?parkedPass,
    ?parkedFail, ?startNotDue, ?start, List.forall_mem_nil _⟩ <;>
    refine Event.holds_mk fun s h => ?_
  case early => exact execSafetyFrameBoundary_of_early signatures (by simpa using h)
  case notStarted =>
    obtain ⟨hover, hstarted⟩ : _ ∧ s.sup.started = false := by simpa using h
    exact execSafetyFrameBoundary_of_not_started signatures hover hstarted
  case tenth =>
    simp only [Bool.and_eq_true, decide_eq_true_eq] at h
    obtain ⟨⟨hover, hstarted⟩, hmode, rfl, htenth⟩ := h
    exact execSafetyFrameBoundary_of_tenth hover hstarted hmode htenth
  case checkpoint =>
    simp only [Bool.and_eq_true, decide_eq_true_eq] at h
    obtain ⟨hstream, hover⟩ := h
    exact execCheckpointValid_of_over hstream hover
  case voteOne =>
    simp only [Bool.and_eq_true, decide_eq_true_eq] at h
    obtain ⟨hstarted, hmode, hone⟩ := h
    exact execVoteMismatch_of_one kind bitNo cycle hstarted hmode hone
  case voteTwo =>
    simp only [Bool.and_eq_true, decide_eq_true_eq] at h
    obtain ⟨hstarted, hmode, htwo⟩ := h
    exact execVoteMismatch_of_two kind bitNo cycle hstarted hmode htwo
  case votePair =>
    simp only [Bool.and_eq_true, decide_eq_true_eq] at h
    obtain ⟨hstarted, hmode, hone⟩ := h
    exact execVoteMismatch_of_pair kind bitNo cycle hstarted hmode hone
  case voteHalves =>
    simp only [Bool.and_eq_true, decide_eq_true_eq] at h
    obtain ⟨hstarted, hmode⟩ := h
    exact execVoteMismatch_of_halves channels kind bitNo cycle hstarted hmode
  case soutDrop =>
    simp only [Bool.and_eq_true, Bool.not_eq_true', decide_eq_true_eq] at h
    obtain ⟨⟨⟨hmode, hnew⟩, hover⟩, hrun⟩ := h
    exact execVoterSafeSoutDrop_of_over hmode hnew hover hrun
  case powered =>
    simp only [Bool.and_eq_true, Bool.not_eq_true', decide_eq_true_eq] at h
    obtain ⟨hpromotion, hrun⟩ := h
    exact congrArg Host.Outcome.next (promotionStep_of_ok 1 hpromotion hrun)
  case tested =>
    simp only [Bool.and_eq_true, Bool.not_eq_true', decide_eq_true_eq] at h
    obtain ⟨hpromotion, hrun⟩ := h
    exact congrArg Host.Outcome.next (promotionStep_of_ok 2 hpromotion hrun)
  case testFailed =>
    simp only [Bool.and_eq_true, Bool.not_eq_true', decide_eq_true_eq] at h
    obtain ⟨hpromotion, hrun⟩ := h
    exact congrArg Host.Outcome.next (promotionStep_of_failed 2 hpromotion hrun)
  case loaded =>
    simp only [Bool.and_eq_true, Bool.not_eq_true', decide_eq_true_eq] at h
    obtain ⟨hpromotion, hrun⟩ := h
    exact congrArg Host.Outcome.next (promotionStep_of_ok 3 hpromotion hrun)
  case loadFailed =>
    simp only [Bool.and_eq_true, Bool.not_eq_true', decide_eq_true_eq] at h
    obtain ⟨hpromotion, hrun⟩ := h
    exact congrArg Host.Outcome.next (promotionStep_of_failed 3 hpromotion hrun)
  case caughtUp =>
    simp only [Bool.and_eq_true, Bool.not_eq_true', decide_eq_true_eq] at h
    obtain ⟨hpromotion, hrun⟩ := h
    exact congrArg Host.Outcome.next (promotionStep_of_ok 3 hpromotion hrun)
  case promoted =>
    simp only [Bool.and_eq_true, Bool.not_eq_true', decide_eq_true_eq] at h
    obtain ⟨⟨⟨hpromotion, hboundary⟩, hwithin⟩, hparked⟩ := h
    exact execSparePromoted_of_agreed ⟨hpromotion, hboundary, hwithin⟩ hparked
  case promotionRefused =>
    simp only [Bool.and_eq_true, Bool.not_eq_true', decide_eq_true_eq] at h
    obtain ⟨⟨hpromotion, hboundary⟩, hwithin⟩ := h
    exact execSparePromoted_of_disagreed ⟨hpromotion, hboundary, hwithin⟩
  case promotionOver =>
    simp only [Bool.and_eq_true, decide_eq_true_eq] at h
    obtain ⟨hpromotion, hover⟩ := h
    exact execSpareFailed_of_over hpromotion hover
  case parkedPass =>
    simp only [Bool.and_eq_true, Bool.not_eq_true', decide_eq_true_eq] at h
    obtain ⟨⟨⟨⟨hparked, hidle, hmode, hfew⟩, hfit⟩, -⟩, htest⟩ := h
    exact execParkedSelfTestDone_of_pass ⟨hparked, hidle, hmode, hfit⟩ hfew htest
  case parkedFail =>
    simp only [Bool.and_eq_true, Bool.not_eq_true', decide_eq_true_eq] at h
    obtain ⟨⟨⟨hparked, hidle, hmode⟩, hfit⟩, htest⟩ := h
    exact execParkedSelfTestDone_of_fail ⟨hparked, hidle, hmode, hfit⟩ htest
  case startNotDue => exact execSafetyStartupTestDone_of_not_due passes (by simpa using h)
  case start =>
    simp only [Bool.and_eq_true, Bool.not_eq_true', List.all_eq_true] at h
    obtain ⟨⟨hnew, hpd1⟩, hfit⟩ := h
    exact execSafetyStartupTestDone_of_abc hnew hpd1 fun k hk => hfit k (List.mem_range.2 hk)

end

section
/-! The events of the safety functions: what each does where its condition holds, and where it changes nothing. -/

namespace Sys2Proof.Machine

/-! ### SAFETY_INPUT_CHANGE, INPUT_DISCREPANCY and TEST_PULSE_MISSED (R324, R325) -/

theorem execSafetyInputChange_of_ignored {k held : Nat} (a b : Bool) {s : State}
    (h : s.sup.started = false ∨ held < 1000 * s.siFld k 3 1) : execSafetyInputChange k a b s held = .next s :=
  if_pos (h.imp_right .inr)

/-- A level of an equivalent pair (MODE 1) that has stood for its debounce time is taken. -/
structure State.TakesLevel (s : State) (k held : Nat) : Prop where
  started : s.sup.started = true
  mode : s.siFld k 0 1 = 1
  stood : 1000 * s.siFld k 3 1 ≤ held

/-- With both channels away from their safe level, a demand ends; a latched one only after both have been at it. -/
theorem execSafetyInputChange_both_high {s : State} {k held : Nat} (h : s.TakesLevel k held) :
    execSafetyInputChange k true true s held =
      .next (inputMoved k s (logIn 0 [(k : Int), (bit true : Nat), (bit true : Nat)] (s.setSin k { s.sin k with
        a := true, b := true, demand := (s.sin k).latched && !(s.sin k).cleared,
        latched := (s.sin k).latched && !(s.sin k).cleared, cleared := false, differs := none }))) := by
  obtain ⟨hstarted, hmode, hstood⟩ := h
  have hcleared : ((s.sin k).cleared && ((s.sin k).latched && !(s.sin k).cleared)) = false := by
    cases (s.sin k).cleared <;> simp
  simp [execSafetyInputChange, hstarted, hmode, Nat.not_lt.2 hstood, safeLevels, hcleared]

/-- With both channels at their safe level the input is in demand, and a latched one may now be cleared. -/
theorem execSafetyInputChange_both_low {s : State} {k held : Nat} (h : s.TakesLevel k held) :
    execSafetyInputChange k false false s held =
      .next (inputMoved k s (logIn 0 [(k : Int), (bit false : Nat), (bit false : Nat)] (s.setSin k { s.sin k with
        a := false, b := false, demand := true, cleared := (s.sin k).latched, differs := none }))) := by
  obtain ⟨hstarted, hmode, hstood⟩ := h
  have hcleared : (((s.sin k).cleared || (s.sin k).latched) && (s.sin k).latched) = (s.sin k).latched := by
    cases (s.sin k).latched <;> simp
  simp [execSafetyInputChange, hstarted, hmode, Nat.not_lt.2 hstood, safeLevels, hcleared]

theorem execInputDiscrepancy_of_over {s : State} {k : Nat} (hmode : s.siFld k 0 1 ≠ 0)
    (hnew : (s.sin k).latched = false) (hover : s.past (s.sin k).differs (1000 * s.siFld k 4 2) = true) :
    execInputDiscrepancy k s = .next (inputMoved k s (latchInput k 1 s)) := if_neg (by simp [hmode, hnew, hover])

theorem execTestPulseMissed_of_pulsed {s : State} {k : Nat} (hmode : s.siFld k 0 1 ≠ 0)
    (hpulsed : s.pulsed (s.siFld k 1 1) = true) (hnew : (s.sin k).latched = false) :
    execTestPulseMissed k s = .next (inputMoved k s (latchInput k 2 s)) := if_neg (by simp [hmode, hpulsed, hnew])

/-! ### TEST_PULSE and SOUT_STUCK (R323) -/

theorem execTestPulse_of_off {s : State} {k : Nat} (stillHigh : Bool) (fell : Word)
    (h : s.soFld k 0 1 ≠ 1 ∨ (s.sout k).energised = false) : execTestPulse k stillHigh fell s = .next s :=
  if_pos (h.imp_right .inl)

/-- The off-pulse of an energised MODE 1 output is due, and no other output is in one. -/
structure State.PulseDue (s : State) (k : Nat) : Prop where
  mode : s.soFld k 0 1 = 1
  energised : (s.sout k).energised = true
  due : s.after (s.sout k).pulseTime (1000 * s.soFld k 4 2) = true
  alone : ∀ j < 32, s.inPulse j = false

/-- The pulse of an output, read back as `seen` within it and high after it. -/
def pulseTaken (k : Nat) (seen : Bool) (s : State) : State :=
  let t := s.setSout k { s.sout k with pulseTime := s.now, readback := seen }
  t.setSout k { t.sout k with readback := true }

/-- A pulse that pulls no other readback low shorts no outputs. -/
theorem execTestPulse_of_due {s : State} {k : Nat} (h : s.PulseDue k) (stillHigh : Bool) :
    execTestPulse k stillHigh 0 s = .next (rejudge
      (if stillHigh then soutFault k 1 0xFF (pulseTaken k false s) else pulseTaken k true s)) := by
  obtain ⟨hmode, henergised, hdue, halone⟩ := h
  have hpulse : (upTo 32).any s.inPulse = false :=
    List.any_eq_false.2 fun j hj => by simp [halone j (List.mem_range.1 hj)]
  have hnone (j : Nat) : (0 : Word).getLsbD j = false := BitVec.getLsbD_zero
  refine (if_neg (by simp [hmode, henergised, hdue, hpulse])).trans ?_
  simp only [hnone, Bool.and_false, Bool.false_and, List.filter_false]
  cases stillHigh <;> rfl

theorem execSoutStuck_of_agreed {s : State} {k held : Nat} {high : Bool}
    (h : (s.sout k).energised = high ∨ held < 1000) :
    execSoutStuck k high s held = .next (s.setSout k { s.sout k with readback := high }) :=
  if_pos (.inr (h.imp_right .inl))

/-- A readback that stays high behind an output that is off is a fault of kind 1. -/
theorem execSoutStuck_high {s : State} {k held : Nat} (hmode : s.soFld k 0 1 ≠ 0) (hheld : 1000 ≤ held)
    (hoff : (s.sout k).energised = false) : execSoutStuck k true s held =
      .next (rejudge (soutFault k 1 0xFF (logIn 1 [(k : Int), (bit true : Nat)]
        (s.setSout k { s.sout k with readback := true })))) :=
  if_neg (by simp [hmode, hoff, Nat.not_lt.2 hheld])

/-- A readback that stays low behind an energised output, outside its off-pulse, is a fault of kind 2. -/
theorem execSoutStuck_low {s : State} {k held : Nat} (hmode : s.soFld k 0 1 ≠ 0) (hheld : 1000 ≤ held)
    (hpulse : s.after (s.sout k).pulseTime (s.soFld k 2 2 + 1000) = true) (hon : (s.sout k).energised = true) :
    execSoutStuck k false s held =
      .next (rejudge (soutFault k 2 0xFF (logIn 1 [(k : Int), (bit false : Nat)]
        (s.setSout k { s.sout k with readback := false })))) :=
  if_neg (by simp [hmode, hon, hpulse, Nat.not_lt.2 hheld])

/-! ### Vehicle limits and insulation (R328, R329) -/

/-- The first registration of an output is in force at once. -/
theorem execVehicleLimitRegister_of_first {s : State} {o : Nat} {l : VehLimits} (htaken : (s.take 43).1.isSome = true)
    (hfirst : ((logIn 9 [(o : Int), (l.vMax : Int), (l.iMax : Int)] (s.take 43).2).output o).limits = none) :
    execVehicleLimitRegister o l s =
      .next ((logIn 9 [(o : Int), (l.vMax : Int), (l.iMax : Int)] (s.take 43).2).setOutput o
        { (logIn 9 [(o : Int), (l.vMax : Int), (l.iMax : Int)] (s.take 43).2).output o with
          limits := some l, lowered := none }) := by
  cases htake : s.take 43 with
  | mk body t =>
    cases body with
    | none => simp [htake] at htaken
    | some b =>
      rw [htake] at hfirst
      simp only [execVehicleLimitRegister, registerLimits, htake, hfirst]

theorem execVehicleLimitRegister_of_discarded {s : State} (o : Nat) (l : VehLimits) (h : (s.take 43).1 = none) :
    execVehicleLimitRegister o l s = .next (s.take 43).2 := by
  cases htake : s.take 43 with
  | mk body t =>
    rw [htake] at h
    obtain rfl : body = none := h
    simp only [execVehicleLimitRegister, htake]

/-- Lowered limits are in force 100 ms after their registration. -/
theorem execVehicleLimitLowered_of_over {s : State} {o since : Nat} {l old : VehLimits}
    (hlowered : (s.output o).lowered = some (l, since)) (hover : s.after since 100000 = true)
    (hold : (s.output o).limits = some old) :
    execVehicleLimitLowered o s = .next (s.setOutput o { s.output o with limits := some l, lowered := none }) := by
  simp only [execVehicleLimitLowered, hlowered, hover, hold, Option.isSome_some, if_true]

theorem execVehicleLimit_of_over {s : State} {o kind since : Nat}
    (hbroken : (s.output o).limitSince = some (kind, since))
    (hover : s.after since (1000 * fld (s.blk 7) 2 2) = true) (hnew : (s.output o).fixed.contains 4 = false) :
    execVehicleLimit o s = .next (outputFault o 0x0A04 false (judge (addFixed [o] 4 (islandReport 0x0A04 (handle 4 o)
      (res [(0, 1, o), (1, 1, kind), (4, 4, (s.output o).volts), (8, 4, (s.output o).amps)]) s)))) := by
  simp only [execVehicleLimit, hbroken, hover, hnew, Bool.true_eq_false, Bool.false_eq_true, or_self, if_false]

theorem execInsulationPassed_of_over {s : State} {o : Nat} (hnew : (s.output o).imdPassed = false)
    (hgood : s.imdGood o = true) (hover : s.past (s.output o).imdSince (1000 * fld (s.blk 7) 12 2) = true) :
    execInsulationPassed o s =
      .next (s.via 42 [0, (o : Int)] fun t => t.setOutput o { t.output o with imdPassed := true }) :=
  if_pos ⟨hnew, hgood, hover⟩

/-! ### ENCODER_EDGE (R331, R332) -/

/-- On an axis with no direction to keep, an edge moves the position and counts against nothing. -/
theorem execEncoderEdge_of_any_direction {s : State} {a : Nat} (delta : Int) (frequency : Nat) (double : Bool)
    (hfitted : s.axFitted a = true) (hstarted : s.sup.started = true) (hfree : s.limitSet = false)
    (hany : s.axFld a 20 1 = 0) : execEncoderEdge a delta frequency double s =
      .next (axisStep a (countError frequency double) (logIn (4 + a / 2) [(a : Int), delta] (s.setAxis a { s.axis a with
        pos := (s.axis a).pos + delta, recent := (s.axis a).recent ++ [(s.now, delta)],
        against := max 0 ((s.axis a).against + 0) }))) := by
  simp only [execEncoderEdge, hfitted, hstarted, hfree, hany, Bool.true_eq_false, Bool.false_eq_true, or_self, if_false,
    OfNat.zero_ne_ofNat, zero_ne_one]

/-! ### Safe messages (R333 to R336) -/

theorem execSafeMessageTransmit_of_due {s : State} {k : Nat} (hmode : s.scFld k 0 1 = 2) (hsafe : s.sup.mode ≠ 3)
    (hstarted : s.sup.started = true) (hdue : s.after (s.sconn k).txTime (1000 * s.scFld k 8 2) = true) :
    execSafeMessageTransmit k s = .next (sendSafe k s) := if_pos ⟨hmode, hstarted, hsafe, hdue⟩

/-- A copy that its port hears reaches the connection. -/
theorem execSafeMessageReceive_of_taken {m : SafeMsg} {s : State} (h : copyTaken m s = true) :
    execSafeMessageReceive m s = .next (takeCopy m.conn m (copyHeard m s)) := by
  simp only [copyTaken, Bool.and_eq_true, Bool.not_eq_true', decide_eq_true_eq] at h
  obtain ⟨⟨⟨hstarted, hconn, hmode, hfit⟩, hhears⟩, hretired⟩ := h
  refine (if_neg (not_or.2 ⟨Nat.not_le.2 hconn, not_not.2 hmode⟩)).trans ((if_neg hfit).trans
    ((if_neg (by simp [hhears])).trans (congrArg Host.Outcome.next (if_neg ?_))))
  rintro (hgone | hoff)
  · exact Bool.false_ne_true (hretired.symm.trans hgone)
  · exact Bool.false_ne_true (hoff.symm.trans hstarted)

theorem execSafeMessageReceive_of_other_mode {m : SafeMsg} {s : State} (h : s.scFld m.conn 0 1 ≠ 1) :
    execSafeMessageReceive m s = .next s := if_pos (.inr h)

/-- The first copy of a SEQ waits for the other. -/
theorem takeCopy_of_first {k : Nat} {m : SafeMsg} {s : State} (hnew : (s.sconn k).lastSeq ≠ some m.seq)
    (hfirst : ∀ w ∈ (s.sconn k).waiting, w.1.seq ≠ m.seq) : takeCopy k m s =
      s.setSconn k { s.sconn k with waiting := (s.sconn k).waiting ++ [(m, s.now)] } := by
  have hnone : (s.sconn k).waiting.find? (fun w => decide (w.1.seq = m.seq)) = none :=
    List.find?_eq_none.2 fun w hw => by simpa using hfirst w hw
  simp only [takeCopy, hnew, hnone, if_false]

/-- The two copies of a SEQ meet: the other one waits alone, came by the other port, and not too long ago. -/
structure State.Meets (s : State) (k : Nat) (m w : SafeMsg) (since : Nat) : Prop where
  new : (s.sconn k).lastSeq ≠ some m.seq
  waiting : (s.sconn k).waiting = [(w, since)]
  port : w.portB ≠ m.portB
  seq : w.seq = m.seq
  within : s.after since (1000 * s.scFld k 3 1) = false

/-- Two copies that agree, with a right check and a SEQ that fits, are accepted. -/
theorem takeCopy_of_agreed {k since : Nat} {m w : SafeMsg} {s : State} (h : s.Meets k m w since)
    (hkind : w.kind = m.kind) (hdata : w.data = m.data) (hcopy : w.check = m.check)
    (hcheck : safeCheck m = m.check.toNat) (hfits : seqFits (s.sconn k) m.seq = true) :
    takeCopy k m s = acceptSafe k m s := by
  obtain ⟨hnew, hwaiting, hport, hseq, hwithin⟩ := h
  simp only [takeCopy, hnew, hwaiting, hseq, hport, hwithin, hkind, hdata, hcopy, hcheck, hfits, decide_true,
    List.find?_cons_of_pos, ne_eq, not_true_eq_false, Bool.true_eq_false, Bool.false_eq_true, or_self, if_false]

theorem takeCopy_of_other_data {k since : Nat} {m w : SafeMsg} {s : State} (h : s.Meets k m w since)
    (hdata : w.data ≠ m.data) : takeCopy k m s = rejectSafe k m.seq 1 s := by
  obtain ⟨hnew, hwaiting, hport, hseq, hwithin⟩ := h
  simp only [takeCopy, hnew, hwaiting, hseq, hport, hwithin, hdata, decide_true, List.find?_cons_of_pos, ne_eq,
    not_false_eq_true, Bool.false_eq_true, true_or, or_true, if_false, if_true]

theorem execSafeMsgSkewExpire_of_over {s : State} {k since : Nat} {w : SafeMsg}
    (hwaiting : (s.sconn k).waiting = [(w, since)]) (hover : s.after since (1000 * s.scFld k 3 1) = true) :
    execSafeMsgSkewExpire k s = .next (rejectSafe k w.seq 4 s) := by
  simp only [execSafeMsgSkewExpire, hwaiting, hover, List.filter_cons_of_pos, List.filter_nil]
  rfl

theorem execSafeMsgLost_of_over {s : State} {k : Nat} (hmode : s.scFld k 0 1 = 1) (hup : (s.sconn k).state ≠ 2)
    (hstarted : s.sup.started = true) (hover : s.after (s.sconn k).lastTime (1000 * s.scFld k 10 2) = true) :
    execSafeMsgLost k s = .next (judge (islandReport 0x0A07 (handle 0 0) (res [(0, 1, k)])
      (s.setSconn k { s.sconn k with state := 2, confirm := 0, waiting := [] }))) :=
  (if_pos ⟨hmode, hstarted, hover⟩).trans (congrArg Host.Outcome.next (if_neg hup))

/-! ### Safe states (R337, R338, R440) -/

theorem execNormalSafeStateEscalate_of_over {s : State} {o : Nat} (hnormal : (s.output o).safe = 1)
    (hflows : s.below2A o = false) (hover : s.after (s.output o).safeSince 60000 = true) :
    execNormalSafeStateEscalate o s = .next (escalate o s) := if_pos ⟨hnormal, hflows, .inl hover⟩

theorem execEmergencyContactorOpen_of_over {s : State} {o : Nat} (hemergency : (s.output o).safe = 2)
    (hclosed : (s.output o).safeOpened = false) (hover : s.after (s.output o).safeSince 20000 = true) :
    execEmergencyContactorOpen o s = .next (emergencyOpen o s) := if_pos ⟨hemergency, hclosed, hover⟩

theorem execTHoldExpire_of_over {s : State} {o : Nat}
    (h : s.past (s.output o).hold (1000 * fld (s.blk 15) 4 2) = true) : execTHoldExpire o s =
      .next (judge (addFixed [o] 7 (s.setOutput o { s.output o with hold := none }))) := if_pos h

end Sys2Proof.Machine

open Sys2Proof Sys2Proof.Machine

/-- Settles O54: each entry of `safetyEvents` is the lemma about its event, whose hypotheses the entry's condition gives. -/
theorem safetyFunctionEventsTakeEffect : Obligations.SafetyFunctionEventsTakeEffect := by
  intro k o a conn held high pa pb fell delta l l2 m w
  unfold safetyEvents
  repeat rw [List.forall_mem_cons]
  refine ⟨?ignored, ?bothHigh, ?bothLow, ?discrepancy, ?pulseMissed, ?pulseOff, ?pulse, ?pulseHigh, ?agreed, ?stuckHigh,
    ?stuckLow, ?register, ?registerDiscarded, ?lowered, ?limit, ?insulation, ?encoder, ?transmit, ?firstCopy,
    ?copiesAgree, ?copiesDiffer, ?copyElsewhere, ?skew, ?lost, ?escalate, ?contactor, ?hold, List.forall_mem_nil _⟩ <;>
    refine Event.holds_mk fun s h => ?_
  case ignored => exact execSafetyInputChange_of_ignored pa pb (by simpa using h)
  case bothHigh =>
    simp only [Bool.and_eq_true, decide_eq_true_eq] at h
    obtain ⟨hstarted, hmode, hstood⟩ := h
    exact execSafetyInputChange_both_high ⟨hstarted, hmode, hstood⟩
  case bothLow =>
    simp only [Bool.and_eq_true, decide_eq_true_eq] at h
    obtain ⟨hstarted, hmode, hstood⟩ := h
    exact execSafetyInputChange_both_low ⟨hstarted, hmode, hstood⟩
  case discrepancy =>
    simp only [Bool.and_eq_true, Bool.not_eq_true', decide_eq_true_eq] at h
    obtain ⟨⟨hmode, hnew⟩, hover⟩ := h
    exact execInputDiscrepancy_of_over hmode hnew hover
  case pulseMissed =>
    simp only [Bool.and_eq_true, Bool.not_eq_true', decide_eq_true_eq] at h
    obtain ⟨⟨hmode, hpulsed⟩, hnew⟩ := h
    exact execTestPulseMissed_of_pulsed hmode hpulsed hnew
  case pulseOff => exact execTestPulse_of_off high fell (by simpa using h)
  case pulse =>
    simp only [Bool.and_eq_true, Bool.not_eq_true', decide_eq_true_eq, List.all_eq_true] at h
    obtain ⟨⟨⟨hmode, henergised⟩, hdue⟩, halone⟩ := h
    exact execTestPulse_of_due ⟨hmode, henergised, hdue, fun j hj => halone j (List.mem_range.2 hj)⟩ false
  case pulseHigh =>
    simp only [Bool.and_eq_true, Bool.not_eq_true', decide_eq_true_eq, List.all_eq_true] at h
    obtain ⟨⟨⟨hmode, henergised⟩, hdue⟩, halone⟩ := h
    exact execTestPulse_of_due ⟨hmode, henergised, hdue, fun j hj => halone j (List.mem_range.2 hj)⟩ true
  case agreed => exact execSoutStuck_of_agreed (of_decide_eq_true h)
  case stuckHigh =>
    simp only [Bool.and_eq_true, Bool.not_eq_true', decide_eq_true_eq] at h
    obtain ⟨⟨hmode, hheld⟩, hoff⟩ := h
    exact execSoutStuck_high hmode hheld hoff
  case stuckLow =>
    simp only [Bool.and_eq_true, decide_eq_true_eq] at h
    obtain ⟨⟨⟨hmode, hheld⟩, hpulse⟩, hon⟩ := h
    exact execSoutStuck_low hmode hheld hpulse hon
  case register =>
    simp only [Bool.and_eq_true, decide_eq_true_eq] at h
    obtain ⟨htaken, hfirst⟩ := h
    exact execVehicleLimitRegister_of_first htaken hfirst
  case registerDiscarded => exact execVehicleLimitRegister_of_discarded o l (Option.isNone_iff_eq_none.1 h)
  case lowered =>
    simp only [Bool.and_eq_true, decide_eq_true_eq] at h
    obtain ⟨⟨hlowered, hover⟩, hold⟩ := h
    exact execVehicleLimitLowered_of_over hlowered hover hold
  case limit =>
    simp only [Bool.and_eq_true, Bool.not_eq_true', decide_eq_true_eq] at h
    obtain ⟨⟨hbroken, hover⟩, hnew⟩ := h
    exact execVehicleLimit_of_over hbroken hover hnew
  case insulation =>
    simp only [Bool.and_eq_true, Bool.not_eq_true'] at h
    obtain ⟨⟨hnew, hgood⟩, hover⟩ := h
    exact execInsulationPassed_of_over hnew hgood hover
  case encoder =>
    simp only [Bool.and_eq_true, Bool.not_eq_true', decide_eq_true_eq] at h
    obtain ⟨⟨⟨hfitted, hstarted⟩, hfree⟩, hany⟩ := h
    exact execEncoderEdge_of_any_direction delta held high hfitted hstarted hfree hany
  case transmit =>
    simp only [Bool.and_eq_true, decide_eq_true_eq] at h
    obtain ⟨⟨⟨hmode, hsafe⟩, hstarted⟩, hdue⟩ := h
    exact execSafeMessageTransmit_of_due hmode hsafe hstarted hdue
  case firstCopy =>
    simp only [Bool.and_eq_true, decide_eq_true_eq, List.all_eq_true] at h
    obtain ⟨⟨htaken, hnew⟩, hfirst⟩ := h
    exact (execSafeMessageReceive_of_taken htaken).trans (congrArg Host.Outcome.next (takeCopy_of_first hnew hfirst))
  case copiesAgree =>
    simp only [Bool.and_eq_true, Bool.not_eq_true', decide_eq_true_eq] at h
    obtain ⟨⟨⟨htaken, hnew, hwaiting, hport, hseq, hkind, hdata, hcopy, hcheck⟩, hfits⟩, hwithin⟩ := h
    exact (execSafeMessageReceive_of_taken htaken).trans (congrArg Host.Outcome.next
      (takeCopy_of_agreed ⟨hnew, hwaiting, hport, hseq, hwithin⟩ hkind hdata hcopy hcheck hfits))
  case copiesDiffer =>
    simp only [Bool.and_eq_true, Bool.not_eq_true', decide_eq_true_eq] at h
    obtain ⟨⟨htaken, hnew, hwaiting, hport, hseq, hdata⟩, hwithin⟩ := h
    exact (execSafeMessageReceive_of_taken htaken).trans (congrArg Host.Outcome.next
      (takeCopy_of_other_data ⟨hnew, hwaiting, hport, hseq, hwithin⟩ hdata))
  case copyElsewhere => exact execSafeMessageReceive_of_other_mode (of_decide_eq_true h).2
  case skew =>
    simp only [Bool.and_eq_true, decide_eq_true_eq] at h
    obtain ⟨hwaiting, hover⟩ := h
    exact execSafeMsgSkewExpire_of_over hwaiting hover
  case lost =>
    simp only [Bool.and_eq_true, decide_eq_true_eq] at h
    obtain ⟨⟨⟨hmode, hup⟩, hstarted⟩, hover⟩ := h
    exact execSafeMsgLost_of_over hmode hup hstarted hover
  case escalate =>
    simp only [Bool.and_eq_true, Bool.not_eq_true', decide_eq_true_eq] at h
    obtain ⟨⟨hnormal, hflows⟩, hover⟩ := h
    exact execNormalSafeStateEscalate_of_over hnormal hflows hover
  case contactor =>
    simp only [Bool.and_eq_true, Bool.not_eq_true', decide_eq_true_eq] at h
    obtain ⟨⟨hemergency, hclosed⟩, hover⟩ := h
    exact execEmergencyContactorOpen_of_over hemergency hclosed hover
  case hold => exact execTHoldExpire_of_over h

end

section
/-! The host commands of the field bus (Table 14-11): what each replies in each of its cases. -/

namespace Sys2Proof.Machine

/-! ### PORT_COUNTERS and NODE_STATUS -/

/-- What PORT_COUNTERS shows of port `p`. -/
def portCounts (p : Nat) (s : State) : Res :=
  res [(0, 4, (s.port p).errors), (4, 4, (s.port p).mismatches), (8, 4, (s.port p).retrans), (12, 4, (s.port p).shadows)]

theorem portCountersOf_of_keep {q : Req} (s : State) (h : tst (q.w 0) 0 = false) :
    portCountersOf q s = .done 0 (portCounts q.idx s) s := congrArg (Reply.done 0 _) (if_neg (Bool.eq_false_iff.1 h))

theorem portCountersOf_of_clear {q : Req} (s : State) (h : tst (q.w 0) 0 = true) :
    portCountersOf q s = .done 0 (portCounts q.idx s) (s.setPort q.idx { s.port q.idx with
      errors := 0, mismatches := 0, retrans := 0, shadows := 0 }) := congrArg (Reply.done 0 _) (if_pos h)

theorem nodeStatusOf_eq (q : Req) (s : State) : nodeStatusOf q s = .done 0
    (res [(0, 1, if (s.fnode q.idx).quarantined then 2 else (s.fnode q.idx).state),
      (1, 1, bit (s.fnode q.idx).heardA + 2 * bit (s.fnode q.idx).heardB + 4 * bit (s.fnode q.idx).duplicate),
      (2, 2, (s.fnode q.idx).epoch.toNat), (4, 4, min ((s.now - (s.fnode q.idx).lastBeat) / 1000) 4294967295),
      (8, 4, (s.fnode q.idx).absences),
      (12, 4, (((s.fnode q.idx).digest.map fun d => d.toNat % 4294967296).getD 0 : Nat))]) s := by
  cases hdigest : (s.fnode q.idx).digest with
  | none => simp only [nodeStatusOf, reads, hdigest, Option.map_none, Option.getD_none]
  | some d => simp only [nodeStatusOf, reads, hdigest, Option.map_some, Option.getD_some]

/-! ### FRAME_SEND (R350, R351, R354, R367) -/

theorem frameSendOf_of_bad {q : Req} {s : State} (h : s.frameBad (q.word 0) (q.w 1 % 128) = true) :
    frameSendOf q s = rej 0x0108 s := if_pos h

theorem frameSendOf_of_retired {q : Req} {s : State} (hgood : s.frameBad (q.word 0) (q.w 1 % 128) = false)
    (hretired : (s.port q.idx).state = 5) : frameSendOf q s = rej 0x0303 s :=
  (if_neg (Bool.eq_false_iff.1 hgood)).trans (if_pos hretired)

/-- A sound frame for an error-active port that runs CAN FD. -/
structure State.MaySend (s : State) (q : Req) : Prop where
  good : s.frameBad (q.word 0) (q.w 1 % 128) = false
  active : (s.port q.idx).state = 1
  mode : s.portMode q.idx = 1

theorem frameSendOf_of_quiet {q : Req} {s : State} (h : s.MaySend q)
    (hquiet : (aget (s.port q.idx).quiet (bareIdent (q.word 0))).isSome = true) : frameSendOf q s =
      .done 0x08B2 (res [(0, 1, q.idx), (1, 1, 1), (4, 4, (bareIdent (q.word 0)).toNat)]) s := by
  obtain ⟨hgood, hactive, hmode⟩ := h
  simp [frameSendOf, hgood, hactive, hmode, hquiet]

theorem frameSendOf_of_full {q : Req} {s : State} (h : s.MaySend q)
    (hquiet : aget (s.port q.idx).quiet (bareIdent (q.word 0)) = none)
    (hfull : (upTo 4).find? (fun b => (tget (s.port q.idx).tx b none).isNone) = none) :
    frameSendOf q s = rej 0x05B0 s := by
  obtain ⟨hgood, hactive, hmode⟩ := h
  simp [frameSendOf, hgood, hactive, hmode, hquiet, hfull]

/-- The transmit buffer that holds a FRAME_SEND's frame from the moment `t`. -/
def sendBuffer (q : Req) (t : Nat) : TxBuf :=
  ⟨⟨q.word 0, (((q.params.drop 2).flatMap wordBytes) ++ List.replicate 64 0).take (q.w 1 % 128),
    q.w 1 / 256 % 256, t⟩, q.seat, q.tag, 0⟩

/-- The frame takes buffer 0 once it has passed the port's queue. -/
theorem frameSendOf_of_free {q : Req} {s : State} (h : s.MaySend q)
    (hquiet : aget (s.port q.idx).quiet (bareIdent (q.word 0)) = none)
    (hfree : tget (s.port q.idx).tx 0 none = none) (hretry : q.w 1 / 256 % 256 ≠ 0)
    (hpass : passes (48 + q.idx / 4) [(q.idx : Int), ((q.word 0).toNat : Int)] s = true) :
    frameSendOf q s = .live true [0]
      ((passed (48 + q.idx / 4) [(q.idx : Int), ((q.word 0).toNat : Int)] s).setPort q.idx { s.port q.idx with
        tx := tset (s.port q.idx).tx 0 (some (sendBuffer q
          (passed (48 + q.idx / 4) [(q.idx : Int), ((q.word 0).toNat : Int)] s).now)) }) := by
  obtain ⟨hgood, hactive, hmode⟩ := h
  have hfirst : (upTo 4).find? (fun b => (tget (s.port q.idx).tx b none).isNone) = some 0 :=
    List.find?_cons_of_pos (by simp [hfree])
  simp [frameSendOf, sendBuffer, hgood, hactive, hmode, hquiet, hfirst, hretry, viaReply_passes hpass]

/-! ### RX_OBJECT_SET and RX_OBJECT_READ (R368) -/

theorem rxObjectSetOf_of_fit {q : Req} {s : State} (hobject : q.w 0 ≤ 15) (hfit : (s.port q.idx).state ≠ 5) :
    rxObjectSetOf q s = .done 0 0 (s.setPort q.idx { s.port q.idx with
      rx := tset (s.port q.idx).rx (q.w 0)
        { ident := q.word 1, mask := q.word 2, enable := tst (q.w 3) 0, event := tst (q.w 3) 1 } }) :=
  (if_neg (Nat.not_lt.2 hobject)).trans (if_neg hfit)

theorem rxObjectSetOf_of_no_object {q : Req} (s : State) (h : 15 < q.w 0) : rxObjectSetOf q s = rej 0x0108 s := if_pos h

theorem rxObjectSetOf_of_retired {q : Req} {s : State} (hobject : q.w 0 ≤ 15) (hretired : (s.port q.idx).state = 5) :
    rxObjectSetOf q s = rej 0x0303 s := (if_neg (Nat.not_lt.2 hobject)).trans (if_pos hretired)

theorem rxObjectReadOf_of_empty {q : Req} {s : State} (hobject : q.w 0 ≤ 15) (hstart : q.w 1 = 0)
    (hempty : (tget (s.port q.idx).rx (q.w 0) {}).main = none) : rxObjectReadOf q s = .done 0 0 s := by
  refine (if_neg (by omega)).trans ((if_neg (by simp [hstart])).trans ?_)
  simp only [hempty]

/-- A read at offset 0 that covers a short frame releases the main buffer at once. -/
theorem rxObjectReadOf_of_short {q : Req} {s : State} {f : CanFrame} (hobject : q.w 0 ≤ 15) (hstart : q.w 1 = 0)
    (hmain : (tget (s.port q.idx).rx (q.w 0) {}).main = some f) (hshort : f.data.length ≤ 8) : rxObjectReadOf q s =
      .done 0 (res [(0, 4, f.ident.toNat), (4, 1, f.data.length),
          (5, 1, bit (tget (s.port q.idx).rx (q.w 0) {}).shadow.isSome +
            2 * bit (decide (0 < (tget (s.port q.idx).rx (q.w 0) {}).replaced))), (8, 8, leNat (f.data.take 8))])
        (s.setPort q.idx { s.port q.idx with
          rx := tset (s.port q.idx).rx (q.w 0)
            { (tget (s.port q.idx).rx (q.w 0) {}).release with replaced := 0 } }) := by
  refine (if_neg (by omega)).trans ((if_neg (by simp [hstart])).trans ?_)
  simp only [RxObj.release, hmain, hstart, List.drop_zero, Nat.zero_add, if_pos hshort]

theorem rxObjectReadOf_of_beyond {q : Req} (s : State) (h : 15 < q.w 0 ∨ 56 < q.w 1 ∨ q.w 1 % 8 ≠ 0) :
    rxObjectReadOf q s = rej 0x0108 s := if_pos h

theorem rxObjectReadOf_of_not_held {q : Req} {s : State} (hobject : q.w 0 ≤ 15) (hsecond : q.w 1 = 8)
    (hfree : (tget (s.port q.idx).rx (q.w 0) {}).heldSince = none) : rxObjectReadOf q s = rej 0x0301 s :=
  (if_neg (by omega)).trans (if_pos ⟨by omega, hfree⟩)

end Sys2Proof.Machine

open Sys2Proof Sys2Proof.Machine

/-- Settles O37: each case of `fieldCases` is the lemma about its command's reply, whose hypotheses the case's condition
gives. -/
theorem fieldBusCommandsAnswer : Obligations.FieldBusCommandsAnswer := by
  unfold Obligations.FieldBusCommandsAnswer fieldCases
  repeat rw [List.forall_mem_cons]
  refine ⟨?port, ?counters, ?countersClear, ?node, ?send, ?sendBad, ?sendRetired, ?sendQuiet, ?sendFull, ?object,
    ?objectNone, ?objectRetired, ?readEmpty, ?readShort, ?readBeyond, ?readNotHeld, ?duplicate,
    List.forall_mem_nil _⟩ <;>
    refine Case.holds_mk (fun _ _ => rfl) fun q s h => ?_
  case port => rfl
  case counters => exact portCountersOf_of_keep s (by simpa using h)
  case countersClear => exact portCountersOf_of_clear s h
  case node => exact nodeStatusOf_eq q s
  case send =>
    simp only [Bool.and_eq_true, Bool.not_eq_true', decide_eq_true_eq] at h
    obtain ⟨⟨hgood, hactive, hmode, hquiet, hfree, hretry⟩, hpass⟩ := h
    exact frameSendOf_of_free ⟨hgood, hactive, hmode⟩ hquiet hfree hretry hpass
  case sendBad => exact frameSendOf_of_bad h
  case sendRetired =>
    simp only [Bool.and_eq_true, Bool.not_eq_true', decide_eq_true_eq] at h
    obtain ⟨hgood, hretired⟩ := h
    exact frameSendOf_of_retired hgood hretired
  case sendQuiet =>
    simp only [Bool.and_eq_true, Bool.not_eq_true', decide_eq_true_eq] at h
    obtain ⟨⟨hgood, hactive, hmode⟩, hquiet⟩ := h
    exact frameSendOf_of_quiet ⟨hgood, hactive, hmode⟩ hquiet
  case sendFull =>
    simp only [Bool.and_eq_true, Bool.not_eq_true', decide_eq_true_eq] at h
    obtain ⟨⟨hgood, hactive, hmode, hquiet⟩, hfull⟩ := h
    exact frameSendOf_of_full ⟨hgood, hactive, hmode⟩ hquiet hfull
  case object =>
    obtain ⟨hobject, hfit⟩ := of_decide_eq_true h
    exact rxObjectSetOf_of_fit hobject hfit
  case objectNone => exact rxObjectSetOf_of_no_object s (of_decide_eq_true h)
  case objectRetired =>
    obtain ⟨hobject, hretired⟩ := of_decide_eq_true h
    exact rxObjectSetOf_of_retired hobject hretired
  case readEmpty =>
    obtain ⟨hobject, hstart, hempty⟩ := of_decide_eq_true h
    exact rxObjectReadOf_of_empty hobject hstart hempty
  case readShort =>
    obtain ⟨hread, hframe⟩ := Bool.and_eq_true_iff.1 h
    obtain ⟨hobject, hstart⟩ := of_decide_eq_true hread
    cases hmain : (tget (s.port q.idx).rx (q.w 0) {}).main with
    | none =>
      rw [hmain] at hframe
      exact absurd hframe Bool.false_ne_true
    | some f =>
      rw [hmain] at hframe
      rw [rxObjectReadOf_of_short hobject hstart hmain (of_decide_eq_true hframe)]
      simp only [RxObj.release, hmain, Option.getD_some]
  case readBeyond => exact rxObjectReadOf_of_beyond s (of_decide_eq_true h)
  case readNotHeld =>
    obtain ⟨hobject, hsecond, hfree⟩ := of_decide_eq_true h
    exact rxObjectReadOf_of_not_held hobject hsecond hfree
  case duplicate => rfl

end

section
/-! The host commands of the load switches (Table 15-8): what each replies in each of its cases. -/

namespace Sys2Proof.Machine

/-! ### LS_STATUS -/

theorem lsStatusOf_eq (q : Req) (s : State) : lsStatusOf q s = .done 0 (res [(0, 1, (s.chan q.idx).state),
    (1, 1, (if lsOn (s.chan q.idx) then (s.fresh.1 : Int) % 2 else 0) + 2 * bit (s.lsDuty q.idx).2 +
      4 * bit (s.fresh.2.lsOverride q.idx) + 8 * bit (s.fresh.2.ls.linkLost ≠ none) + 16 * bit (s.chan q.idx).openLoad),
    (2, 2, (s.lsDuty q.idx).1), (4, 2, lsReport (s.chan q.idx) (s.fresh.1 / 2)), (6, 1, (s.fresh.1 / 2048 % 256 : Nat)),
    (7, 1, (s.chan q.idx).cause), (8, 2, s.fresh.2.ls.vls), (10, 2, (s.fresh.1 / 524288 % 65536 : Nat)),
    (12, 2, (s.fresh.2.lsLeft q.idx / 1000 : Nat)), (14, 1, sat 8 (s.fresh.2.lsRecent q.idx))]) s.fresh.2 := by
  simp only [lsStatusOf, reads, Nat.cast_ite, Int.natCast_emod, Nat.cast_ofNat, Nat.cast_zero]

/-! ### LS_SET (R373, R385) -/

/-- A value that the mode of LS_SET's channel takes: 0 or 1 in MODE 1, else up to 100.0 %. -/
def Req.lsValueFits (q : Req) (s : State) : Prop := q.w 0 ≤ 1000 ∧ (s.lsMode q.idx = 1 → q.w 0 ≤ 1)

theorem lsSetTo_of_value {q : Req} {s : State} (h : q.lsValueFits s) : lsSetTo q s =
    if (s.chan q.idx).state = 5 then rej 0x0303 s
    else if s.lsMode q.idx = 0 ∨ s.lsSrc q.idx ≠ 0 then rej 0x0301 s
    else if (s.chan q.idx).state = 4 then rej 0x03A0 s
    else if s.ls.linkLost = none then .done 0 (res [(0, 2, (s.chan q.idx).command)]) (lsCommand q.idx (q.w 0) s)
    else .live false [(q.w 0 : Int)] s := by
  obtain ⟨hpercent, hswitch⟩ := h
  refine if_neg ?_
  rintro (⟨hmode, hbeyond⟩ | ⟨-, hbeyond⟩)
  · exact Nat.not_lt.2 (hswitch hmode) hbeyond
  · exact Nat.not_lt.2 hpercent hbeyond

/-- A channel that a host drives, neither latched nor retired, and a value that its mode takes. -/
structure State.LsTakes (s : State) (q : Req) : Prop where
  mode : s.lsMode q.idx ≠ 0
  source : s.lsSrc q.idx = 0
  value : q.lsValueFits s
  unlatched : (s.chan q.idx).state ≠ 4
  fit : (s.chan q.idx).state ≠ 5

theorem lsSetTo_of_link {q : Req} {s : State} (h : s.LsTakes q) (hlink : s.ls.linkLost = none) :
    lsSetTo q s = .done 0 (res [(0, 2, (s.chan q.idx).command)])
      (lsApply q.idx (s.setChan q.idx { s.chan q.idx with command := q.w 0, waiting := none })) := by
  obtain ⟨hmode, hsource, hvalue, hunlatched, hfit⟩ := h
  simp only [lsSetTo_of_value hvalue, hfit, hmode, hsource, hunlatched, hlink, ne_eq, not_true_eq_false, or_self,
    if_false, if_true]
  exact congrArg (Reply.done 0 _) (if_pos hlink)

/-- Without the link the command waits. -/
theorem lsSetTo_of_no_link {q : Req} {s : State} (h : s.LsTakes q) (hlink : s.ls.linkLost ≠ none) :
    lsSetTo q s = .live false [(q.w 0 : Int)] s := by
  obtain ⟨hmode, hsource, hvalue, hunlatched, hfit⟩ := h
  simp only [lsSetTo_of_value hvalue, hfit, hmode, hsource, hunlatched, hlink, ne_eq, not_true_eq_false, or_self,
    if_false]

theorem lsSetTo_of_beyond {q : Req} {s : State} (h : 1000 < q.w 0 ∨ s.lsMode q.idx = 1 ∧ 1 < q.w 0) :
    lsSetTo q s = rej 0x0108 s := if_pos (by omega)

theorem Req.lsValueFits_of_le_one {q : Req} (s : State) (h : q.w 0 ≤ 1) : q.lsValueFits s := ⟨by omega, fun _ => h⟩

theorem lsSetTo_of_retired {q : Req} {s : State} (hvalue : q.lsValueFits s) (hretired : (s.chan q.idx).state = 5) :
    lsSetTo q s = rej 0x0303 s := (lsSetTo_of_value hvalue).trans (if_pos hretired)

theorem lsSetTo_of_latched {q : Req} {s : State} (hvalue : q.lsValueFits s) (hlatched : (s.chan q.idx).state = 4)
    (hmode : s.lsMode q.idx ≠ 0) (hsource : s.lsSrc q.idx = 0) : lsSetTo q s = rej 0x03A0 s :=
  (lsSetTo_of_value hvalue).trans ((if_neg (by omega)).trans ((if_neg (by simp [hmode, hsource])).trans (if_pos hlatched)))

/-! ### LS_CLEAR (R380) -/

theorem lsClearOf_of_latched {q : Req} {s : State} (hlatched : (s.chan q.idx).state = 4) (hlink : s.ls.linkLost = none) :
    lsClearOf q s = .done 0 (res [(0, 1, (s.chan q.idx).cause)])
      (lsApply q.idx ((s.setChan q.idx { s.chan q.idx with state := 0, cause := 0, backoff := none }).freeContext
        (handle 12 q.idx))) :=
  (if_neg (by omega)).trans ((if_neg (not_not.2 hlatched)).trans (if_pos hlink))

theorem lsClearOf_of_no_latch {q : Req} {s : State} (hunlatched : (s.chan q.idx).state ≠ 4)
    (hfit : (s.chan q.idx).state ≠ 5) : lsClearOf q s = rej 0x0001 s := (if_neg hfit).trans (if_pos hunlatched)

theorem lsClearOf_of_retired {q : Req} {s : State} (h : (s.chan q.idx).state = 5) : lsClearOf q s = rej 0x0303 s :=
  if_pos h

/-! ### LS_CURRENTS, LS_COUNTERS and a refused LS_CONFIG_SET -/

theorem lsCurrentsOf_of_half {q : Req} (s : State) (h : q.w 0 ≤ 1) : lsCurrentsOf q s = .done 0
    (res [(0, 15, ((upTo 12).foldl (fun a i =>
      a + lsReport (s.fresh.2.chan (12 * q.w 0 + i)) (s.fresh.1 / 1024 ^ i) * 2 ^ (10 * i)) 0 : Nat))]) s.fresh.2 :=
  if_neg (Nat.not_lt.2 h)

/-- What LS_COUNTERS shows of channel `c`. -/
def lsCounts (c : Nat) (s : State) : Res :=
  res [(0, 4, (s.chan c).switchOns), (4, 4, (s.chan c).latchCount), (8, 4, (s.chan c).thermalCount),
    (12, 2, sat 16 (s.chan c).retryCount), (14, 2, sat 16 (s.chan c).pauses)]

theorem lsCountersOf_of_keep {q : Req} (s : State) (h : (q.word 0).getLsbD 0 = false) :
    lsCountersOf q s = .done 0 (lsCounts q.idx s) s := congrArg (Reply.done 0 _) (if_neg (Bool.eq_false_iff.1 h))

theorem lsCountersOf_of_clear {q : Req} (s : State) (h : (q.word 0).getLsbD 0 = true) :
    lsCountersOf q s = .done 0 (lsCounts q.idx s) (s.setChan q.idx { s.chan q.idx with
      switchOns := 0, latchCount := 0, thermalCount := 0, retryCount := 0, pauses := 0 }) :=
  congrArg (Reply.done 0 _) (if_pos h)

theorem configSet_of_bad_offset {block base last : Nat} {q : Req} (s : State) (h : q.w 0 % 4 ≠ 0 ∨ last < q.w 0) :
    configSet block base last q s = rej 0x0108 s := if_pos (h.imp_right .inl)

end Sys2Proof.Machine

open Sys2Proof Sys2Proof.Machine

/-- Settles O38: each case of `lsCases` is the lemma about its command's reply, whose hypotheses the case's condition
gives. -/
theorem loadSwitchCommandsAnswer : Obligations.LoadSwitchCommandsAnswer := by
  unfold Obligations.LoadSwitchCommandsAnswer lsCases
  repeat rw [List.forall_mem_cons]
  refine ⟨?status, ?set, ?setWaits, ?setBeyond, ?setRetired, ?setLatched, ?clear, ?clearNone, ?clearRetired, ?currents,
    ?counters, ?countersClear, ?config, ?configBad, List.forall_mem_nil _⟩ <;>
    refine Case.holds_mk (fun _ _ => rfl) fun q s h => ?_
  case status => exact lsStatusOf_eq q s
  case set =>
    obtain ⟨hmode, hsource, hpercent, hswitch, hunlatched, hfit, hlink⟩ := of_decide_eq_true h
    exact lsSetTo_of_link ⟨hmode, hsource, ⟨hpercent, hswitch⟩, hunlatched, hfit⟩ hlink
  case setWaits =>
    obtain ⟨hmode, hsource, hpercent, hswitch, hunlatched, hfit, hlink⟩ := of_decide_eq_true h
    exact lsSetTo_of_no_link ⟨hmode, hsource, ⟨hpercent, hswitch⟩, hunlatched, hfit⟩ hlink
  case setBeyond => exact lsSetTo_of_beyond (of_decide_eq_true h)
  case setRetired =>
    obtain ⟨hvalue, hretired⟩ := of_decide_eq_true h
    exact lsSetTo_of_retired (Req.lsValueFits_of_le_one s hvalue) hretired
  case setLatched =>
    obtain ⟨hvalue, hlatched, hmode, hsource⟩ := of_decide_eq_true h
    exact lsSetTo_of_latched (Req.lsValueFits_of_le_one s hvalue) hlatched hmode hsource
  case clear =>
    obtain ⟨hlatched, hlink⟩ := of_decide_eq_true h
    exact lsClearOf_of_latched hlatched hlink
  case clearNone =>
    obtain ⟨hunlatched, hfit⟩ := of_decide_eq_true h
    exact lsClearOf_of_no_latch hunlatched hfit
  case clearRetired => exact lsClearOf_of_retired (of_decide_eq_true h)
  case currents => exact lsCurrentsOf_of_half s (of_decide_eq_true h)
  case counters => exact lsCountersOf_of_keep s (by simpa using h)
  case countersClear => exact lsCountersOf_of_clear s h
  case config => exact configSet_fits h
  case configBad => exact configSet_of_bad_offset s (of_decide_eq_true h)

end

section
/-! The events of the load switches: what each does where its condition holds, and where it changes nothing. -/

namespace Sys2Proof.Machine

/-! ### LS_SHORT and LS_OVERLOAD (R376 to R378) -/

theorem execLsShort_of_short {c vout held : Nat} {s : State} (hon : lsOn (s.chan c) = true)
    (hwindow : (s.chan c).state ≠ 2 ∨ s.lsLoad c ≠ 5) (hlow : 5 * vout < s.ls.vls) (hheld : 20 ≤ held) :
    execLsShort c s vout held =
      .next (lsLatch c 1 0x08A0 (res [(0, 1, c), (1, 1, 1), (4, 2, s.ls.vls)])
        (s.setChan c { s.chan c with vout := vout })) := by
  refine if_neg ?_
  rintro (hoff | ⟨hstate, hload⟩ | hhigh | hshort)
  · exact Bool.false_ne_true (hoff.symm.trans hon)
  · exact hwindow.elim (· hstate) (· hload)
  · exact Nat.not_le.2 hlow hhigh
  · exact Nat.not_lt.2 hheld hshort

/-- An overload beyond what the channel is allowed. -/
structure State.Overloads (s : State) (c held : Nat) : Prop where
  on : lsOn (s.chan c) = true
  beyond : s.lsBeyond c held = true

theorem State.lsBeyond_of_allowed {s : State} {c t held : Nat} (hallowed : s.lsAllowed c = some t) (h : t ≤ held) :
    s.lsBeyond c held = true := by
  simp only [State.lsBeyond, hallowed, h, decide_true]

/-- Outside its inrush window a standard channel is allowed 1 ms for a lamp's load, 100 µs for others (Table 15-4). -/
theorem State.lsAllowed_of_standard {s : State} {c : Nat} (hlight : lsHeavy c = false) (hstate : (s.chan c).state ≠ 2) :
    s.lsAllowed c = some (if s.lsLoad c = 2 then 1000 else 100) := by
  simp only [State.lsAllowed, hlight, hstate, Bool.false_eq_true, if_false]

theorem State.lsAllowed_of_window {s : State} {c : Nat} (hlight : lsHeavy c = false) (hstate : (s.chan c).state = 2)
    (hload : s.lsLoad c = 0) : s.lsAllowed c = some 100 := by
  simp only [State.lsAllowed, hlight, hstate, hload, Bool.false_eq_true, if_false, if_true]

theorem State.lsAllowed_of_heavy {s : State} {c : Nat} (hheavy : lsHeavy c = true) : s.lsAllowed c = some 1000 :=
  if_pos hheavy

/-- With no retry left, or none allowed, the overload latches the channel. -/
theorem execLsOverload_of_latch {c held : Nat} {s : State} (h : s.Overloads c held)
    (hretry : lsHeavy c = false ∨ s.lsFld c 10 1 ≤ (s.chan c).burst) : execLsOverload c s held =
      .next (lsLatch c 2 0x08A1 (res [(0, 1, c), (1, 1, (s.chan c).burst), (2, 1, 1)]) s) := by
  obtain ⟨hon, hbeyond⟩ := h
  refine (if_neg (by simp [hon, hbeyond])).trans (if_neg ?_)
  rintro ⟨hbursts, hleft⟩
  rcases hretry with hlight | hnone
  · simp [hlight] at hbursts
  · exact Nat.not_lt.2 hnone hleft

/-- A heavy channel in a retry burst is switched off for its next retry. -/
theorem execLsOverload_of_burst {c held : Nat} {s : State} (h : s.Overloads c held) (hheavy : lsHeavy c = true)
    (hstate : (s.chan c).state = 6) (hruns : (s.chan c).burstEnded = false)
    (hleft : (s.chan c).burst < s.lsFld c 10 1) : execLsOverload c s held =
      .next ((lsRefresh c (s.setChan c { s.chan c with state := 6, burstOff := some s.now })).event 10 0x08A1
        (res [(0, 1, c), (1, 1, (s.chan c).burst)])) := by
  obtain ⟨hon, hbeyond⟩ := h
  exact (if_neg (by simp [hon, hbeyond])).trans (if_pos ⟨by simp [hheavy, hstate, hruns], hleft⟩)

/-! ### LS_THERMAL and LS_DIE_OVERTEMP (R376) -/

/-- The channel's state with one more thermal switch-off, at `temp`. -/
def thermalCounted (c temp : Nat) (s : State) : State :=
  s.setChan c { s.chan c with
    temp := temp, thermals := ((s.chan c).thermals.filter fun t => decide (s.now < t + 10000000)) ++ [s.now],
    thermalCount := bump32 (s.chan c).thermalCount }

/-- The sixteenth switch-off within 10 s latches the channel. -/
theorem execLsThermal_of_hot {c temp : Nat} {s : State} (hon : lsOn (s.chan c) = true) (hhot : s.lsFld c 8 1 < temp) :
    execLsThermal c temp s =
      if 15 ≤ ((s.chan c).thermals.filter fun t => decide (s.now < t + 10000000)).length
      then .next (lsLatch c 3 0x08A2 (res [(0, 1, c), (1, 1, temp)]) (thermalCounted c temp s))
      else .next (lsOff c 3 (thermalCounted c temp s)) := by
  refine (if_neg (not_or.2 ⟨by simp [hon], Nat.not_le.2 hhot⟩)).trans ?_
  simp only [List.length_append, List.length_singleton, Nat.reduceLeDiff]
  rfl

theorem execLsThermalRestart_of_cool {c temp : Nat} {s : State} (hstate : (s.chan c).state = 3)
    (hcool : temp + 10 ≤ s.lsFld c 8 1) : execLsThermalRestart c temp s =
      .next (lsApply c (s.setChan c { s.chan c with temp := temp, state := 0 })) :=
  if_neg (not_or.2 ⟨not_not.2 hstate, Nat.not_lt.2 hcool⟩)

theorem execLsDieOvertemp_of_hot {t : Int} {s : State} (hnew : s.ls.overtemp = false) (hhot : 1500 < t) :
    execLsDieOvertemp t s =
      .next ((lsAllOff { s with ls := { s.ls with caseTemp := t, overtemp := true } }).event 10 0x08A4
        (res [(0, 1, 3), (2, 2, s.ls.vls)])) := if_pos ⟨hnew, hhot⟩

theorem execLsDieOvertemp_of_cool {t : Int} {s : State} (hover : s.ls.overtemp = true) (hcool : t ≤ 1400) :
    execLsDieOvertemp t s =
      .next ((lsAll lsApply { s with ls := { s.ls with caseTemp := t, overtemp := false } }).event 10 0x08A4
        (res [(0, 1, 0), (2, 2, s.ls.vls)])) :=
  (if_neg fun hhot => Bool.false_ne_true (hhot.1.symm.trans hover)).trans (if_pos ⟨hover, hcool⟩)

theorem execLsOpenLoad_of_found {c held : Nat} {s : State} (hasked : tst (s.lsFld c 3 1) 0 = true)
    (hon : lsOn (s.chan c) = true) (hduty : (s.chan c).duty = 1000) (hheld : 100000 ≤ held)
    (hnew : (s.chan c).openLoad = false) : execLsOpenLoad c s held =
      .next ((s.setChan c { s.chan c with openLoad := true, current := 0 }).event 10 0x08A6 (res [(0, 1, c)])) :=
  if_neg (by simp [hasked, hon, hduty, hnew, Nat.not_lt.2 hheld])

/-! ### LS_SUPPLY (R371) -/

/-- The state with the supply out of range. -/
def supplyBad (vls : Nat) (s : State) : State :=
  { s with ls := { s.ls with vls := vls, supplyOk := false, okSince := none } }

/-- Below 6.5 V every channel goes off with cause 1. -/
theorem execLsSupply_of_low {vls : Nat} {s : State} (hgood : s.ls.supplyOk = true) (hlow : vls < 65) :
    execLsSupply vls s = .next ((lsAllOff (supplyBad vls s)).event 10 0x08A4 (res [(0, 1, 1), (2, 2, vls)])) := by
  simp only [execLsSupply, hgood, hlow, if_true, one_ne_zero, if_false]
  rfl

/-- Above 36 V every channel goes off with cause 2. -/
theorem execLsSupply_of_high {vls : Nat} {s : State} (hgood : s.ls.supplyOk = true) (hhigh : 360 < vls) :
    execLsSupply vls s = .next ((lsAllOff (supplyBad vls s)).event 10 0x08A4 (res [(0, 1, 2), (2, 2, vls)])) := by
  have hnotlow : ¬vls < 65 := by omega
  simp only [execLsSupply, hgood, hhigh, hnotlow, if_true, OfNat.ofNat_ne_zero, if_false]
  rfl

/-- After 1 ms within 7.0 to 35 V the channels take their commands again. -/
theorem execLsSupply_of_restored {vls : Nat} {s : State} (hbad : s.ls.supplyOk = false) (hlow : 70 ≤ vls)
    (hhigh : vls ≤ 350) (hover : s.past s.ls.okSince 1000 = true) : execLsSupply vls s =
      .next ((lsAll lsApply { s with ls := { s.ls with vls := vls, supplyOk := true, okSince := none } }).event 10 0x08A4
        (res [(0, 1, 0), (2, 2, vls)])) := by
  cases hsince : s.ls.okSince with
  | none => simp [hsince, State.past] at hover
  | some t =>
    rw [hsince] at hover
    refine (if_neg (Bool.eq_false_iff.1 hbad)).trans ((if_pos ⟨hlow, hhigh⟩).trans ?_)
    simp only [hsince]
    exact if_pos hover

/-! ### The inrush window (R377, R379) -/

theorem execInrushWindowEnd_of_charged {c vout : Nat} {s : State} (hstate : (s.chan c).state = 2)
    (hleft : s.lsLeft c = 0) (hload : s.lsLoad c ≠ 5) : execInrushWindowEnd c vout s =
      .next (lsServed c (lsRefresh c ((s.setChan c { s.chan c with vout := vout }).setChan c
        { (s.setChan c { s.chan c with vout := vout }).chan c with state := 1, window := none, pausedAt := none }))) :=
  (if_neg (not_or.2 ⟨not_not.2 hstate, not_not.2 hleft⟩)).trans (if_neg fun hcap => hload hcap.1)

/-- A capacitive load that is not charged by the end of its window is a short of kind 2. -/
theorem execInrushWindowEnd_of_short {c vout : Nat} {s : State} (hstate : (s.chan c).state = 2)
    (hleft : s.lsLeft c = 0) (hload : s.lsLoad c = 5) (hlow : 2 * vout ≤ s.ls.vls) : execInrushWindowEnd c vout s =
      .next (lsLatch c 1 0x08A0 (res [(0, 1, c), (1, 1, 2), (4, 2, s.ls.vls)])
        (s.setChan c { s.chan c with vout := vout })) :=
  (if_neg (not_or.2 ⟨not_not.2 hstate, not_not.2 hleft⟩)).trans (if_pos ⟨hload, hlow⟩)

theorem execDroopPauseEnd_of_over {c since : Nat} {s : State} (hpaused : (s.chan c).pausedAt = some since)
    (hover : 2000 ≤ (s.chan c).pauseTotal + (s.now - since)) :
    execDroopPauseEnd c s = .next (s.setChan c { s.chan c with pausedAt := none, pauseTotal := 2000 }) := by
  simp only [execDroopPauseEnd, hpaused, hover, if_true]

/-! ### LS_BURST_RETRY, LS_BURST_END and LS_BACKOFF_EXPIRE (R378, R380) -/

theorem execLsBurstRetry_of_over {c : Nat} {s : State} (hstate : (s.chan c).state = 6)
    (hover : s.past (s.chan c).burstOff 1000 = true) : execLsBurstRetry c s =
      .next (lsRefresh c (s.setChan c { s.chan c with
        burst := (s.chan c).burst + 1, burstOff := none, retryCount := (s.chan c).retryCount + 1, onTime := s.now })) := by
  cases hoff : (s.chan c).burstOff with
  | none => simp [hoff, State.past] at hover
  | some t =>
    rw [hoff] at hover
    simp only [execLsBurstRetry, hoff]
    exact if_pos ⟨hstate, hover⟩

theorem execLsBurstEnd_of_clear {c clear : Nat} {s : State} (hstate : (s.chan c).state = 6)
    (hon : (s.chan c).burstOff = none) (hover : s.after (s.chan c).onTime 10000 = true) (hclear : 10000 ≤ clear) :
    execLsBurstEnd c s clear =
      .next ((lsRefresh c (s.setChan c { s.chan c with state := 1, burst := 0, burstEnded := true })).freeContext
        (handle 12 c)) := if_pos ⟨hstate, hon, hover, hclear⟩

/-- The channel as its backoff's end brings it to its command. -/
def backoffTried (c : Nat) (s : State) : State :=
  lsApply c ((s.attemptContext (handle 12 c)).setChan c { s.chan c with state := 0, cause := 0, backoff := none })

/-- A channel that opens a new inrush window keeps its recovery context until the window's end. -/
theorem execLsBackoffExpire_of_over {c since len : Nat} {s : State} (hpd4 : s.power.domains.getLsbD 4 = true)
    (hbackoff : (s.chan c).backoff = some (since, len)) (hlink : s.ls.linkLost = none)
    (hlatched : (s.chan c).state = 4) (hover : s.after since len = true)
    (hwindow : ((backoffTried c s).chan c).state = 2) : execLsBackoffExpire c s = .next (backoffTried c s) := by
  simp only [execLsBackoffExpire, hbackoff]
  exact (if_pos ⟨hpd4, hlink, hlatched, hover⟩).trans (congrArg Host.Outcome.next (if_pos hwindow))

theorem execLsBackoffExpire_of_none {c : Nat} {s : State} (h : (s.chan c).backoff = none) :
    execLsBackoffExpire c s = .next s := by
  simp only [execLsBackoffExpire, h]

/-! ### The link and LIMP_N (R382, R383) -/

theorem execLsLinkRestored_of_lost {since : Nat} {s : State} (hpd4 : s.power.domains.getLsbD 4 = true)
    (hlost : s.ls.linkLost = some since) :
    execLsLinkRestored s = .next (lsDeliver (lsResume (lsLinkUp since s))) := by
  simp only [execLsLinkRestored, hlost, hpd4, if_true]

theorem execLsLinkRestored_of_idle {s : State} (h : s.power.domains.getLsbD 4 = false ∨ s.ls.linkLost = none) :
    execLsLinkRestored s = .next s := by
  cases hlost : s.ls.linkLost with
  | none => simp only [execLsLinkRestored, hlost]
  | some since =>
    have hoff : s.power.domains.getLsbD 4 = false := h.resolve_right (by simp [hlost])
    simp only [execLsLinkRestored, hlost, hoff, Bool.false_eq_true, if_false]

theorem execLsLinkLost_of_new {s : State} (h : s.ls.linkLost = none) : execLsLinkLost s =
    .next { lsSuspend s with ls := { (lsSuspend s).ls with linkLost := some (lsSuspend s).now } } :=
  if_neg (not_not.2 h)

/-- A change of LIMP_N is reported at once where the link runs. -/
theorem execLsLimp_of_change {low : Bool} {s : State} (hchange : s.ls.limp ≠ low) (hlink : s.ls.linkLost = none) :
    execLsLimp low s = .next (overL ((upTo 24).filter lsHeavy) lsApply
      (({ s with ls := { s.ls with limp := low } } : State).event 10 0x00A0 (res [(0, 1, bit low), (4, 8, s.time)]))) :=
  (if_neg hchange).trans (congrArg (fun t => Host.Outcome.next (overL ((upTo 24).filter lsHeavy) lsApply t)) (if_pos hlink))

theorem execLhinChange_rise {k : Nat} {s : State} (hpin : k < 8) (hrise : s.ls.lhin.getLsbD k = false)
    (hfree : s.ls.limp = false) : execLhinChange k true s =
      .next (({ s with ls := { s.ls with lhin := s.ls.lhin ||| BitVec.ofNat 8 (2 ^ k) } } : State).setChan (16 + k)
        { s.chan (16 + k) with lhinLow := none }) :=
  (if_neg (not_or.2 ⟨Nat.not_le.2 hpin, by simp [hrise]⟩)).trans (if_pos hfree)

end Sys2Proof.Machine

open Sys2Proof Sys2Proof.Machine

/-- Settles O56: each entry of `lsEvents` is the lemma about its event, whose hypotheses the entry's condition gives. -/
theorem loadSwitchEventsTakeEffect : Obligations.LoadSwitchEventsTakeEffect := by
  intro c k temp vout vls held tc low
  unfold lsEvents
  repeat rw [List.forall_mem_cons]
  refine ⟨?short, ?overload, ?overloadWindow, ?overloadHeavy, ?overloadBurst, ?thermal, ?thermalLatch, ?restart,
    ?dieHot, ?dieCool, ?openLoad, ?supplyLow, ?supplyHigh, ?supplyBack, ?charged, ?backoff, ?noBackoff, ?linkBack,
    ?linkIdle, ?uncharged, ?droop, ?pauseOver, ?burstRetry, ?burstEnd, ?linkLost, ?limp, ?lhin,
    List.forall_mem_nil _⟩ <;>
    refine Event.holds_mk fun s h => ?_
  case short =>
    simp only [Bool.and_eq_true, decide_eq_true_eq] at h
    obtain ⟨⟨hon, hwindow⟩, hlow, hheld⟩ := h
    exact execLsShort_of_short hon hwindow hlow hheld
  case overload =>
    simp only [Bool.and_eq_true, decide_eq_true_eq] at h
    obtain ⟨hon, hlight, hstate, hheld⟩ := h
    exact execLsOverload_of_latch
      ⟨hon, State.lsBeyond_of_allowed (State.lsAllowed_of_standard hlight hstate) hheld⟩ (.inl hlight)
  case overloadWindow =>
    simp only [Bool.and_eq_true, decide_eq_true_eq] at h
    obtain ⟨hon, hlight, hstate, hload, hheld⟩ := h
    exact execLsOverload_of_latch
      ⟨hon, State.lsBeyond_of_allowed (State.lsAllowed_of_window hlight hstate hload) hheld⟩ (.inl hlight)
  case overloadHeavy =>
    simp only [Bool.and_eq_true, decide_eq_true_eq] at h
    obtain ⟨⟨hheavy, hon⟩, hheld, -, -, hnone⟩ := h
    exact execLsOverload_of_latch ⟨hon, State.lsBeyond_of_allowed (State.lsAllowed_of_heavy hheavy) hheld⟩ (.inr hnone)
  case overloadBurst =>
    simp only [Bool.and_eq_true, decide_eq_true_eq] at h
    obtain ⟨⟨hheavy, hon⟩, hstate, hruns, hleft, hheld⟩ := h
    exact execLsOverload_of_burst ⟨hon, State.lsBeyond_of_allowed (State.lsAllowed_of_heavy hheavy) hheld⟩ hheavy hstate
      hruns hleft
  case thermal =>
    simp only [Bool.and_eq_true, decide_eq_true_eq] at h
    obtain ⟨⟨hon, hhot⟩, hfew⟩ := h
    exact (execLsThermal_of_hot hon hhot).trans (if_neg (Nat.not_le.2 hfew))
  case thermalLatch =>
    simp only [Bool.and_eq_true, decide_eq_true_eq] at h
    obtain ⟨⟨hon, hhot⟩, hmany⟩ := h
    exact (execLsThermal_of_hot hon hhot).trans (if_pos hmany)
  case restart =>
    obtain ⟨hstate, hcool⟩ := of_decide_eq_true h
    exact execLsThermalRestart_of_cool hstate hcool
  case dieHot =>
    obtain ⟨hnew, hhot⟩ := of_decide_eq_true h
    exact execLsDieOvertemp_of_hot hnew hhot
  case dieCool =>
    obtain ⟨hover, hcool⟩ := of_decide_eq_true h
    exact execLsDieOvertemp_of_cool hover hcool
  case openLoad =>
    simp only [Bool.and_eq_true, Bool.not_eq_true', decide_eq_true_eq] at h
    obtain ⟨⟨⟨hasked, hon⟩, hduty, hheld⟩, hnew⟩ := h
    exact execLsOpenLoad_of_found hasked hon hduty hheld hnew
  case supplyLow =>
    simp only [Bool.and_eq_true, decide_eq_true_eq] at h
    obtain ⟨hgood, hlow⟩ := h
    exact execLsSupply_of_low hgood hlow
  case supplyHigh =>
    simp only [Bool.and_eq_true, decide_eq_true_eq] at h
    obtain ⟨hgood, hhigh⟩ := h
    exact execLsSupply_of_high hgood hhigh
  case supplyBack =>
    simp only [Bool.and_eq_true, Bool.not_eq_true', decide_eq_true_eq] at h
    obtain ⟨⟨hbad, hlow, hhigh⟩, hover⟩ := h
    exact execLsSupply_of_restored hbad hlow hhigh hover
  case charged =>
    obtain ⟨hstate, hleft, hload, -⟩ := of_decide_eq_true h
    exact execInrushWindowEnd_of_charged hstate hleft hload
  case backoff =>
    simp only [Bool.and_eq_true, decide_eq_true_eq] at h
    obtain ⟨⟨⟨hpd4, hbackoff, hlink, hlatched⟩, hover⟩, hwindow⟩ := h
    exact execLsBackoffExpire_of_over hpd4 hbackoff hlink hlatched hover hwindow
  case noBackoff => exact execLsBackoffExpire_of_none (of_decide_eq_true h)
  case linkBack =>
    simp only [Bool.and_eq_true, decide_eq_true_eq] at h
    obtain ⟨hpd4, hlost⟩ := h
    exact execLsLinkRestored_of_lost hpd4 hlost
  case linkIdle =>
    simp only [Bool.or_eq_true, Bool.not_eq_true', decide_eq_true_eq] at h
    exact execLsLinkRestored_of_idle h
  case uncharged =>
    obtain ⟨hstate, hleft, hload, hlow⟩ := of_decide_eq_true h
    exact execInrushWindowEnd_of_short hstate hleft hload hlow
  case droop => rfl
  case pauseOver =>
    cases hpaused : (s.chan c).pausedAt with
    | none => simp [hpaused] at h
    | some since => exact execDroopPauseEnd_of_over hpaused (by simpa [hpaused] using h)
  case burstRetry =>
    simp only [Bool.and_eq_true, decide_eq_true_eq] at h
    obtain ⟨hstate, hover⟩ := h
    exact execLsBurstRetry_of_over hstate hover
  case burstEnd =>
    obtain ⟨hstate, hon, hover, hclear⟩ := of_decide_eq_true h
    exact execLsBurstEnd_of_clear hstate hon hover hclear
  case linkLost => exact execLsLinkLost_of_new (of_decide_eq_true h)
  case limp =>
    obtain ⟨hchange, hlink⟩ := of_decide_eq_true h
    exact execLsLimp_of_change hchange hlink
  case lhin =>
    obtain ⟨hpin, hrise, hfree⟩ := of_decide_eq_true h
    exact execLhinChange_rise hpin hrise hfree

end

section
/-! The host commands of keys, identity and firmware (Table 16-14): what each replies in each of its cases. -/

namespace Sys2Proof.Machine

/-! ### What is shared: a slot that is loaded, a rejection, the length of bytes -/

theorem State.keyLoading_of_state {s : State} {k n : Nat} (h : (s.key k).state = n) (hn : n ≠ 3) :
    s.keyLoading k = false := decide_eq_false (h ▸ hn)

/-- Only RANDOM_FAULT carries a RESULT. -/
theorem keyRej_of_ne {st : Nat} (s : State) (h : st ≠ 0x08D3) : keyRej st s = rej st s :=
  congrArg (Reply.done st · s) (if_neg h)

theorem length_leBytes (v n : Nat) : (leBytes v n).length = n := by
  induction n generalizing v with
  | zero => rfl
  | succ n ih => exact congrArg (· + 1) (ih (v / 256))

theorem length_flatMap_wordBytes (l : List Word) : (l.flatMap wordBytes).length = 4 * l.length := by
  induction l with
  | nil => rfl
  | cons w l ih =>
    rw [List.flatMap_cons, List.length_append, ih, List.length_cons, wordBytes, length_leBytes]
    omega

/-! ### KEY_GENERATE and KEY_IMPORT (R390, R407) -/

/-- The new key that word 0 of a request defines is one that its slot, its parent and its uses allow. -/
def State.keyFits (s : State) (q : Req) : Prop := 2 ≤ q.idx ∧
  s.newKeyRefused q.idx (q.w 0 % 256) (q.w 0 / 256 % 256) (BitVec.ofNat 8 (q.w 0 / 65536)) = none

/-- The new key that word 0 defines would be persistent. -/
def State.keyPersists (s : State) (q : Req) : Bool :=
  decide (q.w 0 / 256 % 256 = 0 ∨ (s.key (q.w 0 / 256 % 256)).level < 2)

theorem keyGenerateOf_of_fit {q : Req} {s : State} (hslot : s.keyLoading q.idx = false)
    (hparent : s.keyLoading (q.w 0 / 256 % 256) = false) (hfit : s.keyFits q)
    (hwrite : s.writeRefused (s.keyPersists q) true = none) (hengine : engineTakes q s = true) :
    keyGenerateOf q s =
      makeKey q (draw (keyBytes (q.w 0 % 256)) (engineAt q s)).1 (draw (keyBytes (q.w 0 % 256)) (engineAt q s)).2 := by
  obtain ⟨hgeneral, hnew⟩ := hfit
  unfold State.keyPersists at hwrite
  simp only [keyGenerateOf, if_neg (Nat.not_lt.2 hgeneral), hslot, hparent, Bool.false_eq_true, or_self, if_false, hnew,
    hwrite]
  exact engine_takes hengine

theorem keyGenerateOf_of_loading {q : Req} {s : State} (hgeneral : 2 ≤ q.idx)
    (hload : s.keyLoading q.idx = true ∨ s.keyLoading (q.w 0 / 256 % 256) = true) :
    keyGenerateOf q s = keyWait q s := (if_neg (Nat.not_lt.2 hgeneral)).trans (if_pos hload)

/-- A slot that holds a key takes no other. -/
theorem State.newKeyRefused_of_full {s : State} {k type : Nat} {use : Byte} (parent : Nat) (hgeneral : 2 ≤ k)
    (hlow : 1 ≤ type) (hhigh : type ≤ 6) (huse : use.getLsbD 7 = false) (hfull : (s.key k).state ≠ 0) :
    s.newKeyRefused k type parent use = some 0x0707 :=
  (if_neg (by omega)).trans ((if_neg (Bool.eq_false_iff.1 huse)).trans (if_pos (.inl hfull)))

theorem keyGenerateOf_of_refused {q : Req} {s : State} {st : Nat} (hslot : s.keyLoading q.idx = false)
    (hparent : s.keyLoading (q.w 0 / 256 % 256) = false) (hgeneral : 2 ≤ q.idx)
    (hnew : s.newKeyRefused q.idx (q.w 0 % 256) (q.w 0 / 256 % 256) (BitVec.ofNat 8 (q.w 0 / 65536)) = some st) :
    keyGenerateOf q s = rej st s := by
  simp only [keyGenerateOf, if_neg (Nat.not_lt.2 hgeneral), hslot, hparent, Bool.false_eq_true, or_self, if_false, hnew]

theorem keyImportOf_of_fit {q : Req} {s : State} (hslot : s.keyLoading q.idx = false)
    (hparent : s.keyLoading (q.w 0 / 256 % 256) = false) (htransport : s.keyLoading (q.w 1) = false)
    (hbyte : q.w 1 ≤ 255) (hfit : s.keyFits q) (huse : s.useRefused (q.w 1) 6 none = none)
    (htype : (s.key (q.w 1)).type = 6) (hwrite : s.writeRefused (s.keyPersists q) false = none)
    (hengine : engineTakes q s = true) : keyImportOf q s = importKey q (engineAt q s) := by
  obtain ⟨hgeneral, hnew⟩ := hfit
  unfold State.keyPersists at hwrite
  have hin : ¬(q.idx < 2 ∨ 255 < q.w 1) := by omega
  simp only [keyImportOf, if_neg hin, hslot, hparent, htransport, Bool.false_eq_true, or_self, if_false, hnew, huse,
    htype, ne_eq, not_true_eq_false, hwrite]
  exact engine_takes hengine

/-! ### KEY_UPDATE, KEY_INVALIDATE and KEY_DESTROY (R392) -/

theorem keyUpdateOf_of_fit {q : Req} {s : State} (hslot : s.keyLoading q.idx = false) (hgeneral : 2 ≤ q.idx)
    (hchange : s.changeRefused q.idx true = none) (hengine : engineTakes q s = true) :
    keyUpdateOf q s = raiseGen q (draw (keyBytes ((engineAt q s).key q.idx).type) (engineAt q s)).1
      (draw (keyBytes ((engineAt q s).key q.idx).type) (engineAt q s)).2 := by
  simp only [keyUpdateOf, if_neg (Nat.not_lt.2 hgeneral), hslot, Bool.false_eq_true, if_false, hchange]
  exact engine_takes hengine

theorem keyUpdateOf_of_stale {q : Req} {s : State} (hgeneral : 2 ≤ q.idx) (hstale : (s.key q.idx).state = 2) :
    keyUpdateOf q s = rej 0x0703 s := by
  have hchange : s.changeRefused q.idx true = some 0x0703 := by
    simp only [State.changeRefused, if_neg (Nat.not_lt.2 hgeneral), hstale, OfNat.ofNat_ne_zero, if_false, if_true]
  simp only [keyUpdateOf, if_neg (Nat.not_lt.2 hgeneral), State.keyLoading_of_state hstale (by decide),
    Bool.false_eq_true, if_false, hchange]
  exact keyRej_of_ne s (by decide)

theorem keyInvalidateOf_of_fit {q : Req} {s : State} (hslot : s.keyLoading q.idx = false) (hgeneral : 2 ≤ q.idx)
    (hchange : s.changeRefused q.idx false = none) (hengine : engineTakes q s = true) :
    keyInvalidateOf q s = raiseGen q ((engineAt q s).key q.idx).value (engineAt q s) := by
  simp only [keyInvalidateOf, if_neg (Nat.not_lt.2 hgeneral), hslot, Bool.false_eq_true, if_false, hchange]
  exact engine_takes hengine

theorem keyInvalidateOf_of_empty {q : Req} {s : State} (hgeneral : 2 ≤ q.idx) (hempty : (s.key q.idx).state = 0) :
    keyInvalidateOf q s = rej 0x0701 s := by
  have hchange : s.changeRefused q.idx false = some 0x0701 := by
    simp only [State.changeRefused, if_neg (Nat.not_lt.2 hgeneral), hempty, if_true]
  simp only [keyInvalidateOf, if_neg (Nat.not_lt.2 hgeneral), State.keyLoading_of_state hempty (by decide),
    Bool.false_eq_true, if_false, hchange]

/-- KEY_DESTROY of a key in use, with nothing against its write, by the engine and for a persistent key the writer. -/
theorem keyDestroyOf_of_key {q : Req} {s : State} (hgeneral : 2 ≤ q.idx) (hkey : (s.key q.idx).state = 1)
    (hwrite : s.writeRefused (s.key q.idx).persistent false = none) (hengine : engineTakes q s = true)
    (hwriter : (s.key q.idx).persistent = false ∨ writerTakes q (engineAt q s) = true) :
    keyDestroyOf q s = destroyKey q (destroyAt q s) := by
  simp only [keyDestroyOf, if_neg (Nat.not_lt.2 hgeneral), State.keyLoading_of_state hkey (by decide), Bool.false_eq_true,
    if_false, hkey, Nat.one_ne_zero, hwrite]
  refine (engine_takes hengine).trans ?_
  unfold destroyAt
  cases hpersistent : (s.key q.idx).persistent with
  | false => rfl
  | true => exact writer_takes (hwriter.resolve_left (by simp [hpersistent]))

theorem destroyKey_of_unused {q : Req} {s : State} (h : (s.key q.idx).refs = 0) : destroyKey q s =
    .done 0 (res [(0, 2, (markStale (freeKey q.idx s)).1)]) (markStale (freeKey q.idx s)).2 := by
  simp only [destroyKey, if_pos h]

theorem destroyKey_of_used {q : Req} {s : State} (h : (s.key q.idx).refs ≠ 0) : destroyKey q s =
    let m := markStale (s.setKey q.idx { s.key q.idx with
      state := 2, freeing := true, staleSince := some ((s.key q.idx).staleSince.getD s.now) })
    .done 0 (res [(0, 2, m.1)]) m.2 := by
  simp only [destroyKey, if_neg h]

/-! ### KEY_PUBLIC_READ -/

/-- The public key of a request's slot. -/
def Req.publicKey (q : Req) (s : State) : List Byte := Config.publicKey (s.key q.idx).type (s.key q.idx).value

theorem keyPublicReadOf_of_pair {q : Req} {s : State} (hnot : q.idx ≠ 0) (hkey : (s.key q.idx).state = 1)
    (htype : (s.key q.idx).type ≤ 4) : keyPublicReadOf q s =
      if q.buf = none ∧ (q.w 0 % 16 ≠ 0 ∨ (q.publicKey s).length < q.w 0) then rej 0x0108 s
      else engine q (publicOut q (q.publicKey s)) s := by
  simp only [keyPublicReadOf, State.keyLoading_of_state hkey (by decide), Bool.false_eq_true, if_false, hnot, hkey,
    Nat.one_ne_zero, if_neg (Nat.not_lt.2 htype)]
  rfl

theorem keyPublicReadOf_of_no_pair {q : Req} {s : State} (hnot : q.idx ≠ 0) (hkey : (s.key q.idx).state = 1)
    (htype : 4 < (s.key q.idx).type) : keyPublicReadOf q s = rej 0x0704 s := by
  simp only [keyPublicReadOf, State.keyLoading_of_state hkey (by decide), Bool.false_eq_true, if_false, hnot, hkey,
    Nat.one_ne_zero, if_pos htype]

theorem publicOut_of_words {q : Req} (key : List Byte) (s : State) (hbuf : q.buf = none) :
    publicOut q key s = .done 0 (resBytes ((key.drop (q.w 0)).take 16)) (remask q.idx s) := by
  simp only [publicOut, hbuf, Option.isSome_none, Bool.false_eq_true, if_false]

theorem publicOut_of_buffer {q : Req} (key : List Byte) (s : State) (hbuf : q.buf.isSome = true) :
    publicOut q key s = intoBuffer q key (res [(0, 4, key.length)]) (remask q.idx s) := by
  rw [intoBuffer_eq_afterWrite]
  refine (if_pos hbuf).trans ?_
  cases writeBuf q key (remask q.idx s) <;> rfl

/-! ### KEY_SIGN and KEY_KMAC (R391) -/

theorem keySignOf_of_admitted {q : Req} {s : State} {b : Buf} (hslot : s.keyLoading q.idx = false) (hbuf : q.buf = some b)
    (hroom : sigBytes (s.key q.idx).type ≤ b.len) (hok : b.fails = false)
    (huse : s.useRefused q.idx 2 (some q.seat) = none) (hrandom : (s.key q.idx).type ≠ 1 ∨ s.trust.rngFault = 0)
    (hengine : engineTakes q s = true) : keySignOf q s =
      admitUse q.idx (draw (sigBytes (s.key q.idx).type) (engineAt q s)).1
        (draw (sigBytes (s.key q.idx).type) (engineAt q s)).2 := by
  have hfault : ¬((s.key q.idx).type = 1 ∧ s.trust.rngFault ≠ 0) := by omega
  simp only [keySignOf, hslot, Bool.false_eq_true, if_false, huse, hbuf, if_neg (Nat.not_lt.2 hroom), hok, if_neg hfault]
  exact engine_takes hengine

theorem keySignOf_of_refused {q : Req} {s : State} {st : Nat} (hslot : s.keyLoading q.idx = false)
    (huse : s.useRefused q.idx 2 (some q.seat) = some st) : keySignOf q s = rej st s := by
  simp only [keySignOf, hslot, Bool.false_eq_true, if_false, huse]

theorem keyKmacOf_of_admitted {q : Req} {s : State} (hslot : s.keyLoading q.idx = false) (hlength : q.w 0 ≤ 40)
    (huse : s.useRefused q.idx 4 (some q.seat) = none) (hengine : engineTakes q s = true) : keyKmacOf q s =
      admitUse q.idx (leBytes (Config.kmac (s.key q.idx).value
        ((((upTo 10).map fun i => q.word (i + 1)).flatMap wordBytes).take (q.w 0)) "GSL-9648 HOST" 16) 16)
        (engineAt q s) := by
  simp only [keyKmacOf, hslot, Bool.false_eq_true, if_false, if_neg (Nat.not_lt.2 hlength), huse]
  exact engine_takes hengine

theorem keyKmacOf_of_long {q : Req} {s : State} (hslot : s.keyLoading q.idx = false) (hlength : 40 < q.w 0) :
    keyKmacOf q s = rej 0x0108 s := (if_neg (Bool.eq_false_iff.1 hslot)).trans (if_pos hlength)

/-! ### ATTEST_CHALLENGE, ATTEST_REPORT and RANDOM (R403 to R405) -/

/-- What ATTEST_CHALLENGE authenticates (R403). -/
def attestData (q : Req) (s : State) : List Byte :=
  ((upTo 4).map q.word).flatMap wordBytes ++ leBytes s.boot.uid.toNat 8 ++ leBytes s.boot.digest.toNat 32 ++
    leBytes s.boot.fwVersion.toNat 4 ++ leBytes s.ep.number.toNat 4

theorem attestChallengeOf_of_key {q : Req} {s : State} (hepoch : s.ep.loaded = true)
    (hslot : s.keyLoading (fld (s.blk 12) 0 1) = false) (hnamed : fld (s.blk 12) 0 1 ≠ 0xFF)
    (huse : s.useRefused (fld (s.blk 12) 0 1) 5 (some q.seat) = none) (hengine : engineTakes q s = true) :
    attestChallengeOf q s = .done 0 (BitVec.ofNat 128 (Config.kmac ((engineAt q s).key (fld (s.blk 12) 0 1)).value
      (attestData q s) "GSL-9648 ATTEST" 16)) (remask (fld (s.blk 12) 0 1) (engineAt q s)) := by
  simp only [attestChallengeOf, hnamed, hepoch, reduceCtorEq, or_self, hslot, Bool.false_eq_true, if_false, huse]
  exact engine_takes hengine

theorem length_attestBody (s : State) (nonce : List Byte) : (s.attestBody nonce).length = 224 + nonce.length := by
  simp only [State.attestBody, List.length_append, length_leBytes]
  omega

theorem length_draw (n : Nat) (s : State) : (draw n s).1.length = n := length_leBytes _ n

theorem attestOut_of_room {q : Req} {s : State} {b : Buf} (hbuf : q.buf = some b) (hroom : 2676 ≤ b.len)
    (hok : b.fails = false) : attestOut q s =
      let d := draw 2420 (remask 1 s)
      .done 0 (res [(0, 4, 2676)]) { d.2 with hostIf := { d.2.hostIf with
        dma := aset d.2.hostIf.dma b.addr
          (s.attestBody (((upTo 8).map fun i => q.word (i + 4)).flatMap wordBytes) ++ d.1) } } := by
  have hlength : (s.attestBody (((upTo 8).map fun i => q.word (i + 4)).flatMap wordBytes) ++
      (draw 2420 (remask 1 s)).1).length = 2676 := by
    rw [List.length_append, length_attestBody, length_flatMap_wordBytes, List.length_map, upTo, List.length_range,
      length_draw]
  simp only [attestOut, writeBuf_of_room _ hbuf (hlength.trans_le hroom) hok]

theorem attestReportOf_of_use {q : Req} {s : State} (hslot : s.keyLoading 1 = false) (huse : s.useRefused 1 1 none = none) :
    attestReportOf q s = if s.trust.rngFault ≠ 0 then keyRej 0x08D3 s else engine q (attestOut q) s := by
  simp only [attestReportOf, hslot, Bool.false_eq_true, if_false, huse]

theorem randomOf_of_source {q : Req} {s : State} (hrandom : s.trust.rngFault = 0) (hengine : engineTakes q s = true) :
    randomOf q s = .done 0 (resBytes (draw 16 (engineAt q s)).1) (draw 16 (engineAt q s)).2 :=
  (if_neg (not_not_intro hrandom)).trans (engine_takes hengine)

/-! ### CERT_WRITE and CERT_READ (R400) -/

/-- CERT_WRITE of a slot and a length that are there, with the data in its buffer. -/
theorem certWriteOf_of_fit {q : Req} {s : State} {b : Buf} (hbuf : q.buf = some b) (hslot : q.w 4 ≤ 31)
    (hlength : q.w 5 ≤ 2048) (hdata : q.w 5 ≤ b.data.length) : certWriteOf q s =
      if q.w 5 ≠ 0 ∧ Config.certParses (b.data.take (q.w 5)) = false then rej 0x01D0 s
      else if s.gated then rej 0x0313 s
      else mramWrite q (fun s =>
        let r := readBack s
        if r.1 = false then rej 0x08D2 r.2
        else .done 0 0 { r.2 with trust := { r.2.trust with
          certs := if q.w 5 = 0 then adel r.2.trust.certs (q.w 4)
            else aset r.2.trust.certs (q.w 4) (b.data.take (q.w 5)) } }) s := by
  unfold certWriteOf
  rw [hbuf]
  exact if_neg (by omega)

theorem certWriteOf_of_open {q : Req} {s : State} {b : Buf} (hbuf : q.buf = some b) (hslot : q.w 4 ≤ 31)
    (hsome : q.w 5 ≠ 0) (hlength : q.w 5 ≤ 2048) (hdata : q.w 5 ≤ b.data.length) (hopen : s.gated = false)
    (hwriter : writerTakes q s = true) : certWriteOf q s =
      if Config.certParses (b.data.take (q.w 5)) = false then .done 0x01D0 0 s
      else if (readBack (writerAt q s)).1 = false then .done 0x08D2 0 (readBack (writerAt q s)).2
      else .done 0 0 { (readBack (writerAt q s)).2 with trust := { (readBack (writerAt q s)).2.trust with
        certs := aset (readBack (writerAt q s)).2.trust.certs (q.w 4) (b.data.take (q.w 5)) } } := by
  rw [certWriteOf_of_fit hbuf hslot hlength hdata, writer_takes hwriter, if_neg (Bool.eq_false_iff.1 hopen)]
  simp only [hsome, ne_eq, not_false_eq_true, true_and, if_false]
  rfl

theorem certWriteOf_of_gated {q : Req} {s : State} {b : Buf} (hbuf : q.buf = some b) (hslot : q.w 4 ≤ 31)
    (hsome : q.w 5 ≠ 0) (hlength : q.w 5 ≤ 2048) (hdata : q.w 5 ≤ b.data.length) (hgated : s.gated = true) :
    certWriteOf q s =
      .done (if Config.certParses (b.data.take (q.w 5)) = false then 0x01D0 else 0x0313) 0 s := by
  rw [certWriteOf_of_fit hbuf hslot hlength hdata, if_pos hgated]
  simp only [hsome, ne_eq, not_false_eq_true, true_and]
  exact (apply_ite (Reply.done · 0 s) _ _ _).symm

/-- A write of no data deletes the certificate. -/
theorem certWriteOf_of_none {q : Req} {s : State} {b : Buf} (hbuf : q.buf = some b) (hslot : q.w 4 ≤ 31)
    (hnone : q.w 5 = 0) (hopen : s.gated = false) (hwriter : writerTakes q s = true) : certWriteOf q s =
      if (readBack (writerAt q s)).1 = false then .done 0x08D2 0 (readBack (writerAt q s)).2
      else .done 0 0 { (readBack (writerAt q s)).2 with trust := { (readBack (writerAt q s)).2.trust with
        certs := adel (readBack (writerAt q s)).2.trust.certs (q.w 4) } } := by
  rw [certWriteOf_of_fit hbuf hslot (by omega) (by omega), writer_takes hwriter, if_neg (Bool.eq_false_iff.1 hopen)]
  simp only [hnone, ne_eq, not_true_eq_false, false_and, if_false, if_true]
  rfl

theorem certWriteOf_beyond_slots {q : Req} (s : State) (h : 31 < q.w 4) : certWriteOf q s = rej 0x0108 s := by
  unfold certWriteOf
  cases q.buf with
  | none => rfl
  | some b => exact if_pos (.inl h)

/-- The certificate that CERT_READ reads. -/
def certRead (q : Req) (s : State) : List Byte :=
  if q.w 0 = 0xFF then s.trust.factory else (aget s.trust.certs (q.w 0)).getD []

theorem certReadOf_of_fit {q : Req} {s : State} (hslot : q.w 0 ≤ 31 ∨ q.w 0 = 0xFF) (hgrid : q.w 1 % 16 = 0)
    (hin : q.w 1 ≤ (certRead q s).length) :
    certReadOf q s = .done 0 (resBytes (((certRead q s).drop (q.w 1)).take 16)) s := by
  refine if_neg ?_
  rintro (hbeyond | hoff | hpast)
  · omega
  · exact hoff hgrid
  · exact Nat.not_lt.2 hin hpast

/-! ### OWNER_KEY_SET (R401) -/

/-- The owner key's hash that OWNER_KEY_SET gives. -/
def ownerHash (q : Req) : List Byte := ((upTo 8).map fun i => q.word (i + 4)).flatMap wordBytes

/-- OWNER_KEY_SET's write of the hash. -/
def ownerWrite (q : Req) (s : State) : Reply :=
  if (readBack s).1 = false then rej 0x08D2 (readBack s).2
  else .done 0 0 { (readBack s).2 with trust := { (readBack s).2.trust with
    owner := some (BitVec.ofNat 256 (leNat (ownerHash q))) } }

theorem ownerKeySetOf_of_no_owner {q : Req} {s : State} (howner : s.trust.owner = none) (hopen : s.gated = false)
    (hwriter : writerTakes q s = true) : ownerKeySetOf q s = ownerWrite q (writerAt q s) := by
  simp only [ownerKeySetOf, howner, hopen, reduceCtorEq, Bool.false_eq_true, if_false]
  exact writer_takes hwriter

theorem ownerKeySetOf_of_unsigned {q : Req} {s : State} (howner : s.trust.owner.isSome = true) (hbuf : q.buf = none) :
    ownerKeySetOf q s = rej 0x070A s := by
  obtain ⟨o, ho⟩ := Option.isSome_iff_exists.1 howner
  simp only [ownerKeySetOf, ho, hbuf, if_true]

theorem ownerKeySetOf_of_signed {q : Req} {s : State} {o : Digest} {b : Buf} (howner : s.trust.owner = some o)
    (hbuf : q.buf = some b) (hopen : s.gated = false) (hwriter : writerTakes q s = true) : ownerKeySetOf q s =
      if Config.mldsaVerify (Config.ownerKey o) (Config.sha3 (ownerHash q ++ leBytes s.boot.uid.toNat 8))
        (b.data.take 2420) = false then .done 0x070A 0 s
      else ownerWrite q (writerAt q s) := by
  simp only [ownerKeySetOf, howner, hbuf, hopen, Bool.false_eq_true, if_false, writer_takes hwriter]
  rfl

/-! ### FW_WRITE (R398, R399) -/

/-- The slot that FW_WRITE writes. -/
def fwWritten (q : Req) (s : State) : Nat := if s.boot.recovery then bit (tst (fwOption q) 1) else 1 - s.boot.image

/-- The state in which a slot's image holds what FW_WRITE sent. -/
def fwSent (k : Nat) (q : Req) (s : State) : State :=
  s.setFw k { s.fw k with flash := mputs (s.fw k).flash (sent 2 q).1 (sent 2 q).2, valid := false }

/-- FW_WRITE refuses in this order, and otherwise writes what it was sent; bit 0 of its option asks for the verification. -/
theorem fwWriteOf_eq (q : Req) (s : State) : fwWriteOf q s =
    if 3 < fwOption q ∨ (tst (fwOption q) 1 ∧ s.boot.recovery = false) ∨ (sent 2 q).1 % 4 ≠ 0 ∨
      8388608 < (sent 2 q).1 + (sent 2 q).2.length then rej 0x0108 s
    else if s.boot.recovery = false ∧ s.onTrial then rej 0x0301 s
    else if tst (fwOption q) 0 = false then
      .done 0 (res [(0, 4, (sent 2 q).2.length)]) (fwSent (fwWritten q s) q s)
    else match verifyImage ((fwSent (fwWritten q s) q s).fw (fwWritten q s)).flash s.boot.rollback with
      | .error st => rej st (fwSent (fwWritten q s) q s)
      | .ok (svn, version, legal, digest) => .done 0 (res [(0, 4, (sent 2 q).2.length)])
          ((fwSent (fwWritten q s) q s).setFw (fwWritten q s) { (fwSent (fwWritten q s) q s).fw (fwWritten q s) with
            valid := true, svn := svn, version := version, legal := legal, digest := digest }) := by
  unfold fwWriteOf sent fwWritten fwSent sent fwOption
  cases q.buf <;> rfl

/-- FW_WRITE of words on the grid that end within the slot. -/
def Req.fwFits (q : Req) : Prop := (sent 2 q).1 % 4 = 0 ∧ (sent 2 q).1 + (sent 2 q).2.length ≤ 8388608

theorem fwWriteOf_of_trial {q : Req} {s : State} (hoption : fwOption q ≤ 1) (hfit : q.fwFits)
    (hplain : s.boot.recovery = false) (htrial : s.onTrial = true) : fwWriteOf q s = rej 0x0301 s := by
  obtain ⟨hgrid, hroom⟩ := hfit
  have hslot : tst (fwOption q) 1 = false := Nat.testBit_lt_two_pow (by omega)
  rw [fwWriteOf_eq, if_neg (by simp [hslot]; omega), if_pos ⟨hplain, htrial⟩]

/-- A plain write off the trial goes into the slot that does not run. -/
theorem fwWriteOf_of_plain {q : Req} {s : State} (hoption : fwOption q = 0) (hfit : q.fwFits)
    (hplain : s.boot.recovery = false) (htrial : s.onTrial = false) :
    fwWriteOf q s = .done 0 (res [(0, 4, (sent 2 q).2.length)]) (fwSent (1 - s.boot.image) q s) := by
  obtain ⟨hgrid, hroom⟩ := hfit
  have hlast : tst 0 0 = false := rfl
  rw [fwWriteOf_eq, fwWritten, hoption, hplain, htrial, if_neg (by simp [tst]; omega), if_neg (by simp), if_pos hlast,
    if_neg Bool.false_ne_true]

/-- With bit 0 of the option the image is verified once it is written. -/
theorem fwWriteOf_of_last {q : Req} {s : State} (hoption : fwOption q = 1) (hfit : q.fwFits)
    (hplain : s.boot.recovery = false) (htrial : s.onTrial = false) : fwWriteOf q s =
      match verifyImage (mputs (s.fw (1 - s.boot.image)).flash (sent 2 q).1 (sent 2 q).2) s.boot.rollback with
      | .error st => .done st 0 (fwSent (1 - s.boot.image) q s)
      | .ok (svn, version, legal, digest) => .done 0 (res [(0, 4, (sent 2 q).2.length)])
          ((fwSent (1 - s.boot.image) q s).setFw (1 - s.boot.image) { s.fw (1 - s.boot.image) with
            flash := mputs (s.fw (1 - s.boot.image)).flash (sent 2 q).1 (sent 2 q).2, valid := true, svn := svn,
            version := version, legal := legal, digest := digest }) := by
  obtain ⟨hgrid, hroom⟩ := hfit
  have hslot : tst 1 1 = false := rfl
  rw [fwWriteOf_eq, fwWritten, hoption, hplain, htrial, if_neg (by simp [hslot]; omega), if_neg (by simp),
    if_neg (by simp [tst]), if_neg Bool.false_ne_true]
  simp only [fwSent, State.setFw_fw]
  rfl

/-- In recovery bit 1 of the option names the slot. -/
theorem fwWriteOf_of_recovery {q : Req} {s : State} (hrecovery : s.boot.recovery = true)
    (hoption : fwOption q = 0 ∨ fwOption q = 2) (hfit : q.fwFits) :
    fwWriteOf q s = .done 0 (res [(0, 4, (sent 2 q).2.length)]) (fwSent (fwOption q / 2) q s) := by
  obtain ⟨hgrid, hroom⟩ := hfit
  have hslot : fwWritten q s = fwOption q / 2 := by
    unfold fwWritten
    rcases hoption with h | h <;> rw [h, if_pos hrecovery] <;> rfl
  have hlast : tst (fwOption q) 0 = false := by rcases hoption with h | h <;> rw [h] <;> rfl
  rw [fwWriteOf_eq, hslot, hlast, hrecovery, if_neg (by simp; omega), if_neg (by simp), if_pos rfl]

theorem fwWriteOf_off_grid {q : Req} (s : State) (h : (sent 2 q).1 % 4 ≠ 0) : fwWriteOf q s = rej 0x0108 s :=
  (fwWriteOf_eq q s).trans (if_pos (.inr (.inr (.inl h))))

/-! ### FW_ACTIVATE and FW_CONFIRM -/

theorem fwActivateOf_of_valid {q : Req} {s : State} (hslot : q.w 0 ≤ 1) (hvalid : (s.fw (q.w 0)).valid = true)
    (hopen : s.gated = false) (hwriter : writerTakes q s = true) : fwActivateOf q s =
      let t := (writerAt q s).setFw (q.w 0) { (writerAt q s).fw (q.w 0) with attempts := 0, failed := false }
      .done 0 0 { t with trust := { t.trust with preferred := q.w 0, trial := true } } := by
  simp only [fwActivateOf, if_neg (Nat.not_lt.2 hslot), hvalid, hopen, reduceCtorEq, Bool.false_eq_true, if_false]
  exact writer_takes hwriter

theorem fwActivateOf_of_invalid {q : Req} {s : State} (hslot : q.w 0 ≤ 1) (hvalid : (s.fw (q.w 0)).valid = false) :
    fwActivateOf q s = rej 0x0301 s := (if_neg (Nat.not_lt.2 hslot)).trans (if_pos hvalid)

theorem fwConfirmOf_of_trial (q : Req) {s : State} (htrial : s.onTrial = true) (hstage : s.boot.stage = 4)
    (hopen : s.gated = false) : fwConfirmOf q s =
      .done 0 (res [(0, 1, ((max s.boot.rollback s.running.svn : Nat) : Int))]) { s with
        boot := { s.boot with rollback := max s.boot.rollback s.running.svn }
        trust := { s.trust with trial := false } } :=
  (if_neg (by simp [htrial, hstage])).trans (if_neg (Bool.eq_false_iff.1 hopen))

end Sys2Proof.Machine

open Sys2Proof Sys2Proof.Machine

/-- Settles O39: each case of `trustCases` is the lemma about its command's reply, whose hypotheses the case's condition
gives. -/
theorem trustCommandsAnswer : Obligations.TrustCommandsAnswer := by
  unfold Obligations.TrustCommandsAnswer trustCases
  repeat rw [List.forall_mem_cons]
  refine ⟨?generate, ?generateWaits, ?generateFull, ?imported, ?update, ?updateStale, ?invalidate, ?invalidateEmpty,
    ?destroy, ?destroyUsed, ?statusRoot, ?status, ?publicWords, ?publicBad, ?publicBuffer, ?publicNone, ?sign, ?signRefused,
    ?kmac, ?kmacLong, ?challenge, ?challengeNone, ?report, ?reportFault, ?random, ?randomFault, ?certWrite, ?certGated,
    ?certDelete, ?certBeyond, ?certRead, ?certFactory, ?certReadBeyond, ?owner, ?ownerUnsigned, ?ownerSigned, ?fwWrite,
    ?fwLast, ?fwTrial, ?fwRecovery, ?fwOff, ?activate, ?activateInvalid, ?activateBeyond, ?confirm, ?confirmNone,
    ?fwStatus, List.forall_mem_nil _⟩ <;>
    refine Case.holds_mk (fun _ _ => rfl) fun q s h => ?_
  case generate =>
    simp only [Bool.and_eq_true, Bool.not_eq_true', decide_eq_true_eq] at h
    obtain ⟨⟨⟨hslot, hparent⟩, hengine⟩, hgeneral, hnew, hwrite⟩ := h
    exact keyGenerateOf_of_fit hslot hparent ⟨hgeneral, hnew⟩ hwrite hengine
  case generateWaits =>
    simp only [Bool.and_eq_true, Bool.or_eq_true, decide_eq_true_eq] at h
    exact keyGenerateOf_of_loading h.1 h.2
  case generateFull =>
    simp only [Bool.and_eq_true, Bool.not_eq_true', decide_eq_true_eq] at h
    obtain ⟨⟨⟨hslot, hparent⟩, hgeneral, hlow, hhigh, hfull⟩, huse⟩ := h
    exact keyGenerateOf_of_refused hslot hparent hgeneral (State.newKeyRefused_of_full _ hgeneral hlow hhigh huse hfull)
  case imported =>
    simp only [Bool.and_eq_true, Bool.not_eq_true', decide_eq_true_eq] at h
    obtain ⟨⟨⟨⟨hslot, hparent⟩, htransport⟩, hengine⟩, hgeneral, hbyte, hnew, huse, htype, hwrite⟩ := h
    exact keyImportOf_of_fit hslot hparent htransport hbyte ⟨hgeneral, hnew⟩ huse htype hwrite hengine
  case update =>
    simp only [Bool.and_eq_true, Bool.not_eq_true', decide_eq_true_eq] at h
    obtain ⟨⟨hslot, hengine⟩, hgeneral, hchange⟩ := h
    exact keyUpdateOf_of_fit hslot hgeneral hchange hengine
  case updateStale =>
    obtain ⟨hgeneral, hstale⟩ := of_decide_eq_true h
    exact keyUpdateOf_of_stale hgeneral hstale
  case invalidate =>
    simp only [Bool.and_eq_true, Bool.not_eq_true', decide_eq_true_eq] at h
    obtain ⟨⟨hslot, hengine⟩, hgeneral, hchange⟩ := h
    exact keyInvalidateOf_of_fit hslot hgeneral hchange hengine
  case invalidateEmpty =>
    obtain ⟨hgeneral, hempty⟩ := of_decide_eq_true h
    exact keyInvalidateOf_of_empty hgeneral hempty
  case destroy =>
    simp only [Bool.and_eq_true, Bool.or_eq_true, Bool.not_eq_true', decide_eq_true_eq] at h
    obtain ⟨⟨⟨hgeneral, hkey, hrefs, hwrite⟩, hengine⟩, hwriter⟩ := h
    exact (keyDestroyOf_of_key hgeneral hkey hwrite hengine hwriter).trans (destroyKey_of_unused hrefs)
  case destroyUsed =>
    simp only [Bool.and_eq_true, Bool.or_eq_true, Bool.not_eq_true', decide_eq_true_eq] at h
    obtain ⟨⟨⟨hgeneral, hkey, hrefs, hwrite⟩, hengine⟩, hwriter⟩ := h
    exact (keyDestroyOf_of_key hgeneral hkey hwrite hengine hwriter).trans (destroyKey_of_used hrefs)
  case statusRoot => exact if_pos (of_decide_eq_true h)
  case status => exact if_neg (of_decide_eq_true h)
  case publicWords =>
    simp only [Bool.and_eq_true, decide_eq_true_eq] at h
    obtain ⟨⟨hnot, hbuf, hkey, htype, hgrid, hin⟩, hengine⟩ := h
    have hfit : ¬(q.buf = none ∧ (q.w 0 % 16 ≠ 0 ∨ (q.publicKey s).length < q.w 0)) := fun hbad =>
      hbad.2.elim (· hgrid) (Nat.not_lt.2 hin)
    exact (keyPublicReadOf_of_pair hnot hkey htype).trans ((if_neg hfit).trans
      ((engine_takes hengine).trans (publicOut_of_words _ _ hbuf)))
  case publicBad =>
    obtain ⟨hnot, hbuf, hkey, htype, hbad⟩ := of_decide_eq_true h
    exact (keyPublicReadOf_of_pair hnot hkey htype).trans (if_pos ⟨hbuf, hbad⟩)
  case publicBuffer =>
    simp only [Bool.and_eq_true, decide_eq_true_eq] at h
    obtain ⟨⟨⟨hnot, hbuf⟩, hkey, htype⟩, hengine⟩ := h
    have hsome : ¬(q.buf = none ∧ (q.w 0 % 16 ≠ 0 ∨ (q.publicKey s).length < q.w 0)) := fun hbad =>
      Option.isSome_iff_ne_none.1 hbuf hbad.1
    exact (keyPublicReadOf_of_pair hnot hkey htype).trans ((if_neg hsome).trans
      ((engine_takes hengine).trans (publicOut_of_buffer _ _ hbuf)))
  case publicNone =>
    obtain ⟨hnot, hkey, htype⟩ := of_decide_eq_true h
    exact keyPublicReadOf_of_no_pair hnot hkey htype
  case sign =>
    cases hbuf : q.buf with
    | none => simp [hbuf] at h
    | some b =>
      simp only [hbuf, Bool.and_eq_true, Bool.not_eq_true', decide_eq_true_eq] at h
      obtain ⟨⟨⟨hslot, hengine⟩, hroom, hok⟩, huse, hrandom⟩ := h
      exact keySignOf_of_admitted hslot hbuf hroom hok huse hrandom hengine
  case signRefused =>
    simp only [Bool.and_eq_true, Bool.not_eq_true', decide_eq_true_eq] at h
    exact keySignOf_of_refused h.1 h.2
  case kmac =>
    simp only [Bool.and_eq_true, Bool.not_eq_true', decide_eq_true_eq] at h
    obtain ⟨⟨hslot, hengine⟩, hlength, huse⟩ := h
    exact keyKmacOf_of_admitted hslot hlength huse hengine
  case kmacLong =>
    simp only [Bool.and_eq_true, Bool.not_eq_true', decide_eq_true_eq] at h
    exact keyKmacOf_of_long h.1 h.2
  case challenge =>
    simp only [Bool.and_eq_true, Bool.not_eq_true', decide_eq_true_eq] at h
    obtain ⟨⟨⟨hepoch, hslot⟩, hengine⟩, hnamed, huse⟩ := h
    exact attestChallengeOf_of_key hepoch hslot hnamed huse hengine
  case challengeNone => exact if_pos (.inr ((Bool.not_eq_true' _).mp h))
  case report =>
    cases hbuf : q.buf with
    | none => simp [hbuf] at h
    | some b =>
      simp only [hbuf, Bool.and_eq_true, Bool.not_eq_true', decide_eq_true_eq] at h
      obtain ⟨⟨⟨hslot, hengine⟩, hok, hroom⟩, huse, hrandom⟩ := h
      exact (attestReportOf_of_use hslot huse).trans ((if_neg (not_not_intro hrandom)).trans
        ((engine_takes hengine).trans (attestOut_of_room hbuf hroom hok)))
  case reportFault =>
    simp only [Bool.and_eq_true, Bool.not_eq_true', decide_eq_true_eq] at h
    obtain ⟨hslot, huse, hfault⟩ := h
    exact (attestReportOf_of_use hslot huse).trans (if_pos hfault)
  case random =>
    simp only [Bool.and_eq_true, decide_eq_true_eq] at h
    exact randomOf_of_source h.1 h.2
  case randomFault => exact if_pos (of_decide_eq_true h)
  case certWrite =>
    cases hbuf : q.buf with
    | none => simp [hbuf] at h
    | some b =>
      simp only [hbuf, Bool.and_eq_true, Bool.not_eq_true', decide_eq_true_eq] at h
      obtain ⟨⟨⟨hdata, hslot, hsome, hlength⟩, hopen⟩, hwriter⟩ := h
      exact certWriteOf_of_open hbuf hslot hsome hlength hdata hopen hwriter
  case certGated =>
    cases hbuf : q.buf with
    | none => simp [hbuf] at h
    | some b =>
      simp only [hbuf, Bool.and_eq_true, decide_eq_true_eq] at h
      obtain ⟨⟨hdata, hslot, hsome, hlength⟩, hgated⟩ := h
      exact certWriteOf_of_gated hbuf hslot hsome hlength hdata hgated
  case certDelete =>
    simp only [Bool.and_eq_true, Bool.not_eq_true', decide_eq_true_eq] at h
    obtain ⟨⟨⟨hbuf, hslot, hnone⟩, hopen⟩, hwriter⟩ := h
    obtain ⟨b, hb⟩ := Option.isSome_iff_exists.1 hbuf
    exact certWriteOf_of_none hb hslot hnone hopen hwriter
  case certBeyond => exact certWriteOf_beyond_slots s (of_decide_eq_true h)
  case certRead =>
    obtain ⟨hslot, hgrid, hin⟩ := of_decide_eq_true h
    have hcert : certRead q s = (aget s.trust.certs (q.w 0)).getD [] := if_neg (by omega)
    rw [← hcert] at hin ⊢
    exact certReadOf_of_fit (.inl hslot) hgrid hin
  case certFactory =>
    obtain ⟨hslot, hgrid, hin⟩ := of_decide_eq_true h
    have hcert : certRead q s = s.trust.factory := if_pos hslot
    rw [← hcert] at hin ⊢
    exact certReadOf_of_fit (.inr hslot) hgrid hin
  case certReadBeyond => exact if_pos (.inl (of_decide_eq_true h))
  case owner =>
    simp only [Bool.and_eq_true, Bool.not_eq_true', decide_eq_true_eq] at h
    obtain ⟨⟨howner, hopen⟩, hwriter⟩ := h
    exact ownerKeySetOf_of_no_owner howner hopen hwriter
  case ownerUnsigned =>
    simp only [Bool.and_eq_true, decide_eq_true_eq] at h
    exact ownerKeySetOf_of_unsigned h.1 h.2
  case ownerSigned =>
    simp only [Bool.and_eq_true, Bool.not_eq_true'] at h
    obtain ⟨⟨⟨howner, hbuf⟩, hopen⟩, hwriter⟩ := h
    obtain ⟨o, ho⟩ := Option.isSome_iff_exists.1 howner
    obtain ⟨b, hb⟩ := Option.isSome_iff_exists.1 hbuf
    rw [ho, hb]
    exact ownerKeySetOf_of_signed ho hb hopen hwriter
  case fwWrite =>
    simp only [Bool.and_eq_true, Bool.not_eq_true', decide_eq_true_eq] at h
    obtain ⟨⟨⟨hoption, hfit⟩, hplain⟩, htrial⟩ := h
    exact fwWriteOf_of_plain hoption hfit hplain htrial
  case fwLast =>
    simp only [Bool.and_eq_true, Bool.not_eq_true', decide_eq_true_eq] at h
    obtain ⟨⟨⟨hoption, hfit⟩, hplain⟩, htrial⟩ := h
    exact fwWriteOf_of_last hoption hfit hplain htrial
  case fwTrial =>
    simp only [Bool.and_eq_true, Bool.not_eq_true', decide_eq_true_eq] at h
    obtain ⟨⟨⟨hoption, hfit⟩, hplain⟩, htrial⟩ := h
    exact fwWriteOf_of_trial hoption hfit hplain htrial
  case fwRecovery =>
    simp only [Bool.and_eq_true, decide_eq_true_eq] at h
    obtain ⟨⟨hrecovery, hoption⟩, hfit⟩ := h
    exact fwWriteOf_of_recovery hrecovery hoption hfit
  case fwOff => exact fwWriteOf_off_grid s (of_decide_eq_true h)
  case activate =>
    simp only [Bool.and_eq_true, Bool.not_eq_true', decide_eq_true_eq] at h
    obtain ⟨⟨⟨hslot, hvalid⟩, hopen⟩, hwriter⟩ := h
    exact fwActivateOf_of_valid hslot hvalid hopen hwriter
  case activateInvalid =>
    simp only [Bool.and_eq_true, Bool.not_eq_true', decide_eq_true_eq] at h
    exact fwActivateOf_of_invalid h.1 h.2
  case activateBeyond => exact if_pos (of_decide_eq_true h)
  case confirm =>
    simp only [Bool.and_eq_true, Bool.not_eq_true', decide_eq_true_eq] at h
    obtain ⟨⟨htrial, hstage⟩, hopen⟩ := h
    exact fwConfirmOf_of_trial q htrial hstage hopen
  case confirmNone => exact if_pos (.inl ((Bool.not_eq_true' _).mp h))
  case fwStatus => rfl

end

section
/-! The events of keys and of the random source: what each does where its condition holds, and where it changes nothing. -/

namespace Sys2Proof.Machine

/-! ### KEY_MASK_REFRESH (R389, R405) -/

/-- A cell with a value goes under a new mask while there is random output. -/
theorem remask_of_random {k : Nat} {s : State} (hvalue : (s.key k).value ≠ []) (hrandom : s.trust.rngFault = 0) :
    remask k s =
      let m := draw 66 s
      let t : State := { m.2 with trust := { m.2.trust with masks := m.2.trust.masks + 1 } }
      t.setKey k { t.key k with mask := leNat m.1, maskAt := t.now } :=
  if_neg (not_or.2 ⟨not_not_intro hrandom, hvalue⟩)

theorem remask_of_fault {s : State} (k : Nat) (h : s.trust.rngFault ≠ 0) : remask k s = s := if_pos (.inl h)

/-- A powered cell that holds a value: the condition under which KEY_MASK_REFRESH looks at its tag. -/
theorem State.cell_loaded {k : Nat} {s : State} (hpowered : s.power.domains.getLsbD 11 = true)
    (hvalue : (s.key k).value ≠ []) : ¬(s.power.domains.getLsbD 11 = false ∨ (s.key k).value = []) :=
  not_or.2 ⟨by simp [hpowered], hvalue⟩

theorem execKeyMaskRefresh_of_tag {k : Nat} {s : State} (hpowered : s.power.domains.getLsbD 11 = true)
    (hvalue : (s.key k).value ≠ []) :
    execKeyMaskRefresh k true s = .next (if s.after (s.key k).maskAt 1000 then remask k s else s) :=
  (if_neg (State.cell_loaded hpowered hvalue)).trans (if_pos rfl)

/-- With random output stopped, or before 1 ms, the mask stays. -/
theorem execKeyMaskRefresh_of_early {k : Nat} {s : State} (hpowered : s.power.domains.getLsbD 11 = true)
    (hstays : (s.key k).value ≠ [] ∧ s.trust.rngFault ≠ 0 ∨ s.after (s.key k).maskAt 1000 = false) :
    execKeyMaskRefresh k true s = .next s := by
  by_cases hvalue : (s.key k).value = []
  · exact if_pos (.inr hvalue)
  · rw [execKeyMaskRefresh_of_tag hpowered hvalue]
    rcases hstays with ⟨-, hfault⟩ | hearly
    · rw [remask_of_fault k hfault, ite_self]
    · rw [if_neg (Bool.eq_false_iff.1 hearly)]

/-- A cell whose tag fails is loaded again from its copy in force, the identity key from its seed. -/
theorem execKeyMaskRefresh_of_copy {k : Nat} {s : State} (hpowered : s.power.domains.getLsbD 11 = true)
    (hvalue : (s.key k).value ≠ []) (hcopy : k = 1 ∨ (s.key k).inForce.isSome = true) :
    execKeyMaskRefresh k false s = .next ((loadKey k s).event 13 0x08D1 (res [(0, 1, k), (1, 1, 1)])) :=
  (if_neg (State.cell_loaded hpowered hvalue)).trans
    ((if_neg Bool.false_ne_true).trans (if_pos hcopy))

/-- A volatile key whose tag fails is gone. -/
theorem execKeyMaskRefresh_of_volatile {k : Nat} {s : State} (hpowered : s.power.domains.getLsbD 11 = true)
    (hvalue : (s.key k).value ≠ []) (hgeneral : k ≠ 1) (hcopy : (s.key k).inForce = none)
    (hvolatile : (s.key k).persistent = false) :
    execKeyMaskRefresh k false s = .next ((s.setKey k {}).event 13 0x08D1 (res [(0, 1, k), (1, 1, 2)])) :=
  (if_neg (State.cell_loaded hpowered hvalue)).trans
    ((if_neg Bool.false_ne_true).trans ((if_neg (not_or.2 ⟨hgeneral, by simp [hcopy]⟩)).trans
      (if_neg (Bool.eq_false_iff.1 hvolatile))))

/-! ### KEY_OPERATION_DONE and CRYPTO_RESULT_DISCARD (R391, R406) -/

/-- One of several uses of a key ends; its result goes to the command that waits for it. -/
theorem execKeyOperationDone_of_others {k : Nat} {s : State} {l : Live} (hrefs : 2 ≤ (s.key k).refs)
    (hlive : (useEnds k s).keyLive k = some l) : execKeyOperationDone k s = .next (postResult l (useEnds k s)) := by
  have hother : ¬((s.key k).refs = 1 ∧ (s.key k).state = 2) := by omega
  unfold useEnds at hlive
  simp only [execKeyOperationDone, useEnds, if_neg (Nat.ne_zero_of_lt hrefs), if_neg hother, hlive]

/-- A result that the engine holds for a second ends its command as its execution timeout does. -/
theorem execCryptoResultDiscard_of_old {o since : Nat} {s : State} {l : Live}
    (hfirst : s.trust.results.head? = some (o, since)) (hold : s.after since 1000000 = true)
    (hlive : s.hostIf.live.find? (fun x => decide (x.order = o)) = some l) : execCryptoResultDiscard s =
      .next (({ s with trust := { s.trust with results := s.trust.results.drop 1 } } : State).finish l 0x0401
        (res [(0, 1, 1)])) := by
  obtain ⟨r, hresults⟩ := List.head?_eq_some_iff.1 hfirst
  simp only [execCryptoResultDiscard, hresults, hold, reduceCtorEq, if_false, hlive, List.drop_succ_cons, List.drop_zero]

theorem execCryptoResultDiscard_of_none {s : State} (h : s.trust.results = []) :
    execCryptoResultDiscard s = .next s := by
  simp only [execCryptoResultDiscard, h]

end Sys2Proof.Machine

open Sys2Proof Sys2Proof.Machine

/-- Settles O57: each entry of `trustEvents` is the lemma about its event, whose hypotheses the entry's condition
gives. -/
theorem trustEventsTakeEffect : Obligations.TrustEventsTakeEffect := by
  unfold Obligations.TrustEventsTakeEffect
  intro k o since health l
  unfold trustEvents
  repeat rw [List.forall_mem_cons]
  refine ⟨?mask, ?maskStays, ?fault, ?faultVolatile, ?unused, ?done, ?held, ?discard, ?discardNone, ?stale, ?notStale,
    ?reload, ?reloadNone, ?reseed, ?reseedPassed, ?resumed, List.forall_mem_nil _⟩ <;>
    refine Event.holds_mk fun s h => ?_
  case mask =>
    simp only [Bool.and_eq_true, decide_eq_true_eq] at h
    obtain ⟨⟨hpowered, hvalue, hrandom⟩, hdue⟩ := h
    exact (execKeyMaskRefresh_of_tag hpowered hvalue).trans
      (congrArg Host.Outcome.next ((if_pos hdue).trans (remask_of_random hvalue hrandom)))
  case maskStays =>
    simp only [Bool.and_eq_true, Bool.or_eq_true, Bool.not_eq_true', decide_eq_true_eq] at h
    exact execKeyMaskRefresh_of_early h.1 h.2
  case fault =>
    simp only [Bool.and_eq_true, Bool.or_eq_true, decide_eq_true_eq] at h
    obtain ⟨⟨hpowered, hvalue⟩, hcopy⟩ := h
    exact execKeyMaskRefresh_of_copy hpowered hvalue hcopy
  case faultVolatile =>
    simp only [Bool.and_eq_true, Bool.not_eq_true', decide_eq_true_eq] at h
    obtain ⟨⟨hpowered, hvalue, hgeneral, hcopy⟩, hvolatile⟩ := h
    exact execKeyMaskRefresh_of_volatile hpowered hvalue hgeneral hcopy hvolatile
  case unused => exact if_pos (of_decide_eq_true h)
  case done =>
    simp only [Bool.and_eq_true, decide_eq_true_eq] at h
    obtain ⟨⟨hrefs, hlive⟩, hpass⟩ := h
    exact (execKeyOperationDone_of_others hrefs hlive).trans (congrArg Host.Outcome.next (viaOr_passes hpass))
  case held =>
    simp only [Bool.and_eq_true, Bool.not_eq_true', decide_eq_true_eq] at h
    obtain ⟨⟨hrefs, hlive⟩, hfull⟩ := h
    exact (execKeyOperationDone_of_others hrefs hlive).trans (congrArg Host.Outcome.next (viaOr_fails hfull))
  case discard =>
    simp only [Bool.and_eq_true, decide_eq_true_eq] at h
    obtain ⟨⟨hfirst, hold⟩, hlive⟩ := h
    exact execCryptoResultDiscard_of_old hfirst hold hlive
  case discardNone => exact execCryptoResultDiscard_of_none (of_decide_eq_true h)
  case stale =>
    simp only [Bool.and_eq_true, decide_eq_true_eq] at h
    exact if_pos h
  case notStale => exact if_neg fun hstale => of_decide_eq_true h hstale.1
  case reload =>
    simp only [Bool.and_eq_true] at h
    obtain ⟨⟨hroot, hpowered⟩, hlost⟩ := h
    exact if_pos ⟨hroot, hpowered, hlost⟩
  case reloadNone => exact if_neg fun hreload => by simp [hreload.1] at h
  case reseed =>
    simp only [Bool.and_eq_true, decide_eq_true_eq] at h
    obtain ⟨hpowered, hlow, hhigh, hrandom⟩ := h
    refine if_neg ?_
    rintro (hoff | hpassed | hbeyond | hfault)
    · exact Bool.false_ne_true (hoff.symm.trans hpowered)
    · omega
    · omega
    · exact hfault hrandom
  case reseedPassed => exact if_pos (.inr (.inl rfl))
  case resumed => rfl

end

section
/-! The host commands of the journal, of retirement and of the check-value unit (Table 19-9): what each replies in each of
its cases. -/

namespace Sys2Proof.Machine

/-! ### JOURNAL_STATUS -/

theorem journalStatusOf_of_head {q : Req} (s : State) (h : q.w 0 = 0) : journalStatusOf q s = .done 0
    (res [(0, 6, s.headSeq), (6, 6, s.oldestSeq), (12, 2, s.jnl.buffer.length), (14, 2, sat 16 s.jnl.lost)]) s := by
  simp only [journalStatusOf, h, reads]

theorem journalStatusOf_of_anchor_low {q : Req} (s : State) (h : q.w 0 = 1) :
    journalStatusOf q s = .done 0 (s.jnl.anchorHash.setWidth 128) s := by
  simp only [journalStatusOf, h]

theorem journalStatusOf_of_anchor_high {q : Req} (s : State) (h : q.w 0 = 2) :
    journalStatusOf q s = .done 0 ((s.jnl.anchorHash >>> 128).setWidth 128) s := by
  simp only [journalStatusOf, h]

theorem journalStatusOf_of_mark {q : Req} (s : State) (h : q.w 0 = 3) : journalStatusOf q s =
    .done 0 (res [(0, 6, (s.jnl.ack.getD 0 : Nat)), (6, 6, s.jnl.anchorSeq)]) s := by
  simp only [journalStatusOf, h, reads]

theorem journalStatusOf_beyond_views {q : Req} (s : State) (h : 3 < q.w 0) : journalStatusOf q s = rej 0x0108 s := by
  obtain ⟨n, hn⟩ := Nat.exists_eq_add_of_lt h
  have hw : q.w 0 = n + 4 := by omega
  simp only [journalStatusOf, hw]

/-! ### JOURNAL_READ (R456) -/

/-- An entry that the ring holds is shown by halves; bit 0 of word 2 picks the half. -/
theorem journalReadOf_of_entry {q : Req} {s : State} (hbuf : q.buf = none) (hwritten : q.w2 0 < s.jnl.nextSeq)
    (hheld : s.oldestSeq ≤ q.w2 0) :
    journalReadOf q s = .done 0 (resBytes ((s.slotBytes (q.w2 0)).drop (if tst (q.w 2) 0 then 16 else 0))) s := by
  unfold journalReadOf
  rw [hbuf]
  exact if_neg (not_or.2 ⟨Nat.not_le.2 hwritten, Nat.not_lt.2 hheld⟩)

theorem journalReadOf_of_no_entry {q : Req} {s : State} (hbuf : q.buf = none)
    (h : s.jnl.nextSeq ≤ q.w2 0 ∨ q.w2 0 < s.oldestSeq) : journalReadOf q s = rej 0x0108 s := by
  unfold journalReadOf
  rw [hbuf]
  exact if_pos h

/-- The blocks of the ring that JOURNAL_READ copies. -/
def journalBlocks (q : Req) (s : State) : List Byte := (upTo (q.w 5)).flatMap fun i => s.blockBytes ((q.w 4 + i) % 128)

/-- Into a buffer whole blocks go, from 1 to 128 of them. -/
theorem journalReadOf_of_blocks {q : Req} (s : State) (hbuf : q.buf.isSome = true) (hfirst : q.w 4 ≤ 127)
    (hsome : 0 < q.w 5) (hall : q.w 5 ≤ 128) : journalReadOf q s = intoBuffer q (journalBlocks q s)
      (res [(0, 4, (journalBlocks q s).length), (4, 6, ((s.seqAt (q.w 4) 0).getD 0 : Nat))]) s := by
  obtain ⟨b, hb⟩ := Option.isSome_iff_exists.1 hbuf
  rw [intoBuffer_eq_afterWrite]
  unfold journalReadOf
  rw [hb]
  refine (if_neg (by omega)).trans ?_
  unfold journalBlocks
  dsimp only
  cases writeBuf q ((upTo (q.w 5)).flatMap fun i => s.blockBytes ((q.w 4 + i) % 128)) s <;> rfl

theorem journalReadOf_of_no_blocks {q : Req} (s : State) (hbuf : q.buf.isSome = true)
    (h : 127 < q.w 4 ∨ q.w 5 = 0 ∨ 128 < q.w 5) : journalReadOf q s = rej 0x0108 s := by
  obtain ⟨b, hb⟩ := Option.isSome_iff_exists.1 hbuf
  unfold journalReadOf
  rw [hb]
  exact if_pos h

/-! ### RETIRE_CLEAR (R448) -/

/-- The unit that RETIRE_CLEAR names. -/
def Req.unit (q : Req) : Word := handleSub (hClass q.hnd) q.idx (q.w 0)

theorem retireClearOf_of_no_subject {q : Req} (s : State) (h : subjectOk (hClass q.hnd) (q.w 0) = false) :
    retireClearOf q s = rej 0x0108 s := if_pos h

theorem retireClearOf_of_unretired {q : Req} {s : State} (hsubject : subjectOk (hClass q.hnd) (q.w 0) = true)
    (h : s.isRetired q.unit = false) : retireClearOf q s = rej 0x03C0 s :=
  (if_neg (by simp [hsubject])).trans (if_pos h)

/-- RETIRE_CLEAR of a unit that is retired meets a forbidden write, and then a cause that is still there. -/
theorem retireClearOf_of_retired {q : Req} {s : State} (hsubject : subjectOk (hClass q.hnd) (q.w 0) = true)
    (hretired : s.isRetired q.unit = true) : retireClearOf q s =
      if s.gated then rej 0x0313 s
      else if s.faultPresent (hClass q.hnd) q.idx (q.w 0) then rej 0x03C1 s
      else
        let t : State := { s with jnl := { s.jnl with
          retired := s.jnl.retired.filter (· ≠ q.unit), mapSaved := s.jnl.retired.filter (· ≠ q.unit),
          causes := adel s.jnl.causes q.unit } }
        .done 0 (res [(0, 2, sat 16 (s.unitCount (hClass q.hnd) q.idx (q.w 0)))])
          (resume (hClass q.hnd) q.idx (q.w 0) ((t.clearFaults q.unit).freeContext q.unit)) :=
  (if_neg (by simp [hsubject])).trans (if_neg (Bool.not_eq_false _ ▸ hretired))

/-! ### RECOVERY_STATUS and CHECK_COUNTERS (R449, R453) -/

theorem recoveryStatusOf_of_free {q : Req} {s : State} (hin : q.w 0 ≤ 7) (hfree : s.jnl.contexts.length ≤ q.w 0) :
    recoveryStatusOf q s = .done 0 (res [(12, 2, (s.jnl.waiting.length : Int))]) s := by
  simp only [recoveryStatusOf, if_neg (Nat.not_lt.2 hin), List.getElem?_eq_none hfree, reads]

theorem recoveryStatusOf_of_context {q : Req} {s : State} {c : Recovery} (hin : q.w 0 ≤ 7)
    (hcontext : s.jnl.contexts[q.w 0]? = some c) : recoveryStatusOf q s = .done 0
      (res [(0, 1, c.phase), (1, 1, c.attempt), (2, 2, c.status), (4, 4, c.unit.toNat),
        (8, 4, (((c.due.getD s.now - s.now) / 1000 : Nat) : Int)), (12, 2, (s.jnl.waiting.length : Int))]) s := by
  simp only [recoveryStatusOf, if_neg (Nat.not_lt.2 hin), hcontext, reads]

/-- CHECK_COUNTERS shows the counts of a structure code; bit 0 of word 1 clears the count of its mismatches. -/
theorem checkCountersOf_of_code {q : Req} (s : State) (hlow : 1 ≤ q.w 0) (hhigh : q.w 0 ≤ 11) : checkCountersOf q s =
    .done 0 (res [(0, 8, (tget s.jnl.checks (q.w 0) (0, 0, none)).1), (8, 8, (tget s.jnl.checks (q.w 0) (0, 0, none)).2.1)])
      (if tst (q.w 1) 0 then { s with jnl := { s.jnl with
        checks := tset s.jnl.checks (q.w 0) (0, (tget s.jnl.checks (q.w 0) (0, 0, none)).2.1,
          (tget s.jnl.checks (q.w 0) (0, 0, none)).2.2) } } else s) := if_neg (by omega)

end Sys2Proof.Machine

open Sys2Proof Sys2Proof.Machine

/-- Settles O40: each case of `journalCases` is the lemma about its command's reply, whose hypotheses the case's condition
gives. -/
theorem journalCommandsAnswer : Obligations.JournalCommandsAnswer := by
  unfold Obligations.JournalCommandsAnswer journalCases
  repeat rw [List.forall_mem_cons]
  refine ⟨?head, ?anchorLow, ?anchorHigh, ?mark, ?statusBeyond, ?entry, ?entryHigh, ?noEntry, ?blocks, ?noBlocks, ?ack,
    ?ackBeyond, ?list, ?clear, ?clearNone, ?clearUnretired, ?clearGated, ?clearPresent, ?context, ?contextUsed,
    ?contextBeyond, ?counters, ?countersClear, ?countersBeyond, List.forall_mem_nil _⟩ <;>
    refine Case.holds_mk (fun _ _ => rfl) fun q s h => ?_
  case head => exact journalStatusOf_of_head s (of_decide_eq_true h)
  case anchorLow => exact journalStatusOf_of_anchor_low s (of_decide_eq_true h)
  case anchorHigh => exact journalStatusOf_of_anchor_high s (of_decide_eq_true h)
  case mark => exact journalStatusOf_of_mark s (of_decide_eq_true h)
  case statusBeyond => exact journalStatusOf_beyond_views s (of_decide_eq_true h)
  case entry =>
    simp only [Bool.and_eq_true, Bool.not_eq_true', decide_eq_true_eq] at h
    obtain ⟨⟨hbuf, hwritten, hheld⟩, hlow⟩ := h
    rw [journalReadOf_of_entry hbuf hwritten hheld, hlow, if_neg Bool.false_ne_true, List.drop_zero]
  case entryHigh =>
    simp only [Bool.and_eq_true, decide_eq_true_eq] at h
    obtain ⟨⟨hbuf, hwritten, hheld⟩, hhigh⟩ := h
    rw [journalReadOf_of_entry hbuf hwritten hheld, if_pos hhigh]
  case noEntry =>
    obtain ⟨hbuf, hnone⟩ := of_decide_eq_true h
    exact journalReadOf_of_no_entry hbuf hnone
  case blocks =>
    simp only [Bool.and_eq_true, decide_eq_true_eq] at h
    obtain ⟨hbuf, hfirst, hsome, hall⟩ := h
    exact journalReadOf_of_blocks s hbuf hfirst hsome hall
  case noBlocks =>
    simp only [Bool.and_eq_true, decide_eq_true_eq] at h
    exact journalReadOf_of_no_blocks s h.1 h.2
  case ack => exact if_neg (Nat.not_le.2 (of_decide_eq_true h))
  case ackBeyond => exact if_pos (of_decide_eq_true h)
  case list => rfl
  case clear =>
    simp only [Bool.and_eq_true, Bool.not_eq_true'] at h
    obtain ⟨⟨⟨hsubject, hretired⟩, hopen⟩, hgone⟩ := h
    exact (retireClearOf_of_retired hsubject hretired).trans
      ((if_neg (Bool.eq_false_iff.1 hopen)).trans (if_neg (Bool.eq_false_iff.1 hgone)))
  case clearNone => exact retireClearOf_of_no_subject s ((Bool.not_eq_true' _).mp h)
  case clearUnretired =>
    simp only [Bool.and_eq_true, Bool.not_eq_true'] at h
    exact retireClearOf_of_unretired h.1 h.2
  case clearGated =>
    simp only [Bool.and_eq_true] at h
    obtain ⟨⟨hsubject, hretired⟩, hgated⟩ := h
    exact (retireClearOf_of_retired hsubject hretired).trans (if_pos hgated)
  case clearPresent =>
    simp only [Bool.and_eq_true, Bool.not_eq_true'] at h
    obtain ⟨⟨⟨hsubject, hretired⟩, hopen⟩, hpresent⟩ := h
    exact (retireClearOf_of_retired hsubject hretired).trans
      ((if_neg (Bool.eq_false_iff.1 hopen)).trans (if_pos hpresent))
  case context =>
    obtain ⟨hin, hfree⟩ := of_decide_eq_true h
    exact recoveryStatusOf_of_free hin hfree
  case contextUsed =>
    simp only [Bool.and_eq_true, decide_eq_true_eq] at h
    obtain ⟨hin, hused⟩ := h
    obtain ⟨c, hc⟩ := Option.isSome_iff_exists.1 hused
    simp only [recoveryStatusOf_of_context hin hc, hc]
  case contextBeyond => exact if_pos (of_decide_eq_true h)
  case counters =>
    simp only [Bool.and_eq_true, Bool.not_eq_true', decide_eq_true_eq] at h
    obtain ⟨⟨hlow, hhigh⟩, hkeep⟩ := h
    rw [checkCountersOf_of_code s hlow hhigh, if_neg (Bool.eq_false_iff.1 hkeep)]
  case countersClear =>
    simp only [Bool.and_eq_true, decide_eq_true_eq] at h
    obtain ⟨⟨hlow, hhigh⟩, hclear⟩ := h
    rw [checkCountersOf_of_code s hlow hhigh, if_pos hclear]
  case countersBeyond => exact if_pos (of_decide_eq_true h)

end

section
/-! The events of Tephra and of the recovery contexts: what each does where its condition holds, and where it changes
nothing. -/

namespace Sys2Proof.Machine

/-! ### JOURNAL_ENTRY_WRITE and RETIRE_MAP_WRITE (R447, R457) -/

/-- Tephra may write: MRAM writes are permitted and PD4 is powered. -/
theorem State.tephra_writes {s : State} (hopen : s.gated = false) (hpowered : s.power.domains.getLsbD 4 = true) :
    ¬s.gated = true ∧ ¬s.power.domains.getLsbD 4 = false :=
  ⟨Bool.eq_false_iff.1 hopen, by simp [hpowered]⟩

theorem execJournalEntryWrite_of_open {v : Bool} {s : State} (hopen : s.gated = false)
    (hpowered : s.power.domains.getLsbD 4 = true) (hwaits : s.jnl.buffer ≠ [])
    (hpass : passes 62 [0x13, (s.jnl.nextSeq : Int)] s = true) :
    execJournalEntryWrite v s = .next (writeEntry v (tephraAt s)) := by
  obtain ⟨hgate, hoff⟩ := State.tephra_writes hopen hpowered
  exact (if_neg (not_or.2 ⟨hgate, not_or.2 ⟨hoff, fun hnone => hwaits hnone.1⟩⟩)).trans
    (congrArg Host.Outcome.next (via_passes hpass))

/-- With none lost the writer takes the oldest entry of the buffer. -/
theorem writeEntry_of_verified {s : State} {e : JEntry} {l : List JEntry} (hlost : s.jnl.lostNew = 0)
    (hbuffer : s.jnl.buffer = e :: l) : writeEntry true s = { writeSlot (some e) s with
      jnl := { (writeSlot (some e) s).jnl with buffer := (writeSlot (some e) s).jnl.buffer.drop 1 } } := by
  simp only [writeEntry, hlost, if_true, hbuffer, List.nil_append, reduceCtorEq, if_false]

/-- A slot that does not read back holds no entry, which stays in the buffer. -/
theorem writeEntry_of_torn {s : State} {e : JEntry} {l : List JEntry} (hlost : s.jnl.lostNew = 0)
    (hbuffer : s.jnl.buffer = e :: l) : writeEntry false s =
      (writeSlot none s).event 14 0x08C0 (res [(0, 6, s.jnl.nextSeq),
        (8, 4, (Config.journalBase + s.jnl.nextSeq / 63 % 128 * 2048 + s.jnl.nextSeq % 63 * 32 : Nat))]) := by
  simp only [writeEntry, hlost, if_true, hbuffer, List.nil_append]

theorem execRetireMapWrite_of_open {s : State} (hopen : s.gated = false)
    (hpowered : s.power.domains.getLsbD 4 = true) (hpass : passes 62 [0x14] s = true) : execRetireMapWrite s =
      .next { passed 62 [0x14] s with jnl := { (passed 62 [0x14] s).jnl with
        mapSaved := (passed 62 [0x14] s).jnl.retired } } :=
  (if_neg (not_or.2 (State.tephra_writes hopen hpowered))).trans (congrArg Host.Outcome.next (via_passes hpass))

/-! ### RECOVERY_CONTEXT_TAKEN (R449) -/

/-- The state in which a waiting fault of a unit other than an output has taken a context. -/
def contextTaken (h : Word) (status : Nat) (rest : List (Word × Nat)) (s : State) : State :=
  { s with jnl := { s.jnl with
    waiting := rest, contexts := s.jnl.contexts ++ [⟨h, status, 1, s.faultCount h, none⟩] } }

theorem execRecoveryContextTaken_of_switch {h : Word} {status : Nat} {rest : List (Word × Nat)} {s : State}
    (hwaits : s.jnl.waiting = (h, status) :: rest) (hroom : s.jnl.contexts.length < 8) (hclass : hClass h = 12) :
    execRecoveryContextTaken s = .next (lsStartBackoff (hIndex h) (contextTaken h status rest s)) := by
  simp only [execRecoveryContextTaken, hwaits, if_neg (Nat.not_le.2 hroom), hclass, contextTaken, Nat.reduceEqDiff,
    if_false]

theorem execRecoveryContextTaken_of_link {h : Word} {status : Nat} {rest : List (Word × Nat)} {s : State}
    (hwaits : s.jnl.waiting = (h, status) :: rest) (hroom : s.jnl.contexts.length < 8) (hclass : hClass h = 9) :
    execRecoveryContextTaken s = .next (linkStartBackoff (hIndex h) (contextTaken h status rest s)) := by
  simp only [execRecoveryContextTaken, hwaits, if_neg (Nat.not_le.2 hroom), hclass, contextTaken, Nat.reduceEqDiff,
    if_false]

theorem execRecoveryContextTaken_of_idle {s : State} (h : s.jnl.waiting = [] ∨ 8 ≤ s.jnl.contexts.length) :
    execRecoveryContextTaken s = .next s := by
  unfold execRecoveryContextTaken
  rcases h with hnone | hfull
  · rw [hnone]
  · cases s.jnl.waiting with
    | nil => rfl
    | cons w r => exact if_pos hfull

end Sys2Proof.Machine

open Sys2Proof Sys2Proof.Machine

/-- Settles O58: each entry of `journalEvents` is the lemma about its event, whose hypotheses the entry's condition
gives. -/
theorem journalEventsTakeEffect : Obligations.JournalEventsTakeEffect := by
  unfold Obligations.JournalEventsTakeEffect
  intro en l h st r
  unfold journalEvents
  repeat rw [List.forall_mem_cons]
  refine ⟨?entry, ?torn, ?entryGated, ?map, ?mapGated, ?switch, ?link, ?idle, List.forall_mem_nil _⟩ <;>
    refine Event.holds_mk fun s hok => ?_
  case entry =>
    simp only [Bool.and_eq_true, Bool.not_eq_true', decide_eq_true_eq] at hok
    obtain ⟨⟨⟨hopen, hpowered⟩, hwaits, hlost, hbuffer⟩, hpass⟩ := hok
    exact (execJournalEntryWrite_of_open hopen hpowered hwaits hpass).trans
      (congrArg Host.Outcome.next (writeEntry_of_verified hlost hbuffer))
  case torn =>
    simp only [Bool.and_eq_true, Bool.not_eq_true', decide_eq_true_eq] at hok
    obtain ⟨⟨⟨hopen, hpowered⟩, hwaits, hlost, hbuffer⟩, hpass⟩ := hok
    exact (execJournalEntryWrite_of_open hopen hpowered hwaits hpass).trans
      (congrArg Host.Outcome.next (writeEntry_of_torn hlost hbuffer))
  case entryGated => exact if_pos (.inl hok)
  case map =>
    simp only [Bool.and_eq_true, Bool.not_eq_true'] at hok
    obtain ⟨⟨hopen, hpowered⟩, hpass⟩ := hok
    exact execRetireMapWrite_of_open hopen hpowered hpass
  case mapGated => exact if_pos (.inl hok)
  case switch =>
    obtain ⟨hwaits, hroom, hclass⟩ := of_decide_eq_true hok
    exact execRecoveryContextTaken_of_switch hwaits hroom hclass
  case link =>
    obtain ⟨hwaits, hroom, hclass⟩ := of_decide_eq_true hok
    exact execRecoveryContextTaken_of_link hwaits hroom hclass
  case idle => exact execRecoveryContextTaken_of_idle (of_decide_eq_true hok)

end

section
/-! The check-value unit (R453) and the journal's buffer (R457). -/

namespace Sys2Proof.Machine

/-! ### A mismatch is counted and raised -/

/-- The state with the check counts of a structure code. -/
def State.setChecks (s : State) (code : Nat) (v : Nat × Nat × Option Nat) : State :=
  { s with jnl := { s.jnl with checks := tset s.jnl.checks code v } }

/-- A mismatch is due to be raised: none was for its code, or the last a second ago. -/
def State.mismatchDue (s : State) (last : Option Nat) : Bool := match last with
  | none => true
  | some t => s.after t 1000000

theorem State.checkFault_eq {s : State} {code n t0 : Nat} {last : Option Nat} (ident : Nat) (hcode : 5 ≤ code)
    (hcounts : tget s.jnl.checks code (0, 0, none) = (n, t0, last)) : s.checkFault code ident =
      if s.mismatchDue last then (s.setChecks code (n + 1, s.time, some s.now)).report 14 0x0101 0
        (res [(0, 1, code), (4, 4, ident), (8, 4, n + 1)])
      else (s.setChecks code (n + 1, s.time, last)).jotRes 0x0101 0 (res [(0, 1, code), (4, 4, ident), (8, 4, n + 1)]) := by
  unfold State.checkFault State.setChecks State.mismatchDue
  rw [hcounts]
  refine (if_neg (Nat.not_lt.2 hcode)).trans ?_
  cases last with
  | none => rfl
  | some t =>
    cases hdue : s.after t 1000000 <;> simp only [hdue, Bool.false_eq_true, if_true, if_false, State.report]

/-! ### The journal's buffer -/

theorem State.jot_of_full {s : State} (code : Nat) (obj : Word) (data : List Byte) (h : 256 ≤ s.jnl.buffer.length) :
    s.jot code obj data = { s with jnl := { s.jnl with lost := s.jnl.lost + 1, lostNew := s.jnl.lostNew + 1 } } :=
  if_neg (Nat.not_lt.2 h)

/-- The entry that is put into a buffer with room. -/
def State.jotted (s : State) (code : Nat) (obj : Word) (data : List Byte) : JEntry :=
  { code := BitVec.ofNat 16 code, time := s.time, obj := obj,
    flags := BitVec.ofNat 16 (bit (!s.clk.timeValid) + 2 * bit s.gated), data := (data ++ [0, 0, 0, 0, 0, 0]).take 6 }

theorem State.jot_of_room {s : State} (code : Nat) (obj : Word) (data : List Byte) (h : s.jnl.buffer.length < 256) :
    s.jot code obj data = { s with jnl := { s.jnl with buffer := s.jnl.buffer ++ [s.jotted code obj data] } } := if_pos h

theorem deferred_of_flags : ∀ timeless gated : Bool,
    (BitVec.ofNat 16 (bit timeless + 2 * bit gated)).getLsbD 1 = gated := by decide

/-- DEFERRED, bit 1 of an entry's flags, is set exactly while MRAM writes are forbidden. -/
theorem State.jotted_deferred (s : State) (code : Nat) (obj : Word) (data : List Byte) :
    (s.jotted code obj data).flags.getLsbD 1 = s.gated := deferred_of_flags _ _

end Sys2Proof.Machine

open Sys2Proof Sys2Proof.Machine

/-- Settles O21: a mismatch without a last raise, or a second after it, is due; within the second it is not. -/
theorem checkMismatchIsCountedAndRaised : Obligations.CheckMismatchIsCountedAndRaised := by
  intro s code ident n t0 last hlow _ hcounts
  have heq := State.checkFault_eq ident hlow hcounts
  constructor
  · intro hdue
    refine heq.trans (if_pos ?_)
    cases last with
    | none => rfl
    | some t => exact hdue.resolve_right (Option.some_ne_none t)
  · rintro t rfl hearly
    exact heq.trans (if_neg (Bool.eq_false_iff.1 hearly))

/-- Settles O22: an entry finds the buffer full, or with room for one more. -/
theorem journalBufferCountsWhatIsLost : Obligations.JournalBufferCountsWhatIsLost := by
  intro s code obj data hsize
  rcases Nat.lt_or_ge s.jnl.buffer.length 256 with hroom | hfull
  · rw [State.jot_of_room code obj data hroom]
    refine ⟨?_, fun hfull => absurd hfull hroom.ne, fun _ =>
      ⟨s.jotted code obj data, rfl, rfl, rfl, rfl, s.jotted_deferred code obj data, rfl⟩⟩
    rw [List.length_append]
    exact hroom
  · rw [State.jot_of_full code obj data hfull]
    exact ⟨hsize, fun _ => ⟨rfl, rfl⟩, fun hroom => absurd hroom (Nat.not_lt.2 hfull)⟩

end

section
/-! The host commands of Fumarole and of the power states (Table 17-9), POWER_STATE_SET among them: what each replies in each
of its cases. -/

namespace Sys2Proof.Machine

/-! ### RULE_STATUS, HEATER_FORCE and WAKE_LOG_READ (R414) -/

/-- What RULE_STATUS shows of rule `r`. -/
def ruleShown (r : Nat) (s : State) : Res :=
  res [(0, 1, bit (s.armed r) + 2 * bit (s.ruleTrue r) + 4 * bit s.power.heater), (1, 1, (s.rule r).conn),
    (2, 2, (s.rule r).raw), (4, 2, (s.rule r).filtered), (8, 4, (s.rule r).firings),
    (12, 4, if (s.rule r).firings = 0 then 0 else sat 32 ((s.now - (s.rule r).lastFire) / 1000))]

theorem ruleStatusOf_of_keep {q : Req} (s : State) (h : tst (q.w 0) 0 = false) :
    ruleStatusOf q s = .done 0 (ruleShown q.idx s) s := congrArg (Reply.done 0 _) (if_neg (Bool.eq_false_iff.1 h))

theorem ruleStatusOf_of_clear {q : Req} (s : State) (h : tst (q.w 0) 0 = true) :
    ruleStatusOf q s = .done 0 (ruleShown q.idx s) (s.setRule q.idx { s.rule q.idx with firings := 0 }) :=
  congrArg (Reply.done 0 _) (if_pos h)

theorem heaterForceOf_of_line {q : Req} {s : State} (hsource : s.lsSrc q.idx = 2) : heaterForceOf q s =
    if 2 < q.w 0 ∨ (q.w 0 ≠ 0 ∧ (q.w 1 = 0 ∨ 86400 < q.w 1)) then rej 0x0108 s
    else .done 0 (res [(0, 1, s.power.force)])
      (updateHeater { s with power := { s.power with force := q.w 0, forceEnd := s.now + 1000000 * q.w 1 } }) :=
  if_neg (not_not_intro hsource)

theorem wakeLogReadOf_of_wake {q : Req} {s : State} {e : WakeEntry} (hin : q.w 0 ≤ 15)
    (hwake : s.power.log[q.w 0]? = some e) : wakeLogReadOf q s =
      .done 0 (res [(0, 1, e.cause), (1, 1, e.rule), (2, 2, e.value), (4, 8, e.time), (12, 4, e.asleep)]) s := by
  simp only [wakeLogReadOf, if_neg (Nat.not_lt.2 hin), hwake, reads]

/-! ### POWER_STATE_SET (R416, R417) -/

/-- POWER_STATE_SET runs on its request as the course of every host command does, and finishes an entry that it began. -/
theorem execPowerStateSet_runs {c : Cmd} {s t : State} {q : Req} (h : Runs (line 0x0F01 .C [0] 1 4) c s q t) :
    execPowerStateSet c s =
      .next (finishEntry s.power.state (conclude (line 0x0F01 .C [0] 1 4) q t (powerStateSetOf q t))) :=
  congrArg (fun u => Host.Outcome.next (finishEntry s.power.state u)) (Host.Outcome.next.inj (host_runs powerStateSetOf h))

/-- A case of POWER_STATE_SET holds where the command replies as the case says. -/
theorem sleepCase_holds {ok : Req → State → Bool} {reply : Req → State → Reply}
    (hreply : ∀ q s, ok q s = true → powerStateSetOf q s = reply q s) (c : Cmd) (s t : State) (q : Req)
    (hruns : Runs (line 0x0F01 .C [0] 1 4) c s q t) (hok : ok q t = true) : exec (.powerStateSet c) s =
      .next (finishEntry s.power.state (conclude (line 0x0F01 .C [0] 1 4) q t (reply q t))) := by
  rw [← hreply q t hok]
  exact execPowerStateSet_runs hruns

theorem powerStateSetOf_of_wake {q : Req} {s : State} (htarget : q.w 0 = 0) (hstate : s.power.state = 2) :
    powerStateSetOf q s = .done 0 (res [(0, 8, s.time)]) (startWake 0 0 0 0 s) :=
  (if_neg (by omega)).trans ((if_pos htarget).trans (if_pos hstate))

theorem powerStateSetOf_of_awake {q : Req} {s : State} (htarget : q.w 0 = 0) (hstate : s.power.state ≤ 1) :
    powerStateSetOf q s = rej 1 s :=
  (if_neg (by omega)).trans ((if_pos htarget).trans (if_neg (by omega)))

theorem powerStateSetOf_of_no_state {q : Req} {s : State} (htarget : q.w 0 = 1 ∨ 3 < q.w 0) (hstate : s.power.state ≤ 3) :
    powerStateSetOf q s = rej 0x0108 s :=
  (if_neg (by omega)).trans ((if_neg (by omega)).trans (if_pos (by omega)))

/-- STANDBY is asked for from RUN or IDLE, or DORMANT from these or from STANDBY. -/
def Req.sleeps (q : Req) (s : State) : Prop := (q.w 0 = 2 ∨ q.w 0 = 3) ∧ s.power.state < q.w 0

/-- Nothing in the power state it is asked from turns such an entry away. -/
theorem Req.sleeps.past_states {q : Req} {s : State} (h : q.sleeps s) (busy wake beyond same next : Reply) :
    (if s.power.state = 4 ∨ s.power.state = 5 then busy else if q.w 0 = 0 then wake
      else if q.w 0 ≠ 2 ∧ q.w 0 ≠ 3 then beyond else if q.w 0 = s.power.state then same else next) = next := by
  obtain ⟨htarget, hstate⟩ := h
  exact (if_neg (by omega)).trans ((if_neg (by omega)).trans ((if_neg (by omega)).trans (if_neg (by omega))))

theorem powerStateSetOf_of_gated {q : Req} {s : State} (hsleeps : q.sleeps s) (hgated : s.gated = true) :
    powerStateSetOf q s = rej 0x0313 s := (hsleeps.past_states ..).trans (if_pos hgated)

/-- Past the refusals by state and by the writes, Table 17-5 decides. -/
theorem powerStateSetOf_of_refused {q : Req} {s : State} {n : Nat} (hsleeps : q.sleeps s) (hopen : s.gated = false)
    (hrefused : s.sleepRefused (q.w 0) = some n) : powerStateSetOf q s = .done 0x03F0 (res [(0, 1, n)]) s := by
  unfold powerStateSetOf
  dsimp only
  rw [hsleeps.past_states, if_neg (Bool.eq_false_iff.1 hopen), hrefused]

/-- The state in which an entry to the power state `target` has begun, with no wake time. -/
def entryBegun (target : Nat) (keep : BitVec 24) (s : State) : State :=
  { s with power := { s.power with state := 5, leftState := target, keep := keep, wakeAt := none } }

/-- With no condition of Table 17-5 against it, and no wake time, the entry begins. -/
theorem powerStateSetOf_of_entry {q : Req} {s : State} (hsleeps : q.sleeps s) (hopen : s.gated = false)
    (hallowed : s.sleepRefused (q.w 0) = none) (hnever : q.w2 2 = 0) : powerStateSetOf q s =
      .done 0 (res [(0, 8, s.time)]) (entryBegun (q.w 0) (BitVec.ofNat 24 (q.w 1))
        (drainAll (if q.w 0 = 3 then orderlySave (keepChannels (BitVec.ofNat 24 (q.w 1)) s)
          else keepChannels (BitVec.ofNat 24 (q.w 1)) s))) := by
  unfold powerStateSetOf
  dsimp only
  rw [hsleeps.past_states, if_neg (Bool.eq_false_iff.1 hopen), hallowed, hnever]
  rfl

end Sys2Proof.Machine

open Sys2Proof Sys2Proof.Machine

/-- Settles O41: each case of `powerCases` is the lemma about its command's reply, whose hypotheses the case's condition
gives. -/
theorem powerCommandsAnswer : Obligations.PowerCommandsAnswer := by
  unfold Obligations.PowerCommandsAnswer powerCases
  repeat rw [List.forall_mem_cons]
  refine ⟨?status, ?rule, ?ruleClear, ?config, ?heater, ?heaterSource, ?heaterBeyond, ?log, ?logBeyond,
    List.forall_mem_nil _⟩ <;>
    refine Case.holds_mk (fun _ _ => rfl) fun q s h => ?_
  case status => rfl
  case rule => exact ruleStatusOf_of_keep s ((Bool.not_eq_true' _).mp h)
  case ruleClear => exact ruleStatusOf_of_clear s h
  case config => exact configSet_fits h
  case heater =>
    obtain ⟨hsource, hsome, hlevel, hlow, hhigh⟩ := of_decide_eq_true h
    exact (heaterForceOf_of_line hsource).trans (if_neg (by omega))
  case heaterSource => exact if_pos (of_decide_eq_true h)
  case heaterBeyond =>
    obtain ⟨hsource, hlevel⟩ := of_decide_eq_true h
    exact (heaterForceOf_of_line hsource).trans (if_pos (.inl hlevel))
  case log =>
    simp only [Bool.and_eq_true, decide_eq_true_eq] at h
    obtain ⟨hin, hsome⟩ := h
    obtain ⟨e, he⟩ := Option.isSome_iff_exists.1 hsome
    simp only [wakeLogReadOf_of_wake hin he, he]
  case logBeyond => exact if_pos (of_decide_eq_true h)

/-- Settles O42: each case of `sleepCases` is the lemma about the reply of POWER_STATE_SET, whose hypotheses the case's
condition gives. -/
theorem powerStateSetAnswers : Obligations.PowerStateSetAnswers := by
  unfold Obligations.PowerStateSetAnswers sleepCases
  repeat rw [List.forall_mem_cons]
  refine ⟨?standby, ?dormant, ?wake, ?awake, ?refused, ?gated, ?noState, List.forall_mem_nil _⟩ <;>
    refine sleepCase_holds fun q s h => ?_ <;>
    dsimp only at h ⊢
  case standby =>
    simp only [Bool.and_eq_true, Bool.not_eq_true', decide_eq_true_eq] at h
    obtain ⟨⟨htarget, hstate, hallowed, hnever⟩, hopen⟩ := h
    rw [powerStateSetOf_of_entry ⟨.inl htarget, by omega⟩ hopen (htarget ▸ hallowed) hnever, htarget, if_neg (by decide)]
    rfl
  case dormant =>
    simp only [Bool.and_eq_true, Bool.not_eq_true', decide_eq_true_eq] at h
    obtain ⟨⟨htarget, hstate, hallowed, hnever⟩, hopen⟩ := h
    rw [powerStateSetOf_of_entry ⟨.inr htarget, by omega⟩ hopen (htarget ▸ hallowed) hnever, htarget, if_pos rfl]
    rfl
  case wake =>
    obtain ⟨htarget, hstate⟩ := of_decide_eq_true h
    exact powerStateSetOf_of_wake htarget hstate
  case awake =>
    obtain ⟨htarget, hstate⟩ := of_decide_eq_true h
    exact powerStateSetOf_of_awake htarget hstate
  case refused =>
    simp only [Bool.and_eq_true, Bool.not_eq_true', decide_eq_true_eq] at h
    obtain ⟨⟨⟨htarget, hstate⟩, hopen⟩, hrefused⟩ := h
    obtain ⟨n, hn⟩ := Option.isSome_iff_exists.1 hrefused
    rw [powerStateSetOf_of_refused ⟨.inl htarget, by omega⟩ hopen (htarget ▸ hn), hn]
    rfl
  case gated =>
    simp only [Bool.and_eq_true, decide_eq_true_eq] at h
    obtain ⟨⟨htarget, hstate⟩, hgated⟩ := h
    exact powerStateSetOf_of_gated ⟨.inl htarget, by omega⟩ hgated
  case noState =>
    obtain ⟨htarget, hstate⟩ := of_decide_eq_true h
    exact powerStateSetOf_of_no_state htarget hstate

end

section
/-! The events of Fumarole and of the power states: what each does where its condition holds, and where it changes
nothing. -/

namespace Sys2Proof.Machine

/-! ### RULE_SAMPLE (R413) -/

/-- The rule after a sample with the filtered value `y`. -/
def ruleSampled (r c : Nat) (raw y : Int) (s : State) : Rule :=
  { (filterSample r c raw s).2.2 with
    raw := raw, sampled := tset (filterSample r c raw s).2.2.sampled c s.now, filtered := y,
    result := tset (filterSample r c raw s).2.2.result c (filterSample r c raw s).2.1,
    evaluated := tset (filterSample r c raw s).2.2.evaluated c true }

/-- A rule that is configured. -/
def State.ruleSet (s : State) (r : Nat) : Prop := r < 32 ∧ s.ruFld r 0 1 ≠ 0

theorem State.ruleSet.not_idle {s : State} {r : Nat} (h : s.ruleSet r) : ¬(32 ≤ r ∨ s.ruFld r 0 1 = 0) :=
  not_or.2 ⟨Nat.not_le.2 h.1, h.2⟩

/-- A due sample of an armed rule whose filtered value changes its result is an edge. -/
theorem execRuleSample_of_edge {r conn c : Nat} {raw y : Int} {s : State} (hrule : s.ruleSet r) (harmed : s.armed r = true)
    (hconn : s.sampleConn r conn = some c) (hdue : s.sampleDue r c = true) (hvalue : (filterSample r c raw s).1 = some y)
    (hedge : (filterSample r c raw s).2.1 ≠ tget (s.rule r).result c false) : execRuleSample r conn raw s =
      .next (updateHeater (ruleEdge ⟨r, (filterSample r c raw s).2.1, c, y, s.now⟩
        (s.setRule r (ruleSampled r c raw y s)))) := by
  simp only [execRuleSample, if_neg hrule.not_idle, harmed, reduceCtorEq, if_false, hconn, hdue, hvalue, if_neg hedge]
  rfl

/-- A rule that is not armed forgets its result. -/
theorem execRuleSample_of_unarmed {r : Nat} {s : State} (conn : Nat) (raw : Int) (hrule : s.ruleSet r)
    (hunarmed : s.armed r = false) : execRuleSample r conn raw s = .next (updateHeater (forgetRule r s)) :=
  (if_neg hrule.not_idle).trans (if_pos hunarmed)

/-! ### WAKE_N and WAKE_TIME (R420) -/

/-- In STANDBY and DORMANT a wake starts, unless the device shuts down. -/
theorem startWake_of_asleep {s : State} (cause rule : Nat) (value : Int) (mask : BitVec 12)
    (hup : s.boot.shutdown = false) (hasleep : s.power.state = 2 ∨ s.power.state = 3) :
    startWake cause rule value mask s = { s with
      power := { s.power with
        state := 4, since := s.now, leftState := s.power.state, cause := cause, wakes := bump32 s.power.wakes,
        wakeRule := rule, wakeValue := value, wakeMask := mask, wakeAt := none,
        log := (⟨cause, rule, value, s.time, (s.now - s.power.since) / 1000000⟩ :: s.power.log).take 16 }
      clk := { s.clk with multOn := true } } :=
  (if_neg (Bool.eq_false_iff.1 hup)).trans ((if_neg (by omega)).trans (if_pos hasleep))

theorem execWakeN_of_low {s : State} {held : Nat} (henabled : s.fumFlag 2 = true) (hheld : 100 ≤ held) :
    execWakeN s held = .next (startWake 2 0 0 runMask s) := congrArg Host.Outcome.next (if_pos ⟨henabled, hheld⟩)

theorem execWakeN_of_none {s : State} {held : Nat} (h : s.fumFlag 2 = false ∨ held < 100) : execWakeN s held = .next s := by
  refine congrArg Host.Outcome.next (if_neg ?_)
  rintro ⟨henabled, hheld⟩
  rcases h with hoff | hshort
  · exact Bool.false_ne_true (hoff.symm.trans henabled)
  · omega

/-- The wake time is compared with site time while that is valid. -/
theorem execWakeTime_of_site {s : State} {t u : Nat} (hwake : s.power.wakeAt = some (t, u))
    (hvalid : s.clk.timeValid = true) (hreached : t ≤ s.clk.tai) : execWakeTime s = .next (startWake 3 0 0 0 s) := by
  simp only [execWakeTime, hwake, hvalid, hreached, if_true]

/-- The wake time is compared with AON time while site time is invalid. -/
theorem execWakeTime_of_aon {s : State} {t u : Nat} (hwake : s.power.wakeAt = some (t, u))
    (hinvalid : s.clk.timeValid = false) (hreached : u ≤ s.now) : execWakeTime s = .next (startWake 3 0 0 0 s) := by
  simp only [execWakeTime, hwake, hinvalid, hreached, Bool.false_eq_true, if_false, if_true]

theorem execWakeTime_of_none {s : State} (h : s.power.wakeAt = none) : execWakeTime s = .next s := by
  simp only [execWakeTime, h]

/-! ### DOMAIN_RELEASED and IDLE_ENTRY (R410, R411, R420) -/

/-- The state in which a domain has been released. -/
def domainOn (d : Nat) (s : State) : State :=
  onRelease d { s with power := { s.power with domains := s.power.domains ||| BitVec.ofNat 12 (2 ^ d) } }

/-- With the last domain of RUN the device is in RUN. -/
theorem execDomainReleased_of_releasable {d : Nat} {s : State} (h : s.releasable d = true) : execDomainReleased d s =
    .next (if (domainOn d s).power.domains &&& runMask = runMask
      then updateHeater (powerTo 0 (domainOn d s).power.cause (domainOn d s).power.wakeRule (domainOn d s))
      else domainOn d s) := if_neg (by simp [h])

end Sys2Proof.Machine

open Sys2Proof Sys2Proof.Machine

/-- Settles O59: each entry of `powerEvents` is the lemma about its event, whose hypotheses the entry's condition
gives. -/
theorem powerEventsTakeEffect : Obligations.PowerEventsTakeEffect := by
  unfold Obligations.PowerEventsTakeEffect
  intro r conn c d tWake raw y uWake held
  unfold powerEvents
  repeat rw [List.forall_mem_cons]
  refine ⟨?edge, ?unarmed, ?noRule, ?wakeN, ?noWakeN, ?wakeSite, ?wakeAon, ?noWake, ?released, ?run, ?notReleased, ?idle,
    ?noIdle, ?heaterEnd, ?noHeater, ?drain, ?noDrain, List.forall_mem_nil _⟩ <;>
    refine Event.holds_mk fun s h => ?_
  case edge =>
    simp only [Bool.and_eq_true, decide_eq_true_eq] at h
    obtain ⟨⟨⟨hslot, hsource, hconn, hvalue, hedge⟩, harmed⟩, hdue⟩ := h
    exact execRuleSample_of_edge ⟨hslot, hsource⟩ harmed hconn hdue hvalue hedge
  case unarmed =>
    simp only [Bool.and_eq_true, Bool.not_eq_true', decide_eq_true_eq] at h
    exact execRuleSample_of_unarmed conn raw h.1 h.2
  case noRule => exact if_pos (.inr (of_decide_eq_true h))
  case wakeN =>
    simp only [Bool.and_eq_true, Bool.not_eq_true', decide_eq_true_eq] at h
    obtain ⟨⟨⟨henabled, hheld⟩, hup⟩, hasleep⟩ := h
    exact (execWakeN_of_low henabled hheld).trans
      (congrArg Host.Outcome.next (startWake_of_asleep 2 0 0 runMask hup hasleep))
  case noWakeN =>
    simp only [Bool.or_eq_true, Bool.not_eq_true', decide_eq_true_eq] at h
    exact execWakeN_of_none h
  case wakeSite =>
    simp only [Bool.and_eq_true, decide_eq_true_eq] at h
    obtain ⟨⟨hwake, hvalid⟩, hreached⟩ := h
    exact execWakeTime_of_site hwake hvalid hreached
  case wakeAon =>
    simp only [Bool.and_eq_true, Bool.not_eq_true', decide_eq_true_eq] at h
    obtain ⟨⟨hwake, hinvalid⟩, hreached⟩ := h
    exact execWakeTime_of_aon hwake hinvalid hreached
  case noWake => exact execWakeTime_of_none (of_decide_eq_true h)
  case released =>
    simp only [Bool.and_eq_true, decide_eq_true_eq] at h
    exact (execDomainReleased_of_releasable h.1).trans (congrArg Host.Outcome.next (if_neg h.2))
  case run =>
    simp only [Bool.and_eq_true, decide_eq_true_eq] at h
    exact (execDomainReleased_of_releasable h.1).trans (congrArg Host.Outcome.next (if_pos h.2))
  case notReleased => exact if_pos ((Bool.not_eq_true' _).mp h)
  case idle =>
    simp only [Bool.and_eq_true, Bool.not_eq_true', decide_eq_true_eq] at h
    obtain ⟨⟨⟨⟨⟨⟨⟨hrun, hepoch⟩, hauto⟩, houts⟩, hsettled⟩, hgeyser⟩, hidle⟩, hsince⟩ := h
    exact if_pos ⟨hrun, hepoch, hauto, houts, hsettled, hgeyser, hidle, hsince⟩
  case noIdle => exact if_neg fun hidle => by simp [hidle.2.2.1] at h
  case heaterEnd => exact if_pos (of_decide_eq_true h)
  case noHeater => exact if_neg fun hforced => hforced.1 (of_decide_eq_true h)
  case drain => exact congrArg Host.Outcome.next (if_pos h)
  case noDrain => exact congrArg Host.Outcome.next (if_neg (Bool.eq_false_iff.1 ((Bool.not_eq_true' _).mp h)))

end

section
/-! No command and no event faults or is refused: whatever a row of the machine decides, each way out of it is a next
state (R53). -/

namespace Sys2Proof.Machine

theorem safe_next (t : State) : Safe (.next t) := ⟨t, rfl⟩

theorem safe_ite {p : Prop} [Decidable p] {a b : Out} (ha : Safe a) (hb : Safe b) : Safe (if p then a else b) := by
  split
  · exact ha
  · exact hb

/-- A host command's row is one next state: how it ends is in the state, not in the outcome. -/
theorem safe_host (i : CmdInfo) (c : Cmd) (f : Req → State → Reply) (s : State) : Safe (host i c f s) := safe_next _

/-- Every row gives a next state. The rows of events, and of the commands that are more than `host`, are opened down to
their outcomes; a state that an outcome holds is not looked into, so the cases are only those of the row's own conditions. -/
theorem exec_safe (i : Instr) (s : State) : Safe (exec i s) := by
  cases i
  all_goals dsimp only [exec,
    -- load switches
    execLsShort, execLsOverload, execLsThermal, execLsThermalRestart, execLsDieOvertemp, execLsOpenLoad, execLsSupply,
    execInrushWindowEnd, execVlsDroop, execDroopPauseEnd, execLsBurstRetry, execLsBurstEnd, execLsBackoffExpire,
    execLsLinkLost, execLsLinkRestored, execLsLimp, execLhinChange,
    -- phase array
    execPhaseTurnOn, execComparatorTurnOff, execMaxonEnd, execBlankingEnd, execSignHoldEnd, execPhaseShed,
    execPhaseRestore, execReloadPoint, execQ39ReferenceEntry, execSyncInEdge, execSyncLost, execPodTrip, execDebugHalt,
    execPodDisableRampEnd,
    -- outputs
    execContactorCloseRequest, execContactorTimeout, execSoftStartDone, execOutputShort, execStopRampEnd,
    execOutputRetry, execPodReply, execPodPoll, execReassignRampOutDone, execSwAnswerTimeout, execMatchTimeout,
    execSwitchTimeout, execReassignRampInDone,
    -- links
    execLinkFaultBackoffEnd, execPilotChange, execPilotReadbackFault, execProximityWithoutPilot, execVehicleFrame,
    execToneMapRefreshDue, execSlacMessage, execSlacFailed, execRestartFStepEnd, execLinkIdleTimeout, execRelinkTimeout,
    execLinkDriverFault,
    -- sessions
    execQuestionTimeout, execV2gMessage, execReqPeriodExpire, execVehicleStopTimeout,
    -- safety
    execVoteMismatch, execSafetyFrameBoundary, execCheckpointValid, execSparePowered, execSpareSelfTestDone,
    execSpareCheckpointLoaded, execSpareCaughtUp, execSparePromoted, execSpareFailed, execParkedSelfTestDone,
    execSafetyStartupTestDone, execSafetyInputChange, execInputDiscrepancy, execTestPulseMissed, execTestPulse,
    execSoutStuck, registerLimits, execVehicleLimitRegister, execVehicleLimitLowered, execVehicleLimit,
    execInsulationPassed, execEncoderEdge, execSafeMessageTransmit, execSafeMessageReceive, execSafeMsgSkewExpire,
    execSafeMsgLost, execNormalSafeStateEscalate, execEmergencyContactorOpen, execTHoldExpire,
    -- Geyser and loops
    execGeyserDone, execLoopMeasLost, execSlotSample, execLoopFollowing,
    -- the tree and the solver
    execSensorRetired, execAllocOverrun, execGrantBlockPublish, execPeriodBoundary, execCurtailExpire,
    execGrantExceeded,
    -- metrology
    execRecordSigned, execSampleBoundary, execPeriodicSave, execTotaliserAnchorWrite, execPowerFailWarning,
    execPowerFailRepeatSave, execPowerFailWithdrawn,
    -- the field bus
    execHbNode, execNodeAbsent, execNodeReport, execHbCtrlSend, execStageResult, execCommitAck,
    execCommitAnnounceResend, execCanBusError, execBusOffRecovered, execPortRejoin, execDuplicateQuietEnd,
    execCanTransmitDone, execHostFrameReceive, execRxHoldExpire,
    -- time, digests and epochs
    execPtpMessage, execHoldoverExpire, execPpsInEdge, execDigestReadback, execStageTimeout, execEpochTick,
    execEpochMarkWrite,
    -- the seat window and the queues
    execSeatReset, execHeartbeatWrite, execDoorbell, execIntStatusClear, execResetCauseRead, execRegisterWrite,
    execSgmiiSeatFrame, execCompletionResend, execSpiBadOpcode, execContTimeout, execExecTimeout, execSeatAbsent,
    execCqStall, execEventsLost, execBadOpcode,
    -- keys and the random source
    execKeyOperationDone, execCryptoResultDiscard, execStaleKeyFree, execKeyReload, execKeyMaskRefresh, execDrbgReseed,
    execRandomResume,
    -- journal and memory
    execJournalEntryWrite, execRetireMapWrite, execRecoveryContextTaken,
    -- power states and rules
    execWakeN, execWakeTime, execRuleSample, execFumaroleBufferDrain, execIdleEntry, execPowerStateSet,
    execDomainReleased, execHeaterForceEnd,
    -- converters and stalls
    execAinConversion, execCompareTrigger, execDieTempSample, execQueueStall,
    -- boot, clocks and resets
    execPowerOnReset, execPorstNAsserted, execSupplyBrownout, execClockMonitorFault, execClockFaultReset,
    execMultiplierLock, execReferenceReturn, execVoterSafeSoutDrop, execCoreWatchdog, execFirmwareStart, execResetCmd]
  all_goals repeat' first | with_reducible exact safe_next _ | with_reducible refine safe_ite ?_ ?_ | split
  all_goals exact safe_host ..

end Sys2Proof.Machine

open Sys2Proof Sys2Proof.Machine

/-- Settles O3: whichever row a command or an event has, each of its outcomes is a next state. -/
theorem everyCommandCompletes : Obligations.EveryCommandCompletes := exec_safe

end

section
/-! The course of a host command from its packet to its meaning (R40 to R53): one equation for each way in which it ends
before the meaning, and what the course leaves of the device. -/

namespace Sys2Proof.Machine

/-! ### The host interface apart -/

/-- The two states differ in the host interface at most. -/
def State.sameDevice (s t : State) : Prop := t = { s with hostIf := t.hostIf }

theorem State.sameDevice.refl (s : State) : s.sameDevice s := rfl

theorem State.sameDevice.trans {s t u : State} (hst : s.sameDevice t) (htu : t.sameDevice u) : s.sameDevice u :=
  calc u = { t with hostIf := u.hostIf } := htu
    _ = { s with hostIf := u.hostIf } := by rw [hst]

theorem State.sameDevice.power {s t : State} (h : s.sameDevice t) : t.power = s.power := by rw [h]
theorem State.sameDevice.boot {s t : State} (h : s.sameDevice t) : t.boot = s.boot := by rw [h]

theorem State.setRing_sameDevice (s : State) (n k : Nat) (r : Ring) : s.sameDevice (s.setRing n k r) := rfl

theorem State.answer_sameDevice (s : State) (n k : Nat) (tag : Word) (op st : Nat) (r : Res) :
    s.sameDevice (s.answer n k tag op st r) := s.answer_frame n k tag op st r

theorem dequeue_sameDevice (c : Cmd) (s : State) : s.sameDevice (dequeue c s) := rfl

theorem endCont_sameDevice (n k status : Nat) (s : State) : s.sameDevice (endCont n k status s) := by
  unfold endCont
  split
  · exact .refl s
  · exact (s.setRing_sameDevice n k _).trans (State.answer_sameDevice ..)

theorem countEcc_sameDevice (c : Cmd) (s : State) : s.sameDevice (countEcc c s) := by
  unfold countEcc
  split <;> rfl

/-- A mismatch of a packet or a buffer (codes below 5) is counted, and nothing is reported (R453). -/
theorem countMismatch_power_boot (n : Nat) {code : Nat} (s : State) (h : code < 5) :
    (countMismatch n code s).power = s.power ∧ (countMismatch n code s).boot = s.boot := by
  simp [countMismatch, State.checkFault, h]

theorem countMismatch_ring (n : Nat) {code : Nat} (s : State) (h : code < 5) (m k : Nat) :
    (countMismatch n code s).ring m k = s.ring m k := by
  simp only [countMismatch, State.checkFault, h, if_true]
  rfl

theorem State.jot_power_boot (s : State) (code : Nat) (obj : Word) (data : List Byte) :
    (s.jot code obj data).power = s.power ∧ (s.jot code obj data).boot = s.boot := by
  unfold State.jot
  split <;> exact ⟨rfl, rfl⟩

theorem State.jot_ring (s : State) (code : Nat) (obj : Word) (data : List Byte) (n k : Nat) :
    (s.jot code obj data).ring n k = s.ring n k := by
  unfold State.jot
  split <;> rfl

/-- What a packet with a wrong check leaves before its completion is posted: the flag, the count and the journal (R40). -/
theorem badCheck_power_boot (opcode : Nat) (c : Cmd) (s : State) :
    (badCheck opcode c s).power = s.power ∧ (badCheck opcode c s).boot = s.boot := by
  unfold badCheck
  have hsame := State.answer_sameDevice
  have hcount := countMismatch_power_boot c.seat (code := 1) (s.setInt c.seat flagCheck) (by decide)
  constructor
  · exact (hsame ..).power.trans ((State.jot_power_boot ..).1.trans hcount.1)
  · exact (hsame ..).boot.trans ((State.jot_power_boot ..).2.trans hcount.2)

theorem badCheck_cont (opcode : Nat) (c : Cmd) (s : State) (n k : Nat) :
    ((badCheck opcode c s).ring n k).cont = (s.ring n k).cont := by
  unfold badCheck
  rw [State.answer_cont, State.jot_ring, countMismatch_ring _ _ (by decide), State.setInt_ring]

theorem drainEnd_sameDevice (c : Cmd) (k : Taken) (s : State) : s.sameDevice (drainEnd c k s) := by
  unfold drainEnd
  split
  · exact endCont_sameDevice ..
  · exact .refl s

/-! ### Packets (R40, R41) -/

/-- The queues of a seat follow from the configuration and the boot state: dequeuing leaves them. -/
theorem dequeue_queueDef (c : Cmd) (s : State) (n k : Nat) : (dequeue c s).queueDef n k = s.queueDef n k := rfl

theorem hostStep_of_not_ready {i : CmdInfo} {c : Cmd} {s : State} (f : Req → State → Reply)
    (h : ready i.opcode c s = false) : hostStep i c f s = s := if_neg (by simp [h])

/-- A partial command is dropped only where there is one. -/
theorem endCont_of_none {n k : Nat} {s : State} (status : Nat) (h : (s.ring n k).cont = none) :
    endCont n k status s = s := by
  simp only [endCont, h]

/-- The only packet, or the last, of a command starts it. -/
theorem startCmd_of_last {i : CmdInfo} {c : Cmd} (k : Taken) (f : Req → State → Reply) (s : State)
    (h : c.pkt.flags.getLsbD 0 = false) : startCmd i c k f s = runCmd i c (pktGiven c.pkt k) f s :=
  if_neg (by rw [h]; exact Bool.false_ne_true)

/-- Without a partial command in its queue, a packet starts one. -/
theorem assemble_of_alone {i : CmdInfo} {c : Cmd} (k : Taken) (f : Req → State → Reply) {s : State}
    (h : (s.ring c.seat c.queue).cont = none) : assemble i c k f s = startCmd i c k f s := by
  simp only [assemble, h]

/-- How a command that arrives came: with a right check from a ring that is not draining, and its packets assembled run as
the command they give; up to there the host interface alone changed. -/
theorem arrives_course {i : CmdInfo} {c : Cmd} {s t : State} {g : Given} (h : arrives i c s = some (g, t)) :
    (ready i.opcode c s = true ∧ checkRight i.opcode c s = true ∧ (s.ring c.seat c.queue).draining = false) ∧
    g.taken.drained = false ∧ s.sameDevice t ∧
    ∀ f, assemble i c ⟨false, (s.ring c.seat c.queue).bellOf 0⟩ f (dequeue c s) = runCmd i c g f t := by
  have hdequeue := dequeue_sameDevice c s
  unfold arrives at h
  split at h
  case isFalse => cases h
  case isTrue hguard =>
  simp only [Bool.and_eq_true, Bool.not_eq_true'] at hguard
  obtain ⟨⟨⟨hready, hdrain⟩, hcheck⟩, hlast⟩ := hguard
  refine ⟨⟨hready, hcheck, hdrain⟩, ?_⟩
  dsimp only at h
  split at h
  case h_1 halone =>
    obtain ⟨rfl, rfl⟩ := Prod.mk.inj (Option.some.inj h)
    exact ⟨rfl, hdequeue, fun f => by rw [assemble_of_alone _ f halone, startCmd_of_last _ f _ hlast]⟩
  case h_2 w hpartial =>
  split at h
  case isTrue hjoins =>
    obtain ⟨rfl, rfl⟩ := Prod.mk.inj (Option.some.inj h)
    refine ⟨rfl, hdequeue.trans (State.setRing_sameDevice ..), fun f => ?_⟩
    simp only [assemble, hpartial, hjoins, hlast, Bool.false_eq_true, if_true, if_false]
  case isFalse hbreaks =>
    obtain ⟨rfl, rfl⟩ := Prod.mk.inj (Option.some.inj h)
    refine ⟨rfl, hdequeue.trans (endCont_sameDevice ..), fun f => ?_⟩
    rw [← startCmd_of_last _ f _ hlast]
    simp only [assemble, hpartial, hbreaks, Bool.false_eq_true, if_false]

/-- A command that arrives runs. -/
theorem hostStep_of_arrives {i : CmdInfo} {c : Cmd} {s t : State} {g : Given} (f : Req → State → Reply)
    (h : arrives i c s = some (g, t)) : hostStep i c f s = runCmd i c g f t := by
  obtain ⟨⟨hready, hcheck, hdrain⟩, -, -, hrun⟩ := arrives_course h
  simp [hostStep, drainEnd, hready, hcheck, hdrain, hrun]

/-- A packet whose check fails, whatever its ring (R40): `drainEnd` matters in a draining ring alone. -/
theorem hostStep_of_bad_check {i : CmdInfo} {c : Cmd} {s : State} {d : QueueDef} (f : Req → State → Reply)
    (hready : ready i.opcode c s = true) (hqueue : s.queueDef c.seat c.queue = some d)
    (hcheck : packetCheck d.qnum (s.ring c.seat c.queue).seq i.opcode c.pkt ≠ c.pkt.check.toNat) :
    hostStep i c f s = drainEnd c ⟨(s.ring c.seat c.queue).draining, (s.ring c.seat c.queue).bellOf 0⟩
      (badCheck i.opcode c (dequeue c s)) := by
  have hwrong : checkRight i.opcode c s = false := by simp [checkRight, hqueue, hcheck]
  simp [hostStep, hready, hwrong]

/-! ### Checks and buffer (R53, R42) -/

theorem firstOf_nil : firstOf [] = none := rfl

theorem firstOf_cons (b : Bool) (st : Nat) (l : List (Bool × Nat)) :
    firstOf ((b, st) :: l) = if b = true then some st else firstOf l := by
  cases b <;> rfl

/-- The checks of a packet that was not drained are those of the spec's list, in its order. -/
theorem checks_eq_firstOf {i : CmdInfo} {g : Given} (q : Req) (s : State) (h : g.taken.drained = false) :
    checks i g q s = firstOf (checkList i g q s) := by
  have hspan : (if g.flags.getLsbD 1 then decide (i.loB ≤ g.params.length ∧ g.params.length ≤ i.hiB)
      else decide (i.lo ≤ g.params.length ∧ g.params.length ≤ i.hi)) = false ↔
      (!g.flags.getLsbD 1 && decide (g.params.length < i.lo ∨ i.hi < g.params.length)) = true ∨
      (g.flags.getLsbD 1 && decide (g.params.length < i.loB ∨ i.hiB < g.params.length)) = true := by
    cases g.flags.getLsbD 1 <;> simp <;> omega
  have hserved : (¬ (i.known = true) ∨ s.boot.recovery = true ∧
      ¬ (recoveryOps.contains i.opcode = true ∧ (i.opcode = 0x0104 → q.w 0 = 1))) ↔
      (!i.known || s.boot.recovery && (!recoveryOps.contains i.opcode || decide (i.opcode = 0x0104 ∧ q.w 0 ≠ 1))) = true := by
    cases recoveryOps.contains i.opcode <;> simp
  unfold checks checkList
  simp only [h, hspan, hserved, firstOf_cons, firstOf_nil, ite_or]
  simp

theorem runCmd_of_check {i : CmdInfo} {c : Cmd} {g : Given} (f : Req → State → Reply) {s : State} {st : Nat}
    (h : checks i g (g.req i c (s.hostIf.order - 1)) s = some st) :
    runCmd i c g f s = s.answer c.seat c.queue g.tag i.opcode st 0 := by
  simp only [runCmd, h]

theorem runCmd_of_ecc {i : CmdInfo} {c : Cmd} {g : Given} (f : Req → State → Reply) {s : State}
    (hchecks : checks i g (g.req i c (s.hostIf.order - 1)) s = none) (hecc : eccLost c = true) :
    runCmd i c g f s = (countEcc c s).answer c.seat c.queue g.tag i.opcode 0x0802 0 := by
  simp only [runCmd, hchecks, hecc, if_true]

theorem runCmd_of_buffer {i : CmdInfo} {c : Cmd} {g : Given} (f : Req → State → Reply) {s : State} {st : Nat}
    (hchecks : checks i g (g.req i c (s.hostIf.order - 1)) s = none) (hecc : eccLost c = false)
    (hbuffer : bufferOf i c (g.req i c (s.hostIf.order - 1)) (countEcc c s) = .error st) :
    runCmd i c g f s = (if st = 0x0101 then countMismatch c.seat 3 (countEcc c s) else countEcc c s).answer c.seat c.queue
      g.tag i.opcode st 0 := by
  simp only [runCmd, hchecks, hecc, hbuffer, Bool.false_eq_true, if_false]

theorem countEcc_seatDef (c : Cmd) (s : State) (n : Nat) : (countEcc c s).seatDef n = s.seatDef n := by
  unfold countEcc
  split <;> rfl

/-- The first failure of the descriptor in the spec's list (R42) is the one that the buffer's reading names. -/
theorem bufferOf_of_firstOf {i : CmdInfo} {c : Cmd} {q : Req} {s : State} {d : SeatCfg} {st : Nat}
    (hbuf : q.flags.getLsbD 1 = true) (hreads : i.bufIn = true) (hseat : s.seatDef q.seat = some d)
    (h : firstOf (bufferList c q d) = some st) : bufferOf i c q s = .error st := by
  simp only [bufferList, firstOf_cons, firstOf_nil, decide_eq_true_eq] at h
  unfold bufferOf
  simp only [hbuf, hreads, hseat, Bool.true_eq_false, if_false, if_true, decide_eq_true_eq]
  split_ifs at h ⊢ <;> cases h <;> rfl

/-! ### A host command that does not reach its meaning -/

/-- Where the course leaves the power and boot state, exec answers what it gives: the entry into a power state and the reset
that may follow a completion do nothing. -/
theorem exec_hostCase_of_hostStep {e : Case} (he : e ∈ hostCases) {c : Cmd} {s t : State}
    (hcourse : ∀ f, hostStep e.info c f s = t) (hpower : t.power = s.power) (hboot : t.boot = s.boot) :
    exec (e.cmd c) s = .next t := by
  obtain ⟨f, after, hexec, hafter⟩ := hostCases_host e he
  rw [hexec, hcourse f, hafter s t hpower hboot]

/-- A command that arrives and ends before its meaning completes so, and nothing else happens. -/
theorem exec_hostCase_of_arrives {e : Case} (he : e ∈ hostCases) {c : Cmd} {s t u : State} {g : Given}
    (harrives : arrives e.info c s = some (g, t)) (hcourse : ∀ f, runCmd e.info c g f t = u)
    (hpower : u.power = t.power) (hboot : u.boot = t.boot) : exec (e.cmd c) s = .next u := by
  obtain ⟨-, -, hsame, -⟩ := arrives_course harrives
  exact exec_hostCase_of_hostStep he (fun f => (hostStep_of_arrives f harrives).trans (hcourse f))
    (hpower.trans hsame.power) (hboot.trans hsame.boot)

/-- Before its meaning a command changes the host interface alone. -/
theorem admitted_sameDevice {i : CmdInfo} {c : Cmd} {s t : State} {q : Req} (h : admitted i c s = some (q, t)) :
    s.sameDevice t := by
  unfold admitted at h
  split at h
  case h_1 => cases h
  case h_2 g u harrives =>
  obtain ⟨-, -, hsame, -⟩ := arrives_course harrives
  dsimp only at h
  split at h
  case isTrue => cases h
  case isFalse =>
  split at h
  case h_1 => cases h
  case h_2 b hbuffer =>
  obtain ⟨rfl, rfl⟩ := Prod.mk.inj (Option.some.inj h)
  exact hsame.trans (countEcc_sameDevice c u)

theorem State.settleAll_sameDevice (s : State) : s.sameDevice s.settleAll := s.settle_frame _

/-- The completion of a command, and of those that waited for it, is the host interface's alone. -/
theorem conclude_done_sameDevice (i : CmdInfo) (q : Req) (s : State) (st : Nat) (r : Res) (u : State) :
    u.sameDevice (conclude i q s (.done st r u)) :=
  (u.answer_sameDevice q.seat q.queue q.tag i.opcode st r).trans (State.settleAll_sameDevice _)

/-- A packet of a draining ring that is a whole command completes with SEAT_ABSENT (R63). -/
theorem hostStep_of_draining {i : CmdInfo} {c : Cmd} {s : State} (f : Req → State → Reply)
    (hready : ready i.opcode c s = true) (hdrain : (s.ring c.seat c.queue).draining = true)
    (hcheck : checkRight i.opcode c s = true) (hlast : c.pkt.flags.getLsbD 0 = false)
    (halone : (s.ring c.seat c.queue).cont = none) :
    hostStep i c f s = (dequeue c s).answer c.seat c.queue c.pkt.tag i.opcode 0x0305 0 := by
  have halone' := (dequeue_cont c s c.seat c.queue).trans halone
  have habsent : runCmd i c (pktGiven c.pkt ⟨true, (s.ring c.seat c.queue).bellOf 0⟩) f (dequeue c s) =
      (dequeue c s).answer c.seat c.queue c.pkt.tag i.opcode 0x0305 0 := runCmd_of_check f rfl
  have hend := endCont_of_none 0x0305 ((State.answer_cont (dequeue c s) c.seat c.queue c.pkt.tag i.opcode 0x0305 0 c.seat
    c.queue).trans halone')
  simp only [hostStep, drainEnd, hready, hcheck, hdrain, if_true, assemble_of_alone _ f halone',
    startCmd_of_last _ f _ hlast, habsent, hend, ite_self]

/-- A packet with a right check, where no partial command stands in its queue, starts a command (R41). -/
theorem hostStep_of_alone {i : CmdInfo} {c : Cmd} {s : State} (f : Req → State → Reply)
    (hready : ready i.opcode c s = true) (hdrain : (s.ring c.seat c.queue).draining = false)
    (hcheck : checkRight i.opcode c s = true) (halone : (s.ring c.seat c.queue).cont = none) :
    hostStep i c f s = startCmd i c ⟨false, (s.ring c.seat c.queue).bellOf 0⟩ f (dequeue c s) := by
  have halone' := (dequeue_cont c s c.seat c.queue).trans halone
  simp only [hostStep, drainEnd, hready, hcheck, hdrain, if_true, Bool.false_eq_true, false_and, if_false,
    assemble_of_alone _ f halone']

end Sys2Proof.Machine

open Sys2Proof Sys2Proof.Machine

/-- Settles O8: the packet is answered as `badCheck` has it; in a draining ring `drainEnd` then ends a partial command. -/
theorem badCheckCompletesWithoutEffect : Obligations.BadCheckCompletesWithoutEffect := by
  intro e he c s t d hready hqueue hcheck ht
  have hbad : badCheck e.info.opcode c (dequeue c s) = t := by
    simp only [badCheck, dequeue_queueDef, hqueue, ht]
  have hexec : exec (e.cmd c) s = .next (drainEnd c ⟨(s.ring c.seat c.queue).draining, (s.ring c.seat c.queue).bellOf 0⟩ t) := by
    have hend := drainEnd_sameDevice c ⟨(s.ring c.seat c.queue).draining, (s.ring c.seat c.queue).bellOf 0⟩ t
    obtain ⟨hpower, hboot⟩ := hbad ▸ badCheck_power_boot e.info.opcode c (dequeue c s)
    exact exec_hostCase_of_hostStep he (fun f => hbad ▸ hostStep_of_bad_check f hready hqueue hcheck)
      (hend.power.trans hpower) (hend.boot.trans hboot)
  have hcont : (t.ring c.seat c.queue).cont = (s.ring c.seat c.queue).cont :=
    hbad ▸ (badCheck_cont ..).trans (dequeue_cont c s c.seat c.queue)
  rw [hexec]
  refine ⟨fun hkept => ?_, fun hdrain => by simp only [drainEnd, hdrain, true_and]⟩
  rcases hkept with hdrain | halone
  · simp only [drainEnd, hdrain, Bool.false_eq_true, false_and, if_false]
  · simp only [drainEnd, endCont_of_none 0x0305 (hcont.trans halone), ite_self]

/-- Settles O9: a host command is `hostStep` and what follows it, which does nothing where the state is the same. -/
theorem commandThatIsNotReadyWaits : Obligations.CommandThatIsNotReadyWaits := fun _ he _ _ hready =>
  exec_hostCase_of_hostStep he (fun f => hostStep_of_not_ready f hready) rfl rfl

/-- Settles O10: the command arrives, and its checks are the spec's list (`checks_eq_firstOf`). -/
theorem firstFailingCheckCompletes : Obligations.FirstFailingCheckCompletes := by
  intro e he c s t g st harrives hfails
  obtain ⟨-, hfresh, -, -⟩ := arrives_course harrives
  have hsame := t.answer_sameDevice c.seat c.queue g.tag e.info.opcode st 0
  refine exec_hostCase_of_arrives he harrives (fun f => runCmd_of_check f ?_) hsame.power hsame.boot
  rw [checks_eq_firstOf _ _ hfresh, hfails]

/-- Settles O11: the packet is a whole command (`hostStep_of_draining`), so `drainEnd` finds no partial one to end. -/
theorem drainingPacketIsAbsent : Obligations.DrainingPacketIsAbsent := by
  intro e he c s hready hdrain hcheck hlast halone
  have hsame := (dequeue_sameDevice c s).trans
    ((dequeue c s).answer_sameDevice c.seat c.queue c.pkt.tag e.info.opcode 0x0305 0)
  exact exec_hostCase_of_hostStep he (fun f => hostStep_of_draining f hready hdrain hcheck hlast halone) hsame.power
    hsame.boot

/-- Settles O12: a packet with CONT set starts a command (`hostStep_of_alone`), which is then held. -/
theorem continuedCommandIsHeld : Obligations.ContinuedCommandIsHeld := by
  intro e he c s hready hdrain hcheck hmore halone
  exact exec_hostCase_of_hostStep he
    (fun f => (hostStep_of_alone f hready hdrain hcheck halone).trans (if_pos hmore)) rfl rfl

/-- Settles O13: the first failure of the spec's list is the one that `bufferOf` names. -/
theorem bufferFaultCompletes : Obligations.BufferFaultCompletes := by
  intro e he c s t g d st harrives hpasses hecc hbuf hreads hseat hfails
  obtain ⟨-, hfresh, -, -⟩ := arrives_course harrives
  have hbuffer := bufferOf_of_firstOf (s := countEcc c t) hbuf hreads ((countEcc_seatDef c t c.seat).trans hseat) hfails
  have hcounted : (if st = 0x0101 then countMismatch c.seat 3 (countEcc c t) else countEcc c t).power = t.power ∧
      (if st = 0x0101 then countMismatch c.seat 3 (countEcc c t) else countEcc c t).boot = t.boot := by
    have hecc' := countEcc_sameDevice c t
    have hcount := countMismatch_power_boot c.seat (code := 3) (countEcc c t) (by decide)
    split
    · exact ⟨hcount.1.trans hecc'.power, hcount.2.trans hecc'.boot⟩
    · exact ⟨hecc'.power, hecc'.boot⟩
  refine exec_hostCase_of_arrives he harrives
    (fun f => runCmd_of_buffer f ((checks_eq_firstOf _ _ hfresh).trans hpasses) hecc hbuffer) ?power ?boot
  case power => exact (State.answer_sameDevice ..).power.trans hcounted.1
  case boot => exact (State.answer_sameDevice ..).boot.trans hcounted.2

/-- Settles O14: after the checks `eccLost` ends the command; what `countEcc` counts is the statement's state. -/
theorem uncorrectableErrorEndsTheCommand : Obligations.UncorrectableErrorEndsTheCommand := by
  intro e he c s t g a harrives hpasses hsram
  obtain ⟨-, hfresh, -, -⟩ := arrives_course harrives
  have hcount : countEcc c t = { t with hostIf := { t.hostIf with
      sramUncorrectable := min (t.hostIf.sramUncorrectable + 1) 4294967295, sramAddress := a } } := by
    simp only [countEcc, hsram, bump32]
  have hsame := (countEcc_sameDevice c t).trans
    ((countEcc c t).answer_sameDevice c.seat c.queue g.tag e.info.opcode 0x0802 0)
  rw [← hcount]
  exact exec_hostCase_of_arrives he harrives
    (fun f => runCmd_of_ecc f ((checks_eq_firstOf _ _ hfresh).trans hpasses) (by simp only [eccLost, hsram]))
    hsame.power hsame.boot

/-- Settles O16: packets, checks and the buffer's reading each leave the device (`admitted_sameDevice`). -/
theorem requestTouchesOnlyTheHostInterface : Obligations.RequestTouchesOnlyTheHostInterface := fun _ _ _ _ _ hruns =>
  admitted_sameDevice hruns

/-- Settles O17: the answer and the settling of the commands that waited each leave the device. -/
theorem completionTouchesOnlyTheHostInterface : Obligations.CompletionTouchesOnlyTheHostInterface := fun i q s st r u =>
  conclude_done_sameDevice i q s st r u

end

section
/-! Opcodes that no table holds (R43, R53): BAD_OPCODE is a host command whose opcode is not known. -/

namespace Sys2Proof.Machine

theorem execBadOpcode_of_used {o : Half} (c : Cmd) (s : State) (h : opcodeUsed o.toNat = true) :
    execBadOpcode o c s = .next s := if_pos h

/-- An opcode that a seat may use before it is OPEN, or in recovery, is in a table of the spec. -/
theorem opcodeUsed_of_openOps {o : Nat} (h : openOps.contains o = true) : opcodeUsed o = true := by
  simp only [openOps, List.contains_cons, List.contains_nil, Bool.or_false, Bool.or_eq_true, beq_iff_eq] at h
  rcases h with rfl | rfl | rfl <;> rfl

/-- Which check of R53 an opcode of no table fails: the seat's state, else the opcode itself. -/
theorem firstOf_checkList_of_unknown {i : CmdInfo} {g : Given} {q : Req} {s : State} (hunknown : i.known = false)
    (hopen : openOps.contains i.opcode = false) :
    firstOf (checkList i g q s) = some (if (s.seat q.seat).state = 1 then 0x0102 else 0x0302) := by
  simp only [checkList, firstOf_cons, hunknown, hopen]
  by_cases hstate : (s.seat q.seat).state = 1 <;> simp [hstate]

/-- A packet whose opcode no table holds completes with the check that it fails. -/
theorem execBadOpcode_of_arrives {o : Half} {c : Cmd} {s t : State} {g : Given} (hunused : opcodeUsed o.toNat = false)
    (h : arrives { line o.toNat .R [0] 0 192 with known := false } c s = some (g, t)) :
    execBadOpcode o c s = .next (t.answer c.seat c.queue g.tag o.toNat
      (if (t.seat c.seat).state = 1 then 0x0102 else 0x0302) 0) := by
  obtain ⟨-, hfresh, -, -⟩ := arrives_course h
  have hopen : openOps.contains o.toNat = false :=
    Bool.eq_false_iff.mpr fun hc => Bool.false_ne_true (hunused.symm.trans (opcodeUsed_of_openOps hc))
  have hhost : execBadOpcode o c s = .next (hostStep { line o.toNat .R [0] 0 192 with known := false } c
      (fun _ t => rej 0x0102 t) s) := if_neg (by simp [hunused])
  rw [hhost, hostStep_of_arrives _ h, runCmd_of_check _ ((checks_eq_firstOf _ _ hfresh).trans
    (firstOf_checkList_of_unknown rfl hopen))]
  rfl

end Sys2Proof.Machine

open Sys2Proof Sys2Proof.Machine

/-- Settles O15: of the checks of R53 such an opcode fails the seat's state first, else the opcode's. -/
theorem unknownOpcodeIsBad : Obligations.UnknownOpcodeIsBad := by
  refine fun o c s => ⟨fun hused => execBadOpcode_of_used c s hused, fun g t hunused harrives => ?_⟩
  have hexec : exec (.badOpcode o c) s = _ := execBadOpcode_of_arrives hunused harrives
  refine ⟨fun hopen => ?_, fun hclosed => ?_⟩
  · rw [hexec, if_pos hopen]
  · rw [hexec, if_neg hclosed]

end

section
/-! The host commands of seats, queues and the command interface (Table 2-6): what each replies in each of its cases. -/

namespace Sys2Proof.Machine

/-! ### GET_TIME and SEAT_OPEN (R61) -/

theorem getTimeOf_of_host_source (q : Req) {s : State} (h : s.timeSource = 4) :
    getTimeOf q s = .done 0 (res [(0, 8, s.time), (8, 1, 2), (9, 1, bit s.clk.timeValid)]) s := by
  simp only [getTimeOf, h, reads, if_true]

theorem getTimeOf_of_heard_source (q : Req) {s : State} (h : 1 ≤ s.timeSource ∧ s.timeSource ≤ 3) :
    getTimeOf q s = .done 0 (res [(0, 8, s.time), (8, 1, 1), (9, 1, bit s.clk.timeValid)]) s := by
  have hnot : s.timeSource ≠ 4 := by omega
  simp only [getTimeOf, hnot, h, reads, and_self, if_true, if_false]

theorem seatOpenOf_of_version {q : Req} (s : State) (h : q.w 0 = 1) :
    seatOpenOf q s =
      if (s.seat q.seat).state = 1 then .done 1 (res [(0, 1, q.seat), (1, 1, s.role q.seat), (2, 2, 256)]) s
      else .done 0 (res [(0, 1, q.seat), (1, 1, s.role q.seat), (2, 2, 256)])
        (s.setSeat q.seat { s.seat q.seat with state := 1, hbTime := s.now }) := if_neg (not_not.mpr h)

/-! ### ABORT (R57, R58) -/

/-- The live command of a seat with a tag, which has not ended. -/
def State.liveTagged (s : State) (n : Nat) (tag : Word) : Option Live :=
  s.hostIf.live.find? fun l => decide (l.seat = n ∧ l.tag = tag ∧ l.ended = none)

/-- The queue of a seat that holds the partial command with a tag (R41). -/
def State.partialTagged (s : State) (n : Nat) (tag : Word) : Option Nat :=
  (upTo 4).find? fun k => ((s.ring n k).cont.map (·.tag)) = some tag

/-- A command whose commit point is neither a tick nor a period boundary is never due by them (R58). -/
theorem commitDue_of_opcode {l : Live} (s : State) (htick : l.opcode.toNat ≠ 0x0302) (hsave : l.opcode.toNat ≠ 0x0411)
    (hrestore : l.opcode.toNat ≠ 0x0412) : commitDue l s = false := by
  simp [commitDue, htick, hsave, hrestore]

theorem abortOf_of_live {q : Req} {s : State} {l : Live} (h : s.liveTagged q.idx (q.word 0) = some l) :
    abortOf q s =
      if l.opcode.toNat = 0x0203 then rej 0x0108 s
      else if l.committed ∨ commitDue l s then .live false [(l.order : Int)] s
      else .done 0 (res [(0, 2, 0x0601), (2, 2, l.opcode.toNat)]) ((undoLive l s).finish l 0x0601 0) := by
  unfold State.liveTagged at h
  simp only [abortOf, h]

/-- The tag is neither of a live command nor of a partial one. -/
def State.tagGone (s : State) (n : Nat) (tag : Word) : Prop := s.liveTagged n tag = none ∧ s.partialTagged n tag = none

theorem abortOf_of_unknown {q : Req} {s : State} (hgone : s.tagGone q.idx (q.word 0))
    (hother : ¬ (q.idx = q.seat ∧ q.word 0 = q.tag)) (hread : s.unreadOf q.idx (q.word 0) = none) :
    abortOf q s = rej 0x0603 s := by
  unfold State.tagGone State.liveTagged State.partialTagged at hgone
  simp only [abortOf, hgone, hother, hread, if_false]

theorem abortOf_of_unread {q : Req} {s : State} {x : Completion} (hgone : s.tagGone q.idx (q.word 0))
    (hother : ¬ (q.idx = q.seat ∧ q.word 0 = q.tag)) (hunread : s.unreadOf q.idx (q.word 0) = some x)
    (hop : x.opecho.toNat ≠ 0x0203) :
    abortOf q s = .done 0x0602 (res [(0, 2, x.status.toNat), (2, 2, x.opecho.toNat)]) s := by
  unfold State.tagGone State.liveTagged State.partialTagged at hgone
  simp only [abortOf, hgone, hother, hunread, hop, if_false]

theorem abortOf_of_itself {q : Req} {s : State} (hgone : s.tagGone q.idx (q.word 0))
    (hself : q.idx = q.seat ∧ q.word 0 = q.tag) : abortOf q s = rej 0x0108 s := by
  unfold State.tagGone State.liveTagged State.partialTagged at hgone
  simp only [abortOf, hgone, if_pos hself]

/-! ### EVENT_SUBSCRIBE and OBJECT_REASSIGN (R37, R60) -/

theorem eventSubscribeOf_of_completion_queue {q : Req} {s : State}
    (h : (s.queueDef q.seat (q.w 2)).map (·.kind) = some 2) : eventSubscribeOf q s = .done 0 0
      (s.setSeat q.seat { s.seat q.seat with groups := BitVec.ofNat 64 (q.w2 0), eventQueue := some (q.w 2) }) := by
  obtain ⟨d, hd, hkind⟩ := Option.map_eq_some_iff.mp h
  simp only [eventSubscribeOf, hd, hkind, ne_eq, not_true_eq_false, if_false]

theorem eventSubscribeOf_of_other_queue {q : Req} {s : State}
    (h : (s.queueDef q.seat (q.w 2)).map (·.kind) ≠ some 2) : eventSubscribeOf q s = rej 0x0108 s := by
  unfold eventSubscribeOf
  split
  case h_1 => rfl
  case h_2 d hd => exact if_pos fun hkind => h (by rw [hd, Option.map_some, hkind])

/-! ### QUEUE_STATUS -/

theorem queueStatusOf_of_host_queue {q : Req} {s : State} {e : Nat × Nat} (hhost : q.idx < 32)
    (h : s.whose q.idx = some e) : queueStatusOf q s = .done 0
      (res [(0, 2, (s.ring e.1 e.2).head.toNat), (2, 2, (s.ring e.1 e.2).tail.toNat), (4, 2, s.qcred e.1 e.2),
        (6, 1, ((s.queueDef e.1 e.2).map (·.depthLog2)).getD 0), (7, 1, bit (s.ring e.1 e.2).stalled),
        (8, 4, (s.ring e.1 e.2).stalls)]) s := by
  simp only [queueStatusOf, if_neg (Nat.not_le.mpr hhost), h, reads]

end Sys2Proof.Machine

open Sys2Proof Sys2Proof.Machine

/-- Settles O26: each case of `seatCases` is the lemma about its command's reply, whose hypotheses the case's condition
gives. -/
theorem seatCommandsAnswer : Obligations.SeatCommandsAnswer := by
  unfold Obligations.SeatCommandsAnswer seatCases
  repeat rw [List.forall_mem_cons]
  refine ⟨?nop, ?info, ?timeHost, ?timeHeard, ?health, ?openNew, ?openAgain, ?openVersion, ?close, ?query, ?abortUnknown,
    ?abortUnread, ?abortItself, ?abortLoad, ?abortCommitted, ?subscribe, ?subscribeQueue, ?reassign, ?reassignSeat, ?list,
    ?internalQueue, ?hostQueue, ?counter, ?counterBeyond, ?clear, ?clearBeyond, ?sram, List.forall_mem_nil _⟩ <;>
    refine Case.holds_mk (fun _ _ => rfl) fun q s h => ?_
  case nop => rfl
  case info => rfl
  case timeHost => exact getTimeOf_of_host_source q (of_decide_eq_true h)
  case timeHeard => exact getTimeOf_of_heard_source q (of_decide_eq_true h)
  case health => rfl
  case openNew =>
    obtain ⟨hversion, hclosed⟩ := of_decide_eq_true h
    exact (seatOpenOf_of_version s hversion).trans (if_neg hclosed)
  case openAgain =>
    obtain ⟨hversion, hopen⟩ := of_decide_eq_true h
    exact (seatOpenOf_of_version s hversion).trans (if_pos hopen)
  case openVersion => exact if_pos (of_decide_eq_true h)
  case close => rfl
  case query => rfl
  case abortUnknown =>
    obtain ⟨hlive, hpartial, hother, hread⟩ := of_decide_eq_true h
    exact abortOf_of_unknown ⟨hlive, hpartial⟩ hother hread
  case abortUnread =>
    rw [Bool.and_eq_true] at h
    obtain ⟨hgone, hunread⟩ := h
    obtain ⟨hlive, hpartial, hother⟩ := of_decide_eq_true hgone
    split at hunread
    case h_2 => cases hunread
    case h_1 x hx =>
      exact abortOf_of_unread ⟨hlive, hpartial⟩ hother hx (of_decide_eq_true hunread)
  case abortItself =>
    obtain ⟨hlive, hpartial, hself⟩ := of_decide_eq_true h
    exact abortOf_of_itself ⟨hlive, hpartial⟩ hself
  case abortLoad =>
    split at h
    case h_2 => cases h
    case h_1 l hl =>
    simp only [Bool.and_eq_true, Bool.not_eq_true', decide_eq_true_eq] at h
    obtain ⟨huncommitted, hop⟩ := h
    have hdue : commitDue l s = false := commitDue_of_opcode s (by omega) (by omega) (by omega)
    exact (abortOf_of_live hl).trans ((if_neg (by omega)).trans (if_neg (by simp [huncommitted, hdue])))
  case abortCommitted =>
    split at h
    case h_2 => cases h
    case h_1 l hl =>
    simp only [Bool.and_eq_true, decide_eq_true_eq] at h
    obtain ⟨hcommitted, hop⟩ := h
    exact (abortOf_of_live hl).trans ((if_neg hop).trans (if_pos (.inl hcommitted)))
  case subscribe => exact eventSubscribeOf_of_completion_queue (of_decide_eq_true h)
  case subscribeQueue => exact eventSubscribeOf_of_other_queue (of_decide_eq_true h)
  case reassign => exact if_pos (by simpa using h)
  case reassignSeat =>
    obtain ⟨hseat, hnone⟩ := of_decide_eq_true h
    exact if_neg (by simp [hseat, hnone])
  case list => rfl
  case internalQueue => exact if_pos (of_decide_eq_true h)
  case hostQueue =>
    simp only [Bool.and_eq_true, decide_eq_true_eq] at h
    obtain ⟨hhost, hsome⟩ := h
    obtain ⟨e, he⟩ := Option.isSome_iff_exists.mp hsome
    dsimp only
    rw [queueStatusOf_of_host_queue hhost he, he, Option.getD_some]
  case counter => exact if_neg (Nat.not_lt.mpr (of_decide_eq_true h))
  case counterBeyond => exact if_pos (of_decide_eq_true h)
  case clear => exact if_neg (Nat.not_lt.mpr (of_decide_eq_true h))
  case clearBeyond => exact if_pos (of_decide_eq_true h)
  case sram => rfl

end

section
/-! The events of seats, their windows and transports, and the timers of the command interface (R41, R46 to R49, R55, R62 to
R70): what each does where its condition holds, and where it changes nothing. -/

namespace Sys2Proof.Machine

/-! ### SEAT_RESET, HEARTBEAT_WRITE, INT_STATUS_CLEAR, RESET_CAUSE_READ (R62, R64, R69, R70) -/

theorem execSeatReset_of_defined {n : Nat} {s : State} (hup : s.hostUp = true) (hseat : (s.seatDef n).isSome = true) :
    execSeatReset n s = .next (resetSeat n 1 s) := by
  simp only [execSeatReset, seatResetReg, hup, hseat, if_true]

theorem execSeatReset_of_undefined {n : Nat} {s : State} (h : s.seatDef n = none) : execSeatReset n s = .next s := by
  simp only [execSeatReset, seatResetReg, h, Option.isSome_none, Bool.false_eq_true, if_false, ite_self]

theorem execHeartbeatWrite_of_new {n : Nat} {v : Word} {s : State} (hup : s.hostUp = true)
    (hnew : (s.seat n).heartbeat ≠ v) : execHeartbeatWrite n v s =
      .next (s.setSeat n { s.seat n with heartbeat := v, hbTime := s.now }) := by
  simp only [execHeartbeatWrite, heartbeatReg, hup, hnew, if_true, if_false]

theorem execHeartbeatWrite_of_same {n : Nat} {v : Word} {s : State} (h : (s.seat n).heartbeat = v) :
    execHeartbeatWrite n v s = .next s := by
  simp only [execHeartbeatWrite, heartbeatReg, h, if_true, ite_self]

/-- BT_RESET_CAUSE in the window of a seat. -/
theorem State.readReg_resetCause (s : State) (n : Nat) : s.readReg n 0x1010 = s.boot.resetCause.setWidth 32 := rfl

/-- A read of BT_RESET_CAUSE alone gives its word and clears it (R70). -/
theorem readRegs_resetCause (n : Nat) (s : State) : readRegs n 0x1010 1 s = { s with
    hostIf := { s.hostIf with lastReads := [s.readReg n 0x1010] }
    boot := { s.boot with resetCause := 0 } } := by
  rw [State.readReg_resetCause]
  rfl

/-! ### DOORBELL (R46, R47) -/

/-- The packets of a queue that wait behind HEAD. -/
def Ring.used (r : Ring) : Nat := (r.tail - r.head).toNat

/-- How far behind HEAD an index stands. -/
def Ring.ahead (r : Ring) (index : Half) : Nat := (index - r.head).toNat

theorem doorbellReg_of_no_queue {n k : Nat} {s : State} (index : Half) (h : s.queueDef n k = none) :
    doorbellReg n k index s = s := by
  simp only [doorbellReg, h]

/-- The doorbell of a command queue sets TAIL, within the queue's depth and never back. -/
theorem doorbellReg_of_command_queue {n k : Nat} {s : State} {d : QueueDef} (index : Half)
    (hqueue : s.queueDef n k = some d) (hkind : d.kind = 1) : doorbellReg n k index s =
      if 2 ^ d.depthLog2 < (s.ring n k).ahead index ∨ (s.ring n k).ahead index < (s.ring n k).used then overrunBell n s
      else if (s.ring n k).ahead index = (s.ring n k).used then s
      else
        ({ s with hostIf := { s.hostIf with bell := s.hostIf.bell + 1 } } : State).setRing n k { s.ring n k with
          tail := index, bells := (s.ring n k).bells ++ [(index, s.hostIf.bell + 1)] } := by
  simp only [doorbellReg, hqueue, hkind, if_true]
  rfl

/-- The doorbell of a completion queue sets HEAD, up to TAIL. -/
theorem doorbellReg_of_completion_queue {n k : Nat} {s : State} {d : QueueDef} (index : Half)
    (hqueue : s.queueDef n k = some d) (hkind : d.kind = 2) : doorbellReg n k index s =
      if (s.ring n k).used < (s.ring n k).ahead index then overrunBell n s
      else if (s.ring n k).ahead index = 0 then s
      else s.setRing n k { s.ring n k with
        head := index, posted := (s.ring n k).posted.drop ((s.ring n k).ahead index), since := s.now, stalled := false } := by
  simp only [doorbellReg, hqueue, hkind, if_true]
  rfl

theorem execDoorbell_of_up {n k : Nat} {index : Half} {s t : State} (hup : s.hostUp = true)
    (h : doorbellReg n k index s = t) : execDoorbell n k index s = .next t := by
  simp only [execDoorbell, hup, if_true, h]

/-- A doorbell that would change nothing changes nothing in reset either. -/
theorem execDoorbell_of_same {n k : Nat} {index : Half} {s : State} (h : doorbellReg n k index s = s) :
    execDoorbell n k index s = .next s := by
  simp only [execDoorbell, h, ite_self]

/-! ### REGISTER_WRITE (R66, R69) -/

theorem plainReg_of_no_ring {n off : Nat} (v : Word) (s : State) (hlow : off < 0x100000) (hmask : off ≠ 0x14) :
    plainReg n off v s = s := (if_neg hmask).trans (if_pos (.inl hlow))

/-- A word of a command queue's ring slots: queue `k`, word `w` (R66). -/
theorem plainReg_of_slot {n k w : Nat} (v : Word) {s : State} {d : QueueDef} (hk : k < 4) (hw : w < 0x10000)
    (hqueue : s.queueDef n k = some d) (hkind : d.kind = 1) (hin : w < 16 * 2 ^ d.depthLog2) :
    plainReg n (0x100000 + 0x40000 * k + 4 * w) v s =
      s.setRing n k { s.ring n k with slots := aset (s.ring n k).slots w v } := by
  have hring : (0x100000 + 0x40000 * k + 4 * w - 0x100000) / 0x40000 = k := by omega
  have hword : (0x100000 + 0x40000 * k + 4 * w) % 0x40000 / 4 = w := by omega
  refine (if_neg (by omega)).trans ((if_neg (by omega)).trans ?_)
  simp only [hring, hword, hqueue, hkind, hin, and_self, if_true]

/-! ### SGMII_SEAT_FRAME, COMPLETION_RESEND, SPI_BAD_OPCODE (R67, R68) -/

/-- The frame comes for a seat on SGMII, by its port and from its address (R67). -/
def State.binds (s : State) (f : SeatFrame) : Bool := match s.seatDef f.seat with
  | none => false
  | some d => decide (d.transport = 1 ∧ d.port = f.port ∧ d.mac = f.mac)

theorem State.binds_of_undefined {s : State} {f : SeatFrame} (h : s.seatDef f.seat = none) : s.binds f = false := by
  simp only [State.binds, h]

theorem execSgmiiSeatFrame_of_stray {s : State} {f : SeatFrame} (hup : s.hostUp = true) (h : s.binds f = false) :
    execSgmiiSeatFrame f s = .next (s.setCounter 24 (s.counter 24 + 1)) :=
  (if_neg (by simp [hup])).trans (if_pos h)

/-- Past its checks a frame has the effect of its kind. -/
theorem execSgmiiSeatFrame_of_bell {s : State} {f : SeatFrame} (hup : s.hostUp = true) (hbinds : s.binds f = true)
    (hversion : f.version = 1) (hkind : f.kind = 2) :
    execSgmiiSeatFrame f s = .next (doorbellReg f.seat f.queue f.first s) := by
  refine (if_neg (by simp [hup])).trans ((if_neg (fun hnot => Bool.false_ne_true (hnot.symm.trans hbinds))).trans
    ((if_neg (not_not.mpr hversion)).trans ?_))
  rw [hkind]
  rfl

theorem execSgmiiSeatFrame_of_writes {s : State} {f : SeatFrame} (hup : s.hostUp = true) (hbinds : s.binds f = true)
    (hversion : f.version = 1) (hkind : f.kind = 5) : execSgmiiSeatFrame f s =
      .next (overL (f.words.take f.count).zipIdx (fun e t => writeReg f.seat (4 * (f.first.toNat + e.2)) e.1 t) s) := by
  refine (if_neg (by simp [hup])).trans ((if_neg (fun hnot => Bool.false_ne_true (hnot.symm.trans hbinds))).trans
    ((if_neg (not_not.mpr hversion)).trans ?_))
  rw [hkind]
  rfl

theorem execCompletionResend_of_unread {n : Nat} {s : State} (hup : s.hostUp = true)
    (hsgmii : (s.seatDef n).map (·.transport) = some 1) (hunread : s.unreadFrames n ≠ []) : execCompletionResend n s =
      .next { s with hostIf := { s.hostIf with frames := aset s.hostIf.frames n (s.unreadFrames n) } } :=
  (if_pos ⟨hup, hunread⟩).trans (congrArg Host.Outcome.next (if_pos hsgmii))

/-! ### CONT_TIMEOUT and EXEC_TIMEOUT (R41, R55) -/

theorem execContTimeout_of_away {n k : Nat} {s : State} {w : ContCmd} (hpartial : (s.ring n k).cont = some w)
    (haway : s.nextAway n k = true) (hruns : s.boot.coreReset = false)
    (hpast : s.after w.since (s.contWait w.since) = true) : execContTimeout n k s = .next (endCont n k 0x0402 s) := by
  simp only [execContTimeout, hpartial, haway, hruns, hpast, and_self, if_true]

theorem execContTimeout_of_none {n k : Nat} {s : State} (h : (s.ring n k).cont = none) : execContTimeout n k s = .next s := by
  simp only [execContTimeout, h]

/-- The timeout of a live command that has expired: a command that committed completes with the note that it did; one that
waits is undone; one whose commit point falls due now commits. -/
theorem execExecTimeout_of_expired {n dl : Nat} {tag : Word} {s : State} {l : Live}
    (hlive : s.liveTagged n tag = some l) (hdeadline : l.deadline = some dl) (hpast : dl ≤ s.now) :
    execExecTimeout n tag s =
      if l.committed ∨ (l.opcode.toNat = 0x0302 ∧ commitDue l s) then .next (s.finish l 0x0401 (res [(0, 1, 1)]))
      else if commitDue l s then .next s
      else .next ((if l.opcode.toNat = 0x0302 then s else undoLive l s).finish l 0x0401 0) := by
  unfold State.liveTagged at hlive
  simp only [execExecTimeout, hlive, hdeadline, if_neg (Nat.not_lt.mpr hpast)]

theorem execExecTimeout_of_none {n : Nat} {tag : Word} {s : State} (h : s.liveTagged n tag = none) :
    execExecTimeout n tag s = .next s := by
  unfold State.liveTagged at h
  simp only [execExecTimeout, h]

/-! ### SEAT_ABSENT and CQ_STALL (R49, R63) -/

theorem execSeatAbsent_of_silent {n : Nat} {s : State} (hopen : (s.seat n).state = 1)
    (hsilent : s.after (s.seat n).hbTime (s.hbLimit n) = true) :
    execSeatAbsent n s = .next (seatEnds n (seatGone n s)) := if_neg (by simp [hopen, hsilent])

theorem execCqStall_of_late {n k : Nat} {s : State} {d : QueueDef} (hqueue : s.queueDef n k = some d) (hkind : d.kind = 2)
    (hunread : (s.ring n k).posted ≠ []) (hfirst : (s.ring n k).stalled = false)
    (hlate : s.after (s.ring n k).since (s.cqStall (s.ring n k).since) = true) :
    execCqStall n k s = .next (((s.setRing n k { s.ring n k with
      stalled := true, stalls := bump32 (s.ring n k).stalls }).setInt n flagStall).note 4 (handle 2 d.qnum)
        [BitVec.ofNat 8 n]) := by
  simp only [execCqStall, hqueue]
  exact if_pos ⟨hkind, hunread, hfirst, hlate⟩

theorem execCqStall_of_read {n k : Nat} {s : State} (h : (s.ring n k).posted = []) : execCqStall n k s = .next s := by
  unfold execCqStall
  split
  · rfl
  · exact if_neg fun hstall => hstall.2.1 h

end Sys2Proof.Machine

open Sys2Proof Sys2Proof.Machine

/-- Settles O44: each entry of `seatEvents` is the lemma about its event, whose hypotheses the entry's condition gives. -/
theorem seatEventsTakeEffect : Obligations.SeatEventsTakeEffect := by
  unfold Obligations.SeatEventsTakeEffect
  intro n k off v tag index f b0 d w l dl
  unfold seatEvents
  repeat rw [List.forall_mem_cons]
  refine ⟨?reset, ?resetUndefined, ?beat, ?beatSame, ?bell, ?bellSame, ?bellOver, ?bellRead, ?bellNone, ?clear, ?clearDown,
    ?cause, ?mask, ?fixed, ?slot, ?frameBell, ?frameWrites, ?frameStray, ?resend, ?resendNone, ?spi, ?spiKnown, ?cont,
    ?contNone, ?expired, ?expiredWaiting, ?expiredNone, ?absent, ?absentClosed, ?stall, ?stallNone, ?lost,
    List.forall_mem_nil _⟩ <;>
    refine Event.holds_mk fun s h => ?_
  case reset =>
    rw [Bool.and_eq_true] at h
    exact execSeatReset_of_defined h.1 h.2
  case resetUndefined => exact execSeatReset_of_undefined (of_decide_eq_true h)
  case beat =>
    simp only [Bool.and_eq_true, decide_eq_true_eq] at h
    exact execHeartbeatWrite_of_new h.1 h.2
  case beatSame => exact execHeartbeatWrite_of_same (of_decide_eq_true h)
  case bell =>
    simp only [Bool.and_eq_true, decide_eq_true_eq] at h
    obtain ⟨hup, hqueue, hkind, hnew, hfits⟩ := h
    exact execDoorbell_of_up hup ((doorbellReg_of_command_queue index hqueue hkind).trans
      ((if_neg (not_or.mpr ⟨Nat.not_lt.mpr hfits, Nat.not_lt.mpr hnew.le⟩)).trans (if_neg hnew.ne')))
  case bellSame =>
    obtain ⟨hqueue, hkind, hsame, hfits⟩ := of_decide_eq_true h
    exact execDoorbell_of_same ((doorbellReg_of_command_queue index hqueue hkind).trans
      ((if_neg (not_or.mpr ⟨Nat.not_lt.mpr hfits, Nat.not_lt.mpr hsame.ge⟩)).trans (if_pos hsame)))
  case bellOver =>
    simp only [Bool.and_eq_true, decide_eq_true_eq] at h
    obtain ⟨hup, hqueue, hkind, hover⟩ := h
    exact execDoorbell_of_up hup ((doorbellReg_of_command_queue index hqueue hkind).trans (if_pos (.inl hover)))
  case bellRead =>
    simp only [Bool.and_eq_true, decide_eq_true_eq] at h
    obtain ⟨hup, hqueue, hkind, hsome, hposted⟩ := h
    exact execDoorbell_of_up hup ((doorbellReg_of_completion_queue index hqueue hkind).trans
      ((if_neg (Nat.not_lt.mpr hposted)).trans (if_neg hsome)))
  case bellNone => exact execDoorbell_of_same (doorbellReg_of_no_queue index (of_decide_eq_true h))
  case clear => exact if_pos h
  case clearDown => exact if_neg (by simpa using h)
  case cause => exact (if_pos h).trans (congrArg Host.Outcome.next (readRegs_resetCause n s))
  case mask => exact if_pos h
  case fixed =>
    simp only [Bool.and_eq_true, decide_eq_true_eq] at h
    obtain ⟨hup, hlow, hmask⟩ := h
    exact (if_pos hup).trans (congrArg Host.Outcome.next (plainReg_of_no_ring v s hlow hmask))
  case slot =>
    simp only [Bool.and_eq_true, decide_eq_true_eq] at h
    obtain ⟨hup, hk, hw, hqueue, hkind, hin⟩ := h
    exact (if_pos hup).trans (congrArg Host.Outcome.next (plainReg_of_slot v hk hw hqueue hkind hin))
  case frameBell =>
    simp only [Bool.and_eq_true, decide_eq_true_eq] at h
    obtain ⟨⟨hup, hbinds⟩, hversion, hkind⟩ := h
    exact execSgmiiSeatFrame_of_bell hup hbinds hversion hkind
  case frameWrites =>
    simp only [Bool.and_eq_true, decide_eq_true_eq] at h
    obtain ⟨⟨hup, hbinds⟩, hversion, hkind⟩ := h
    exact execSgmiiSeatFrame_of_writes hup hbinds hversion hkind
  case frameStray =>
    simp only [Bool.and_eq_true, decide_eq_true_eq] at h
    exact execSgmiiSeatFrame_of_stray h.1 (State.binds_of_undefined h.2)
  case resend =>
    simp only [Bool.and_eq_true, decide_eq_true_eq] at h
    obtain ⟨hup, hsgmii, hunread⟩ := h
    exact execCompletionResend_of_unread hup hsgmii hunread
  case resendNone => exact if_neg fun hresend => hresend.2 (of_decide_eq_true h)
  case spi =>
    simp only [Bool.and_eq_true, decide_eq_true_eq] at h
    exact if_pos h
  case spiKnown =>
    obtain ⟨hsome, hknown⟩ := of_decide_eq_true h
    exact if_neg fun hbad => hbad.2.elim hsome (Nat.not_lt.mpr hknown)
  case cont =>
    simp only [Bool.and_eq_true, Bool.not_eq_true', decide_eq_true_eq] at h
    obtain ⟨⟨⟨hpartial, haway⟩, hruns⟩, hpast⟩ := h
    exact execContTimeout_of_away hpartial haway hruns hpast
  case contNone => exact execContTimeout_of_none (of_decide_eq_true h)
  case expired =>
    simp only [Bool.and_eq_true, decide_eq_true_eq] at h
    obtain ⟨⟨hlive, hdeadline, hpast⟩, hcommitted⟩ := h
    exact (execExecTimeout_of_expired hlive hdeadline hpast).trans (if_pos (.inl hcommitted))
  case expiredWaiting =>
    simp only [Bool.and_eq_true, Bool.not_eq_true', decide_eq_true_eq] at h
    obtain ⟨⟨⟨hlive, hdeadline, hpast, hop⟩, hwaits⟩, hearly⟩ := h
    refine (execExecTimeout_of_expired hlive hdeadline hpast).trans
      ((if_neg (by simp [hwaits, hop])).trans ((if_neg (by simp [hearly])).trans ?_))
    rw [if_neg hop]
  case expiredNone => exact execExecTimeout_of_none (of_decide_eq_true h)
  case absent =>
    simp only [Bool.and_eq_true, decide_eq_true_eq] at h
    exact execSeatAbsent_of_silent h.1 h.2
  case absentClosed => exact if_pos (.inl (of_decide_eq_true h))
  case stall =>
    simp only [Bool.and_eq_true, Bool.not_eq_true', decide_eq_true_eq] at h
    obtain ⟨⟨⟨hqueue, hkind, hunread⟩, hfirst⟩, hlate⟩ := h
    exact execCqStall_of_late hqueue hkind hunread hfirst hlate
  case stallNone => exact execCqStall_of_read (of_decide_eq_true h)
  case lost => rfl

end

section
/-! RESET (R45, R437, R438): what it replies in each of its cases. -/

namespace Sys2Proof.Machine

/-- RESET's row of the command table (R45). -/
def resetInfo : CmdInfo := { line 0x0104 .A [0, 1, 9, 10, 16, 17] 1 1 with
  handleOk := resetHandle, permOk := fun q t => decide (t.role q.seat = 0 ∨ q.w 0 = 0 ∨ 3 < q.w 0) }

/-- A case of RESET holds where the reply of `resetOf` is the case's: the reset is carried out once the completion is
posted. -/
theorem resetCase_holds {ok : Req → State → Bool} {reply : Req → State → Reply}
    (h : ∀ q t, ok q t = true → resetOf q t = reply q t) (c : Cmd) (s t : State) (q : Req) (hruns : Runs resetInfo c s q t)
    (hok : ok q t = true) : exec (.resetCmd c) s = .next (afterReset s (conclude resetInfo q t (reply q t))) := by
  have hstep := Host.Outcome.next.inj (host_runs resetOf hruns)
  rw [← h q t hok, ← hstep]
  rfl

theorem resetOf_system {q : Req} {s : State} (hscope : q.w 0 = 1) : resetOf q s =
    if s.outsIdle = false then rej 0x0301 s
    else .done 0 0 { (if s.metOn then orderlySave s else s) with boot := { s.boot with systemReset := true } } := by
  simp only [resetOf, hscope]

theorem resetOf_core {q : Req} {s : State} (hscope : q.w 0 = 2) :
    resetOf q s = .done 0 0 { s with boot := { s.boot with coreReset := true } } := by
  simp only [resetOf, hscope]

theorem resetOf_seat {q : Req} {s : State} (hscope : q.w 0 = 3) (hother : q.idx ≠ q.seat) :
    resetOf q s = .done 0 0 (resetSeat q.idx 2 s) := by
  simp only [resetOf, hscope, hother, if_false]

/-- A connector (class 9): a retired one is refused; one whose link is up and restarts into matching stays live until then,
any other completes at once. -/
theorem resetOf_connector {q : Req} {s : State} (hscope : q.w 0 = 4) (hclass : hClass q.hnd = 9) : resetOf q s =
    if (s.conn q.idx).link = 7 then rej 0x0303 s
    else if ((s.conn q.idx).link = 2 ∨ (s.conn q.idx).link = 3 ∨ (s.conn q.idx).link = 4 ∨ (s.conn q.idx).link = 5) ∧
        s.restState q.idx = 2 then .live true [] (connReset q.idx s)
    else .done 0 0 (connReset q.idx s) := by
  simp only [resetOf, hscope, hclass]

/-- A field-bus port (class 10) whose bus is idle resets at once (R349). -/
theorem resetOf_idle_port {q : Req} {s : State} (hscope : q.w 0 = 4) (hclass : hClass q.hnd = 10)
    (hserves : (s.port q.idx).state ≠ 5) (hused : (s.port q.idx).state ≠ 0) (hidle : s.portBusy q.idx = false) :
    resetOf q s = .live true [] (portReset q.idx s) := by
  simp only [resetOf, hscope, hclass, hserves, hused, hidle, Bool.false_eq_true, if_false]

theorem resetOf_no_scope {q : Req} {s : State} (h : q.w 0 = 0 ∨ 4 < q.w 0) : resetOf q s = rej 0x0108 s := by
  rcases h with hzero | hbeyond
  · simp only [resetOf, hzero]
  · obtain ⟨n, hn⟩ := Nat.exists_eq_add_of_lt hbeyond
    have hscope : q.w 0 = n + 5 := by omega
    simp only [resetOf, hscope]

end Sys2Proof.Machine

open Sys2Proof Sys2Proof.Machine

/-- Settles O43: each case of `resetCases` is the lemma about the reply of RESET in its scope. -/
theorem resetCommandAnswers : Obligations.ResetCommandAnswers := by
  unfold Obligations.ResetCommandAnswers resetCases
  repeat rw [List.forall_mem_cons]
  refine ⟨?system, ?systemBusy, ?core, ?seat, ?connector, ?connectorLinked, ?port, ?noScope, List.forall_mem_nil _⟩ <;>
    refine resetCase_holds fun q s h => ?_ <;>
    dsimp only at h ⊢
  case system =>
    simp only [Bool.and_eq_true, decide_eq_true_eq] at h
    obtain ⟨⟨hscope, hidle⟩, hsaves⟩ := h
    rw [resetOf_system hscope, if_neg (by simp [hidle]), if_pos hsaves]
  case systemBusy =>
    simp only [Bool.and_eq_true, Bool.not_eq_true', decide_eq_true_eq] at h
    exact (resetOf_system h.1).trans (if_pos h.2)
  case core => exact resetOf_core (of_decide_eq_true h)
  case seat =>
    obtain ⟨hscope, hother⟩ := of_decide_eq_true h
    exact resetOf_seat hscope hother
  case connector =>
    obtain ⟨hscope, hclass, hserves, hrest⟩ := of_decide_eq_true h
    exact (resetOf_connector hscope hclass).trans ((if_neg hserves).trans (if_neg (by omega)))
  case connectorLinked =>
    obtain ⟨hscope, hclass, hup, hlast, hrest⟩ := of_decide_eq_true h
    exact (resetOf_connector hscope hclass).trans ((if_neg (by omega)).trans (if_pos ⟨by omega, hrest⟩))
  case port =>
    simp only [Bool.and_eq_true, Bool.not_eq_true', decide_eq_true_eq] at h
    obtain ⟨⟨hscope, hclass, hserves, hused⟩, hidle⟩ := h
    exact resetOf_idle_port hscope hclass hserves hused hidle
  case noScope => exact resetOf_no_scope (of_decide_eq_true h)

end

section
/-! The host commands of the phase array (Table 6-10): what each replies in each case of `phaseCases`. The one case that does
not hold is that of POD_ENABLE in IDLE (`not_phaseArrayCommandsAnswer`). -/

namespace Sys2Proof.Machine

/-! ### POD_ENABLE (R150, R167) -/

theorem podEnableOf_of_retired {q : Req} {s : State} (h : (s.pod q.idx).state = 4) : podEnableOf q s = rej 0x0303 s :=
  if_pos h

/-- What keeps a pod that is not retired from being enabled. -/
theorem podEnableOf_of_blocked {q : Req} {s : State} (hserves : (s.pod q.idx).state ≠ 4)
    (h : s.podFitted q.idx = false ∨ s.podPower q.idx = false ∨ (s.pod q.idx).state = 2 ∨ (s.pod q.idx).state = 3 ∨
      s.podHeld q.idx = true) : podEnableOf q s = rej 0x0301 s := (if_neg hserves).trans (if_pos h)

/-- The pod is fitted, powered and not held OFF by its matrix state. -/
def State.podEnables (s : State) (p : Nat) : Prop :=
  s.podFitted p = true ∧ s.podPower p = true ∧ s.podHeld p = false

theorem podEnableOf_of_running {q : Req} {s : State} (hready : s.podEnables q.idx) (hstate : (s.pod q.idx).state = 1) :
    podEnableOf q s = rej 0x0001 s := by
  obtain ⟨hfitted, hpower, hheld⟩ := hready
  simp [podEnableOf, hfitted, hpower, hheld, hstate]

/-- An OFF pod that may run starts; outside IDLE nothing else changes. -/
theorem podEnableOf_of_off {q : Req} {s : State} (hready : s.podEnables q.idx) (hstate : (s.pod q.idx).state = 0)
    (hawake : s.power.state ≠ 1) (hfree : s.isl.podStop.getLsbD q.idx = false) :
    podEnableOf q s = .done 0 0 (podRun q.idx s) := by
  obtain ⟨hfitted, hpower, hheld⟩ := hready
  have hrun : podRun q.idx s = _ := if_pos ⟨hstate, hfitted, hpower⟩
  have hstop : (podRun q.idx s).isl.podStop.getLsbD q.idx = false := by rw [hrun]; exact hfree
  simp only [podEnableOf, leaveIdle, hfitted, hpower, hheld, hstate, if_neg hawake, hstop, Bool.true_eq_false,
    Bool.false_eq_true, Nat.reduceEqDiff, or_self, if_false]

/-! ### POD_DISABLE (R167) -/

theorem podDisableOf_of_off {q : Req} {s : State} (hmode : q.w 0 ≤ 1) (hstate : (s.pod q.idx).state = 0) :
    podDisableOf q s = rej 0x0001 s := by
  simp [podDisableOf, Nat.not_lt.mpr hmode, hstate]

theorem podDisableOf_of_running {q : Req} {s : State} (hmode : q.w 0 ≤ 1) (hstate : (s.pod q.idx).state = 1) :
    podDisableOf q s =
      if q.w 0 = 1 then .done 0 0 (podOff q.idx s)
      else .done 0 0 (s.setPod q.idx { s.pod q.idx with
        ramp := if (s.pod q.idx).ramp = none then some ((s.pod q.idx).ref, 0) else (s.pod q.idx).ramp }) := by
  simp only [podDisableOf, if_neg (Nat.not_lt.mpr hmode), hstate, Nat.reduceEqDiff, ne_eq, not_true_eq_false, if_false]

/-! ### POD_SHADOW (R158, R175, R176) -/

theorem podShadowOf_of_bad_mask {q : Req} {s : State} (h : q.w 0 = 0 ∨ 7 < q.w 0) : podShadowOf q s = rej 0x0108 s :=
  if_pos (h.elim (fun hzero => .inr (.inl hzero)) .inl)

/-- A mask without PERIOD and MAXON writes the reference of a pod that is under no loop. -/
theorem podShadowOf_of_reference {q : Req} {s : State} (hmask : q.word 0 = 4) (hserves : (s.pod q.idx).state ≠ 4)
    (hpair : s.shadowBad q = false) : podShadowOf q s =
      if s.podLooped q.idx then rej 0x0301 s
      else .done 0 0 (s.setPod q.idx { s.pod q.idx with shRef := q.i 4, pendR := true, tagR := q.w 1 % 256 }) := by
  have hw : q.w 0 = 4 := by simp [Req.w, hmask]
  simp [podShadowOf, shadowWrite, hw, hmask, hserves, hpair]

/-- A pair of PERIOD and MAXON within the limits of R150 is written. -/
theorem podShadowOf_of_pair {q : Req} {s : State} (hmask : q.word 0 = 3) (hlow : 1500 ≤ q.w 2) (hhigh : q.w 2 ≤ 15000)
    (hlimit : s.paFld q.idx 12 2 + s.paFld q.idx 14 2 + q.w 3 ≤ 16 * q.w 2) (hserves : (s.pod q.idx).state ≠ 4)
    (hfree : s.podLooped q.idx = false) : podShadowOf q s = .done 0 0 (s.setPod q.idx { s.pod q.idx with
      shPeriod := q.w 2, pendP := true, tagP := q.w 1 % 256, shMaxon := q.w 3, pendM := true, tagM := q.w 1 % 256 }) := by
  have hw : q.w 0 = 3 := by simp [Req.w, hmask]
  have hpair : s.shadowBad q = false := by
    simp [State.shadowBad, hmask]
    omega
  have hin : ¬ (q.w 2 < 1500 ∨ 15000 < q.w 2) := by omega
  simp [podShadowOf, shadowWrite, hw, hmask, hserves, hpair, hfree, hin]

/-! ### TRIP_CLEAR and PWM_HALT_ENABLE (R164, R173) -/

theorem tripClearCmd_of_untripped {q : Req} {s : State} (h : (s.pod q.idx).state = 0 ∨ (s.pod q.idx).state = 1) :
    tripClearCmd q s = rej 0x0001 s := (if_neg (by omega)).trans (if_pos (by omega))

theorem tripClearCmd_of_tripped {q : Req} {s : State} (h : (s.pod q.idx).state = 2) : tripClearCmd q s =
    if s.tripGone q.idx = false then rej 0x0341 s
    else .done 0 (res [(0, 1, (s.pod q.idx).tripSource)]) (tripClearOf q.idx s) :=
  (if_neg (by omega)).trans (if_neg (not_not.mpr h))

theorem pwmHaltOf_of_service {q : Req} {s : State} (hmode : q.w 0 ≤ 1) (h : s.isl.maintenance = false) :
    pwmHaltOf q s = rej 0x0301 s := (if_neg (Nat.not_lt.mpr hmode)).trans (if_pos (.inl h))

theorem pwmHaltOf_of_maintenance {q : Req} {s : State} (hmode : q.w 0 ≤ 1) (hfree : (s.mtx q.idx).assigned = none)
    (hopen : ∀ o ∈ (s.mtx q.idx).fed, s.outClosed o = false) (hmaint : s.isl.maintenance = true) : pwmHaltOf q s =
      .done 0 0 ((s.setPod q.idx { s.pod q.idx with haltEnable := decide (q.w 0 = 1) }).note 12 (handle 5 q.idx)
        [BitVec.ofNat 8 (q.w 0)]) := by
  unfold pwmHaltOf
  cases hfed : (s.mtx q.idx).fed with
  | none => simp [Nat.not_lt.mpr hmode, hmaint, hfree, hfed]
  | some o => simp [Nat.not_lt.mpr hmode, hmaint, hfree, hfed, hopen o hfed]

/-! ### The counters -/

theorem phaseStatusOf_eq (q : Req) (s : State) : phaseStatusOf q s =
    .done 0 (res [(0, 1, (s.phase q.idx).state), (1, 1, (s.phase q.idx).level), (2, 2, (s.phase q.idx).code),
      (4, 4, (s.phase q.idx).compEnds), (8, 4, (s.phase q.idx).maxonEnds), (12, 4, (s.phase q.idx).blankEnds)])
      (if (q.word 0).getLsbD 0 then s.setPhase q.idx { s.phase q.idx with compEnds := 0, maxonEnds := 0, blankEnds := 0 }
       else s) := rfl

theorem podCountersOf_eq (q : Req) (s : State) : podCountersOf q s =
    .done 0 (res [(0, 4, (s.pod q.idx).splits), (4, 4, (s.pod q.idx).trips), (8, 4, (s.pod q.idx).syncs),
      (12, 4, (s.pod q.idx).clamps)])
      (if (q.word 0).getLsbD 0 then s.setPod q.idx { s.pod q.idx with splits := 0, trips := 0, syncs := 0, clamps := 0 }
       else s) := rfl

/-- Every case of the phase array holds but POD_ENABLE's in IDLE. -/
theorem phaseCases_hold : ∀ e ∈ phaseCases, e.Holds ∨ e = podEnableInIdle := by
  unfold phaseCases
  repeat rw [List.forall_mem_cons]
  refine ⟨.inl ?status, .inl ?phase, .inl ?phaseClear, .inl ?enable, .inr rfl, .inl ?enableUnpowered, .inl ?enableRetired,
    .inl ?enableTripped, .inl ?enableRunning, .inl ?disable, .inl ?disableRamp, .inl ?disableOff, .inl ?shadowRef,
    .inl ?shadowPair, .inl ?shadowMask, .inl ?shadowLooped, .inl ?trip, .inl ?tripStays, .inl ?tripNone, .inl ?halt,
    .inl ?haltService, .inl ?counters, .inl ?countersClear, List.forall_mem_nil _⟩ <;>
    refine Case.holds_mk (fun _ _ => rfl) fun q s h => ?_
  case status => rfl
  case phase => rw [phaseStatusOf_eq, if_neg (by simpa using h)]
  case phaseClear => rw [phaseStatusOf_eq, if_pos h]
  case enable =>
    simp only [Bool.and_eq_true, Bool.not_eq_true', decide_eq_true_eq] at h
    obtain ⟨⟨⟨⟨⟨hfitted, hpower⟩, hstate⟩, hheld⟩, hawake⟩, hfree⟩ := h
    refine (podEnableOf_of_off ⟨hfitted, hpower, hheld⟩ hstate hawake hfree).trans ?_
    rw [podRun, if_pos ⟨hstate, hfitted, hpower⟩]
  case enableUnpowered =>
    simp only [Bool.and_eq_true, Bool.not_eq_true', decide_eq_true_eq] at h
    obtain ⟨⟨-, hstate⟩, hpower⟩ := h
    exact podEnableOf_of_blocked (by omega) (.inr (.inl hpower))
  case enableRetired => exact podEnableOf_of_retired (of_decide_eq_true h)
  case enableTripped =>
    have hstate := of_decide_eq_true h
    exact podEnableOf_of_blocked (by omega) (.inr (.inr (hstate.imp id .inl)))
  case enableRunning =>
    simp only [Bool.and_eq_true, Bool.not_eq_true', decide_eq_true_eq] at h
    obtain ⟨⟨⟨hfitted, hpower⟩, hstate⟩, hheld⟩ := h
    exact podEnableOf_of_running ⟨hfitted, hpower, hheld⟩ hstate
  case disable =>
    obtain ⟨hmode, hstate⟩ := of_decide_eq_true h
    exact (podDisableOf_of_running hmode.le hstate).trans ((if_pos hmode).trans
      (congrArg (Reply.done 0 0) (if_pos (.inl hstate))))
  case disableRamp =>
    obtain ⟨hmode, hstate, hramp⟩ := of_decide_eq_true h
    refine (podDisableOf_of_running (by omega) hstate).trans ((if_neg (by omega)).trans ?_)
    rw [if_pos hramp]
  case disableOff =>
    obtain ⟨hmode, hstate⟩ := of_decide_eq_true h
    exact podDisableOf_of_off hmode hstate
  case shadowRef =>
    simp only [Bool.and_eq_true, Bool.not_eq_true', decide_eq_true_eq] at h
    obtain ⟨⟨⟨hmask, hserves⟩, hfree⟩, hpair⟩ := h
    exact (podShadowOf_of_reference hmask hserves hpair).trans (if_neg (by simp [hfree]))
  case shadowPair =>
    simp only [Bool.and_eq_true, Bool.not_eq_true', decide_eq_true_eq] at h
    obtain ⟨⟨hmask, hlow, hhigh, hlimit, hserves⟩, hfree⟩ := h
    exact podShadowOf_of_pair hmask hlow hhigh hlimit hserves hfree
  case shadowMask => exact podShadowOf_of_bad_mask (of_decide_eq_true h)
  case shadowLooped =>
    simp only [Bool.and_eq_true, Bool.not_eq_true', decide_eq_true_eq] at h
    obtain ⟨⟨⟨hmask, hserves⟩, hlooped⟩, hpair⟩ := h
    exact (podShadowOf_of_reference hmask hserves hpair).trans (if_pos hlooped)
  case trip =>
    simp only [Bool.and_eq_true, decide_eq_true_eq] at h
    obtain ⟨hstate, hgone⟩ := h
    exact (tripClearCmd_of_tripped hstate).trans ((if_neg (by simp [hgone])).trans
      (congrArg (Reply.done 0 _) (if_pos hstate)))
  case tripStays =>
    simp only [Bool.and_eq_true, Bool.not_eq_true', decide_eq_true_eq] at h
    exact (tripClearCmd_of_tripped h.1).trans (if_pos h.2)
  case tripNone => exact tripClearCmd_of_untripped (of_decide_eq_true h)
  case halt =>
    simp only [Bool.and_eq_true, decide_eq_true_eq] at h
    obtain ⟨⟨hmode, hfree, hopen⟩, hmaint⟩ := h
    exact pwmHaltOf_of_maintenance hmode hfree hopen hmaint
  case haltService =>
    simp only [Bool.and_eq_true, Bool.not_eq_true', decide_eq_true_eq] at h
    exact pwmHaltOf_of_service h.1 h.2
  case counters => rw [podCountersOf_eq, if_neg (by simpa using h)]
  case countersClear => rw [podCountersOf_eq, if_pos h]

end Sys2Proof.Machine
end

section
/-! The frame of the commands that only answer (R53): the entries of `hostCases` hold, but POD_ENABLE's in IDLE, whose reply
never leaves the state. -/

namespace Sys2Proof.Machine

/-! ### POD_ENABLE in IDLE is no answer alone (R167, R411) -/

theorem State.putCq_sameDevice (s : State) (n k : Nat) (tag : Word) (st op : Nat) (r : Res) :
    s.sameDevice (s.putCq n k tag st op r) := s.putCqAt_frame n k tag st op r s.time

theorem State.flushLost_sameDevice (s : State) (n : Nat) : s.sameDevice (s.flushLost n) := by
  unfold State.flushLost
  split
  · exact .refl s
  · split
    · exact .refl s
    · have hset : s.sameDevice (s.setSeat n { s.seat n with dropped := 0 }) := rfl
      exact hset.trans (State.putCq_sameDevice ..)

theorem State.event1_sameDevice (s : State) (n group st : Nat) (r : Res) : s.sameDevice (s.event1 n group st r) := by
  unfold State.event1
  split
  · exact .refl s
  · split
    · exact .refl s
    · have hflush := s.flushLost_sameDevice n
      dsimp only
      split
      · exact hflush.trans rfl
      · exact hflush.trans (State.putCq_sameDevice ..)

theorem State.captureOn_power (s : State) (trigger arg : Nat) : (s.captureOn trigger arg).power = s.power := by
  unfold State.captureOn
  exact (apply_ite State.power ..).trans (ite_self _)

/-- An event changes the host interface and, where it triggers a capture (R221), the injector; not the power state. -/
theorem State.event_power (s : State) (group st : Nat) (r : Res) : (s.event group st r).power = s.power := by
  have hseats : s.sameDevice (overL s.seatList (fun n t => t.event1 n group st r) s) :=
    overL_induction (motive := s.sameDevice) _ (.refl s) fun n t ht => ht.trans (t.event1_sameDevice n group st r)
  exact (State.captureOn_power ..).trans hseats.power

theorem forgetRules_power_state (s : State) : (forgetRules s).power.state = s.power.state :=
  overL_induction (motive := fun t => t.power.state = s.power.state) _ rfl fun _ _ ht => ht

theorem powerTo_power_state (st cause rule : Nat) (s : State) : (powerTo st cause rule s).power.state = st := by
  unfold powerTo
  rw [State.event_power, forgetRules_power_state]

theorem podRun_power (p : Nat) (s : State) : (podRun p s).power = s.power := by
  unfold podRun
  exact (apply_ite State.power ..).trans (ite_self _)

/-- The state in which POD_ENABLE leaves IDLE is never the one it found. -/
theorem podEnableInIdle_leaves_idle {q : Req} {t : State} {st : Nat} {r : Res}
    (hok : podEnableInIdle.ok q t = true) : podEnableInIdle.reply q t ≠ .done st r t := by
  intro hreply
  have hidle : t.power.state = 1 := by
    simp only [podEnableInIdle, phaseCases, List.getElem_cons_succ, List.getElem_cons_zero, Bool.and_eq_true,
      decide_eq_true_eq] at hok
    exact hok.1.2
  have hstate : podRun q.idx (powerTo 0 4 0 t) = t := (Reply.done.inj hreply).2.2
  have hrun : t.power.state = 0 := by
    rw [← hstate, podRun_power, powerTo_power_state]
  omega

/-! ### Every case whose reply leaves the state -/

/-- The cases of the commands whose meaning is complete with their completion hold, but POD_ENABLE's in IDLE. -/
theorem plainCases_hold : ∀ e ∈ plainCases, e.Holds ∨ e = podEnableInIdle := by
  intro e he
  simp only [plainCases, List.mem_append, or_assoc] at he
  rcases he with he | he | he | he | he | he | he | he | he | he | he | he | he | he | he | he
  · exact .inl (seatCommandsAnswer e he)
  · exact .inl (epochCommandsAnswer e he)
  · exact .inl (treeCommandsAnswer e he)
  · exact .inl (allocationCommandsAnswer e he)
  · exact phaseCases_hold e he
  · exact .inl (outputCommandsAnswer e he)
  · exact .inl (loopCommandsAnswer e he)
  · exact .inl (linkCommandsAnswer e he)
  · exact .inl (sessionCommandsAnswer e he)
  · exact .inl (metrologyCommandsAnswer e he)
  · exact .inl (safetyCommandsAnswer e he)
  · exact .inl (fieldBusCommandsAnswer e he)
  · exact .inl (loadSwitchCommandsAnswer e he)
  · exact .inl (trustCommandsAnswer e he)
  · exact .inl (journalCommandsAnswer e he)
  · exact .inl (powerCommandsAnswer e he)

/-- Where a case's reply leaves the state, exec posts its completion and nothing follows it. -/
theorem exec_of_answer {e : Case} (he : e ∈ hostCases) {c : Cmd} {s t : State} {q : Req} {st : Nat} {r : Res}
    (hruns : Runs e.info c s q t) (hok : e.ok q t = true) (hreply : e.reply q t = .done st r t) :
    exec (e.cmd c) s = .next (conclude e.info q t (.done st r t)) := by
  have hsame : s.sameDevice (conclude e.info q t (.done st r t)) :=
    (admitted_sameDevice hruns).trans (conclude_done_sameDevice e.info q t st r t)
  simp only [hostCases, List.mem_append] at he
  rcases he with (hplain | hsleep) | hreset
  · rcases plainCases_hold e hplain with hholds | rfl
    · rw [hholds c s q t hruns hok, hreply]
    · exact absurd hreply (podEnableInIdle_leaves_idle hok)
  · rw [powerStateSetAnswers e hsleep c s t q hruns hok, hreply, finishEntry_same hsame.power]
  · rw [resetCommandAnswers e hreset c s t q hruns hok, hreply, afterReset_same hsame.boot]

end Sys2Proof.Machine

open Sys2Proof Sys2Proof.Machine

/-- Settles O18: exec posts the completion (`exec_of_answer`), and neither the request nor the completion changes more than
the host interface. -/
theorem answeringLeavesTheDevice : Obligations.AnsweringLeavesTheDevice := fun e he _ _ t q st r hruns hok hreply =>
  ⟨_, exec_of_answer he hruns hok hreply,
    (admitted_sameDevice hruns).trans (conclude_done_sameDevice e.info q t st r t)⟩

end
